-- ==== Sys2Proof/Word.lean ====
section
/-!
DEFINITION. The word types of the Vorum 2 and their plainest arithmetic: core, partition, bank and
channel numbers (00_scope R11), 64-bit registers (06 R140), and little-endian byte strings (00_scope R8).
-/
namespace Sys2Proof

abbrev Byte := BitVec 8
abbrev W16 := BitVec 16
abbrev W32 := BitVec 32
abbrev W64 := BitVec 64

/-- Core c = 8y + x, partition Pn, bank or window index, Porter channel, Hearth slot, Ridgeline port (00_scope R11). -/
abbrev CoreId := Fin 64
abbrev PartId := Fin 64
abbrev BankIx := Fin 32
abbrev ChanIx := Fin 16
abbrev SlotIx := Fin 64
abbrev PortIx := Fin 6

/-- The number a little-endian byte string stands for (00_scope R8). -/
def leNat : List Byte → Nat
  | [] => 0
  | b :: bs => b.toNat + 256 * leNat bs

/-- `n` as `k` little-endian bytes (00_scope R8). -/
def leBytes : Nat → Nat → List Byte
  | 0, _ => []
  | k + 1, n => BitVec.ofNat 8 (n % 256) :: leBytes k (n / 256)

/-- Bits [hi:lo] of a number (00_scope R7). -/
def bits (n hi lo : Nat) : Nat := (n / 2 ^ lo) % 2 ^ (hi - lo + 1)

/-- Bit i of a number. -/
def bitOf (n i : Nat) : Bool := (n / 2 ^ i) % 2 == 1

/-- The two's-complement value of the low w bits of n. -/
def signed (w n : Nat) : Int :=
  if (n % 2 ^ w) < 2 ^ (w - 1) then (n % 2 ^ w : Nat) else ((n % 2 ^ w : Nat) : Int) - (2 ^ w : Nat)

/-- The w-bit two's-complement pattern of an integer. -/
def unsigned (w : Nat) (i : Int) : Nat := (i % ((2 ^ w : Nat) : Int)).toNat

/-- An integer held between two bounds. -/
def clampInt (lo hi i : Int) : Int := if i < lo then lo else if hi < i then hi else i

/-- The Bool as a bit. -/
def b2n (b : Bool) : Nat := if b then 1 else 0

/-- b^e mod m, bit by bit; the count bounds the bits of e. -/
def powMod (m : Nat) : Nat → Nat → Nat → Nat
  | 0, _, _ => 1 % m
  | f + 1, b, e => (if e % 2 == 1 then b % m else 1) * powMod m f (b * b % m) (e / 2) % m

end Sys2Proof
end

