-- ==== Sys2Proof/Syntax.lean ====
section
/-!
DEFINITION. The commands of the Vorum 2: one constructor of Instr for every row of spec/opcode_table.json, and the
operands a command carries. The table gives its rows no bits, so a command is a constructor and its operands.
-/
namespace Sys2Proof

/-- What the read of a program word found: a clean word, one corrected bit, or two flipped bits (06 R142, R144). -/
inductive Ecc where
  | clean | corrected | double
  deriving DecidableEq, Repr

/-- One core instruction as its core's sequencer issues it: the core, the 64-bit word (07 R164-R172) and what ECC found. -/
structure Issue where
  core : CoreId
  word : W64
  ecc : Ecc
  deriving DecidableEq, Repr

/-- What a read outside the device brings back: data, or no data because of a bus error (05 R137, 09 R239). -/
inductive ReadAnswer where
  | data (bytes : List Byte)
  | error (kind : Nat)
  deriving DecidableEq, Repr

/-- Who claims a bank: a core, or the ring engine of a partition carrying out a STAGE (08 R205). -/
inductive Requester where
  | core (c : CoreId)
  | ring (n : PartId)
  deriving DecidableEq, Repr

/-- What the memories report of a Porter beat: the aligned 8-byte words of banks 0 and 1 that port A writes in the same cc, as
scratchpad offsets over 8 (08 R215), and the 32-byte accesses of its HBM3E write whose parity failed to the end, as offsets in the
partition's HBM3E space over 32 (11 R287). -/
structure BeatReport where
  portA : List Nat
  poisoned : List Nat
  deriving DecidableEq, Repr

/-- A beat of a core's Porter engine, with what the memories report of it (09 R228). -/
structure Beat where
  core : CoreId
  report : BeatReport
  deriving DecidableEq, Repr

/-- Read data for a channel's next beat: the bytes, and how many HBM3E accesses of the read were corrected (09 R234; 11 R287). -/
structure ReadArrival where
  data : List Byte
  corrected : Nat
  deriving DecidableEq, Repr

/-- A message landing in a ring slot: its context, and the aligned 8-byte words of banks 0 and 1 that port A writes in the same cc, as
scratchpad offsets over 8 (10 R252; 08 R215). -/
structure MessageArrival where
  ctx : Nat
  portA : List Nat
  deriving DecidableEq, Repr

/-- A bus error seen by Porter: the channel, the address and its kind (09 R238, R239). -/
structure BusError where
  channel : ChanIx
  kind : Nat
  addr : W64
  deriving DecidableEq, Repr

/-- A host access of a register page: the value it carries and whether it is an aligned 4-byte access (11 R264). -/
structure RegAccess where
  value : W32
  aligned : Bool
  deriving DecidableEq, Repr

/-- An access to a ring-page register that has no row of its own: a write, or the read that a PCIe function's BAR carries (11 R264, R273). -/
inductive PageAccess where
  | write (a : RegAccess)
  | read (aligned : Bool)
  deriving DecidableEq, Repr

/-- The port a Guyline request comes in on; `relay` is a request another die relayed here (14 R330, R345). -/
inductive Port where
  | mailbox | i3c | t1s | relay
  deriving DecidableEq, Repr

/-- A Guyline PDU, field by field, with the CRC it carries (14 R329, R330). -/
structure Pdu where
  ver : Nat
  op : Nat
  seq : Nat
  view : Nat
  flags : Nat
  die : Nat
  index : Nat
  sub : Nat
  status : Nat
  len : Nat
  crc : Nat
  data : List Byte
  deriving DecidableEq, Repr

/-- A Guyline request: the port it reaches the warden on, its source (a MAC address, the I3C controller, the host, or the die
that relays it), the relay tag of a relayed one, and its PDU (14 R335, R345). -/
structure Request where
  port : Port
  source : Nat
  tag : Nat
  pdu : Pdu
  deriving DecidableEq, Repr

/-- What training one Ridgeline port finds (18 R404): the lanes that lock, the rate (1 106.25 Gb/s, 2 112 Gb/s), the seat the
neighbour reports, whether initial credits were exchanged in time. -/
structure PortTraining where
  lanes : Nat
  rate : Nat
  seat : Nat
  credits : Bool
  deriving DecidableEq, Repr

/-- What the hardware found while it did the work of a start stage (17 R379). -/
structure StageWork where
  fail : Bool
  part : Nat
  fuses : List W32
  fusesAgain : List W32
  /-- The HBM3E pin rates, in Mb/s, at which every pseudo-channel passes (11 R285). -/
  hbmPass : List Nat
  ports : List PortTraining
  deriving DecidableEq, Repr

/-- A firmware image read from a flash slot (17 R390, R391). -/
structure FlashImage where
  slot : Nat
  bytes : List Byte
  deriving DecidableEq, Repr

/-- The configuration registers of a PCIe function that 11 R271–R275 give a content: identity and class, Command, BAR0/1,
Device Control and Control 2, MSI-X, the power-management status, and the SR-IOV capability; any other one by its offset. -/
inductive ConfigReg where
  | identity | classCode | command | bar0 | bar1 | devCapabilities | devControl | devCapabilities2 | devControl2
  | linkCapabilities | linkControl | pmCapabilities | ari
  | aerStatus | aerMask | aerSeverity | aerCorMask
  | msixControl | msixTable | msixPba | pmCsr
  | sriovVfs | sriovStride | sriovVfDevice | sriovPageSize | sriovControl | sriovNumVfs | vfBar0 | vfBar1
  | other (offset : Nat)
  deriving DecidableEq, Repr

/-- A PCIe configuration request (11 R273): a write with its value, or a read. -/
structure ConfigRequest where
  write : Bool
  reg : ConfigReg
  value : W32
  deriving DecidableEq, Repr

/-- Credits carried by a UCIe CRD packet (11 R278, R281): P headers, P data units, NP headers, C data units. -/
structure UcieCredits where
  pHdr : Nat
  pDat : Nat
  npHdr : Nat
  cDat : Nat
  deriving DecidableEq, Repr

/-- A UCIe packet of the host: its header fields and its payload bytes without padding (11 R278). -/
structure UciePacket where
  part : Nat
  tag : Nat
  status : Nat
  poison : Bool
  len : Nat
  addr : Nat
  payload : List Byte
  deriving DecidableEq, Repr

/-- One HBM3E word the scrubber found wrong: its address and whether the error could be corrected (11 R287). -/
structure ScrubFind where
  addr : Nat
  correctable : Bool
  deriving DecidableEq, Repr

/-- A 10BASE-T1S frame as it comes in: the addresses, the EtherType, whether its FCS passes, its payload (14 R339, R342). -/
structure T1sFrame where
  dst : Nat
  src : Nat
  etherType : Nat
  fcsOk : Bool
  payload : List Byte
  deriving DecidableEq, Repr

/-- An I3C private write: the address, whether it passed without a parity error or an abort, its bytes (14 R339, R343). -/
structure I3cTransfer where
  address : BitVec 7
  ok : Bool
  bytes : List Byte
  deriving DecidableEq, Repr

/-- A Ridgeline packet: header fields and body (18 R415). -/
structure Packet where
  dst : Nat
  src : Nat
  kind : Nat
  camp : Nat
  arg : Nat
  body : List Byte
  deriving DecidableEq, Repr

/-- A flit of a Ridgeline port (18 R406): TYPE, VC, DL, SOP, EOP, FSEQ, the valid payload bytes, the acknowledgement, and whether its CRC passes. -/
structure Flit where
  typ : Nat
  vc : Fin 8
  dl : Fin 2
  sop : Bool
  eop : Bool
  fseq : Nat
  payload : List Byte
  ackSeq : Nat
  ackV : Bool
  nak : Bool
  crcOk : Bool
  deriving DecidableEq, Repr

/-- A lane codeword as the receiver finds it (18 R405): it decodes, its SYNC is valid, CWSEQ, the symbols corrected, its five flits. -/
structure Codeword where
  decodes : Bool
  sync : Bool
  cwseq : Nat
  corrected : Nat
  flits : List Flit
  deriving DecidableEq, Repr

/-- What Patrol found of one unit under test (22 R506, R507). -/
structure UnitResult where
  core : CoreId
  bank : Option BankIx
  block : Nat
  word : W32
  deriving DecidableEq, Repr

/-- The commands of the Vorum 2, one for each row of spec/opcode_table.json, in the table's order. -/
inductive Instr where
  /-- POWER_ON_RESET (R29): Rails rise from Off or EMB_PWROK is low; everything is cleared, including the Ember latches and the boot-attempt counter. -/
  | powerOnReset (maddr : BitVec 3)
  /-- EMBER_CLOCK_FALLBACK (R356): No Ember clock edge has arrived within 64 ms of power-on reset, so the timebase switches to the internal RC oscillator. -/
  | emberClockFallback
  /-- WARDEN_RESET (R29): The warden state is reset, the request in progress is dropped and answered WARDEN_RESET, and every open block is closed. -/
  | wardenReset
  /-- WARDEN_RESTART (R338): The warden restarts after a warden reset and serves its port queues again. -/
  | wardenRestart
  /-- DEVICE_RESET (R29): Every partition, core, ring, stream and the uncore are reset and a new start begins; the Ember latches, the boot-attempt counter and the retained objects are kept. -/
  | deviceReset
  /-- MAIN_PG_RISE (R515): The main rails are reported in range, and an Ember exit or a start that waits for MAIN_PG proceeds. -/
  | mainPgRise
  /-- MAIN_PG_FALL (R516): A fall of MAIN_PG while EMBER_STATE is low stops the PLLs, drives EMBER_STATE high, counts the fall and runs a device reset. -/
  | mainPgFall
  /-- PERST_ASSERT (R380): PERST# is asserted on a KV2-P; the device is in Ember and the warden serves the Bivouac subset. -/
  | perstAssert
  /-- PERST_DEASSERT (R380): PERST# is deasserted on a KV2-P, which begins a start. -/
  | perstDeassert
  /-- REFCLK_LOST (R358): The reference clock has stopped for more than 1 µs while a PLL runs, which raises a device-fatal error. -/
  | refclkLost
  /-- DEVICE_START (R380): A start begins at stage 2: the boot-attempt counter is read and incremented, or Bivouac is entered. -/
  | deviceStart
  /-- START_STAGE_ADVANCE (R379): The work of a start stage completes and the next stage begins. -/
  | startStageAdvance (w : StageWork)
  /-- FLASH_IMAGE_LOADED (R390): A flash slot's image has been read and is authenticated under R392; it runs, or the next source is tried. -/
  | flashImageLoaded (img : FlashImage)
  /-- STAGE_TIMEOUT (R379): A start stage exceeds its bound, so the start fails with cause STAGE_TMO. -/
  | stageTimeout
  /-- IMAGE_WAIT_TIMEOUT (R393): The Guyline image wait passes obj 3000.05 ticks with no image accepted, so the start fails with IMG_TMO. -/
  | imageWaitTimeout
  /-- BOOT_COMPLETE (R395): Boot complete clears the counter, writes the COMPLETE record, sets the start locks, enters Run and lifts the Bivouac restriction. -/
  | bootComplete
  /-- WARDEN_WATCHDOG_EXPIRY (R500): The warden watchdog expires: the start fails, or the warden is reset, or on the third expiry within 32,768 ticks the fatal sequence runs. -/
  | wardenWatchdogExpiry
  /-- BIVOUAC_EXIT (R399): A write to obj 3000.03 clears the counter and runs a device reset, with an optional forced Guyline fetch. -/
  | bivouacExit (r : Request)
  /-- FUSE_UPDATE_REQUEST (R397): A write to obj 3030.01 requests raising the SVN floor or revoking a key slot, and programming starts. -/
  | fuseUpdateRequest (r : Request)
  /-- FUSE_PROGRAMMING_DONE (R397): Fuse programming and verification end, the result is written to obj 3030.02, and the write is answered. -/
  | fuseProgrammingDone (verified : Bool)
  /-- NOP (R174): The instruction does nothing. -/
  | nop (x : Issue)
  /-- HALT (R174): Waits until every earlier instruction retires, then the core enters HALTED. -/
  | halt (x : Issue)
  /-- SYNC (R174): Waits until earlier instructions retire and, with PW set, until no Porter channel is active. -/
  | sync (x : Issue)
  /-- TAGI (R174): Sets TAG from the immediate. -/
  | tagi (x : Issue)
  /-- BR (R174): Branches to TARGET when executed. -/
  | br (x : Issue)
  /-- CALL (R174): Writes the return PC to D and branches to TARGET. -/
  | call (x : Issue)
  /-- JR (R174): Branches to the PC held in register A. -/
  | jr (x : Issue)
  /-- LOOP (R174): Decrements a loop counter and branches while the counter stays nonzero. -/
  | loop (x : Issue)
  /-- LSET (R174): Sets a loop counter from A plus the immediate. -/
  | lset (x : Issue)
  /-- ADD (R175): Scalar 64-bit add, wrapping. -/
  | add (x : Issue)
  /-- SUB (R175): Scalar 64-bit subtract, wrapping. -/
  | sub (x : Issue)
  /-- MUL (R175): Scalar multiply, keeping the low 64 bits. -/
  | mul (x : Issue)
  /-- AND (R175): Scalar bitwise AND. -/
  | and (x : Issue)
  /-- OR (R175): Scalar bitwise OR. -/
  | or (x : Issue)
  /-- XOR (R175): Scalar bitwise XOR. -/
  | xor (x : Issue)
  /-- SHL (R175): Scalar shift left by B[5:0]. -/
  | shl (x : Issue)
  /-- SHR (R175): Scalar logical shift right by B[5:0]. -/
  | shr (x : Issue)
  /-- SAR (R175): Scalar arithmetic shift right by B[5:0]. -/
  | sar (x : Issue)
  /-- MIN (R175): Scalar signed minimum. -/
  | min (x : Issue)
  /-- MAX (R175): Scalar signed maximum. -/
  | max (x : Issue)
  /-- MINU (R175): Scalar unsigned minimum. -/
  | minu (x : Issue)
  /-- MAXU (R175): Scalar unsigned maximum. -/
  | maxu (x : Issue)
  /-- ADDI (R175): Adds the sign-extended immediate to A. -/
  | addi (x : Issue)
  /-- MOVI (R175): Writes the sign-extended 46-bit immediate to D. -/
  | movi (x : Issue)
  /-- MOVHI (R175): Writes D[63:46] from the immediate. -/
  | movhi (x : Issue)
  /-- CMPEQ (R175): Writes 1 to D when A equals B, otherwise 0. -/
  | cmpeq (x : Issue)
  /-- CMPNE (R175): Writes 1 to D when A differs from B, otherwise 0. -/
  | cmpne (x : Issue)
  /-- CMPLT (R175): Signed less-than compare into D. -/
  | cmplt (x : Issue)
  /-- CMPLTU (R175): Unsigned less-than compare into D. -/
  | cmpltu (x : Issue)
  /-- CMPLE (R175): Signed less-or-equal compare into D. -/
  | cmple (x : Issue)
  /-- CMPLEU (R175): Unsigned less-or-equal compare into D. -/
  | cmpleu (x : Issue)
  /-- PAND (R175): Predicate AND. -/
  | pand (x : Issue)
  /-- POR (R175): Predicate OR. -/
  | por (x : Issue)
  /-- PXOR (R175): Predicate XOR. -/
  | pxor (x : Issue)
  /-- LD (R176): Loads 1, 2, 4 or 8 bytes from an owned bank into D. -/
  | ld (x : Issue)
  /-- ST (R176): Stores the low bytes of D to an owned bank. -/
  | st (x : Issue)
  /-- CRR (R178): Reads a control register into D; an RC register clears in the same cc. -/
  | crr (x : Issue)
  /-- CRW (R178): Writes a control register that has no row of its own, with RO fields discarded and refused writes ignored. -/
  | crw (x : Issue)
  /-- TLD (R177): Loads 32 bytes into a tensor descriptor register. -/
  | tld (x : Issue)
  /-- TST (R177): Stores a tensor descriptor register to an owned bank. -/
  | tst (x : Issue)
  /-- TSET (R177): Writes one field of a tensor descriptor from A. -/
  | tset (x : Issue)
  /-- TGET (R177): Reads one field of a tensor descriptor into D. -/
  | tget (x : Issue)
  /-- MMA (R182): Issues one lattice pass that accumulates A times B into Hearth slot H. -/
  | mma (x : Issue)
  /-- HCLR (R184): Clears Hearth slot H. -/
  | hclr (x : Issue)
  /-- HLD (R185): Copies Hearth slot H into an owned bank. -/
  | hld (x : Issue)
  /-- HST (R184): Copies Hearth elements from an owned bank into slot H and sets NF when needed. -/
  | hst (x : Issue)
  /-- DRN (R88): Drains a Hearth slot to a tile in Poxel16, Poxel8 or FP32, with optional clear, RMAX, RSUM, smoothing and amax fold. -/
  | drn (x : Issue)
  /-- SWAP (R82): Issues a swap of a double-buffer pair, pending until the drain slot's reads retire. -/
  | swap (x : Issue)
  /-- SWAP_COMPLETE (R82): The pending swap's conditions hold: FILL inverts and, with INIT set, the new fill slot clears. -/
  | swapComplete (c : CoreId) (base : SlotIx)
  /-- FOLD (R94): Adds the truncated low splint slot into the high slot and clears the low slot. -/
  | fold (x : Issue)
  /-- AGOPEN (R183): Writes AGn_CFG with OPEN set, accepted or refused under R80. -/
  | agopen (x : Issue)
  /-- AGCLOSE (R183): Closes an accumulation group once earlier passes into it retire. -/
  | agclose (x : Issue)
  /-- AGN_CFG_WRITE (R79): A CRW to AGn_CFG opens or closes the group, sets the fields of a closed group, or is ignored for locked fields. -/
  | agnCfgWrite (x : Issue)
  /-- LATTICE_PASS_RETIRE (R76): An issued lattice pass completes its adds into the Hearth slot and retires. -/
  | latticePassRetire (c : CoreId)
  /-- DRAIN_RETIRE (R122): A drain retires: its outputs are visible and its amax folds into AMXn. -/
  | drainRetire (c : CoreId)
  /-- CRED_HEARTH_SUM (R421): Hands slot H to a mode-0 Canopy reduction delivered into slot DEST. -/
  | credHearthSum (x : Issue)
  /-- CRED_MAXIMUM (R421): Hands an AMX register to a mode-1 Canopy maximum. -/
  | credMaximum (x : Issue)
  /-- CRED_FP64_SUM (R421): Hands s[SREG] to a mode-2 Canopy FP64 sum. -/
  | credFp64Sum (x : Issue)
  /-- CRED_VOTE (R421): Hands a predicate to a mode-3 Canopy OR vote. -/
  | credVote (x : Issue)
  /-- CRED_BROADCAST (R421): Takes part in a mode-4 broadcast from chunk 0. -/
  | credBroadcast (x : Issue)
  /-- EW_MUL (R188): Elementwise Poxel multiply, rounded once. -/
  | ewMul (x : Issue)
  /-- EW_DIV (R188): Elementwise Poxel divide, rounded once. -/
  | ewDiv (x : Issue)
  /-- EW_NEG (R187): Elementwise negation under R41. -/
  | ewNeg (x : Issue)
  /-- EW_ABS (R187): Elementwise absolute value under R41. -/
  | ewAbs (x : Issue)
  /-- EW_MAX (R187): Elementwise maximum under R42. -/
  | ewMax (x : Issue)
  /-- EW_MIN (R187): Elementwise minimum under R42. -/
  | ewMin (x : Issue)
  /-- EW_CMPLT (R187): Elementwise key less-than compare. -/
  | ewCmplt (x : Issue)
  /-- EW_CMPEQ (R187): Elementwise code-equality compare. -/
  | ewCmpeq (x : Issue)
  /-- EW_CVT (R187): Elementwise format conversion under R55. -/
  | ewCvt (x : Issue)
  /-- EW_RETIRE (R146): An elementwise instruction completes and retires with its amax fold. -/
  | ewRetire (c : CoreId)
  /-- LADD (R102): Lantern log-domain add. -/
  | ladd (x : Issue)
  /-- LSUB (R102): Lantern log-domain subtract. -/
  | lsub (x : Issue)
  /-- EXP (R103): Lantern e to the x. -/
  | exp (x : Issue)
  /-- EXP2 (R103): Lantern 2 to the x. -/
  | exp2 (x : Issue)
  /-- EXPD (R104): Lantern e to the x minus the row value m. -/
  | expd (x : Issue)
  /-- LN (R105): Lantern natural logarithm. -/
  | ln (x : Issue)
  /-- LOG2 (R105): Lantern base-2 logarithm. -/
  | log2 (x : Issue)
  /-- SIN (R106): Lantern sine. -/
  | sin (x : Issue)
  /-- COS (R106): Lantern cosine. -/
  | cos (x : Issue)
  /-- GELU (R107): Lantern GELU with the normal distribution function. -/
  | gelu (x : Issue)
  /-- GELUT (R107): Lantern GELU in its tanh form. -/
  | gelut (x : Issue)
  /-- SQRT (R108): Lantern square root. -/
  | sqrt (x : Issue)
  /-- RSQRT (R108): Lantern reciprocal square root. -/
  | rsqrt (x : Issue)
  /-- UTN (R111): Lantern user-table function described by LTD[n]. -/
  | utn (x : Issue)
  /-- STATI (R114): Selects the mode and anchors of a statistics set and clears its records. -/
  | stati (x : Issue)
  /-- STAT1 (R115): Adds inputs to S1 and CNT1 of each row. -/
  | stat1 (x : Issue)
  /-- STAT2 (R115): Adds squared deviations to S2 and CNT2, latching MUQ at the first use. -/
  | stat2 (x : Issue)
  /-- STATQ (R115): One-pass sum and sum of squares. -/
  | statq (x : Issue)
  /-- STATF (R117): Computes mean, variance and r per row, writes them, and latches r. -/
  | statf (x : Issue)
  /-- NORMA (R119): Normalises a tile with MUQ and the latched r. -/
  | norma (x : Issue)
  /-- STATR (R116): Writes the row records of a set to an owned bank. -/
  | statr (x : Issue)
  /-- STATW (R116): Adds row records from a bank into a set. -/
  | statw (x : Issue)
  /-- LTLOAD (R112): Loads Lantern table RAM entries from an owned bank. -/
  | ltload (x : Issue)
  /-- LNT_CFG_WRITE (R101): A CRW to LNT_CFG sets the flush threshold and KV1 mode, or is ignored whole with CFG_REJ. -/
  | lntCfgWrite (x : Issue)
  /-- LANTERN_RETIRE (R97): A Lantern instruction completes and retires with its status and amax fold. -/
  | lanternRetire (c : CoreId)
  /-- FV_ADD (R190): IEEE vector add. -/
  | fvAdd (x : Issue)
  /-- FV_SUB (R190): IEEE vector subtract. -/
  | fvSub (x : Issue)
  /-- FV_MUL (R190): IEEE vector multiply. -/
  | fvMul (x : Issue)
  /-- FV_DIV (R190): IEEE vector divide. -/
  | fvDiv (x : Issue)
  /-- FV_SQRT (R190): IEEE vector square root. -/
  | fvSqrt (x : Issue)
  /-- FV_FMA (R190): IEEE vector fused multiply-add. -/
  | fvFma (x : Issue)
  /-- FV_MAX (R190): IEEE vector maximumNumber. -/
  | fvMax (x : Issue)
  /-- FV_MIN (R190): IEEE vector minimumNumber. -/
  | fvMin (x : Issue)
  /-- FV_CVT (R190): IEEE vector convertFormat between FP32 and FP64. -/
  | fvCvt (x : Issue)
  /-- FV_SSQ (R191): IEEE sum of squares into s[SD] in four lanes. -/
  | fvSsq (x : Issue)
  /-- FS_ADD (R190): IEEE scalar add. -/
  | fsAdd (x : Issue)
  /-- FS_SUB (R190): IEEE scalar subtract. -/
  | fsSub (x : Issue)
  /-- FS_MUL (R190): IEEE scalar multiply. -/
  | fsMul (x : Issue)
  /-- FS_DIV (R190): IEEE scalar divide. -/
  | fsDiv (x : Issue)
  /-- FS_SQRT (R190): IEEE scalar square root. -/
  | fsSqrt (x : Issue)
  /-- FS_FMA (R190): IEEE scalar fused multiply-add. -/
  | fsFma (x : Issue)
  /-- FS_MAX (R190): IEEE scalar maximumNumber. -/
  | fsMax (x : Issue)
  /-- FS_MIN (R190): IEEE scalar minimumNumber. -/
  | fsMin (x : Issue)
  /-- FS_CVT (R190): IEEE scalar convertFormat. -/
  | fsCvt (x : Issue)
  /-- FS_CMPLT (R190): IEEE scalar compareQuietLess into D. -/
  | fsCmplt (x : Issue)
  /-- FS_CMPEQ (R190): IEEE scalar compareQuietEqual into D. -/
  | fsCmpeq (x : Issue)
  /-- CVTI (R190): IEEE convertToIntegerExact into a signed 64-bit D. -/
  | cvti (x : Issue)
  /-- CVTF (R190): Converts a signed 64-bit A to FP32 or FP64. -/
  | cvtf (x : Issue)
  /-- IEEE_RETIRE (R146): An IEEE-unit instruction completes and retires. -/
  | ieeeRetire (c : CoreId)
  /-- SHINIT (R192): Initialises a scale-history record. -/
  | shinit (x : Issue)
  /-- SHOBS (R126): Reads and resets AMXn and records it as a pending entry of the step in force. -/
  | shobs (x : Issue)
  /-- SHCMT (R127): Commits the pending entry of step s in one record. -/
  | shcmt (x : Issue)
  /-- SHDSC (R127): Discards pending entries of step s and later in one record. -/
  | shdsc (x : Issue)
  /-- SHDER (R129): Derives a coarse scale from the history window, or in Marionette mode fetches the host's scale. -/
  | shder (x : Issue)
  /-- SHDER_HOST_DATA_ARRIVE (R137): The host scale read returns and SCALE takes HSCALE when it matches the step, or a retry is scheduled. -/
  | shderHostDataArrive (c : CoreId) (answer : ReadAnswer)
  /-- SHDER_HOST_RETRY (R137): At the second Ember tick edge after the previous answer, the host scale read is issued again. -/
  | shderHostRetry (c : CoreId)
  /-- SHDER_HOST_TIMEOUT (R137): The Marionette scale timeout expires: SCALE takes D and HOST_LATE is set. -/
  | shderHostTimeout (c : CoreId)
  /-- SHANC (R130): Writes an anchor derived from two histories and K to D. -/
  | shanc (x : Issue)
  /-- SHDIR_WRITE (R128): A CRW to SHDIR sets the list of records for the commit walk, or is ignored whole when COUNT exceeds 64. -/
  | shdirWrite (x : Issue)
  /-- MADD (R483): Abacus modular multiply-add. -/
  | madd (x : Issue)
  /-- NTT (R484): Abacus forward negacyclic NTT. -/
  | ntt (x : Issue)
  /-- INTT (R484): Abacus inverse NTT. -/
  | intt (x : Issue)
  /-- AUTO (R485): Abacus automorphism X to X^t. -/
  | auto (x : Issue)
  /-- KGEN (R486): Abacus key-half regeneration from Dice, or a host read in Marionette mode. -/
  | kgen (x : Issue)
  /-- AB_EXECUTION_COMPLETE (R488): An AB finishes execution, writes its outcome and destination descriptor, and the next queued AB starts. -/
  | abExecutionComplete (c : CoreId)
  /-- SEND (R252): Sends one stream message, waiting for a credit when none is held. -/
  | send (x : Issue)
  /-- RECV (R253): Receives one stream message, waiting when none is deliverable. -/
  | recv (x : Issue)
  /-- SCLOSE (R254): Closes the core's end of a stream context. -/
  | sclose (x : Issue)
  /-- STREAM_MESSAGE_ARRIVE (R252): A message lands in a ring slot with VALID set and a waiting RECV proceeds. -/
  | streamMessageArrive (n : PartId) (m : MessageArrival)
  /-- STREAM_CREDIT_ARRIVE (R256): A credit return reaches the sender's context and a waiting SEND proceeds. -/
  | streamCreditArrive (n : PartId) (ctx : Nat)
  /-- STREAM_CLOSE_NOTICE_ARRIVE (R262): A close notice from the far end of a remote stream updates the context state. -/
  | streamCloseNoticeArrive (n : PartId) (ctx : Nat)
  /-- STREAM_WAIT_TIMEOUT (R257): A stream wait reaches its TMO-th tick edge and ends with TIMEOUT. -/
  | streamWaitTimeout (c : CoreId)
  /-- CLAIM (R204): Claims a free bank for a vacant window of the core. -/
  | claim (x : Issue)
  /-- CLAIM_REQUEST_ARRIVE (R205): Claim requests reach a bank's home router; contests resolve by GPTR and the winner is granted. -/
  | claimRequestArrive (home : CoreId) (b : BankIx) (who : List Requester)
  /-- GIVE (R207): Hands the bank in window b to another core of the partition. -/
  | give (x : Issue)
  /-- BANK_OWN_GO (R202): A write of GO = 1 to BANK_OWN[b] hands the bank to TARGET as GIVE does, with the outcome in OUTC. -/
  | bankOwnGo (x : Issue)
  /-- HANDOVER_REQUEST_ARRIVE (R207): The home router checks a handover request, sets TRANSIT and sends the bank to the target. -/
  | handoverRequestArrive (home : CoreId) (b : BankIx)
  /-- HANDOVER_BANK_ARRIVE (R207): The target router records the bank in its window and acknowledges. -/
  | handoverBankArrive (home : CoreId) (b : BankIx)
  /-- HANDOVER_ACK_ARRIVE (R207): The acknowledgement makes the bank OWNED by the target and the GIVE retires. -/
  | handoverAckArrive (home : CoreId) (b : BankIx)
  /-- HANDOVER_TIMEOUT (R209): No acknowledgement within 1,024 nc: the bank returns to its giver and a device-fatal event is posted. -/
  | handoverTimeout (home : CoreId) (b : BankIx)
  /-- FREE (R210): Returns the bank in window b to the pool through clearing. -/
  | free (x : Issue)
  /-- BANK_CLEAR_DONE (R216): A bank finishes clearing and passes to the party it belongs to. -/
  | bankClearDone (home : CoreId) (b : BankIx)
  /-- PGO (R196): Writes a Porter channel's source, destination, count and control with GO. -/
  | pgo (x : Issue)
  /-- PWAIT (R196): Waits until a channel is not active, then writes PCH_STAT to D. -/
  | pwait (x : Issue)
  /-- PCH_GO (R225): A GO write starts a Porter channel: QUEUED, then the checks of R226. -/
  | pchGo (x : Issue)
  /-- PCH_RESUME (R225): GO with RESUME continues a stopped transfer from WDONE. -/
  | pchResume (x : Issue)
  /-- PCH_ABORT (R237): ABORT stops an active transfer at the next beat boundary as ABORTED. -/
  | pchAbort (x : Issue)
  /-- PORTER_CHECKS_DONE (R226): The start checks end: REJECTED, DONE for a zero count, or QUEUED for service. -/
  | porterChecksDone (c : CoreId) (ch : ChanIx)
  /-- PORTER_READ_DATA_ARRIVE (R234): Read data for a channel's next beat arrives in the engine's read buffer. -/
  | porterReadDataArrive (c : CoreId) (ch : ChanIx) (r : ReadArrival)
  /-- PORTER_BEAT (R228): At a beat boundary the engine picks a channel and moves one beat through its holding register. -/
  | porterBeat (b : Beat)
  /-- PORTER_BUS_ERROR (R239): A bus error stops every active channel of the core, rewinds them and records the error. -/
  | porterBusError (c : CoreId) (err : BusError)
  /-- EPB (R155): Opens a Scout epoch and captures the snapshot. -/
  | epb (x : Issue)
  /-- EPC (R155): Commits the open epoch and releases held instructions. -/
  | epc (x : Issue)
  /-- EPD (R157): Discards the open epoch and restarts at RESTART. -/
  | epd (x : Issue)
  /-- EPOCH_MASK_WRITE (R155): A CRW to EPOCH_BANKS or EPOCH_SLOTS sets the mask, or is ignored while an epoch is open. -/
  | epochMaskWrite (x : Issue)
  /-- SCOUT_ADVANCE (R150): The Scout treats the next instruction in its window as Shadow, Pass, Prefetch, Claim, Read, Follow or Halt. -/
  | scoutAdvance (x : Issue)
  /-- SCOUT_CTL_WRITE (R154): A CRW to SCOUT_CTL sets DEPTH and EN and cancels the Scout, or is ignored for an invalid DEPTH. -/
  | scoutCtlWrite (x : Issue)
  /-- STEPNO_WRITE (R178): A CRW to STEPNO sets the step in force and is a step boundary for mode switches. -/
  | stepnoWrite (x : Issue)
  /-- W1C_STATUS_CLEAR (R87): Writing 1 to an NF bit of HSLOT_STAT, DRN_STAT or LNT_STAT clears it with its position. -/
  | w1cStatusClear (x : Issue)
  /-- CORE_CLEARING_DONE (R144): Hearth, table RAM and program memory are clear after power-up and the core enters HALTED. -/
  | coreClearingDone (c : CoreId)
  /-- CMD_DB_WRITE (R265): A write to CMD_DB is checked and sets the new producer index of the command ring. -/
  | cmdDbWrite (n : PartId) (a : RegAccess)
  /-- CPL_DB_WRITE (R265): A write to CPL_DB is checked and frees completion entries. -/
  | cplDbWrite (n : PartId) (a : RegAccess)
  /-- PRST_GO (R264): A write of 1 to PRST.GO starts a partition reset of Pn. -/
  | prstGo (n : PartId) (a : RegAccess)
  /-- VECTOR_CONTROL_WRITE (R267): A write to a vector table entry; unmasking sends a pending interrupt. -/
  | vectorControlWrite (n : PartId) (offset : Nat) (a : RegAccess)
  /-- REGISTER_WRITE (R264): A write to a ring-page register that has no row of its own, such as INT_MOD or a W1C status bit. -/
  | registerWrite (n : PartId) (offset : Nat) (a : PageAccess)
  /-- INTERRUPT_HOLDOFF_EXPIRY (R268): HOLD µs pass after the first unsignalled record and vector 0 is sent. -/
  | interruptHoldoffExpiry (n : PartId)
  /-- COMMAND_FETCH (R293): The Vorum fetches command entry NEXT when a new PIDX is accepted and a completion entry is free. -/
  | commandFetch (n : PartId)
  /-- COMMAND_FETCH_COMPLETE (R297): A fetched command is checked and admitted, refused or queued under admission. -/
  | commandFetchComplete (n : PartId) (bytes : List Byte)
  /-- ADMISSION_TIMEOUT (R299): A waiting command reaches its TMO and completes REFUSED_CAPACITY. -/
  | admissionTimeout (n : PartId)
  /-- CMD_NOP (R302): The NOP command completes at admission. -/
  | cmdNop (n : PartId)
  /-- START (R302): The START command starts the named cores 32 nc after admission with PC and arguments. -/
  | start (n : PartId)
  /-- START_COMPLETE (R302): Every named core is HALTED and no channel is active, so the START's record is written and its tokens return. -/
  | startComplete (n : PartId)
  /-- RUN_BOUND_EXPIRY (R300): A START runs past RUN ticks, so its cores stop and it ends ABORTED with RUN_LIMIT. -/
  | runBoundExpiry (n : PartId)
  /-- CORE_RESET (R163): The CORE_RESET command resets the named cores to HALTED, keeping banks, Hearth and tables. -/
  | coreReset (n : PartId)
  /-- PRESET (R294): The PRESET command runs a partition reset whose record is its completion. -/
  | preset (n : PartId)
  /-- STREAM_OPEN (R251): The STREAM_OPEN command checks and opens a stream context, clearing its ring headers. -/
  | streamOpen (n : PartId)
  /-- STREAM_OPEN_CLEAR_DONE (R251): The ring headers are cleared and the STREAM_OPEN command completes. -/
  | streamOpenClearDone (n : PartId)
  /-- STAGE (R302): The STAGE command has the ring engine claim a bank, copy from HOST or HBM, and hand the bank to the target. -/
  | stage (n : PartId)
  /-- CTX_ACQ (R302): The CTX_ACQ command takes a Canopy context under a local number. -/
  | ctxAcq (n : PartId)
  /-- CTX_REL (R302): The CTX_REL command returns a Canopy context. -/
  | ctxRel (n : PartId)
  /-- FORM (R291): A write to obj 4100.0D checks the formation record and puts the partition in FORMING. -/
  | form (r : Request)
  /-- FORMATION_COMPLETE (R291): The formation work ends: FORMED, RING_STAT.FORMED and a notification. -/
  | formationComplete (n : PartId)
  /-- DISSOLVE (R292): A write to obj 4100.0F dissolves a partition and returns its resources. -/
  | dissolve (r : Request)
  /-- PARTITION_RESET_WRITE (R294): A write to obj 4100.0E starts a partition reset. -/
  | partitionResetWrite (r : Request)
  /-- WEIGHT_WRITE (R298): A write to a partition's weight recomputes every guaranteed share. -/
  | weightWrite (r : Request)
  /-- APERTURE_WRITE (R269): A management write to a host aperture, refused when it would uncover a ring. -/
  | apertureWrite (r : Request)
  /-- PCIE_FLR_VF (R275): An FLR of VF n runs a partition reset of Pn with no records. -/
  | pcieFlrVf (n : PartId)
  /-- PCIE_FLR_PF0 (R275): An FLR of PF 0 resets every partition and clears VF Enable. -/
  | pcieFlrPf0
  /-- PCIE_VF_ENABLE_CLEAR (R275): Clearing VF Enable resets P1–P63. -/
  | pcieVfEnableClear
  /-- PCIE_D3HOT_TO_D0 (R275): A function moving from D3hot to D0 resets its partition. -/
  | pcieD3hotToD0 (f : PartId)
  /-- PCIE_HOT_RESET (R275): A Hot Reset or link down runs a device reset. -/
  | pcieHotReset
  /-- PCIE_CONFIG_REQUEST (R273): A configuration request reads or writes the configuration space of a function. -/
  | pcieConfigRequest (f : PartId) (q : ConfigRequest)
  /-- PCIE_COMPLETION_TIMEOUT (R276): A Porter read has no completion within the Completion Timeout, which is a bus error. -/
  | pcieCompletionTimeout (c : CoreId) (addr : W64)
  /-- UCIE_LINK_UP (R281): The UCIe link comes up and both sides exchange initial credits in CRD packets. -/
  | ucieLinkUp (width : BitVec 8) (rate : W16) (cr : UcieCredits)
  /-- UCIE_HOST_RD (R279): A host RD of the register space is checked and answered. -/
  | ucieHostRd (h : UciePacket)
  /-- UCIE_HOST_WR (R279): A host WR to the register space is checked and applied. -/
  | ucieHostWr (h : UciePacket)
  /-- UCIE_CPLD (R280): A completion with data answers a device-issued RD. -/
  | ucieCpld (h : UciePacket)
  /-- UCIE_CPL (R280): A completion without data answers a device RD with UR or CA, which is a bus error. -/
  | ucieCpl (h : UciePacket)
  /-- UCIE_CRD (R281): A CRD packet returns credits. -/
  | ucieCrd (cr : UcieCredits)
  /-- UCIE_COMPLETION_TIMEOUT (R280): A device RD gets no complete answer within obj C010.04, which is a bus error. -/
  | ucieCompletionTimeout (tag : BitVec 10)
  /-- VD_FENCE (R283): A fence sideband message is recorded and acknowledged, and the doorbells it covers are observed. -/
  | vdFence (q : W16)
  /-- FENCE_TIMEOUT (R283): A held doorbell gets no fence within obj C010.05 and is dropped with FENCE_TMO. -/
  | fenceTimeout (n : PartId)
  /-- UCIE_LINK_LOSS (R284): Loss of the UCIe link starts a device reset. -/
  | ucieLinkLoss
  /-- UCIE_L2_EXIT_REQUEST (R367): A sideband request to leave L2 wakes the KV2-C from Ember. -/
  | ucieL2ExitRequest
  /-- HBM_SCRUB (R287): The controller scrubs HBM3E words within each scrub interval and writes corrected data back. -/
  | hbmScrub (found : List ScrubFind)
  /-- HBM_UNIT_CLEAR_DONE (R289): An HBM3E unit finishes clearing and an assignment waiting for it completes. -/
  | hbmUnitClearDone (unit : Nat)
  /-- READ (R331): Guyline READ of one object. -/
  | read (r : Request)
  /-- WRITE (R331): Guyline WRITE of an object that has no row of its own, checked under R317. -/
  | write (r : Request)
  /-- NOTIFICATION_READ (R326): A read of obj 1120.01 or 1121.01 removes and returns the oldest notification. -/
  | notificationRead (r : Request)
  /-- BRINIT (R336): Starts a block read with a copy of the value. -/
  | brinit (r : Request)
  /-- BRSEG (R336): Returns one segment of a block read. -/
  | brseg (r : Request)
  /-- BWINIT (R337): Opens a block write after the early checks. -/
  | bwinit (r : Request)
  /-- BWSEG (R337): Stores one segment of a block write. -/
  | bwseg (r : Request)
  /-- BWEND (R337): Checks the CRC and applies a block-written value whole. -/
  | bwend (r : Request)
  /-- BABORT (R337): Closes an open block and changes nothing. -/
  | babort (r : Request)
  /-- DISCOVER (R343): Answers with the die's identity and coordinates. -/
  | discover (r : Request)
  /-- ECHO (R331): Answers with the request data unchanged. -/
  | echo (r : Request)
  /-- NOTIFY (R341): A listener's acknowledgement of a NOTIFY removes that notification. -/
  | notify (r : Request)
  /-- NOTIFY_RETRY_TIMEOUT (R341): No acknowledgement within obj D000.04, so the NOTIFY is sent again. -/
  | notifyRetryTimeout
  /-- BLOCK_IDLE_TIMEOUT (R337): An open block is closed after obj D000.02 ticks without a PDU. -/
  | blockIdleTimeout (p : Port) (source : Nat)
  /-- T1S_FRAME_RECEIVE (R339): A 10BASE-T1S frame is filtered and its PDU queued, rate-limited, or answered from memory. -/
  | t1sFrameReceive (f : T1sFrame)
  /-- I3C_PRIVATE_WRITE (R343): An I3C private write delivers one request PDU. -/
  | i3cPrivateWrite (t : I3cTransfer)
  /-- I3C_PRIVATE_READ (R343): An I3C private read returns the ready answer PDU, or is NACKed. -/
  | i3cPrivateRead
  /-- ENEC (R343): CCC that enables target events such as In-Band Interrupts. -/
  | enec (events : Byte)
  /-- DISEC (R343): CCC that disables target events. -/
  | disec (events : Byte)
  /-- RSTDAA (R343): CCC that resets the dynamic address. -/
  | rstdaa
  /-- ENTDAA (R343): CCC that assigns a dynamic address by arbitration. -/
  | entdaa (address : BitVec 7)
  /-- SETDASA (R343): CCC that assigns a dynamic address from the static address. -/
  | setdasa (static address : BitVec 7)
  /-- SETMWL (R343): CCC that sets the maximum write length, NACKed below 1,040. -/
  | setmwl (len : W16)
  /-- SETMRL (R343): CCC that sets the maximum read length, NACKed below 1,040. -/
  | setmrl (len : W16)
  /-- GETMWL (R343): CCC that returns the maximum write length. -/
  | getmwl
  /-- GETMRL (R343): CCC that returns the maximum read length. -/
  | getmrl
  /-- GETPID (R343): CCC that returns the provisioned ID. -/
  | getpid
  /-- GETBCR (R343): CCC that returns BCR 0x06. -/
  | getbcr
  /-- GETDCR (R343): CCC that returns DCR 0x00. -/
  | getdcr
  /-- GETSTATUS (R343): CCC that returns the target status. -/
  | getstatus
  /-- MB_REQ (R344): A write of REQ = 1 submits the mailbox request buffer, or is ignored while RSP or REQ is set. -/
  | mbReq (a : RegAccess)
  /-- MB_RSP_RELEASE (R344): Writing 1 to RSP releases the mailbox answer buffer. -/
  | mbRspRelease (a : RegAccess)
  /-- MAILBOX_BUFFER_WRITE (R344): A write to the request buffer, ignored with BUF_IGN while REQ is set. -/
  | mailboxBufferWrite (offset : Nat) (a : RegAccess)
  /-- MGMT_REQ (R345): A relayed Guyline request arrives at the far die and is queued for its warden. -/
  | mgmtReq (k : Packet)
  /-- MGMT_ANS (R345): A relayed answer returns and is forwarded on the port of arrival. -/
  | mgmtAns (k : Packet)
  /-- RELAY_TIMEOUT (R345): A relayed request gets no answer within obj D000.03 and is answered RELAY_TMO. -/
  | relayTimeout (tag : W32)
  /-- NODE_ID_WRITE (R342): A write of the node ID, segment or EtherType reprograms the PHY and MAC after its answer. -/
  | nodeIdWrite (r : Request)
  /-- DUTY_MODE_REQUEST (R352): A write to obj 5k00.01 requests a mode and leaves a switch pending until the duty's switch point. -/
  | dutyModeRequest (r : Request)
  /-- STEP_ANSWER (R350): The host answers a STEP call with its SKIP bit. -/
  | stepAnswer (r : Request)
  /-- STASH_ANSWER (R350): The host answers KEPT, which seals the stash. -/
  | stashAnswer (r : Request)
  /-- REMAP_ANSWER (R350): The host accepts, changes or defers a proposed Understudy seat. -/
  | remapAnswer (r : Request)
  /-- PATROL_ANSWER (R350): The host grants or refuses the cores of a Patrol slice. -/
  | patrolAnswer (r : Request)
  /-- POWER_ANSWER (R373): The host answers an excess call with a core mask and an operating point. -/
  | powerAnswer (r : Request)
  /-- STEP_CALL_TIMEOUT (R348): A STEP call times out and SKIP = 0 is contributed. -/
  | stepCallTimeout (n : PartId)
  /-- STASH_CALL_TIMEOUT (R348): A STASH call times out and the stash counts as abandoned. -/
  | stashCallTimeout (n : PartId)
  /-- REMAP_CALL_TIMEOUT (R348): A REMAP call times out and the proposed seat is used. -/
  | remapCallTimeout
  /-- PATROL_CALL_TIMEOUT (R348): A PATROL call times out and no slice runs. -/
  | patrolCallTimeout
  /-- POWER_CALL_TIMEOUT (R348): A POWER call times out and Autonomous enforcement runs. -/
  | powerCallTimeout
  /-- EMBER_REQUEST (R366): A write to obj 2000.01 requests Ember, which is accepted or refused, or leaves Ember. -/
  | emberRequest (r : Request)
  /-- EMBER_ENTRY_COMMIT (R368): The uncore rail is switched off and the Ember entry commits. -/
  | emberEntryCommit
  /-- DEVICE_ENTER_DOZE (R366): The device has been idle for obj 2000.04 ticks and enters Doze. -/
  | deviceEnterDoze
  /-- DEVICE_ENTER_NAP (R366): The device has been in Doze for obj 2000.05 more ticks and enters Nap. -/
  | deviceEnterNap
  /-- DEVICE_WAKE (R367): A wake event returns the device to Run, or abandons an entry that has not committed. -/
  | deviceWake (source : BitVec 8)
  /-- CORE_ENTER_NAP (R363): A halted core that has dozed for obj 2020.03 ticks enters NAP. -/
  | coreEnterNap (c : CoreId)
  /-- CORE_WAKE (R363): A wake event or an access returns a dozing or napping core to ACTIVE. -/
  | coreWake (c : CoreId)
  /-- BANK_UNIT_GATE (R364): A bank unit whose banks have been FREE or LENT for obj 2020.04 ticks is gated. -/
  | bankUnitGate (c : CoreId) (u : Fin 8)
  /-- POWER_CAP_DECISION (R372): At a tick edge the filtered power is formed and one cap rule is carried out. -/
  | powerCapDecision (reading : Int)
  /-- POWER_CAP_WRITE (R372): A write to obj 2010.01 sets or lifts the power cap from the next tick edge. -/
  | powerCapWrite (r : Request)
  /-- OP_CHANGE (R361): After a tick edge a core's OP in force moves one step toward its ceiling. -/
  | opChange (c : CoreId)
  /-- LIMITER_ENGAGE (R374): VCORE current exceeds ICCMAX and every active core issues in alternate cc. -/
  | limiterEngage
  /-- LIMITER_RELEASE (R374): The current stays below 90 % of ICCMAX for one tick and the limiter releases. -/
  | limiterRelease
  /-- THERMAL_SAMPLE (R376): At a tick edge the sensors are read, filtered and checked against warn, critical and trip. -/
  | thermalSample (readings : List Int)
  /-- PORT_RETRAIN (R404): A DOWN port retrains after obj 7000.06 ticks and becomes UP, STANDBY or DOWN. -/
  | portRetrain (p : PortIx) (t : PortTraining)
  /-- PUT_IN_USE (R404): A write of 1 to obj 701p.08 moves a STANDBY port to UP. -/
  | putInUse (r : Request)
  /-- CODEWORD_RECEIVE (R405): A lane codeword is decoded, locked and assembled into flit slots. -/
  | codewordReceive (p : PortIx) (lane : Fin 4) (w : Codeword)
  /-- FLIT_RECEIVE (R407): A sequenced flit is accepted or discarded with NAK, and its acknowledgement processed. -/
  | flitReceive (p : PortIx) (f : Flit)
  /-- LCTL (R409): An LCTL flit returns credits or initialises them. -/
  | lctl (p : PortIx) (f : Flit)
  /-- FLIT_SLOT_SEND (R409): In each flit slot the port sends the first ready flit by priority. -/
  | flitSlotSend (p : PortIx)
  /-- FLIT_RESEND_TIMEOUT (R407): 2 µs without ACKSEQ advancing: every unacknowledged flit is resent. -/
  | flitResendTimeout (p : PortIx)
  /-- LCTL_DUE (R409): 100 ns after the first credit waiting to be returned, an LCTL flit becomes due. -/
  | lctlDue (p : PortIx)
  /-- LINK_STALL (R412): A flit has waited obj 7000.05 ticks for a credit, so the link goes down. -/
  | linkStall (p : PortIx)
  /-- LOCK_LOST (R416): A lane held no lock for 1 ms, so the link goes down. -/
  | lockLost (p : PortIx)
  /-- STREAM_MSG (R262): A remote stream message packet arrives for the receive-end. -/
  | streamMsg (k : Packet)
  /-- STREAM_CRED (R262): A remote credit return packet arrives for the send-end. -/
  | streamCred (k : Packet)
  /-- STREAM_CLOSE (R262): A remote close notice packet arrives. -/
  | streamClose (k : Packet)
  /-- CANOPY_UP (R420): A child partial arrives and is combined on the die that evaluates its node. -/
  | canopyUp (k : Packet)
  /-- CANOPY_DOWN (R420): The root's value or outcome arrives, is delivered to the issuing cores and passed down. -/
  | canopyDown (n : PartId) (ctx : Fin 8) (k : Option Packet)
  /-- REDUCTION_TIMEOUT (R423): A reduction has not completed obj 7100.01 ticks after the die's first CRED and ends TIMEOUT. -/
  | reductionTimeout (n : PartId) (ctx : Fin 8)
  /-- PRESENT (R426): A PRESENT packet counts a member at rank 0, which sends ACTIVE when all are present. -/
  | present (k : Packet)
  /-- ACTIVE (R426): An ACTIVE packet makes the member's camp state ACTIVE. -/
  | active (k : Packet)
  /-- FAULT (R426): A flooded member fault notice makes the camp DEGRADED and ends its reductions and streams. -/
  | fault (k : Packet)
  /-- TOPO (R417): A flooded topology notice updates the lost lists and breaks the affected streams and reductions. -/
  | topo (k : Packet)
  /-- REMAP (R467): A flooded remap notice installs a remap table entry and recomputes routes. -/
  | remap (k : Packet)
  /-- STASH_OPEN (R462): The buddy opens the slot that does not hold its newest sealed stash. -/
  | stashOpen (k : Packet)
  /-- STASH_DATA (R462): The buddy writes stash content into the slot. -/
  | stashData (k : Packet)
  /-- STASH_SEAL (R462): The buddy checks the CRC and seals the slot. -/
  | stashSeal (k : Packet)
  /-- STASH_ACK (R462): The die receives the buddy's acknowledgement and moves to its next stash step or abandons. -/
  | stashAck (k : Packet)
  /-- STASH_ACK_TIMEOUT (R465): No acknowledgement within obj 8200.05, so the stash is abandoned. -/
  | stashAckTimeout (n : PartId)
  /-- PULL_REQ (R462): The buddy answers a pull with stash bytes. -/
  | pullReq (k : Packet)
  /-- PULL_DATA (R469): Pulled stash bytes arrive and are written into the named buffer. -/
  | pullData (k : Packet)
  /-- START_RECOVERY (R466): A write of 1 to obj 8400.08 starts recovery of the camp. -/
  | startRecovery (r : Request)
  /-- SETTLE_TIMEOUT (R466): The settle time ends and the coordinator takes a recovery number and proposes seats. -/
  | settleTimeout (n : PartId)
  /-- RECOVER_QUERY (R468): A member answers the coordinator's query with a RECOVER_REPORT. -/
  | recoverQuery (k : Packet)
  /-- RECOVER_REPORT (R468): The coordinator collects a report and, with all in, chooses S and sends RESUME. -/
  | recoverReport (k : Packet)
  /-- REPORT_TIMEOUT (R468): A member has not reported within obj 8400.07, so it counts as failed and recovery restarts. -/
  | reportTimeout (n : PartId)
  /-- RESUME (R469): A member stops, restores step S and answers RESUME_DONE. -/
  | resume (k : Packet)
  /-- RESUME_DONE (R470): The coordinator collects RESUME_DONE and sends ACTIVE or ends the recovery unrecoverable. -/
  | resumeDone (k : Packet)
  /-- RESTORE_FROM_RECORD (R457): A write to obj 8300.01 restores histories, step state, seed and DOFF from a step record. -/
  | restoreFromRecord (r : Request) (hostBytes : List Byte)
  /-- TRAP_ARM_WRITE (R161): Writing 1 to obj 6020.01 re-arms the first-NaN trap and clears its record. -/
  | trapArmWrite (r : Request)
  /-- PATROL_SLICE_START (R506): At a tick edge a Patrol slice starts, runs the audits, and takes idle units into test. -/
  | patrolSliceStart
  /-- PATROL_SLICE_END (R506): The slice ends after 200 µs or when its units are done, and tested units are cleared and returned. -/
  | patrolSliceEnd (found : List UnitResult)
  /-- BYPASS (R518): TAP instruction that selects the bypass register. -/
  | bypass
  /-- IDCODE (R518): TAP instruction that selects the IDCODE register. -/
  | idcode
  /-- SAMPLE_PRELOAD (R518): TAP instruction that samples or preloads the boundary register. -/
  | samplePreload
  /-- EXTEST (R518): TAP boundary-scan test, refused while the scan lock is 1. -/
  | extest
  /-- EXTEST_PULSE (R518): IEEE 1149.6 pulse test, refused while the scan lock is 1. -/
  | extestPulse
  /-- EXTEST_TRAIN (R518): IEEE 1149.6 train test, refused while the scan lock is 1. -/
  | extestTrain
  /-- DBG_ACCESS (R518): TAP debug access, refused while the debug lock is 1. -/
  | dbgAccess
  /-- NAP_ENTRY_COMMIT (R368): The NoC PLL stops and the device's entry into Nap commits, after which a wake event is latched instead of abandoning the entry. -/
  | napEntryCommit
  /-- HEARTH_CLEAR_DONE (R86): A Hearth slot group finishes clearing, at 16 cc per group of four after an open with INIT, a swap, HCLR, a drain with CLR or an epoch discard, and HSLOT_STAT.CLEARING returns to 0 so stalled accesses proceed. -/
  | hearthClearDone (c : CoreId) (group : Fin 16)
  /-- STAGE_COPY_COMPLETE (R302): The ring engine finishes copying LEN bytes from SRC into the STAGED bank and begins the handover to the target core. -/
  | stageCopyComplete (n : PartId) (answer : ReadAnswer)
  /-- PCIE_LINK_UP (R271): The PCIe link trains to a width and rate, seen in obj C010.01 and obj C010.02, either during a start or after boot complete. -/
  | pcieLinkUp (width : BitVec 8) (rate : W16)
  /-- VFUSE_PRESENCE_CHANGE (R519): VFUSE crosses 1.71 V, and the fuse supply is reported present or absent in obj 2040.04, which decides whether a fuse update can run. -/
  | vfusePresenceChange (present : Bool)
  deriving DecidableEq, Repr

end Sys2Proof
end

