-- ==== Sys2Proof/Decode.lean ====
section
/-!
DEFINITION. The table gives its commands no bits: a command reaches the Vorum as an event with operands, never as a word
of a command memory, so no word spells one.
-/
namespace Sys2Proof

/-- The command a word spells by the table's bits: the table gives no row any. -/
def decodeTableWord (_nbits _w : Nat) : Option Instr := none

end Sys2Proof
end

