-- ==== Sys2Proof/Machine/Tables.lean ====
section
/-!
DEFINITION. The ROM tables of the lattice and the Lantern, computed from the formulas of 03 R65, 04 R102, R106 and R107
(the table appendix file that prints them is not part of spec/).
-/
namespace Sys2Proof.Machine

def tabT0 : List Nat :=
  [8388608, 8434157, 8479954, 8525999, 8572295, 8618841, 8665641, 8712694, 8760003, 8807569, 8855394, 8903477,
   8951823, 9000430, 9049301, 9098438, 9147842, 9197514, 9247455, 9297668, 9348154, 9398913, 9449948, 9501261,
   9552851, 9604722, 9656875, 9709311, 9762032, 9815039, 9868333, 9921917, 9975792, 10029960, 10084422, 10139179,
   10194234, 10249587, 10305242, 10361198, 10417458, 10474024, 10530897, 10588079, 10645571, 10703375, 10761494,
   10819928, 10878679, 10937749, 10997140, 11056853, 11116891, 11177254, 11237946, 11298967, 11360319, 11422004,
   11484025, 11546382]
def tabT1 : List Nat :=
  [11609078, 11672114, 11735492, 11799215, 11863283, 11927700, 11992466, 12057584, 12123055, 12188882, 12255067,
   12321610, 12388516, 12455784, 12523418, 12591419, 12659789, 12728530, 12797645, 12867135, 12937002, 13007249,
   13077877, 13148888, 13220286, 13292070, 13364245, 13436812, 13509772, 13583129, 13656884, 13731039, 13805598,
   13880561, 13955931, 14031710, 14107901, 14184505, 14261526, 14338964, 14416824, 14495106, 14573813, 14652947,
   14732511, 14812507, 14892937, 14973805, 15055111, 15136859, 15219050, 15301688, 15384775, 15468313, 15552304,
   15636752, 15721658, 15807025, 15892855, 15979152]
def tabT2 : List Nat :=
  [16065917, 16153153, 16240863, 16329050, 16417715, 16506861, 16596492, 16686609]
/-- T[i] = 2^23 × 2^(i/128), rounded to nearest (03 R65). -/
def tabT : List Nat :=
  tabT0 ++ tabT1 ++ tabT2

def tabSB0 : List Int :=
  [8388608, 8129303, 7875673, 7627710, 7385401, 7148728, 6917666, 6692188, 6472258, 6257840, 6048888, 5845357,
   5647192, 5454339, 5266736, 5084319, 4907021, 4734770, 4567491, 4405108, 4247540, 4094705, 3946518, 3802892,
   3663740, 3528970, 3398492, 3272213, 3150041, 3031880, 2917638, 2807219, 2700529, 2597472, 2497956, 2401885,
   2309168, 2219710, 2133421, 2050209, 1969986, 1892662, 1818150, 1746365, 1677222, 1610637, 1546531, 1484823,
   1425434, 1368289, 1313313, 1260432, 1209576, 1160674, 1113660, 1068468, 1025033, 983292, 943186, 904655]
def tabSB1 : List Int :=
  [867643, 832093, 797953, 765169, 733691, 703472, 674462, 646618, 619893, 594246, 569636, 546022, 523365, 501630,
   480779, 460779, 441595, 423197, 405552, 388631, 372405, 356847, 341929, 327627, 313915, 300770, 288169, 276090,
   264512, 253414, 242777, 232582, 222812, 213448, 204475, 195875, 187635, 179738, 172172, 164922, 157975, 151319,
   144942, 138832, 132978, 127370, 121997, 116850, 111919, 107195, 102669, 98334, 94181, 90203, 86392, 82742,
   79245, 75896, 72688, 69615]
def tabSB2 : List Int :=
  [66672, 63853, 61152, 58566, 56089, 53716, 51443, 49267, 47182, 45186, 43273, 41442, 39688, 38008, 36399, 34858,
   33382, 31968, 30615, 29318, 28077, 26888, 25749, 24658, 23614]
/-- SB[j] = 2^16 × 128 × log2(1 + 2^(−8j/128)), rounded to nearest (04 R102). -/
def tabSB : List Int :=
  tabSB0 ++ tabSB1 ++ tabSB2

def tabDBF0 : List Int :=
  [-63188623, -54832739, -49958412, -46509489, -43841596, -41667708, -39834721, -38251243, -36858326, -35615719,
   -34494713, -33474111, -32537817, -31673316, -30870689, -30121941, -29420529, -28761037, -28138925, -27550355,
   -26992048, -26461186, -25955324, -25472333, -25010340, -24567697, -24142941, -23734767, -23342010, -22963623,
   -22598660, -22246268, -21905670, -21576161, -21257096, -20947886, -20647987, -20356902, -20074172, -19799371,
   -19532107, -19272015, -19018757, -18772016, -18531498, -18296928, -18068050, -17844622, -17626419, -17413227,
   -17204848, -17001094, -16801786, -16606758, -16415851, -16228917, -16045813, -15866404, -15690565, -15518173]
def tabDBF1 : List Int :=
  [-15349114, -15183279, -15020562, -14860866, -14704096, -14550161, -14398975, -14250456, -14104525, -13961107,
   -13820130, -13681524, -13545224, -13411165, -13279288, -13149533, -13021844, -12896167, -12772450, -12650643,
   -12530698, -12412568, -12296209, -12181578, -12068633, -11957333, -11847641, -11739518, -11632930, -11527839,
   -11424214, -11322021, -11221229, -11121807, -11023726, -10926956, -10831470, -10737242, -10644245, -10552453,
   -10461842, -10372389, -10284070, -10196863, -10110745, -10025696, -9941695, -9858722, -9776758, -9695783,
   -9615780, -9536729, -9458615, -9381419, -9305125, -9229718, -9155181, -9081499, -9008658, -8936642]
def tabDBF2 : List Int :=
  [-8865437, -8795030, -8725408, -8656556, -8588463, -8521115, -8454501]
/-- DBF[D] for D = 1–127, at position D − 1 (04 R102). -/
def tabDBF : List Int :=
  tabDBF0 ++ tabDBF1 ++ tabDBF2

def tabDB0 : List Int :=
  [-8388608, -7886093, -7423684, -6996849, -6601755, -6235130, -5894162, -5576414, -5279764, -5002347, -4742523,
   -4498837, -4269993, -4054834, -3852322, -3661521, -3481587, -3311753, -3151323, -2999663, -2856193, -2720382,
   -2591741, -2469824, -2354215, -2244533, -2140425, -2041563, -1947644, -1858384, -1773522, -1692811, -1616024,
   -1542946, -1473377, -1407131, -1344032, -1283914, -1226624, -1172015, -1119952, -1070306, -1022954, -977783,
   -934684, -893556, -854302, -816832, -781058, -746900, -714281, -683126, -653367, -624939, -597778, -571826,
   -547026, -523325, -500672, -479019]
def tabDB1 : List Int :=
  [-458321, -438533, -419615, -401526, -384229, -367689, -351871, -336744, -322275, -308436, -295198, -282536,
   -270422, -258834, -247747, -237140, -226991, -217280, -207989, -199098, -190590, -182448, -174657, -167201,
   -160065, -153235, -146699, -140443, -134456, -128725, -123240, -117989, -112963, -108153, -103548, -99139,
   -94920, -90880, -87013, -83312, -79768, -76375, -73127, -70018, -67041, -64191, -61463, -58851, -56350, -53955,
   -51663, -49468, -47367, -45355, -43428, -41584, -39818, -38127, -36508, -34958]
def tabDB2 : List Int :=
  [-33474, -32053, -30692, -29390, -28142, -26948, -25804, -24709, -23660]
/-- DB[j] at D = 128 + 8j (04 R102). -/
def tabDB : List Int :=
  tabDB0 ++ tabDB1 ++ tabDB2

def tabSN0 : List Int :=
  [0, 6588356, 13176464, 19764076, 26350943, 32936819, 39521455, 46104602, 52686014, 59265442, 65842639, 72417357,
   78989349, 85558366, 92124163, 98686491, 105245103, 111799753, 118350194, 124896179, 131437462, 137973796,
   144504935, 151030634, 157550647, 164064728, 170572633, 177074115, 183568930, 190056834, 196537583, 203010932,
   209476638, 215934457, 222384147, 228825464, 235258165, 241682010, 248096755, 254502159, 260897982, 267283981,
   273659918, 280025552, 286380643, 292724951, 299058239, 305380268, 311690799, 317989595, 324276419, 330551034,
   336813204, 343062693, 349299266, 355522689, 361732726, 367929144, 374111709, 380280190]
def tabSN1 : List Int :=
  [386434353, 392573967, 398698801, 404808624, 410903207, 416982319, 423045732, 429093217, 435124548, 441139496,
   447137835, 453119340, 459083786, 465030947, 470960600, 476872522, 482766489, 488642281, 494499676, 500338453,
   506158392, 511959275, 517740883, 523502998, 529245404, 534967884, 540670223, 546352205, 552013618, 557654248,
   563273883, 568872310, 574449320, 580004702, 585538248, 591049748, 596538995, 602005783, 607449906, 612871159,
   618269338, 623644239, 628995660, 634323400, 639627258, 644907034, 650162530, 655393548, 660599890, 665781362,
   670937767, 676068911, 681174602, 686254647, 691308855, 696337036, 701339000, 706314559, 711263525, 716185713]
def tabSN2 : List Int :=
  [721080937, 725949013, 730789757, 735602987, 740388522, 745146182, 749875788, 754577161, 759250125, 763894504,
   768510122, 773096806, 777654384, 782182683, 786681534, 791150767, 795590213, 799999706, 804379079, 808728167,
   813046808, 817334838, 821592095, 825818421, 830013654, 834177638, 838310216, 842411232, 846480531, 850517961,
   854523370, 858496606, 862437520, 866345964, 870221790, 874064853, 877875009, 881652112, 885396022, 889106597,
   892783698, 896427186, 900036924, 903612776, 907154608, 910662286, 914135678, 917574653, 920979082, 924348837,
   927683790, 930983817, 934248793, 937478595, 940673101, 943832191, 946955747, 950043650, 953095785, 956112036]
def tabSN3 : List Int :=
  [959092290, 962036435, 964944360, 967815955, 970651112, 973449725, 976211688, 978936898, 981625251, 984276646,
   986890984, 989468165, 992008094, 994510675, 996975812, 999403415, 1001793390, 1004145648, 1006460100,
   1008736660, 1010975242, 1013175761, 1015338134, 1017462281, 1019548121, 1021595575, 1023604567, 1025575020,
   1027506862, 1029400018, 1031254418, 1033069992, 1034846671, 1036584389, 1038283080, 1039942680, 1041563127,
   1043144360, 1044686319, 1046188946, 1047652185, 1049075980, 1050460278, 1051805027, 1053110176, 1054375676,
   1055601479, 1056787540, 1057933813, 1059040255, 1060106826, 1061133483, 1062120190, 1063066909, 1063973603,
   1064840240, 1065666786, 1066453210, 1067199483, 1067905576]
def tabSN4 : List Int :=
  [1068571464, 1069197120, 1069782521, 1070327646, 1070832474, 1071296985, 1071721163, 1072104991, 1072448455,
   1072751542, 1073014240, 1073236540, 1073418433, 1073559913, 1073660973, 1073721611, 1073741824]
/-- SN[j] = 2^30 × sin(πj/512), rounded to nearest (04 R106). -/
def tabSN : List Int :=
  tabSN0 ++ tabSN1 ++ tabSN2 ++ tabSN3 ++ tabSN4

def tabPHI0 : List Int :=
  [-1229136476, -1223820897, -1218517078, -1213225019, -1207944718, -1202676177, -1197419394, -1192174370,
   -1186941104, -1181719596, -1176509846, -1171311853, -1166125618, -1160951139, -1155788416, -1150637450,
   -1145498241, -1140370786, -1135255088, -1130151144, -1125058956, -1119978521, -1114909842, -1109852916,
   -1104807744, -1099774326, -1094752660, -1089742748, -1084744588, -1079758180, -1074783524, -1069820620,
   -1064869467, -1059930065, -1055002414, -1050086513, -1045182362, -1040289961, -1035409310, -1030540407,
   -1025683253, -1020837848, -1016004190, -1011182280, -1006372118, -1001573703, -996787034, -992012112,
   -987248936, -982497506, -977757821, -973029881, -968313685, -963609234, -958916527, -954235563, -949566342,
   -944908864, -940263129, -935629135]
def tabPHI1 : List Int :=
  [-931006883, -926396373, -921797603, -917210574, -912635285, -908071736, -903519926, -898979855, -894451522,
   -889934928, -885430071, -880936952, -876455569, -871985923, -867528013, -863081839, -858647400, -854224695,
   -849813725, -845414489, -841026986, -836651217, -832287179, -827934874, -823594301, -819265459, -814948347,
   -810642966, -806349315, -802067393, -797797199, -793538735, -789291998, -785056988, -780833706, -776622149,
   -772422319, -768234214, -764057834, -759893179, -755740247, -751599039, -747469554, -743351790, -739245749,
   -735151429, -731068830, -726997950, -722938791, -718891350, -714855628, -710831624, -706819337, -702818767,
   -698829914, -694852775, -690887352, -686933644, -682991649, -679061367]
def tabPHI2 : List Int :=
  [-675142798, -671235942, -667340796, -663457361, -659585637, -655725622, -651877316, -648040718, -644215827,
   -640402644, -636601167, -632811395, -629033329, -625266966, -621512308, -617769352, -614038098, -610318546,
   -606610694, -602914542, -599230090, -595557336, -591896281, -588246922, -584609259, -580983293, -577369021,
   -573766443, -570175558, -566596366, -563028865, -559473056, -555928936, -552396506, -548875764, -545366710,
   -541869343, -538383661, -534909665, -531447353, -527996724, -524557778, -521130513, -517714929, -514311025,
   -510918799, -507538252, -504169381, -500812187, -497466668, -494132823, -490810651, -487500151, -484201323,
   -480914165, -477638676, -474374855, -471122701, -467882214, -464653392]
def tabPHI3 : List Int :=
  [-461436234, -458230738, -455036905, -451854732, -448684219, -445525365, -442378168, -439242628, -436118743,
   -433006511, -429905933, -426817006, -423739730, -420674103, -417620124, -414577792, -411547105, -408528063,
   -405520663, -402524906, -399540788, -396568310, -393607470, -390658266, -387720697, -384794762, -381880459,
   -378977788, -376086745, -373207331, -370339543, -367483380, -364638841, -361805924, -358984628, -356174951,
   -353376891, -350590448, -347815618, -345052402, -342300796, -339560800, -336832412, -334115630, -331410453,
   -328716878, -326034904, -323364530, -320705753, -318058571, -315422983, -312798988, -310186582, -307585765,
   -304996533, -302418887, -299852822, -297298338, -294755433, -292224103]
def tabPHI4 : List Int :=
  [-289704349, -287196166, -284699553, -282214509, -279741030, -277279114, -274828761, -272389966, -269962728,
   -267547045, -265142914, -262750333, -260369299, -257999811, -255641865, -253295459, -250960591, -248637258,
   -246325457, -244025186, -241736443, -239459223, -237193526, -234939348, -232696686, -230465537, -228245899,
   -226037768, -223841142, -221656018, -219482392, -217320262, -215169625, -213030476, -210902814, -208786634,
   -206681934, -204588711, -202506960, -200436678, -198377862, -196330509, -194294614, -192270174, -190257186,
   -188255645, -186265549, -184286892, -182319671, -180363883, -178419522, -176486586, -174565069, -172654969,
   -170756279, -168868997, -166993117, -165128635, -163275547, -161433848]
def tabPHI5 : List Int :=
  [-159603533, -157784598, -155977038, -154180848, -152396022, -150622556, -148860445, -147109683, -145370266,
   -143642187, -141925442, -140220025, -138525929, -136843150, -135171682, -133511518, -131862652, -130225079,
   -128598793, -126983786, -125380053, -123787587, -122206381, -120636428, -119077723, -117530256, -115994023,
   -114469015, -112955224, -111452644, -109961267, -108481086, -107012091, -105554275, -104107631, -102672149,
   -101247822, -99834640, -98432596, -97041679, -95661881, -94293193, -92935605, -91589108, -90253692, -88929346,
   -87616062, -86313828, -85022635, -83742471, -82473325, -81215187, -79968045, -78731888, -77506703, -76292480,
   -75089205, -73896867, -72715452, -71544948]
def tabPHI6 : List Int :=
  [-70385342, -69236620, -68098768, -66971773, -65855620, -64750296, -63655784, -62572071, -61499140, -60436976,
   -59385563, -58344885, -57314925, -56295666, -55287090, -54289181, -53301920, -52325288, -51359267, -50403837,
   -49458980, -48524675, -47600901, -46687639, -45784865, -44892560, -44010701, -43139264, -42278228, -41427568,
   -40587261, -39757281, -38937604, -38128204, -37329055, -36540130, -35761402, -34992842, -34234423, -33486115,
   -32747889, -32019714, -31301558, -30593391, -29895180, -29206892, -28528493, -27859948, -27201223, -26552280,
   -25913084, -25283597, -24663780, -24053594, -23453000, -22861955, -22280418, -21708347, -21145697, -20592425]
def tabPHI7 : List Int :=
  [-20048484, -19513829, -18988411, -18472183, -17965094, -17467094, -16978132, -16498155, -16027109, -15564940,
   -15111591, -14667004, -14231123, -13803887, -13385236, -12975108, -12573439, -12180166, -11795223, -11418544,
   -11050059, -10689700, -10337396, -9993075, -9656664, -9328089, -9007272, -8694138, -8388608, -8090601,
   -7800038, -7516834, -7240906, -6972170, -6710539, -6455924, -6208237, -5967389, -5733286, -5505837, -5284948,
   -5070522, -4862465, -4660679, -4465064, -4275523, -4091953, -3914254, -3742322, -3576056, -3415349, -3260098,
   -3110197, -2965539, -2826017, -2691524, -2561952, -2437193, -2317137, -2201676]
def tabPHI8 : List Int :=
  [-2090701, -1984103, -1881772, -1783599, -1689475, -1599292, -1512942, -1430315, -1351306, -1275806, -1203711,
   -1134914, -1069311, -1006799, -947275, -890638, -836788, -785626, -737056, -690980, -647305, -605937, -566787,
   -529764, -494782, -461754, -430597, -401228, -373570, -347543, -323072, -300084, -278507, -258272, -239313,
   -221563, -204962, -189447, -174962, -161449, -148855, -137127, -126217, -116076, -106659, -97922, -89824,
   -82324, -75385, -68971, -63048, -57583, -52546, -47907, -43640, -39717, -36116, -32811, -29783, -27010]
def tabPHI9 : List Int :=
  [-24473, -22155, -20038, -18107, -16348, -14746, -13289, -11966, -10764, -9674, -8687, -7793, -6985, -6255,
   -5597, -5003, -4467, -3986, -3553, -3164, -2816, -2503, -2223, -1973, -1749, -1549, -1370, -1212, -1070, -944,
   -832, -733, -645, -567, -498, -437, -383, -336, -294, -257, -224, -196, -171, -149, -129, -112, -98, -85, -73,
   -64, -55, -48, -41, -35, -31, -26, -23, -19, -17, -14]
def tabPHI10 : List Int :=
  [-12, -11, -9, -8, -7, -6, -5, -4, -3, -3, -3, -2, -2, -2, -1, -1, -1, -1, -1, -1, 0, 0, 0, 0, 0, 0, 0, 0, 0, 0,
   0, 0, 0, 0, 0, 0, 0, 0, 0, 0, 0, 0, 0, 0, 0, 0, 0, 0, 0, 0, 0, 0, 0, 0, 0, 0, 0, 0, 0, 0]
def tabPHI11 : List Int :=
  [0, 0, 0, 0, 0, 0, 0, 0, 0, 0, 0, 0, 0, 0, 0, 0, 0, 0, 0, 0, 0, 0, 0, 0, 0, 0, 0, 0, 0, 0, 0, 0, 0, 0, 0, 0, 0,
   0, 0, 0, 0, 0, 0, 0, 0]
/-- PHI[j] = 2^16 × 128 × log2 Φ(−14 + j/32), held at −2^31 below it (04 R107). -/
def tabPHI : List Int :=
  tabPHI0 ++ tabPHI1 ++ tabPHI2 ++ tabPHI3 ++ tabPHI4 ++ tabPHI5 ++ tabPHI6 ++ tabPHI7 ++ tabPHI8 ++ tabPHI9 ++ tabPHI10 ++ tabPHI11

def tabPHT0 : List Int :=
  [-2147483648, -2147483648, -2147483648, -2147483648, -2147483648, -2147483648, -2147483648, -2147483648,
   -2147483648, -2147483648, -2147483648, -2147483648, -2147483648, -2147483648, -2147483648, -2147483648,
   -2147483648, -2147483648, -2147483648, -2147483648, -2147483648, -2147483648, -2147483648, -2147483648,
   -2147483648, -2147483648, -2147483648, -2147483648, -2147483648, -2147483648, -2147483648, -2147483648,
   -2147483648, -2134028073, -2119841168, -2105719725, -2091663586, -2077672593, -2063746587, -2049885411,
   -2036088906, -2022356914, -2008689278, -1995085839, -1981546438, -1968070919, -1954659122, -1941310889,
   -1928026064, -1914804486, -1901645999, -1888550444, -1875517662, -1862547497, -1849639789, -1836794381,
   -1824011114, -1811289831, -1798630373, -1786032582]
def tabPHT1 : List Int :=
  [-1773496300, -1761021369, -1748607631, -1736254927, -1723963100, -1711731991, -1699561443, -1687451297,
   -1675401394, -1663411578, -1651481689, -1639611570, -1627801063, -1616050009, -1604358250, -1592725629,
   -1581151987, -1569637165, -1558181006, -1546783353, -1535444045, -1524162926, -1512939838, -1501774621,
   -1490667119, -1479617173, -1468624625, -1457689316, -1446811089, -1435989785, -1425225247, -1414517316,
   -1403865834, -1393270644, -1382731586, -1372248503, -1361821236, -1351449628, -1341133521, -1330872755,
   -1320667174, -1310516619, -1300420932, -1290379955, -1280393529, -1270461497, -1260583700, -1250759981,
   -1240990181, -1231274142, -1221611706, -1212002715, -1202447010, -1192944434, -1183494829, -1174098036,
   -1164753897, -1155462254, -1146222949, -1137035824]
def tabPHT2 : List Int :=
  [-1127900721, -1118817482, -1109785947, -1100805961, -1091877363, -1082999997, -1074173704, -1065398326,
   -1056673704, -1047999681, -1039376099, -1030802799, -1022279623, -1013806414, -1005383013, -997009261,
   -988685002, -980410076, -972184325, -964007592, -955879719, -947800546, -939769917, -931787673, -923853655,
   -915967707, -908129669, -900339383, -892596692, -884901437, -877253460, -869652603, -862098708, -854591617,
   -847131171, -839717213, -832349584, -825028127, -817752683, -810523093, -803339201, -796200848, -789107875,
   -782060125, -775057439, -768099659, -761186628, -754318187, -747494177, -740714442, -733978822, -727287160,
   -720639297, -714035076, -707474337, -700956924, -694482678, -688051441, -681663055, -675317361]
def tabPHT3 : List Int :=
  [-669014201, -662753418, -656534854, -650358349, -644223747, -638130888, -632079615, -626069770, -620101194,
   -614173730, -608287219, -602441503, -596636424, -590871824, -585147545, -579463429, -573819317, -568215052,
   -562650475, -557125428, -551639753, -546193292, -540785888, -535417380, -530087613, -524796427, -519543664,
   -514329166, -509152776, -504014334, -498913684, -493850666, -488825123, -483836896, -478885828, -473971760,
   -469094534, -464253992, -459449977, -454682328, -449950890, -445255503, -440596010, -435972251, -431384070,
   -426831309, -422313808, -417831409, -413383956, -408971289, -404593251, -400249683, -395940427, -391665325,
   -387424219, -383216951, -379043363, -374903296, -370796593, -366723096]
def tabPHT4 : List Int :=
  [-362682645, -358675084, -354700253, -350757996, -346848153, -342970567, -339125080, -335311533, -331529768,
   -327779627, -324060953, -320373586, -316717369, -313092144, -309497752, -305934036, -302400837, -298897997,
   -295425359, -291982763, -288570052, -285187068, -281833653, -278509647, -275214895, -271949236, -268712514,
   -265504570, -262325245, -259174382, -256051823, -252957409, -249890983, -246852386, -243841460, -240858048,
   -237901990, -234973129, -232071306, -229196364, -226348145, -223526489, -220731240, -217962239, -215219328,
   -212502349, -209811144, -207145554, -204505421, -201890588, -199300897, -196736188, -194196304, -191681087,
   -189190379, -186724022, -184281857, -181863727, -179469473, -177098938]
def tabPHT5 : List Int :=
  [-174751962, -172428389, -170128060, -167850816, -165596501, -163364956, -161156022, -158969542, -156805358,
   -154663311, -152543245, -150445000, -148368419, -146313344, -144279617, -142267081, -140275577, -138304948,
   -136355035, -134425683, -132516732, -130628025, -128759406, -126910716, -125081798, -123272496, -121482652,
   -119712109, -117960711, -116228300, -114514722, -112819819, -111143435, -109485416, -107845604, -106223846,
   -104619985, -103033868, -101465340, -99914248, -98380437, -96863755, -95364049, -93881168, -92414958,
   -90965271, -89531954, -88114859, -86713836, -85328736, -83959414, -82605721, -81267512, -79944641, -78636966,
   -77344342, -76066629, -74803684, -73555369, -72321544]
def tabPHT6 : List Int :=
  [-71102073, -69896820, -68705650, -67528430, -66365028, -65215314, -64079160, -62956438, -61847024, -60750793,
   -59667623, -58597396, -57539991, -56495293, -55463188, -54443562, -53436305, -52441310, -51458468, -50487676,
   -49528831, -48581833, -47646583, -46722987, -45810948, -44910377, -44021182, -43143277, -42276575, -41420993,
   -40576450, -39742867, -38920165, -38108269, -37307107, -36516605, -35736696, -34967309, -34208380, -33459843,
   -32721636, -31993697, -31275965, -30568383, -29870894, -29183440, -28505967, -27838422, -27180751, -26532903,
   -25894825, -25266469, -24647784, -24038720, -23439229, -22849262, -22268771, -21697708, -21136025, -20583673]
def tabPHT7 : List Int :=
  [-20040604, -19506770, -18982122, -18466611, -17960187, -17462800, -16974400, -16494934, -16024351, -15562598,
   -15109620, -14665364, -14229772, -13802789, -13384356, -12974413, -12572902, -12179759, -11794923, -11418328,
   -11049911, -10689602, -10337336, -9993041, -9656647, -9328082, -9007270, -8694138, -8388608, -8090602,
   -7800039, -7516840, -7240920, -6972197, -6710583, -6455993, -6208337, -5967526, -5733469, -5506072, -5285242,
   -5070884, -4862901, -4661195, -4465667, -4276218, -4092746, -3915148, -3743322, -3577163, -3416567, -3261426,
   -3111635, -2967086, -2827672, -2693283, -2563811, -2439146, -2319179, -2203800]
def tabPHT8 : List Int :=
  [-2092899, -1986365, -1884090, -1785963, -1691874, -1601714, -1515375, -1432749, -1353726, -1278202, -1206069,
   -1137222, -1071557, -1008971, -949361, -892627, -838670, -787391, -738693, -692482, -648664, -607147, -567841,
   -530657, -495510, -462315, -430988, -401450, -373622, -347426, -322788, -299637, -277900, -257511, -238402,
   -220510, -203772, -188129, -173523, -159898, -147201, -135379, -124384, -114168, -104685, -95892, -87747,
   -80210, -73242, -66809, -60875, -55408, -50376, -45750, -41502, -37606, -34036, -30769, -27783, -25058]
def tabPHT9 : List Int :=
  [-22572, -20309, -18250, -16379, -14682, -13145, -11753, -10495, -9360, -8336, -7415, -6586, -5843, -5176,
   -4579, -4045, -3569, -3144, -2765, -2429, -2131, -1866, -1632, -1425, -1243, -1082, -941, -817, -708, -612,
   -529, -456, -393, -338, -290, -248, -213, -182, -155, -132, -112, -95, -80, -68, -57, -48, -41, -34, -29, -24,
   -20, -17, -14, -11, -9, -8, -6, -5, -4, -4]
def tabPHT10 : List Int :=
  [-3, -2, -2, -2, -1, -1, -1, -1, -1, 0, 0, 0, 0, 0, 0, 0, 0, 0, 0, 0, 0, 0, 0, 0, 0, 0, 0, 0, 0, 0, 0, 0, 0, 0,
   0, 0, 0, 0, 0, 0, 0, 0, 0, 0, 0, 0, 0, 0, 0, 0, 0, 0, 0, 0, 0, 0, 0, 0, 0, 0]
def tabPHT11 : List Int :=
  [0, 0, 0, 0, 0, 0, 0, 0, 0, 0, 0, 0, 0, 0, 0, 0, 0, 0, 0, 0, 0, 0, 0, 0, 0, 0, 0, 0, 0, 0, 0, 0, 0, 0, 0, 0, 0,
   0, 0, 0, 0, 0, 0, 0, 0]
/-- PHT[j]: the same of the tanh form of GELUT (04 R107). -/
def tabPHT : List Int :=
  tabPHT0 ++ tabPHT1 ++ tabPHT2 ++ tabPHT3 ++ tabPHT4 ++ tabPHT5 ++ tabPHT6 ++ tabPHT7 ++ tabPHT8 ++ tabPHT9 ++ tabPHT10 ++ tabPHT11

end Sys2Proof.Machine
end

