-- ==== Sys2Proof/Machine/Numerics.lean ====
section
/-!
DEFINITION. Exact values and their one rounding into Poxel16, Poxel8, FP32 and FP64 (02 R34–R60), the product of the
lattice (03 R63–R66) and the expansion of weight codes (02 R57–R59). Every floor below is exact.
-/
namespace Sys2Proof.Machine

/-- An exact positive magnitude: `lin n d r q` is (n/d)^(1/r) × 2^(q/128); `log z f` is 2^(z / (128 × 2^f)). -/
inductive Mag where
  | lin (num den root : Nat) (q : Int)
  | log (z : Int) (f : Nat)
  deriving DecidableEq, Repr

/-- A source value of a conversion (02 R49, R56). The sign of a zero plays no part in a Poxel conversion. -/
inductive Val where
  | nan
  | inf (neg : Bool)
  | zero
  | fin (neg : Bool) (m : Mag)
  deriving DecidableEq, Repr

/-- How a result is rounded: RNE, stochastic with its draw u (02 R49), and the three KV1 ways of 04 R113. -/
inductive Rounding where
  | rne
  | sto (u : Nat)
  | away
  | toZero
  | tiesUp
  deriving DecidableEq, Repr

/-- 2^e ≤ n/d. -/
def pow2Le (n d : Nat) (e : Int) : Bool :=
  if 0 ≤ e then d * 2 ^ e.toNat ≤ n else d ≤ n * 2 ^ (-e).toNat

/-- ⌊log2 (n/d)⌋ for positive n and d. -/
def floorLog2 (n d : Nat) : Int :=
  let e : Int := (Nat.log2 n : Int) - Nat.log2 d
  if pow2Le n d e then e else e - 1

/-- n/d is exactly 2^e. -/
def isPow2 (n d : Nat) (e : Int) : Bool :=
  if 0 ≤ e then d * 2 ^ e.toNat == n else d == n * 2 ^ (-e).toNat

/-- Binary digits of log2 of a number held between lo and hi (units of 2^−96, in [1, 2)), by repeated squaring; none where the bounds part. -/
def fracLog : Nat → Nat → Nat → Nat → Option Nat
  | 0, _, _, acc => some acc
  | k + 1, lo, hi, acc =>
    let l := lo * lo / 2 ^ 96
    let h := hi * hi / 2 ^ 96 + 1
    if 2 ^ 97 ≤ l then fracLog k (l / 2) (h / 2 + 1) (2 * acc + 1)
    else if h < 2 ^ 97 then fracLog k l h (2 * acc)
    else none

/-- ⌊2^k × log2 (n/d)⌋: from bounds where they settle it, else from the power itself. -/
def floorLog2Pow (k n d : Nat) : Int :=
  let e := floorLog2 n d
  let num := if 0 ≤ e then n else n * 2 ^ (-e).toNat
  let den := if 0 ≤ e then d * 2 ^ e.toNat else d
  if num == den then e * (2 ^ k : Nat)
  else
    let lo := num * 2 ^ 96 / den
    match fracLog k lo (lo + 1) 0 with
    | some f => e * (2 ^ k : Nat) + f
    | none => floorLog2 (n ^ 2 ^ k) (d ^ 2 ^ k)

/-- ⌊2^k × 128 × log2 a⌋. -/
def Mag.floorT (a : Mag) (k : Nat) : Int :=
  match a with
  | .lin n d r q => (floorLog2Pow (k + 7) n d + (r : Int) * q * (2 ^ k : Nat)) / (r : Int)
  | .log z f => z * (2 ^ k : Nat) / (2 ^ f : Nat)

/-- 256 × log2 a is an integer. -/
def Mag.exactT (a : Mag) : Bool :=
  match a with
  | .lin n d r _ => isPow2 n d (floorLog2 n d) && (256 * floorLog2 n d) % (r : Int) == 0
  | .log z f => (2 * z) % (2 ^ f : Nat) == 0

/-- The magnitude times 2^(s/128). -/
def Mag.shift (a : Mag) (s : Int) : Mag :=
  match a with
  | .lin n d r q => .lin n d r (q + s)
  | .log z f => .log (z + s * (2 ^ f : Nat)) f

/-- ⌊log2 a⌋. -/
def Mag.floorL (a : Mag) : Int := a.floorT 0 / 128

/-- Largest n below 2^bits (built from its high bit down) that `le` accepts. -/
def searchBits (le : Nat → Bool) : Nat → Nat → Nat
  | 0, acc => acc
  | b + 1, acc => searchBits le b (if le (acc + 2 ^ b) then acc + 2 ^ b else acc)

/-- Bounds of 2^(r / 2^m) in units of 2^−160: the product of the square roots of 2 that the bits of r select. -/
def exp2Bounds : Nat → Nat → Nat × Nat → Nat × Nat → Nat × Nat
  | 0, _, _, acc => acc
  | m + 1, r, (cl, ch), (al, ah) =>
    let l := Nat.sqrt (cl * 2 ^ 160)
    let h := Nat.sqrt (ch * 2 ^ 160) + 1
    if 2 ^ m ≤ r then exp2Bounds m (r - 2 ^ m) (l, h) (al * l / 2 ^ 160, ah * h / 2 ^ 160 + 1)
    else exp2Bounds m r (l, h) (al, ah)

/-- ⌊a × 2^k⌋, and whether a × 2^k is an integer. -/
def Mag.floorLin (a : Mag) (k : Int) : Nat × Bool :=
  match a with
  | .lin n d r q =>
    if q % 128 == 0 && r == 1 then
      let e := q / 128 + k
      let num := if 0 ≤ e then n * 2 ^ e.toNat else n
      let den := if 0 ≤ e then d else d * 2 ^ (-e).toNat
      (num / den, num % den == 0)
    else
      let e : Int := (r : Int) * q + 128 * (r : Int) * k
      let num := if 0 ≤ e then n ^ 128 * 2 ^ e.toNat else n ^ 128
      let den := if 0 ≤ e then d ^ 128 else d ^ 128 * 2 ^ (-e).toNat
      let top := ((floorLog2Pow 7 n d + (r : Int) * q) / (128 * (r : Int)) + k + 1).toNat
      let v := searchBits (fun x => x ^ (128 * r) * den ≤ num) top 0
      (v, v ^ (128 * r) * den == num)
  | .log z f =>
    let m := f + 7
    let w := z + k * (2 ^ m : Nat)
    let i := w / (2 ^ m : Nat)
    let r := (w % (2 ^ m : Nat)).toNat
    if i < 0 then (0, false)
    else if r == 0 then (2 ^ i.toNat, true)
    else
      let (lo, hi) := exp2Bounds m r (2 ^ 161, 2 ^ 161) (2 ^ 160, 2 ^ 160)
      let l := lo * 2 ^ i.toNat / 2 ^ 160
      let h := hi * 2 ^ i.toNat / 2 ^ 160
      if l == h then (l, false)
      else (searchBits (fun x => x ^ 2 ^ m ≤ 2 ^ w.toNat) (i.toNat + 1) 0, false)

/-- rnd of 02 R49 from ⌊2t⌋ and whether 2t is an integer. -/
def roundHalf (mode : Rounding) (h : Int) (exact : Bool) : Int :=
  let f := h / 2
  match mode with
  | .toZero => if exact && h % 2 == 0 then f else if 0 ≤ h then f else f + 1
  | .away => if h % 2 == 0 then f else if exact && h < 0 then f else f + 1
  | .tiesUp => if h % 2 == 0 then f else f + 1
  | _ => if h % 2 == 0 then f else if exact && f % 2 == 0 then f else f + 1

/-- The stochastic rnd of 02 R49 from ⌊65,536 t⌋ and the draw. -/
def roundDraw (u : Nat) (s : Int) : Int :=
  s / 65536 + (if (u : Int) < s % 65536 then 1 else 0)

/-- rnd(128 × log2 a / 2^sub) (02 R49 with sub = 0, R50 with sub = 3). -/
def Mag.rndLog (a : Mag) (sub : Nat) (mode : Rounding) : Int :=
  match mode with
  | .sto u => roundDraw u (a.floorT 16 / (2 ^ sub : Nat))
  | m =>
    let h := a.floorT 1
    roundHalf m (h / (2 ^ sub : Nat)) (a.exactT && h % (2 ^ sub : Nat) == 0)

/-- rnd(a × 2^k). -/
def Mag.rndLin (a : Mag) (k : Int) (mode : Rounding) : Nat :=
  match mode with
  | .sto u => (roundDraw u (a.floorLin (k + 16)).1).toNat
  | m => let (h, e) := a.floorLin (k + 1); (roundHalf m h e).toNat

/-! CVT_STAT bits (02 R60). -/
def cvTail : Nat := 1
def cvNanIn : Nat := 2
def cvUfz : Nat := 4
def cvInfOut : Nat := 8
def cvSat8 : Nat := 16
def cvInfSat8 : Nat := 32

/-- A code and the CVT_STAT bits its conversion sets. -/
structure Conv where
  code : Nat
  st : Nat
  deriving DecidableEq, Repr

/-- A Poxel16 word from its sign and L (02 R36). -/
def px16 (neg : Bool) (l : Int) : Nat := b2n neg * 32768 + unsigned 15 l

/-- Conversion into Poxel16 (02 R49, R56). -/
def toPx16 (v : Val) (mode : Rounding) : Conv :=
  match v with
  | .nan => ⟨0xC000, cvNanIn⟩
  | .inf s => ⟨px16 s 16383, 0⟩
  | .zero => ⟨0x4000, 0⟩
  | .fin s a =>
    let l := a.floorL
    if l < -134 then ⟨0x4000, cvUfz⟩
    else if l < -127 then
      let k := a.rndLin 134 mode
      ⟨px16 s (-16384 + k), if k < 128 then cvTail else 0⟩
    else
      let r := a.rndLog 0 mode
      if 16383 ≤ r then ⟨px16 s 16383, cvInfOut⟩ else ⟨px16 s r, 0⟩

/-- Conversion of one element into Poxel8 under a block scale e and a coarse scale of L = lc (02 R50, R56). -/
def toPx8 (v : Val) (e lc : Int) (mode : Rounding) : Conv :=
  match v with
  | .nan => ⟨0xC0, cvNanIn⟩
  | .inf s => ⟨b2n s * 128 + 63, cvInfSat8⟩
  | .zero => ⟨0x40, 0⟩
  | .fin s a0 =>
    let a := a0.shift (-(128 * e) - lc)
    let l := a.floorL
    let c (x : Int) : Nat := b2n s * 128 + unsigned 7 x
    if l < -7 then ⟨0x40, cvUfz⟩
    else if l < -3 then
      let k := a.rndLin 7 mode
      ⟨c (-64 + k), if k < 16 then cvTail else 0⟩
    else
      let r := a.rndLog 3 mode
      if 63 < r then ⟨c 63, cvSat8⟩ else ⟨c r, 0⟩

/-- The fine block scale of a block of source values (02 R48). -/
def blockScale (vs : List Val) (lc : Int) : Int :=
  let tops := vs.filterMap fun v => match v with
    | .fin _ a => some ((a.shift (-lc)).floorT 0)
    | _ => none
  match tops with
  | [] => if vs.any (fun v => match v with | .nan | .inf _ => true | _ => false) then 0 else -128
  | t :: ts => clampInt (-127) 127 ((ts.foldl max t - 508) / 128 + 1)

/-- The value of a Poxel16 word (02 R37). -/
def px16Val (w : Nat) : Val :=
  let s := bitOf w 15
  let l := signed 15 w
  if l == -16384 then (if s then .nan else .zero)
  else if l == 16383 then .inf s
  else if l < -16256 then .fin s (.lin (l + 16384).toNat 1 1 (-134 * 128))
  else .fin s (.lin 1 1 1 l)

/-- The value of a Poxel8 code under a block scale byte and a coarse scale of L = lc (02 R39, R43, R45). -/
def px8Val (c : Nat) (scale : Nat) (lc : Int) : Val :=
  let s := bitOf c 7
  let l := signed 7 c
  let sc := signed 8 scale
  if sc == -128 then .zero
  else if l == -64 then (if s then .nan else .zero)
  else if l < -48 then .fin s (.lin (l + 64).toNat 1 1 (-7 * 128 + 128 * sc + lc))
  else .fin s (.lin 1 1 1 (8 * l + 128 * sc + lc))

/-- The value scaled by 2^(s/128) (02 R47). -/
def Val.shift (v : Val) (s : Int) : Val :=
  match v with
  | .fin n m => .fin n (m.shift s)
  | v => v

/-- The value of a binary floating-point word with p significand bits and w exponent bits. -/
def fpVal (p w : Nat) (x : Nat) : Val :=
  let man := x % 2 ^ (p - 1)
  let ex := x / 2 ^ (p - 1) % 2 ^ w
  let s := bitOf x (p - 1 + w)
  let bias : Int := (2 ^ (w - 1) : Nat) - 1
  if ex == 2 ^ w - 1 then (if man == 0 then .inf s else .nan)
  else if ex == 0 then
    (if man == 0 then .zero else .fin s (.lin man 1 1 (128 * (1 - bias - (p - 1 : Nat)))))
  else .fin s (.lin (man + 2 ^ (p - 1)) 1 1 (128 * ((ex : Int) - bias - (p - 1 : Nat))))

def fp32Val (x : Nat) : Val := fpVal 24 8 x
def fp64Val (x : Nat) : Val := fpVal 53 11 x

/-- Conversion of a value into a binary format under roundTiesToEven, subnormals kept (02 R55, R56). -/
def toFp (p w : Nat) (v : Val) : Conv :=
  let infE := (2 ^ w - 1) * 2 ^ (p - 1)
  let sgn (s : Bool) : Nat := b2n s * 2 ^ (p - 1 + w)
  let bias : Int := (2 ^ (w - 1) : Nat) - 1
  match v with
  | .nan => ⟨infE + 2 ^ (p - 2), cvNanIn⟩
  | .inf s => ⟨sgn s + infE, 0⟩
  | .zero => ⟨0, 0⟩
  | .fin s a =>
    let e := max a.floorL (1 - bias)
    let n := a.rndLin (-(e - (p - 1 : Nat))) .rne
    if n == 0 then ⟨sgn s, cvUfz⟩
    else
      let body := n + 2 ^ (p - 1) * (e + bias - 1).toNat
      if infE ≤ body then ⟨sgn s + infE, cvInfOut⟩ else ⟨sgn s + body, 0⟩

def toFp32 (v : Val) : Conv := toFp 24 8 v
def toFp64 (v : Val) : Conv := toFp 53 11 v

/-! Order, sign operations, maximum and minimum of Poxel16 codes (02 R40–R42). -/

def pxNan : Nat := 0xC000
def pxZero : Nat := 0x4000

/-- The ordering key of a Poxel16 code (02 R40). -/
def key16 (w : Nat) : Int :=
  let m : Int := ((w % 32768) ^^^ 0x4000 : Nat)
  if bitOf w 15 then -m else m

/-- Negation of a Poxel16 word (02 R41). -/
def px16Neg (w : Nat) : Nat := if w == pxZero || w == pxNan then w else w ^^^ 0x8000

/-- Absolute value of a Poxel16 word (02 R41). -/
def px16Abs (w : Nat) : Nat := if w == pxNan then w else w % 32768

/-- Maximum of two Poxel16 words (02 R42). -/
def px16Max (a b : Nat) : Nat :=
  if a == pxNan then b else if b == pxNan then a else if key16 a < key16 b then b else a

/-- Minimum of two Poxel16 words (02 R42). -/
def px16Min (a b : Nat) : Nat :=
  if a == pxNan then b else if b == pxNan then a else if key16 b < key16 a then b else a

/-- A word that can be a scale: a positive normal Poxel16 (02 R46). -/
def isScale (w : Nat) : Bool := w ≤ 0x3FFE || (0x4080 ≤ w && w ≤ 0x7FFF)

/-- L of a Poxel16 word. -/
def pxL (w : Nat) : Int := signed 15 w

/-- A finite Poxel16 word: neither NaN nor an infinity. -/
def isFinite16 (w : Nat) : Bool := w != pxNan && w % 32768 != 0x3FFF

/-- LINT(n) = rnd(128 × log2 n, RNE) (02 R58). -/
def lint (n : Nat) : Int := (Mag.lin n 1 1 0).rndLog 0 .rne

/-- A Poxel16 word times a scale word, rounded with RNE where it does not stay normal (02 R47). -/
def scalePx16 (w s : Nat) : Conv := toPx16 ((px16Val w).shift (pxL s)) .rne

/-- The zero-point expansion (q − z) × s (02 R58). -/
def zeroPointExpand (d : Int) (s : Nat) : Conv :=
  if d == 0 then ⟨pxZero, 0⟩
  else toPx16 (.fin (d < 0) (.lin 1 1 1 (lint d.natAbs + pxL s))) .rne

/-! The product and its contribution (03 R63–R66). -/

/-- What a product brings to a Hearth element (03 R64). -/
inductive Contribution where
  | none
  | fin (c : Int) (clamped : Bool)
  | inf (neg : Bool)
  | nan
  deriving DecidableEq, Repr

def maxV : Int := 2 ^ 47 - 1

/-- A word in the linear tail. -/
def isTail16 (w : Nat) : Bool := pxL w < -16256 && pxL w != -16384

/-- The integer contribution of two finite nonzero operands (03 R66). -/
def finContribution (a b : Nat) (anchor : Int) : Contribution :=
  let s := bitOf a 15 != bitOf b 15
  let la := pxL a
  let lb := pxL b
  let (m, sh) : Nat × Int :=
    if !isTail16 a && !isTail16 b then
      (tabT.getD ((la + lb) % 128).toNat 0, (la + lb) / 128 - anchor)
    else if isTail16 a && isTail16 b then
      ((la + 16384).toNat * (lb + 16384).toNat, -245 - anchor)
    else
      let k := (if isTail16 a then la else lb) + 16384
      let l := if isTail16 a then lb else la
      (k.toNat * tabT.getD (l % 128).toNat 0, l / 128 - 134 - anchor)
  let raw : Nat :=
    if 48 ≤ sh then 2 ^ 48 else if 0 ≤ sh then m * 2 ^ sh.toNat else m / 2 ^ (-sh).toNat
  let mag := min raw (2 ^ 47 - 1)
  .fin (if s then -(mag : Int) else mag) (2 ^ 47 - 1 < raw)

/-- The product of two Poxel16 operands at an anchor (03 R64). -/
def contribution (a b : Nat) (anchor : Int) : Contribution :=
  let ia := a % 32768 == 0x3FFF
  let ib := b % 32768 == 0x3FFF
  let s := bitOf a 15 != bitOf b 15
  if a == pxNan || b == pxNan then .nan
  else if ia || ib then (if a == pxZero || b == pxZero then .nan else .inf s)
  else if a == pxZero || b == pxZero then .none
  else finContribution a b anchor

/-! The Hearth element (03 R68, R69): a 64-bit word with ST in [49:48] and V in [47:0]. -/

/-- A Hearth element, or a partial of a reduction. -/
structure HElem where
  v : Int
  st : Nat
  deriving DecidableEq, Repr

def HElem.zero : HElem := ⟨0, 0⟩

/-- The element a 64-bit word holds (03 R68). -/
def HElem.ofWord (w : Nat) : HElem := ⟨signed 48 w, bits w 49 48⟩

/-- The 64-bit word of an element (03 R68). -/
def HElem.word (e : HElem) : Nat := (e.st % 4) * 2 ^ 48 + unsigned 48 e.v

/-- The two non-finite elements (03 R68). -/
def HElem.infinity (neg : Bool) : HElem := ⟨if neg then -maxV else maxV, 2⟩
def HElem.nan : HElem := ⟨0, 3⟩

/-- What an add reports: SAT, NF, and that the element turned to NaN (03 R69). -/
structure AddFlags where
  sat : Bool
  nf : Bool
  toNan : Bool
  deriving DecidableEq, Repr

/-- The add of a contribution under a limit on the magnitude (03 R69 with 2^47 − 1, R72 with 2^63 − 1). -/
def HElem.add (limit : Int) (e : HElem) (c : Contribution) : HElem × AddFlags :=
  match c with
  | .none => (e, ⟨false, false, false⟩)
  | .fin x cl =>
    if e.st < 2 then
      let sum := e.v + x
      let r := clampInt (-limit) limit sum
      let sat := cl || r != sum
      (⟨r, if sat then 1 else e.st⟩, ⟨sat, false, false⟩)
    else (e, ⟨false, false, false⟩)
  | .inf s =>
    if e.st < 2 then (.infinity s, ⟨false, true, false⟩)
    else if e.st == 2 && (e.v < 0) != s then (.nan, ⟨false, true, true⟩)
    else (e, ⟨false, false, false⟩)
  | .nan => if e.st == 3 then (e, ⟨false, false, false⟩) else (.nan, ⟨false, true, true⟩)

/-- A partial as a contribution of its class (03 R72). -/
def HElem.contribution (e : HElem) : Contribution :=
  if e.st == 2 then .inf (e.v < 0) else if e.st == 3 then .nan else .fin e.v false

/-- The exact value of a Hearth element at an anchor (03 R88). -/
def HElem.val (e : HElem) (anchor : Int) : Val :=
  if e.st == 3 then .nan
  else if e.st == 2 then .inf (e.v < 0)
  else if e.v == 0 then .zero
  else .fin (e.v < 0) (.lin e.v.natAbs 1 1 (128 * (anchor - 23)))

end Sys2Proof.Machine
end

