-- ==== Sys2Proof/Machine/HistoryRecord.lean ====
section
/-!
DEFINITION. The scale history record as data (05 R125): its fields, observations, commit and discard, its window and the
scale and anchor derived from it (05 R126, R127, R129, R130).
-/
namespace Sys2Proof.Machine

/-! ## The record (05 R125) -/

/-- A scale history record, field by field. -/
structure ShRec where
  ent : List Nat
  pend0 : Nat
  pend1 : Nat
  step0 : Nat
  step1 : Nat
  cstep : Nat
  len : Nat
  head : Nat
  nval : Nat
  flags : Nat
  tgt : Nat
  scale : Nat
  hscale : Nat
  pch : Nat
  hdr : Nat
  hstep : Nat
  haddr : Nat
  rest : Nat
  deriving DecidableEq, Repr

/-- The record 128 little-endian bytes hold. -/
def ShRec.ofNat (n : Nat) : ShRec where
  ent := (List.range 32).map fun i => bits n (16 * i + 15) (16 * i)
  pend0 := bits n 527 512
  pend1 := bits n 543 528
  step0 := bits n 575 544
  step1 := bits n 607 576
  cstep := bits n 639 608
  len := bits n 647 640
  head := bits n 655 648
  nval := bits n 663 656
  flags := bits n 671 664
  tgt := bits n 687 672
  scale := bits n 703 688
  hscale := bits n 719 704
  pch := bits n 727 720
  hdr := bits n 735 728
  hstep := bits n 767 736
  haddr := bits n 831 768
  rest := bits n 1023 832

def ShRec.bytes (r : ShRec) : List Byte :=
  (r.ent.flatMap (leBytes 2)) ++ leBytes 2 r.pend0 ++ leBytes 2 r.pend1 ++ leBytes 4 r.step0 ++ leBytes 4 r.step1 ++ leBytes 4 r.cstep
    ++ leBytes 1 r.len ++ leBytes 1 r.head ++ leBytes 1 r.nval ++ leBytes 1 r.flags ++ leBytes 2 r.tgt ++ leBytes 2 r.scale
    ++ leBytes 2 r.hscale ++ leBytes 1 r.pch ++ leBytes 1 r.hdr ++ leBytes 4 r.hstep ++ leBytes 8 r.haddr ++ leBytes 24 r.rest

def ShRec.p0v (r : ShRec) : Bool := bitOf r.flags 0
def ShRec.p1v (r : ShRec) : Bool := bitOf r.flags 1

/-- FLAGS with a bit set: 2 EMPTY, 3 HOST_LATE, 4 MARI_DIFF, 5 MISS, 6 OVERRUN. -/
def ShRec.mark (r : ShRec) (i : Nat) : ShRec := { r with flags := r.flags ||| 2 ^ i }

/-- FLAGS with P0V and P1V replaced. -/
def ShRec.valid (r : ShRec) (p0 p1 : Bool) : ShRec := { r with flags := r.flags / 4 * 4 + b2n p0 + 2 * b2n p1 }

/-- Fields that every instruction that reads the record refuses (05 R125, R138). -/
def ShRec.bad (r : ShRec) : Bool := r.len == 0 || 32 < r.len || 7 < r.hdr || 15 < r.pch

/-- SHOBS of a word for step s; the flag says the observation was refused (05 R126). -/
def ShRec.observe (r : ShRec) (word step : Nat) : ShRec × Bool :=
  if step ≤ r.cstep && 0 < r.nval then (r.mark 6, true)
  else if r.p0v && r.step0 == step then ({ r with pend0 := px16Max r.pend0 word }, false)
  else if r.p1v && r.step1 == step then ({ r with pend1 := px16Max r.pend1 word }, false)
  else if !r.p0v then ({ r with pend0 := word, step0 := step }.valid true r.p1v, false)
  else if !r.p1v && r.step0 < step then ({ r with pend1 := word, step1 := step }.valid true true, false)
  else (r.mark 6, true)

/-- Commit(s): none where no matching pending entry is held (05 R127). -/
def ShRec.commit (r : ShRec) (step : Nat) : Option ShRec :=
  if r.p0v && r.step0 == step then
    let h := (r.head + 1) % 32
    some ({ r with
      head := h, ent := r.ent.set h r.pend0, nval := min (r.nval + 1) 32, cstep := step
      pend0 := r.pend1, step0 := r.step1 }.valid r.p1v false)
  else none

/-- Discard(s), and how many pending entries it clears (05 R127). -/
def ShRec.discard (r : ShRec) (step : Nat) : ShRec × Nat :=
  let d0 := r.p0v && step ≤ r.step0
  let d1 := r.p1v && step ≤ r.step1
  (r.valid (r.p0v && !d0) (r.p1v && !d1), b2n d0 + b2n d1)

/-- The window of a record for step s: pending entries below s and committed entries, newest first (05 R129). -/
def ShRec.window (r : ShRec) (step : Nat) : List Nat :=
  let pend := (if r.p1v && r.step1 < step then [r.pend1] else []) ++ (if r.p0v && r.step0 < step then [r.pend0] else [])
  let committed := (List.range (min r.nval 32)).map fun i => r.ent.getD ((r.head + 32 - i) % 32) pxZero
  (pend ++ committed).take r.len

/-- The largest L of a window; none where it holds nothing but 0x4000 (05 R129). -/
def ShRec.largest (r : ShRec) (step : Nat) : Option Int :=
  match (r.window step).filter (· != pxZero) with
  | [] => none
  | w :: ws => some (ws.foldl (fun m x => max m (pxL x)) (pxL w))

/-- The derived scale, and whether the window is empty (05 R129). -/
def ShRec.derive (r : ShRec) (step : Nat) : Nat × Bool :=
  match r.largest step with
  | none => (0, true)
  | some lh => (px16 false (clampInt (-16256) 16382 (lh - signed 16 r.tgt)), false)

/-- EA and EB of an anchor (05 R130). -/
def ShRec.exponent (r : ShRec) (step : Nat) : Int :=
  match r.largest step with
  | none => 0
  | some lh => (lh + 127) / 128

/-- ⌈log2 k⌉ for k of 1 or more. -/
def clog2 (k : Nat) : Nat := if k ≤ 1 then 0 else Nat.log2 (k - 1) + 1

/-- The anchor of two records and a reduction length (05 R130). -/
def anchorOf (a b : ShRec) (k step : Nat) : Int :=
  clampInt (-512) 511 (a.exponent step + b.exponent step + clog2 k + a.hdr - 24)

end Sys2Proof.Machine
end

