-- ==== Sys2Proof/Machine/Objects.lean ====
section
/-!
DEFINITION. The objects of the dictionary, as the object tables of the chapters list them (13 R307–R310, R327, R328 and
the tables of the other chapters): index, subindex, type, access class, scope, length, default and range.
-/
namespace Sys2Proof.Machine

/-- The types of R309 as far as objects use them. -/
inductive ObjType where
  | bool | uint | sint | fp64 | text | blob
  deriving DecidableEq, Repr

/-- The access classes of R310; no object of this stepping is RW1. -/
inductive ObjAccess where
  | ro | rw | wo | rwl | rc
  deriving DecidableEq, Repr

/-- The deliveries an object's function exists on (00_scope R2). -/
inductive ObjOn where
  | both | kv2c | kv2p
  deriving DecidableEq, Repr

/-- One row of an object table. `len` 0 is a length that varies; a range 0–0 takes whatever the type and its own rule take.
A BLOB of fixed length stands as its little-endian number, one whose length varies as that of its bytes followed by 1. -/
structure ObjRow where
  index : Nat
  sub : Nat
  type : ObjType
  access : ObjAccess
  scopeP : Bool
  len : Nat
  dflt : Nat
  lo : Int
  hi : Int
  on : ObjOn
  deriving DecidableEq, Repr

def objRows1 : List ObjRow := [
  ⟨0x1000, 0x00, .uint, .ro, false, 1, 11, 0, 0, .both⟩,
  ⟨0x1000, 0x01, .uint, .ro, false, 2, 0x4d44, 0, 0, .both⟩,
  ⟨0x1000, 0x02, .uint, .ro, false, 2, 0x4b32, 0, 0, .both⟩,
  ⟨0x1000, 0x03, .uint, .ro, false, 1, 176, 0, 0, .both⟩,
  ⟨0x1000, 0x04, .uint, .ro, false, 1, 0, 0, 0, .both⟩,
  ⟨0x1000, 0x05, .uint, .ro, false, 1, 64, 0, 0, .both⟩,
  ⟨0x1000, 0x06, .uint, .ro, false, 8, 0, 0, 0, .both⟩,
  ⟨0x1000, 0x07, .uint, .ro, false, 4, 0x20000, 0, 0, .both⟩,
  ⟨0x1000, 0x08, .uint, .ro, false, 4, 0, 0, 0, .both⟩,
  ⟨0x1000, 0x09, .blob, .ro, false, 48, 0, 0, 0, .both⟩,
  ⟨0x1000, 0x0A, .text, .ro, false, 0, 0x132206d75726f5620616d6f6e7261654b, 0, 0, .both⟩,
  ⟨0x1000, 0x0B, .uint, .ro, false, 2, 512, 0, 0, .both⟩,
  ⟨0x1100, 0x01, .bool, .rwl, false, 1, 0, 0, 1, .both⟩,
  ⟨0x1100, 0x02, .bool, .rwl, true, 1, 0, 0, 1, .both⟩,
  ⟨0x1100, 0x03, .bool, .rwl, false, 1, 1, 0, 1, .both⟩,
  ⟨0x1110, 0x01, .uint, .rc, true, 4, 0, 0, 0, .both⟩,
  ⟨0x1110, 0x02, .uint, .rc, true, 4, 0, 0, 0, .both⟩,
  ⟨0x1110, 0x03, .uint, .rc, true, 4, 0, 0, 0, .both⟩,
  ⟨0x1110, 0x04, .uint, .rc, true, 4, 0, 0, 0, .both⟩,
  ⟨0x1110, 0x05, .uint, .ro, true, 4, 0, 0, 0, .both⟩,
  ⟨0x1110, 0x06, .uint, .rc, true, 4, 0, 0, 0, .both⟩,
  ⟨0x1111, 0x01, .uint, .rc, false, 4, 0, 0, 0, .both⟩,
  ⟨0x1111, 0x02, .uint, .rc, false, 4, 0, 0, 0, .both⟩,
  ⟨0x1111, 0x03, .uint, .rc, false, 4, 0, 0, 0, .both⟩,
  ⟨0x1111, 0x04, .uint, .rc, false, 4, 0, 0, 0, .both⟩,
  ⟨0x1111, 0x05, .uint, .ro, false, 4, 0, 0, 0, .both⟩,
  ⟨0x1111, 0x06, .uint, .rc, false, 4, 0, 0, 0, .both⟩,
  ⟨0x1120, 0x01, .blob, .rc, true, 16, 0, 0, 0, .both⟩,
  ⟨0x1120, 0x02, .uint, .ro, true, 1, 0, 0, 0, .both⟩,
  ⟨0x1120, 0x03, .uint, .rc, true, 4, 0, 0, 0, .both⟩,
  ⟨0x1120, 0x04, .uint, .rc, true, 4, 0, 0, 0, .both⟩,
  ⟨0x1121, 0x01, .blob, .rc, false, 16, 0, 0, 0, .both⟩,
  ⟨0x1121, 0x02, .uint, .ro, false, 1, 0, 0, 0, .both⟩,
  ⟨0x1121, 0x03, .uint, .rc, false, 4, 0, 0, 0, .both⟩,
  ⟨0x1121, 0x04, .uint, .rc, false, 4, 0, 0, 0, .both⟩]

def objRows2 : List ObjRow := [
  ⟨0x2000, 0x01, .uint, .rw, false, 1, 4, 0, 255, .both⟩,
  ⟨0x2000, 0x02, .uint, .ro, false, 1, 4, 0, 0, .both⟩,
  ⟨0x2000, 0x03, .uint, .ro, false, 1, 0, 0, 0, .both⟩,
  ⟨0x2000, 0x04, .uint, .rw, false, 4, 33, 1, 0x50000, .both⟩,
  ⟨0x2000, 0x05, .uint, .rw, false, 4, 3277, 1, 0x320000, .both⟩,
  ⟨0x2000, 0x06, .uint, .rw, false, 1, 2, 0, 2, .both⟩,
  ⟨0x2000, 0x07, .uint, .rc, false, 4, 0, 0, 0, .both⟩,
  ⟨0x2000, 0x08, .uint, .ro, false, 1, 0, 0, 0, .both⟩,
  ⟨0x2000, 0x09, .uint, .ro, false, 8, 0, 0, 0, .both⟩,
  ⟨0x2000, 0x0A, .uint, .ro, false, 1, 0, 0, 0, .both⟩,
  ⟨0x2000, 0x0B, .uint, .rc, false, 4, 0, 0, 0, .both⟩,
  ⟨0x2010, 0x01, .uint, .rwl, false, 4, 0, 100, 0x61a80, .both⟩,
  ⟨0x2010, 0x02, .uint, .ro, false, 4, 0, 0, 0, .both⟩,
  ⟨0x2010, 0x03, .uint, .rw, false, 1, 5, 1, 25, .both⟩,
  ⟨0x2010, 0x04, .uint, .ro, false, 8, 0, 0, 0, .both⟩,
  ⟨0x2010, 0x05, .uint, .rc, false, 4, 0, 0, 0, .both⟩,
  ⟨0x2010, 0x06, .uint, .rc, false, 4, 0, 0, 0, .both⟩,
  ⟨0x2020, 0x01, .uint, .rw, true, 1, 7, 0, 7, .both⟩,
  ⟨0x2020, 0x02, .blob, .ro, false, 64, 0x30303030303030303030303030303030303030303030303030303030303030303030303030303030303030303030303030303030303030303030303030303030, 0, 0, .both⟩,
  ⟨0x2020, 0x03, .uint, .rw, true, 4, 33, 1, 0x50000, .both⟩,
  ⟨0x2020, 0x04, .uint, .rw, false, 4, 33, 1, 0x50000, .both⟩,
  ⟨0x2030, 0x01, .sint, .ro, false, 2, 0, 0, 0, .both⟩,
  ⟨0x2030, 0x02, .sint, .rwl, false, 2, 95, 60, 115, .both⟩,
  ⟨0x2030, 0x03, .sint, .rwl, false, 2, 105, 70, 120, .both⟩,
  ⟨0x2030, 0x04, .sint, .rwl, false, 2, 115, 100, 125, .both⟩,
  ⟨0x2030, 0x05, .blob, .ro, false, 32, 0, 0, 0, .both⟩,
  ⟨0x2030, 0x06, .uint, .ro, false, 2, 0, 0, 0, .both⟩,
  ⟨0x2030, 0x07, .uint, .rc, false, 4, 0, 0, 0, .both⟩,
  ⟨0x2030, 0x08, .uint, .ro, false, 4, 0, 0, 0, .both⟩,
  ⟨0x2040, 0x01, .uint, .ro, false, 4, 0, 0, 0, .both⟩,
  ⟨0x2040, 0x02, .uint, .rc, false, 4, 0, 0, 0, .both⟩,
  ⟨0x2040, 0x03, .uint, .ro, false, 1, 0, 0, 0, .both⟩,
  ⟨0x2040, 0x04, .bool, .ro, false, 1, 0, 0, 0, .both⟩]

def objRows3 : List ObjRow := [
  ⟨0x3000, 0x01, .uint, .ro, false, 1, 0, 0, 0, .both⟩,
  ⟨0x3000, 0x02, .uint, .ro, false, 1, 1, 0, 0, .both⟩,
  ⟨0x3000, 0x03, .uint, .wo, false, 1, 0, 1, 2, .both⟩,
  ⟨0x3000, 0x04, .bool, .ro, false, 1, 0, 0, 0, .both⟩,
  ⟨0x3000, 0x05, .uint, .rwl, false, 4, 0x50000, 3277, 0x320000, .both⟩,
  ⟨0x3000, 0x06, .uint, .ro, false, 4, 0, 0, 0, .both⟩,
  ⟨0x3000, 0x07, .bool, .rwl, false, 1, 0, 0, 1, .both⟩,
  ⟨0x3000, 0x08, .bool, .rwl, false, 1, 0, 0, 1, .both⟩,
  ⟨0x3000, 0x09, .uint, .ro, false, 4, 0, 0, 0, .both⟩,
  ⟨0x3000, 0x0A, .uint, .ro, false, 8, 0, 0, 0, .both⟩,
  ⟨0x3000, 0x0B, .bool, .rwl, false, 1, 0, 0, 1, .both⟩,
  ⟨0x3000, 0x0C, .uint, .ro, false, 1, 0, 0, 0, .both⟩,
  ⟨0x3010, 0x01, .blob, .ro, false, 32, 0, 0, 0, .both⟩,
  ⟨0x3010, 0x02, .blob, .ro, false, 32, 0, 0, 0, .both⟩,
  ⟨0x3010, 0x03, .uint, .ro, false, 2, 0, 0, 0, .both⟩,
  ⟨0x3010, 0x04, .blob, .ro, false, 32, 0, 0, 0, .both⟩,
  ⟨0x3010, 0x05, .uint, .ro, false, 4, 0, 0, 0, .both⟩,
  ⟨0x3010, 0x06, .uint, .ro, false, 1, 0, 0, 0, .both⟩,
  ⟨0x3010, 0x07, .uint, .ro, false, 8, 0, 0, 0, .both⟩,
  ⟨0x3010, 0x08, .uint, .ro, false, 1, 0, 0, 0, .both⟩,
  ⟨0x3020, 0x01, .blob, .ro, false, 16, 0, 0, 0, .both⟩,
  ⟨0x3020, 0x02, .blob, .ro, false, 16, 0, 0, 0, .both⟩,
  ⟨0x3020, 0x03, .blob, .ro, false, 16, 0, 0, 0, .both⟩,
  ⟨0x3020, 0x04, .blob, .ro, false, 16, 0, 0, 0, .both⟩,
  ⟨0x3020, 0x05, .blob, .ro, false, 16, 0, 0, 0, .both⟩,
  ⟨0x3020, 0x06, .blob, .ro, false, 16, 0, 0, 0, .both⟩,
  ⟨0x3020, 0x07, .blob, .ro, false, 16, 0, 0, 0, .both⟩,
  ⟨0x3020, 0x08, .blob, .ro, false, 16, 0, 0, 0, .both⟩,
  ⟨0x3030, 0x01, .blob, .rwl, false, 8, 0, 0, 0, .both⟩,
  ⟨0x3030, 0x02, .uint, .ro, false, 1, 0, 0, 0, .both⟩,
  ⟨0x3100, 0x01, .blob, .wo, false, 0, 0, 0, 0, .both⟩,
  ⟨0x3100, 0x02, .uint, .ro, false, 1, 0, 0, 0, .both⟩]

def objRows4_0 : List ObjRow := [
  ⟨0x4000, 0x01, .uint, .ro, false, 8, 0, 0, 0, .both⟩,
  ⟨0x4000, 0x02, .uint, .ro, false, 8, 0xffffffffffffffff, 0, 0, .both⟩,
  ⟨0x4000, 0x03, .uint, .ro, false, 2, 0x1000, 0, 0, .both⟩,
  ⟨0x4000, 0x04, .uint, .ro, false, 2, 0, 0, 0, .both⟩,
  ⟨0x4000, 0x05, .uint, .rw, false, 4, 328, 1, 0x50000, .both⟩,
  ⟨0x4000, 0x06, .uint, .ro, false, 1, 0, 0, 0, .both⟩,
  ⟨0x4000, 0x07, .uint, .ro, false, 4, 0x10000, 0, 0, .both⟩,
  ⟨0x4010, 0x01, .uint, .ro, true, 8, 0, 0, 0, .both⟩,
  ⟨0x4010, 0x02, .uint, .rw, true, 1, 1, 0, 255, .both⟩,
  ⟨0x4010, 0x03, .uint, .rw, true, 1, 3, 0, 3, .both⟩,
  ⟨0x4010, 0x04, .uint, .ro, true, 2, 0, 0, 0, .both⟩,
  ⟨0x4010, 0x05, .uint, .rw, true, 2, 0x1000, 1, 0x1000, .both⟩,
  ⟨0x4010, 0x06, .uint, .ro, true, 2, 0, 0, 0, .both⟩,
  ⟨0x4010, 0x07, .uint, .ro, true, 1, 0, 0, 0, .both⟩,
  ⟨0x4010, 0x08, .uint, .ro, true, 4, 0, 0, 0, .both⟩,
  ⟨0x4010, 0x09, .uint, .ro, true, 1, 0, 0, 0, .both⟩,
  ⟨0x4010, 0x0A, .uint, .ro, true, 8, 0, 0, 0, .both⟩,
  ⟨0x4010, 0x0B, .uint, .ro, true, 2, 0, 0, 0, .both⟩,
  ⟨0x4010, 0x0C, .uint, .ro, true, 8, 0, 0, 0, .both⟩,
  ⟨0x4010, 0x0D, .uint, .ro, true, 2, 0, 0, 0, .both⟩,
  ⟨0x4010, 0x0E, .uint, .ro, true, 2, 0, 0, 0, .both⟩,
  ⟨0x4010, 0x0F, .uint, .ro, true, 2, 0, 0, 0, .both⟩,
  ⟨0x4010, 0x10, .uint, .rw, true, 4, 3277, 1, 0x50000, .both⟩,
  ⟨0x4020, 0x01, .uint, .rc, true, 4, 0, 0, 0, .both⟩,
  ⟨0x4020, 0x02, .uint, .rc, true, 4, 0, 0, 0, .both⟩,
  ⟨0x4020, 0x03, .uint, .rc, true, 4, 0, 0, 0, .both⟩,
  ⟨0x4020, 0x04, .uint, .rc, true, 4, 0, 0, 0, .both⟩,
  ⟨0x4020, 0x05, .uint, .rc, true, 4, 0, 0, 0, .both⟩,
  ⟨0x4020, 0x06, .uint, .rc, true, 4, 0, 0, 0, .both⟩,
  ⟨0x4020, 0x07, .uint, .ro, true, 8, 0, 0, 0, .both⟩,
  ⟨0x4020, 0x08, .uint, .ro, true, 4, 0, 0, 0, .both⟩,
  ⟨0x4020, 0x09, .uint, .ro, true, 8, 0, 0, 0, .both⟩,
  ⟨0x4020, 0x0A, .uint, .rc, true, 4, 0, 0, 0, .both⟩,
  ⟨0x4030, 0x01, .uint, .rc, true, 4, 0, 0, 0, .both⟩,
  ⟨0x4030, 0x02, .uint, .rc, true, 4, 0, 0, 0, .both⟩,
  ⟨0x4030, 0x03, .uint, .rc, true, 4, 0, 0, 0, .both⟩,
  ⟨0x4030, 0x04, .uint, .rc, true, 4, 0, 0, 0, .both⟩,
  ⟨0x4030, 0x05, .uint, .rc, true, 4, 0, 0, 0, .both⟩,
  ⟨0x4030, 0x06, .uint, .rc, true, 4, 0, 0, 0, .both⟩,
  ⟨0x4030, 0x07, .uint, .ro, true, 2, 0, 0, 0, .both⟩,
  ⟨0x4040, 0x01, .uint, .ro, true, 8, 0, 0, 0, .both⟩,
  ⟨0x4040, 0x02, .uint, .ro, true, 8, 0, 0, 0, .both⟩,
  ⟨0x4040, 0x03, .uint, .ro, true, 8, 0, 0, 0, .both⟩,
  ⟨0x4040, 0x04, .uint, .rc, true, 4, 0, 0, 0, .both⟩,
  ⟨0x4040, 0x05, .uint, .rc, true, 4, 0, 0, 0, .both⟩,
  ⟨0x4040, 0x06, .uint, .rc, true, 4, 0, 0, 0, .both⟩,
  ⟨0x4040, 0x07, .uint, .ro, true, 1, 0, 0, 0, .both⟩,
  ⟨0x4040, 0x08, .uint, .ro, true, 1, 0, 0, 0, .both⟩]

def objRows4_1 : List ObjRow := [
  ⟨0x4040, 0x09, .uint, .ro, true, 8, 0, 0, 0, .both⟩,
  ⟨0x4040, 0x0A, .uint, .ro, true, 1, 0, 0, 0, .both⟩,
  ⟨0x4050, 0x01, .uint, .ro, true, 4, 0, 0, 0, .both⟩,
  ⟨0x4050, 0x02, .uint, .ro, true, 4, 0, 0, 0, .both⟩,
  ⟨0x4050, 0x03, .uint, .rw, true, 2, 3277, 1, 0xffff, .both⟩,
  ⟨0x4050, 0x04, .uint, .rc, true, 4, 0, 0, 0, .both⟩,
  ⟨0x4050, 0x05, .uint, .rc, true, 4, 0, 0, 0, .both⟩,
  ⟨0x4050, 0x06, .uint, .rc, true, 4, 0, 0, 0, .both⟩,
  ⟨0x4050, 0x07, .uint, .ro, true, 8, 0, 0, 0, .both⟩,
  ⟨0x4050, 0x08, .uint, .ro, true, 8, 0, 0, 0, .both⟩,
  ⟨0x4050, 0x09, .uint, .ro, true, 4, 0, 0, 0, .both⟩,
  ⟨0x4051, 0x00, .uint, .rw, true, 2, 0, 0, 0xffff, .both⟩,
  ⟨0x4051, 0x01, .blob, .ro, true, 16, 0, 0, 0, .both⟩,
  ⟨0x4100, 0x01, .uint, .rw, false, 1, 0, 0, 63, .both⟩,
  ⟨0x4100, 0x02, .uint, .rw, false, 8, 0, 0, 0xffffffffffffffff, .both⟩,
  ⟨0x4100, 0x03, .uint, .rw, false, 4, 0, 0, 0x10000, .both⟩,
  ⟨0x4100, 0x04, .uint, .rw, false, 2, 0, 0, 0x2ff0, .both⟩,
  ⟨0x4100, 0x05, .uint, .rw, false, 8, 0, 0, 0xffffffffffffffff, .both⟩,
  ⟨0x4100, 0x06, .uint, .rw, false, 2, 64, 8, 0x8000, .both⟩,
  ⟨0x4100, 0x07, .uint, .rw, false, 8, 0, 0, 0xffffffffffffffff, .both⟩,
  ⟨0x4100, 0x08, .uint, .rw, false, 2, 64, 8, 0x8000, .both⟩,
  ⟨0x4100, 0x09, .uint, .rw, false, 1, 1, 0, 255, .both⟩,
  ⟨0x4100, 0x0A, .uint, .rw, false, 1, 3, 0, 3, .both⟩,
  ⟨0x4100, 0x0B, .uint, .rw, false, 2, 0x1000, 1, 0x1000, .both⟩,
  ⟨0x4100, 0x0C, .uint, .rw, false, 8, 0, 0, 0xffffffffffffffff, .both⟩,
  ⟨0x4100, 0x0D, .uint, .wo, false, 1, 0, 0, 63, .both⟩,
  ⟨0x4100, 0x0E, .uint, .wo, false, 1, 0, 0, 63, .both⟩,
  ⟨0x4100, 0x0F, .uint, .wo, false, 1, 0, 0, 63, .both⟩,
  ⟨0x4100, 0x10, .uint, .ro, false, 1, 0, 0, 0, .both⟩]

def objRows5_0 : List ObjRow := [
  ⟨0x5000, 0x01, .uint, .ro, false, 1, 7, 0, 0, .both⟩,
  ⟨0x5100, 0x01, .uint, .rwl, true, 1, 0, 0, 1, .both⟩,
  ⟨0x5100, 0x02, .uint, .ro, true, 1, 0, 0, 0, .both⟩,
  ⟨0x5100, 0x03, .bool, .ro, true, 1, 0, 0, 0, .both⟩,
  ⟨0x5100, 0x04, .uint, .ro, true, 4, 0, 0, 0, .both⟩,
  ⟨0x5100, 0x05, .uint, .rc, true, 4, 0, 0, 0, .both⟩,
  ⟨0x5100, 0x07, .uint, .ro, true, 4, 0, 0, 0, .both⟩,
  ⟨0x5100, 0x08, .bool, .ro, true, 1, 0, 0, 0, .both⟩,
  ⟨0x5200, 0x01, .uint, .rwl, true, 1, 0, 0, 1, .both⟩,
  ⟨0x5200, 0x02, .uint, .ro, true, 1, 0, 0, 0, .both⟩,
  ⟨0x5200, 0x03, .bool, .ro, true, 1, 0, 0, 0, .both⟩,
  ⟨0x5200, 0x04, .uint, .ro, true, 4, 0, 0, 0, .both⟩,
  ⟨0x5200, 0x05, .uint, .rc, true, 4, 0, 0, 0, .both⟩,
  ⟨0x5200, 0x06, .uint, .rw, true, 4, 33, 2, 0x50000, .both⟩,
  ⟨0x5200, 0x07, .uint, .ro, true, 4, 0, 0, 0, .both⟩,
  ⟨0x5200, 0x08, .bool, .ro, true, 1, 0, 0, 0, .both⟩,
  ⟨0x5200, 0x09, .uint, .ro, true, 4, 0, 0, 0, .both⟩,
  ⟨0x5210, 0x01, .blob, .ro, true, 32, 0, 0, 0, .both⟩,
  ⟨0x5210, 0x02, .blob, .wo, true, 32, 0, 0, 0, .both⟩,
  ⟨0x5210, 0x03, .uint, .rc, true, 4, 0, 0, 0, .both⟩,
  ⟨0x5300, 0x01, .uint, .rwl, true, 1, 0, 0, 1, .kv2p⟩,
  ⟨0x5300, 0x02, .uint, .ro, true, 1, 0, 0, 0, .kv2p⟩,
  ⟨0x5300, 0x03, .bool, .ro, true, 1, 0, 0, 0, .kv2p⟩,
  ⟨0x5300, 0x04, .uint, .ro, true, 4, 0, 0, 0, .kv2p⟩,
  ⟨0x5300, 0x05, .uint, .rc, true, 4, 0, 0, 0, .kv2p⟩,
  ⟨0x5300, 0x06, .uint, .rw, true, 4, 3277, 2, 0x50000, .kv2p⟩,
  ⟨0x5300, 0x07, .uint, .ro, true, 4, 0, 0, 0, .kv2p⟩,
  ⟨0x5300, 0x08, .bool, .ro, true, 1, 0, 0, 0, .kv2p⟩,
  ⟨0x5310, 0x01, .blob, .ro, true, 32, 0, 0, 0, .kv2p⟩,
  ⟨0x5310, 0x02, .blob, .wo, true, 32, 0, 0, 0, .kv2p⟩,
  ⟨0x5310, 0x03, .uint, .rc, true, 4, 0, 0, 0, .kv2p⟩,
  ⟨0x5400, 0x01, .uint, .rwl, false, 1, 0, 0, 1, .kv2p⟩,
  ⟨0x5400, 0x02, .uint, .ro, false, 1, 0, 0, 0, .kv2p⟩,
  ⟨0x5400, 0x03, .bool, .ro, false, 1, 0, 0, 0, .kv2p⟩,
  ⟨0x5400, 0x04, .uint, .ro, false, 4, 0, 0, 0, .kv2p⟩,
  ⟨0x5400, 0x05, .uint, .rc, false, 4, 0, 0, 0, .kv2p⟩,
  ⟨0x5400, 0x06, .uint, .rw, false, 4, 0x8000, 2, 0x50000, .kv2p⟩,
  ⟨0x5400, 0x07, .uint, .ro, false, 4, 0, 0, 0, .kv2p⟩,
  ⟨0x5400, 0x08, .bool, .ro, false, 1, 0, 0, 0, .kv2p⟩,
  ⟨0x5410, 0x01, .blob, .ro, false, 32, 0, 0, 0, .kv2p⟩,
  ⟨0x5410, 0x02, .blob, .wo, false, 32, 0, 0, 0, .kv2p⟩,
  ⟨0x5410, 0x03, .uint, .rc, false, 4, 0, 0, 0, .kv2p⟩,
  ⟨0x5500, 0x01, .uint, .rwl, false, 1, 0, 0, 1, .both⟩,
  ⟨0x5500, 0x02, .uint, .ro, false, 1, 0, 0, 0, .both⟩,
  ⟨0x5500, 0x03, .bool, .ro, false, 1, 0, 0, 0, .both⟩,
  ⟨0x5500, 0x04, .uint, .ro, false, 4, 0, 0, 0, .both⟩,
  ⟨0x5500, 0x05, .uint, .rc, false, 4, 0, 0, 0, .both⟩,
  ⟨0x5500, 0x06, .uint, .rw, false, 4, 33, 2, 0x50000, .both⟩]

def objRows5_1 : List ObjRow := [
  ⟨0x5500, 0x07, .uint, .ro, false, 4, 0, 0, 0, .both⟩,
  ⟨0x5500, 0x08, .bool, .ro, false, 1, 0, 0, 0, .both⟩,
  ⟨0x5510, 0x01, .blob, .ro, false, 32, 0, 0, 0, .both⟩,
  ⟨0x5510, 0x02, .blob, .wo, false, 32, 0, 0, 0, .both⟩,
  ⟨0x5510, 0x03, .uint, .rc, false, 4, 0, 0, 0, .both⟩,
  ⟨0x5600, 0x01, .uint, .rwl, false, 1, 0, 0, 1, .both⟩,
  ⟨0x5600, 0x02, .uint, .ro, false, 1, 0, 0, 0, .both⟩,
  ⟨0x5600, 0x03, .bool, .ro, false, 1, 0, 0, 0, .both⟩,
  ⟨0x5600, 0x04, .uint, .ro, false, 4, 0, 0, 0, .both⟩,
  ⟨0x5600, 0x05, .uint, .rc, false, 4, 0, 0, 0, .both⟩,
  ⟨0x5600, 0x06, .uint, .rw, false, 4, 33, 2, 0x50000, .both⟩,
  ⟨0x5600, 0x07, .uint, .ro, false, 4, 0, 0, 0, .both⟩,
  ⟨0x5600, 0x08, .bool, .ro, false, 1, 0, 0, 0, .both⟩,
  ⟨0x5610, 0x01, .blob, .ro, false, 32, 0, 0, 0, .both⟩,
  ⟨0x5610, 0x02, .blob, .wo, false, 32, 0, 0, 0, .both⟩,
  ⟨0x5610, 0x03, .uint, .rc, false, 4, 0, 0, 0, .both⟩,
  ⟨0x5700, 0x01, .uint, .rwl, true, 1, 0, 0, 1, .both⟩,
  ⟨0x5700, 0x02, .uint, .ro, true, 1, 0, 0, 0, .both⟩,
  ⟨0x5700, 0x03, .bool, .ro, true, 1, 0, 0, 0, .both⟩,
  ⟨0x5700, 0x04, .uint, .ro, true, 4, 0, 0, 0, .both⟩,
  ⟨0x5700, 0x05, .uint, .rc, true, 4, 0, 0, 0, .both⟩,
  ⟨0x5700, 0x07, .uint, .ro, true, 4, 0, 0, 0, .both⟩,
  ⟨0x5700, 0x08, .bool, .ro, true, 1, 0, 0, 0, .both⟩]

def objRows6 : List ObjRow := [
  ⟨0x6000, 0x01, .uint, .rw, true, 1, 16, 1, 32, .both⟩,
  ⟨0x6000, 0x02, .uint, .rw, true, 1, 2, 0, 7, .both⟩,
  ⟨0x6000, 0x03, .sint, .rw, true, 2, 0, -2048, 2048, .both⟩,
  ⟨0x6000, 0x04, .uint, .rw, true, 1, 8, 0, 16, .both⟩,
  ⟨0x6000, 0x05, .uint, .rw, true, 4, 33, 2, 0x8000, .both⟩,
  ⟨0x6010, 0x01, .uint, .ro, true, 4, 0, 0, 0, .both⟩,
  ⟨0x6010, 0x02, .uint, .ro, true, 4, 0, 0, 0, .both⟩,
  ⟨0x6010, 0x03, .uint, .rc, true, 4, 0, 0, 0, .both⟩,
  ⟨0x6010, 0x04, .uint, .rc, true, 4, 0, 0, 0, .both⟩,
  ⟨0x6010, 0x05, .uint, .rc, true, 4, 0, 0, 0, .both⟩,
  ⟨0x6010, 0x06, .uint, .rc, true, 4, 0, 0, 0, .both⟩,
  ⟨0x6010, 0x07, .uint, .ro, true, 4, 0, 0, 0, .both⟩,
  ⟨0x6020, 0x01, .bool, .rw, true, 1, 0, 0, 1, .both⟩,
  ⟨0x6020, 0x02, .bool, .ro, true, 1, 0, 0, 0, .both⟩,
  ⟨0x6020, 0x03, .uint, .ro, true, 1, 0, 0, 0, .both⟩,
  ⟨0x6020, 0x04, .uint, .ro, true, 2, 0, 0, 0, .both⟩,
  ⟨0x6020, 0x05, .uint, .ro, true, 2, 0, 0, 0, .both⟩,
  ⟨0x6020, 0x06, .uint, .ro, true, 1, 0, 0, 0, .both⟩,
  ⟨0x6020, 0x07, .uint, .ro, true, 2, 0, 0, 0, .both⟩,
  ⟨0x6020, 0x08, .uint, .ro, true, 1, 0, 0, 0, .both⟩,
  ⟨0x6020, 0x09, .uint, .rc, true, 4, 0, 0, 0, .both⟩]

def objRows7_0 : List ObjRow := [
  ⟨0x7000, 0x01, .uint, .rwl, false, 2, 0, 0, 0xffff, .kv2p⟩,
  ⟨0x7000, 0x02, .uint, .ro, false, 2, 0x8000, 0, 0, .both⟩,
  ⟨0x7000, 0x03, .uint, .rwl, false, 2, 0x8000, 0, 0xffff, .kv2p⟩,
  ⟨0x7000, 0x05, .uint, .rw, false, 4, 33, 2, 0x8000, .kv2p⟩,
  ⟨0x7000, 0x06, .uint, .rw, false, 4, 0x8000, 3277, 0x50000, .kv2p⟩,
  ⟨0x7000, 0x07, .uint, .ro, false, 2, 0, 0, 0, .kv2p⟩,
  ⟨0x7000, 0x08, .blob, .ro, false, 0, 0, 0, 0, .kv2p⟩,
  ⟨0x7000, 0x09, .uint, .rc, false, 4, 0, 0, 0, .kv2p⟩,
  ⟨0x7010, 0x01, .uint, .ro, false, 1, 0, 0, 0, .kv2p⟩,
  ⟨0x7010, 0x02, .uint, .ro, false, 1, 0, 0, 0, .kv2p⟩,
  ⟨0x7010, 0x03, .uint, .ro, false, 8, 0, 0, 0, .kv2p⟩,
  ⟨0x7010, 0x04, .uint, .rc, false, 4, 0, 0, 0, .kv2p⟩,
  ⟨0x7010, 0x05, .uint, .rc, false, 4, 0, 0, 0, .kv2p⟩,
  ⟨0x7010, 0x06, .uint, .rc, false, 4, 0, 0, 0, .kv2p⟩,
  ⟨0x7010, 0x07, .uint, .ro, false, 2, 0x8000, 0, 0, .kv2p⟩,
  ⟨0x7010, 0x08, .bool, .wo, false, 1, 0, 0, 1, .kv2p⟩,
  ⟨0x7010, 0x09, .uint, .ro, false, 1, 0, 0, 0, .kv2p⟩,
  ⟨0x7011, 0x01, .uint, .ro, false, 1, 0, 0, 0, .kv2p⟩,
  ⟨0x7011, 0x02, .uint, .ro, false, 1, 0, 0, 0, .kv2p⟩,
  ⟨0x7011, 0x03, .uint, .ro, false, 8, 0, 0, 0, .kv2p⟩,
  ⟨0x7011, 0x04, .uint, .rc, false, 4, 0, 0, 0, .kv2p⟩,
  ⟨0x7011, 0x05, .uint, .rc, false, 4, 0, 0, 0, .kv2p⟩,
  ⟨0x7011, 0x06, .uint, .rc, false, 4, 0, 0, 0, .kv2p⟩,
  ⟨0x7011, 0x07, .uint, .ro, false, 2, 0x8000, 0, 0, .kv2p⟩,
  ⟨0x7011, 0x08, .bool, .wo, false, 1, 0, 0, 1, .kv2p⟩,
  ⟨0x7011, 0x09, .uint, .ro, false, 1, 0, 0, 0, .kv2p⟩,
  ⟨0x7012, 0x01, .uint, .ro, false, 1, 0, 0, 0, .kv2p⟩,
  ⟨0x7012, 0x02, .uint, .ro, false, 1, 0, 0, 0, .kv2p⟩,
  ⟨0x7012, 0x03, .uint, .ro, false, 8, 0, 0, 0, .kv2p⟩,
  ⟨0x7012, 0x04, .uint, .rc, false, 4, 0, 0, 0, .kv2p⟩,
  ⟨0x7012, 0x05, .uint, .rc, false, 4, 0, 0, 0, .kv2p⟩,
  ⟨0x7012, 0x06, .uint, .rc, false, 4, 0, 0, 0, .kv2p⟩,
  ⟨0x7012, 0x07, .uint, .ro, false, 2, 0x8000, 0, 0, .kv2p⟩,
  ⟨0x7012, 0x08, .bool, .wo, false, 1, 0, 0, 1, .kv2p⟩,
  ⟨0x7012, 0x09, .uint, .ro, false, 1, 0, 0, 0, .kv2p⟩,
  ⟨0x7013, 0x01, .uint, .ro, false, 1, 0, 0, 0, .kv2p⟩,
  ⟨0x7013, 0x02, .uint, .ro, false, 1, 0, 0, 0, .kv2p⟩,
  ⟨0x7013, 0x03, .uint, .ro, false, 8, 0, 0, 0, .kv2p⟩,
  ⟨0x7013, 0x04, .uint, .rc, false, 4, 0, 0, 0, .kv2p⟩,
  ⟨0x7013, 0x05, .uint, .rc, false, 4, 0, 0, 0, .kv2p⟩,
  ⟨0x7013, 0x06, .uint, .rc, false, 4, 0, 0, 0, .kv2p⟩,
  ⟨0x7013, 0x07, .uint, .ro, false, 2, 0x8000, 0, 0, .kv2p⟩,
  ⟨0x7013, 0x08, .bool, .wo, false, 1, 0, 0, 1, .kv2p⟩,
  ⟨0x7013, 0x09, .uint, .ro, false, 1, 0, 0, 0, .kv2p⟩,
  ⟨0x7014, 0x01, .uint, .ro, false, 1, 0, 0, 0, .kv2p⟩,
  ⟨0x7014, 0x02, .uint, .ro, false, 1, 0, 0, 0, .kv2p⟩,
  ⟨0x7014, 0x03, .uint, .ro, false, 8, 0, 0, 0, .kv2p⟩,
  ⟨0x7014, 0x04, .uint, .rc, false, 4, 0, 0, 0, .kv2p⟩]

def objRows7_1 : List ObjRow := [
  ⟨0x7014, 0x05, .uint, .rc, false, 4, 0, 0, 0, .kv2p⟩,
  ⟨0x7014, 0x06, .uint, .rc, false, 4, 0, 0, 0, .kv2p⟩,
  ⟨0x7014, 0x07, .uint, .ro, false, 2, 0x8000, 0, 0, .kv2p⟩,
  ⟨0x7014, 0x08, .bool, .wo, false, 1, 0, 0, 1, .kv2p⟩,
  ⟨0x7014, 0x09, .uint, .ro, false, 1, 0, 0, 0, .kv2p⟩,
  ⟨0x7015, 0x01, .uint, .ro, false, 1, 0, 0, 0, .kv2p⟩,
  ⟨0x7015, 0x02, .uint, .ro, false, 1, 0, 0, 0, .kv2p⟩,
  ⟨0x7015, 0x03, .uint, .ro, false, 8, 0, 0, 0, .kv2p⟩,
  ⟨0x7015, 0x04, .uint, .rc, false, 4, 0, 0, 0, .kv2p⟩,
  ⟨0x7015, 0x05, .uint, .rc, false, 4, 0, 0, 0, .kv2p⟩,
  ⟨0x7015, 0x06, .uint, .rc, false, 4, 0, 0, 0, .kv2p⟩,
  ⟨0x7015, 0x07, .uint, .ro, false, 2, 0x8000, 0, 0, .kv2p⟩,
  ⟨0x7015, 0x08, .bool, .wo, false, 1, 0, 0, 1, .kv2p⟩,
  ⟨0x7015, 0x09, .uint, .ro, false, 1, 0, 0, 0, .kv2p⟩,
  ⟨0x7020, 0x01, .uint, .ro, false, 2, 0, 0, 0, .kv2p⟩,
  ⟨0x7020, 0x02, .blob, .ro, false, 0, 0, 0, 0, .kv2p⟩,
  ⟨0x7100, 0x01, .uint, .rw, true, 4, 328, 2, 0x50000, .both⟩,
  ⟨0x7100, 0x02, .uint, .ro, true, 8, 0, 0, 0, .both⟩,
  ⟨0x7100, 0x03, .uint, .rc, true, 4, 0, 0, 0, .both⟩,
  ⟨0x7100, 0x04, .uint, .ro, true, 4, 0, 0, 0, .both⟩,
  ⟨0x7100, 0x05, .uint, .ro, true, 4, 0, 0, 0, .both⟩,
  ⟨0x7100, 0x06, .uint, .ro, true, 2, 0xffff, 0, 0, .both⟩,
  ⟨0x7100, 0x07, .uint, .ro, true, 2, 1, 0, 0, .both⟩,
  ⟨0x7100, 0x08, .uint, .ro, true, 2, 0, 0, 0, .both⟩]

def objRows8_0 : List ObjRow := [
  ⟨0x8000, 0x01, .uint, .rw, true, 1, 0, 0, 7, .both⟩,
  ⟨0x8000, 0x02, .uint, .rw, true, 4, 0x3fffc0, 0, 0x3fffc0, .both⟩,
  ⟨0x8000, 0x03, .uint, .rw, true, 8, 0, 0, 0xffffffffffffffff, .both⟩,
  ⟨0x8000, 0x04, .sint, .rw, true, 1, 16, -64, 64, .both⟩,
  ⟨0x8000, 0x05, .sint, .rw, true, 1, 224, -64, 64, .both⟩,
  ⟨0x8000, 0x06, .sint, .rw, true, 1, 32, -64, 64, .both⟩,
  ⟨0x8000, 0x07, .uint, .rw, true, 4, 2000, 0, 0xf4240, .both⟩,
  ⟨0x8000, 0x08, .fp64, .rw, true, 8, 0x3ff0000000000000, 0, 0, .both⟩,
  ⟨0x8000, 0x09, .uint, .rw, true, 1, 16, 1, 64, .both⟩,
  ⟨0x8010, 0x01, .uint, .ro, true, 4, 0xffffffff, 0, 0, .both⟩,
  ⟨0x8010, 0x02, .uint, .ro, true, 4, 0xffffffff, 0, 0, .both⟩,
  ⟨0x8010, 0x03, .uint, .ro, true, 1, 0, 0, 0, .both⟩,
  ⟨0x8010, 0x04, .sint, .ro, true, 1, 16, 0, 0, .both⟩,
  ⟨0x8010, 0x05, .fp64, .ro, true, 8, 0, 0, 0, .both⟩,
  ⟨0x8010, 0x06, .uint, .ro, true, 8, 0, 0, 0, .both⟩,
  ⟨0x8010, 0x07, .uint, .ro, true, 4, 0, 0, 0, .both⟩,
  ⟨0x8010, 0x08, .uint, .ro, true, 4, 0, 0, 0, .both⟩,
  ⟨0x8010, 0x09, .uint, .ro, true, 4, 0, 0, 0, .both⟩,
  ⟨0x8010, 0x0A, .uint, .rc, true, 4, 0, 0, 0, .both⟩,
  ⟨0x8010, 0x0B, .blob, .rw, true, 64, 0, 0, 0, .both⟩,
  ⟨0x8100, 0x01, .uint, .rwl, true, 8, 0, 0, 0xffffffffffffffff, .both⟩,
  ⟨0x8100, 0x02, .uint, .rwl, true, 4, 0, 0, 0xffffffff, .both⟩,
  ⟨0x8100, 0x03, .blob, .rwl, true, 48, 0, 0, 0, .both⟩,
  ⟨0x8100, 0x04, .uint, .rw, true, 8, 0, 0, 0xffffffffffffffff, .both⟩,
  ⟨0x8100, 0x05, .uint, .rw, true, 4, 0x3fffa0, 0, 0x3fffe0, .both⟩,
  ⟨0x8100, 0x06, .uint, .rw, true, 8, 0, 0, 0xffffffffffffffff, .both⟩,
  ⟨0x8100, 0x07, .uint, .rw, true, 2, 0, 0, 0xffff, .both⟩,
  ⟨0x8100, 0x08, .uint, .rw, true, 4, 0x20000, 4096, 0x100000, .both⟩,
  ⟨0x8100, 0x09, .uint, .ro, true, 8, 0, 0, 0, .both⟩,
  ⟨0x8100, 0x0A, .uint, .rc, true, 4, 0, 0, 0, .both⟩,
  ⟨0x8100, 0x0B, .uint, .ro, true, 4, 0xffffffff, 0, 0, .both⟩,
  ⟨0x8200, 0x01, .uint, .ro, true, 2, 0xffff, 0, 0, .kv2p⟩,
  ⟨0x8200, 0x02, .blob, .rw, true, 0, 0, 0, 0, .kv2p⟩,
  ⟨0x8200, 0x03, .uint, .rw, true, 8, 0, 0, 0xffffffffffffffff, .kv2p⟩,
  ⟨0x8200, 0x04, .uint, .rw, true, 8, 0, 0, 0xffffffffffffffff, .kv2p⟩,
  ⟨0x8200, 0x05, .uint, .rw, true, 4, 3277, 33, 0x50000, .kv2p⟩,
  ⟨0x8200, 0x06, .blob, .ro, true, 8, 0xffffffffffffffff, 0, 0, .kv2p⟩,
  ⟨0x8200, 0x07, .uint, .ro, true, 1, 0, 0, 0, .kv2p⟩,
  ⟨0x8200, 0x08, .uint, .ro, true, 8, 0, 0, 0, .kv2p⟩,
  ⟨0x8200, 0x09, .uint, .rc, true, 4, 0, 0, 0, .kv2p⟩,
  ⟨0x8200, 0x0A, .blob, .ro, true, 8, 0xffffffffffffffff, 0, 0, .kv2p⟩,
  ⟨0x8200, 0x0B, .uint, .rw, true, 8, 0, 0, 0xffffffffffffffff, .kv2p⟩,
  ⟨0x8200, 0x0C, .blob, .rw, true, 16, 0, 0, 0, .both⟩,
  ⟨0x8300, 0x01, .uint, .wo, true, 8, 0, 0, 0xffffffffffffffff, .both⟩,
  ⟨0x8300, 0x02, .uint, .ro, true, 1, 0, 0, 0, .both⟩,
  ⟨0x8400, 0x01, .uint, .ro, true, 1, 0, 0, 0, .kv2p⟩,
  ⟨0x8400, 0x02, .uint, .rw, true, 4, 33, 2, 0x8000, .kv2p⟩,
  ⟨0x8400, 0x03, .uint, .ro, true, 4, 0, 0, 0, .kv2p⟩]

def objRows8_1 : List ObjRow := [
  ⟨0x8400, 0x04, .uint, .ro, true, 4, 0xffffffff, 0, 0, .kv2p⟩,
  ⟨0x8400, 0x05, .uint, .ro, true, 4, 0, 0, 0, .kv2p⟩,
  ⟨0x8400, 0x06, .uint, .ro, true, 4, 0, 0, 0, .kv2p⟩,
  ⟨0x8400, 0x07, .uint, .rw, true, 4, 328, 33, 0x8000, .kv2p⟩,
  ⟨0x8400, 0x08, .bool, .wo, true, 1, 0, 0, 1, .kv2p⟩]

def objRows9 : List ObjRow := [
  ⟨0x9000, 0x01, .uint, .ro, true, 8, 0, 0, 0, .both⟩,
  ⟨0x9000, 0x02, .uint, .rc, true, 4, 0, 0, 0, .both⟩,
  ⟨0x9000, 0x03, .uint, .ro, true, 4, 0, 0, 0, .both⟩,
  ⟨0x9000, 0x04, .uint, .rc, true, 4, 0, 0, 0, .both⟩,
  ⟨0x9000, 0x05, .uint, .ro, true, 8, 0, 0, 0, .both⟩,
  ⟨0x9000, 0x06, .uint, .ro, true, 8, 0, 0, 0, .both⟩,
  ⟨0x9000, 0x07, .uint, .rc, true, 4, 0, 0, 0, .both⟩]

def objRowsA_0 : List ObjRow := [
  ⟨0xA000, 0x01, .uint, .ro, false, 4, 0, 0, 0, .both⟩,
  ⟨0xA000, 0x02, .uint, .ro, false, 4, 0, 0, 0, .both⟩,
  ⟨0xA000, 0x03, .uint, .ro, false, 4, 0, 0, 0, .both⟩,
  ⟨0xA000, 0x04, .uint, .ro, false, 4, 0, 0, 0, .both⟩,
  ⟨0xA000, 0x05, .uint, .rc, false, 4, 0, 0, 0, .both⟩,
  ⟨0xA000, 0x06, .uint, .rc, false, 4, 0, 0, 0, .both⟩,
  ⟨0xA000, 0x07, .uint, .ro, false, 4, 0, 0, 0, .both⟩,
  ⟨0xA011, 0x01, .blob, .ro, false, 24, 0, 0, 0, .both⟩,
  ⟨0xA011, 0x02, .blob, .ro, false, 24, 0, 0, 0, .both⟩,
  ⟨0xA011, 0x03, .blob, .ro, false, 24, 0, 0, 0, .both⟩,
  ⟨0xA011, 0x04, .blob, .ro, false, 24, 0, 0, 0, .both⟩,
  ⟨0xA011, 0x05, .blob, .ro, false, 24, 0, 0, 0, .both⟩,
  ⟨0xA011, 0x06, .blob, .ro, false, 24, 0, 0, 0, .both⟩,
  ⟨0xA011, 0x07, .blob, .ro, false, 24, 0, 0, 0, .both⟩,
  ⟨0xA011, 0x08, .blob, .ro, false, 24, 0, 0, 0, .both⟩,
  ⟨0xA011, 0x09, .blob, .ro, false, 24, 0, 0, 0, .both⟩,
  ⟨0xA011, 0x0A, .blob, .ro, false, 24, 0, 0, 0, .both⟩,
  ⟨0xA011, 0x0B, .blob, .ro, false, 24, 0, 0, 0, .both⟩,
  ⟨0xA011, 0x0C, .blob, .ro, false, 24, 0, 0, 0, .both⟩,
  ⟨0xA011, 0x0D, .blob, .ro, false, 24, 0, 0, 0, .both⟩,
  ⟨0xA011, 0x0E, .blob, .ro, false, 24, 0, 0, 0, .both⟩,
  ⟨0xA011, 0x0F, .blob, .ro, false, 24, 0, 0, 0, .both⟩,
  ⟨0xA011, 0x10, .blob, .ro, false, 24, 0, 0, 0, .both⟩,
  ⟨0xA011, 0x11, .blob, .ro, false, 24, 0, 0, 0, .both⟩,
  ⟨0xA011, 0x12, .blob, .ro, false, 24, 0, 0, 0, .both⟩,
  ⟨0xA011, 0x13, .blob, .ro, false, 24, 0, 0, 0, .both⟩,
  ⟨0xA011, 0x14, .blob, .ro, false, 24, 0, 0, 0, .both⟩,
  ⟨0xA011, 0x15, .blob, .ro, false, 24, 0, 0, 0, .both⟩,
  ⟨0xA011, 0x16, .blob, .ro, false, 24, 0, 0, 0, .both⟩,
  ⟨0xA011, 0x17, .blob, .ro, false, 24, 0, 0, 0, .both⟩,
  ⟨0xA011, 0x18, .blob, .ro, false, 24, 0, 0, 0, .both⟩,
  ⟨0xA011, 0x19, .blob, .ro, false, 24, 0, 0, 0, .both⟩,
  ⟨0xA011, 0x1A, .blob, .ro, false, 24, 0, 0, 0, .both⟩,
  ⟨0xA011, 0x1B, .blob, .ro, false, 24, 0, 0, 0, .both⟩,
  ⟨0xA011, 0x1C, .blob, .ro, false, 24, 0, 0, 0, .both⟩,
  ⟨0xA011, 0x1D, .blob, .ro, false, 24, 0, 0, 0, .both⟩,
  ⟨0xA011, 0x1E, .blob, .ro, false, 24, 0, 0, 0, .both⟩,
  ⟨0xA011, 0x1F, .blob, .ro, false, 24, 0, 0, 0, .both⟩,
  ⟨0xA011, 0x20, .blob, .ro, false, 24, 0, 0, 0, .both⟩,
  ⟨0xA011, 0x21, .blob, .ro, false, 24, 0, 0, 0, .both⟩,
  ⟨0xA011, 0x22, .blob, .ro, false, 24, 0, 0, 0, .both⟩,
  ⟨0xA011, 0x23, .blob, .ro, false, 24, 0, 0, 0, .both⟩,
  ⟨0xA011, 0x24, .blob, .ro, false, 24, 0, 0, 0, .both⟩,
  ⟨0xA011, 0x25, .blob, .ro, false, 24, 0, 0, 0, .both⟩,
  ⟨0xA011, 0x26, .blob, .ro, false, 24, 0, 0, 0, .both⟩,
  ⟨0xA011, 0x27, .blob, .ro, false, 24, 0, 0, 0, .both⟩,
  ⟨0xA011, 0x28, .blob, .ro, false, 24, 0, 0, 0, .both⟩,
  ⟨0xA011, 0x29, .blob, .ro, false, 24, 0, 0, 0, .both⟩]

def objRowsA_1 : List ObjRow := [
  ⟨0xA011, 0x2A, .blob, .ro, false, 24, 0, 0, 0, .both⟩,
  ⟨0xA011, 0x2B, .blob, .ro, false, 24, 0, 0, 0, .both⟩,
  ⟨0xA011, 0x2C, .blob, .ro, false, 24, 0, 0, 0, .both⟩,
  ⟨0xA011, 0x2D, .blob, .ro, false, 24, 0, 0, 0, .both⟩,
  ⟨0xA011, 0x2E, .blob, .ro, false, 24, 0, 0, 0, .both⟩,
  ⟨0xA011, 0x2F, .blob, .ro, false, 24, 0, 0, 0, .both⟩,
  ⟨0xA011, 0x30, .blob, .ro, false, 24, 0, 0, 0, .both⟩,
  ⟨0xA011, 0x31, .blob, .ro, false, 24, 0, 0, 0, .both⟩,
  ⟨0xA011, 0x32, .blob, .ro, false, 24, 0, 0, 0, .both⟩,
  ⟨0xA011, 0x33, .blob, .ro, false, 24, 0, 0, 0, .both⟩,
  ⟨0xA011, 0x34, .blob, .ro, false, 24, 0, 0, 0, .both⟩,
  ⟨0xA011, 0x35, .blob, .ro, false, 24, 0, 0, 0, .both⟩,
  ⟨0xA011, 0x36, .blob, .ro, false, 24, 0, 0, 0, .both⟩,
  ⟨0xA011, 0x37, .blob, .ro, false, 24, 0, 0, 0, .both⟩,
  ⟨0xA011, 0x38, .blob, .ro, false, 24, 0, 0, 0, .both⟩,
  ⟨0xA011, 0x39, .blob, .ro, false, 24, 0, 0, 0, .both⟩,
  ⟨0xA011, 0x3A, .blob, .ro, false, 24, 0, 0, 0, .both⟩,
  ⟨0xA011, 0x3B, .blob, .ro, false, 24, 0, 0, 0, .both⟩,
  ⟨0xA011, 0x3C, .blob, .ro, false, 24, 0, 0, 0, .both⟩,
  ⟨0xA011, 0x3D, .blob, .ro, false, 24, 0, 0, 0, .both⟩,
  ⟨0xA011, 0x3E, .blob, .ro, false, 24, 0, 0, 0, .both⟩,
  ⟨0xA011, 0x3F, .blob, .ro, false, 24, 0, 0, 0, .both⟩,
  ⟨0xA011, 0x40, .blob, .ro, false, 24, 0, 0, 0, .both⟩,
  ⟨0xA020, 0x01, .blob, .ro, false, 24, 0, 0, 0, .both⟩,
  ⟨0xA020, 0x02, .blob, .ro, false, 24, 0, 0, 0, .both⟩,
  ⟨0xA020, 0x03, .blob, .ro, false, 24, 0, 0, 0, .both⟩,
  ⟨0xA020, 0x04, .blob, .ro, false, 24, 0, 0, 0, .both⟩,
  ⟨0xA020, 0x05, .blob, .ro, false, 24, 0, 0, 0, .both⟩,
  ⟨0xA020, 0x06, .blob, .ro, false, 24, 0, 0, 0, .both⟩,
  ⟨0xA020, 0x07, .blob, .ro, false, 24, 0, 0, 0, .both⟩,
  ⟨0xA020, 0x08, .blob, .ro, false, 24, 0, 0, 0, .both⟩,
  ⟨0xA100, 0x01, .blob, .ro, true, 24, 0, 0, 0, .both⟩,
  ⟨0xA100, 0x02, .blob, .ro, true, 24, 0, 0, 0, .both⟩,
  ⟨0xA100, 0x03, .blob, .ro, true, 24, 0, 0, 0, .both⟩,
  ⟨0xA100, 0x04, .blob, .ro, true, 24, 0, 0, 0, .both⟩,
  ⟨0xA100, 0x05, .blob, .ro, true, 24, 0, 0, 0, .both⟩,
  ⟨0xA100, 0x06, .blob, .ro, true, 24, 0, 0, 0, .both⟩,
  ⟨0xA100, 0x07, .blob, .ro, true, 24, 0, 0, 0, .both⟩,
  ⟨0xA100, 0x08, .blob, .ro, true, 24, 0, 0, 0, .both⟩,
  ⟨0xA100, 0x09, .blob, .ro, true, 24, 0, 0, 0, .both⟩,
  ⟨0xA100, 0x0A, .blob, .ro, true, 24, 0, 0, 0, .both⟩,
  ⟨0xA100, 0x0B, .blob, .ro, true, 24, 0, 0, 0, .both⟩,
  ⟨0xA100, 0x0C, .blob, .ro, true, 24, 0, 0, 0, .both⟩,
  ⟨0xA100, 0x0D, .blob, .ro, true, 24, 0, 0, 0, .both⟩,
  ⟨0xA100, 0x0E, .blob, .ro, true, 24, 0, 0, 0, .both⟩,
  ⟨0xA100, 0x0F, .blob, .ro, true, 24, 0, 0, 0, .both⟩,
  ⟨0xA100, 0x10, .blob, .ro, true, 24, 0, 0, 0, .both⟩]

def objRowsB : List ObjRow := [
  ⟨0xB000, 0x01, .bool, .rwl, false, 1, 1, 0, 1, .both⟩,
  ⟨0xB000, 0x02, .uint, .rw, false, 4, 3277, 33, 0x320000, .both⟩,
  ⟨0xB000, 0x03, .uint, .rw, false, 4, 16, 1, 0x50000, .both⟩,
  ⟨0xB000, 0x04, .uint, .rw, false, 4, 3277, 33, 0x320000, .both⟩,
  ⟨0xB000, 0x07, .uint, .rw, false, 4, 0x50000, 3277, 0x320000, .both⟩,
  ⟨0xB010, 0x01, .uint, .ro, false, 4, 0, 0, 0, .both⟩,
  ⟨0xB010, 0x02, .uint, .ro, false, 8, 0, 0, 0, .both⟩,
  ⟨0xB010, 0x03, .uint, .ro, false, 4, 0, 0, 0, .both⟩,
  ⟨0xB010, 0x04, .uint, .ro, false, 4, 0, 0, 0, .both⟩,
  ⟨0xB010, 0x05, .uint, .rc, false, 4, 0, 0, 0, .both⟩,
  ⟨0xB010, 0x06, .uint, .ro, false, 8, 0, 0, 0, .both⟩,
  ⟨0xB010, 0x07, .uint, .rc, false, 4, 0, 0, 0, .both⟩,
  ⟨0xB010, 0x08, .uint, .rc, false, 4, 0, 0, 0, .both⟩,
  ⟨0xB020, 0x01, .uint, .ro, false, 4, 0, 0, 0, .both⟩,
  ⟨0xB020, 0x02, .uint, .ro, false, 4, 0, 0, 0, .both⟩,
  ⟨0xB020, 0x03, .blob, .ro, false, 256, 0, 0, 0, .both⟩,
  ⟨0xB020, 0x04, .uint, .ro, false, 8, 0, 0, 0, .both⟩]

def objRowsC : List ObjRow := [
  ⟨0xC010, 0x01, .uint, .ro, false, 2, 0, 0, 0, .both⟩,
  ⟨0xC010, 0x02, .uint, .ro, false, 1, 0, 0, 0, .both⟩,
  ⟨0xC010, 0x03, .uint, .rc, false, 4, 0, 0, 0, .both⟩,
  ⟨0xC010, 0x04, .uint, .rw, false, 4, 33, 2, 0x8000, .kv2c⟩,
  ⟨0xC010, 0x05, .uint, .rw, false, 4, 33, 2, 0x8000, .kv2c⟩,
  ⟨0xC010, 0x06, .uint, .ro, false, 2, 0, 0, 0, .kv2c⟩,
  ⟨0xC010, 0x07, .uint, .rc, false, 4, 0, 0, 0, .kv2c⟩,
  ⟨0xC020, 0x01, .uint, .rc, false, 4, 0, 0, 0, .both⟩,
  ⟨0xC020, 0x02, .uint, .rc, true, 4, 0, 0, 0, .both⟩,
  ⟨0xC020, 0x03, .uint, .rc, true, 4, 0, 0, 0, .kv2c⟩,
  ⟨0xC020, 0x04, .uint, .ro, true, 8, 0, 0, 0, .both⟩,
  ⟨0xC020, 0x05, .uint, .rc, true, 4, 0, 0, 0, .both⟩,
  ⟨0xC031, 0x01, .blob, .rw, true, 16, 0, 0, 0, .both⟩,
  ⟨0xC031, 0x02, .blob, .rw, true, 16, 0, 0, 0, .both⟩,
  ⟨0xC031, 0x03, .blob, .rw, true, 16, 0, 0, 0, .both⟩,
  ⟨0xC031, 0x04, .blob, .rw, true, 16, 0, 0, 0, .both⟩,
  ⟨0xC031, 0x05, .blob, .rw, true, 16, 0, 0, 0, .both⟩,
  ⟨0xC031, 0x06, .blob, .rw, true, 16, 0, 0, 0, .both⟩,
  ⟨0xC031, 0x07, .blob, .rw, true, 16, 0, 0, 0, .both⟩,
  ⟨0xC031, 0x08, .blob, .rw, true, 16, 0, 0, 0, .both⟩,
  ⟨0xC110, 0x01, .uint, .ro, false, 2, 0, 0, 0, .kv2p⟩,
  ⟨0xC110, 0x02, .uint, .ro, false, 8, 0, 0, 0, .kv2p⟩,
  ⟨0xC110, 0x03, .uint, .rc, false, 4, 0, 0, 0, .kv2p⟩,
  ⟨0xC110, 0x04, .uint, .ro, false, 2, 0x2ff0, 0, 0, .kv2p⟩,
  ⟨0xC110, 0x05, .uint, .rc, false, 4, 0, 0, 0, .kv2p⟩,
  ⟨0xC110, 0x06, .uint, .rw, false, 4, 0x15180, 3600, 0x93a80, .kv2p⟩,
  ⟨0xC120, 0x01, .uint, .ro, true, 2, 0, 0, 0, .kv2p⟩]

def objRowsD : List ObjRow := [
  ⟨0xD000, 0x01, .uint, .ro, false, 1, 2, 0, 0, .both⟩,
  ⟨0xD000, 0x02, .uint, .rw, false, 4, 0x8000, 328, 0x50000, .both⟩,
  ⟨0xD000, 0x03, .uint, .rw, false, 4, 66, 2, 0x8000, .both⟩,
  ⟨0xD000, 0x04, .uint, .rw, false, 4, 328, 33, 0x8000, .both⟩,
  ⟨0xD000, 0x05, .uint, .rw, false, 8, 0, 0, 0xffffffffffffffff, .both⟩,
  ⟨0xD000, 0x06, .bool, .rw, false, 1, 0, 0, 1, .both⟩,
  ⟨0xD000, 0x07, .uint, .rw, false, 2, 256, 16, 0x1000, .both⟩,
  ⟨0xD000, 0x08, .uint, .rc, false, 4, 0, 0, 0, .both⟩,
  ⟨0xD010, 0x01, .uint, .rwl, false, 1, 1, 0, 254, .both⟩,
  ⟨0xD010, 0x02, .uint, .rwl, false, 1, 8, 1, 255, .both⟩,
  ⟨0xD010, 0x03, .uint, .rwl, false, 2, 0, 0, 0xffff, .both⟩,
  ⟨0xD010, 0x04, .uint, .rwl, false, 2, 0x88b5, 1536, 0xffff, .both⟩,
  ⟨0xD010, 0x05, .uint, .rw, false, 1, 255, 0, 255, .both⟩,
  ⟨0xD010, 0x06, .uint, .ro, false, 1, 0, 0, 0, .both⟩,
  ⟨0xD011, 0x01, .uint, .rc, false, 4, 0, 0, 0, .both⟩,
  ⟨0xD011, 0x02, .uint, .rc, false, 4, 0, 0, 0, .both⟩,
  ⟨0xD011, 0x03, .uint, .rc, false, 4, 0, 0, 0, .both⟩,
  ⟨0xD011, 0x04, .uint, .rc, false, 4, 0, 0, 0, .both⟩,
  ⟨0xD011, 0x05, .uint, .rc, false, 4, 0, 0, 0, .both⟩,
  ⟨0xD020, 0x01, .uint, .ro, false, 1, 0, 0, 0, .both⟩,
  ⟨0xD020, 0x02, .uint, .ro, false, 2, 2667, 0, 0, .both⟩,
  ⟨0xD020, 0x03, .uint, .ro, false, 1, 48, 0, 0, .both⟩,
  ⟨0xD021, 0x01, .uint, .rc, false, 4, 0, 0, 0, .both⟩,
  ⟨0xD021, 0x02, .uint, .rc, false, 4, 0, 0, 0, .both⟩,
  ⟨0xD021, 0x03, .uint, .rc, false, 4, 0, 0, 0, .both⟩,
  ⟨0xD021, 0x04, .uint, .rc, false, 4, 0, 0, 0, .both⟩,
  ⟨0xD021, 0x05, .uint, .rc, false, 4, 0, 0, 0, .both⟩,
  ⟨0xD031, 0x01, .uint, .rc, false, 4, 0, 0, 0, .both⟩,
  ⟨0xD031, 0x02, .uint, .rc, false, 4, 0, 0, 0, .both⟩,
  ⟨0xD031, 0x03, .uint, .rc, false, 4, 0, 0, 0, .both⟩,
  ⟨0xD031, 0x04, .uint, .rc, false, 4, 0, 0, 0, .both⟩,
  ⟨0xD031, 0x05, .uint, .rc, false, 4, 0, 0, 0, .both⟩]

/-- The rows of the indices 0xN000–0xNFFF. -/
def objBlock : Nat → List ObjRow
  | 0x1 => objRows1
  | 0x2 => objRows2
  | 0x3 => objRows3
  | 0x4 => objRows4_0 ++ objRows4_1
  | 0x5 => objRows5_0 ++ objRows5_1
  | 0x6 => objRows6
  | 0x7 => objRows7_0 ++ objRows7_1
  | 0x8 => objRows8_0 ++ objRows8_1
  | 0x9 => objRows9
  | 0xA => objRowsA_0 ++ objRowsA_1
  | 0xB => objRowsB
  | 0xC => objRowsC
  | 0xD => objRowsD
  | _ => []

end Sys2Proof.Machine
end

