-- ==== Sys2Proof/Machine/Table.lean ====
section
/-!
DEFINITION. Sparse tables in one canonical form: key and value pairs with keys strictly rising, and no entry equal to
what an unlisted key reads as. Memory is such a table of bytes (a list of Host.Cell).
-/
namespace Sys2Proof.Machine

/-- A sparse table from numbers to values. -/
abbrev Tab (α : Type) := List (Nat × α)

/-- What a key reads as: its entry, or the default of an unlisted key. -/
def tabGet {α : Type} (d : α) : Tab α → Nat → α
  | [], _ => d
  | (k, v) :: t, x => if x = k then v else if x < k then d else tabGet d t x

/-- The table with one key written; writing the default removes the entry. -/
def tabSet {α : Type} [DecidableEq α] (d : α) : Tab α → Nat → α → Tab α
  | [], x, v => if v = d then [] else [(x, v)]
  | (k, w) :: t, x, v =>
    if x = k then (if v = d then t else (x, v) :: t)
    else if x < k then (if v = d then (k, w) :: t else (x, v) :: (k, w) :: t)
    else (k, w) :: tabSet d t x v

/-- The table without the keys of [lo, hi): they read as the default. -/
def tabClear {α : Type} (t : Tab α) (lo hi : Nat) : Tab α :=
  t.filter fun e => e.1 < lo || hi ≤ e.1

/-- Every key of the table is above b. -/
def tabAbove {α : Type} (b : Nat) (t : Tab α) : Bool := t.all fun e => b < e.1

/-- The canonical form: keys strictly rising, no entry at the default. -/
def tabWf {α : Type} [DecidableEq α] (d : α) : Tab α → Bool
  | [] => true
  | (k, v) :: t => decide (v ≠ d) && tabAbove k t && tabWf d t

/-- The memory of the Vorum: bytes by address, an unlisted byte reading 0 (log 3). -/
abbrev Memory := List Host.Cell

end Sys2Proof.Machine
end

