-- ==== Sys2Proof/Machine/State.lean ====
section
/-!
DEFINITION. The state of one Vorum 2 (B0): its cores, banks, Porter channels, stream contexts, partitions, host
attachment, dictionary, management networks, duties, power, start, fabric, training control, Abacus, faults and Patrol,
the queue of waiting commands, and the state after reset.
-/
namespace Sys2Proof.Machine

/-! ## One core (06, 07) -/

/-- The states of a core (06 R144). -/
inductive CoreMode where
  | off | clearing | halted | running | waiting | stopped | faulted | resetting
  deriving DecidableEq, Repr

/-- The state code of CORE_STAT.STATE (06 R144). -/
def CoreMode.code : CoreMode → Nat
  | .off => 0 | .clearing => 1 | .halted => 2 | .running => 3
  | .waiting => 4 | .stopped => 5 | .faulted => 6 | .resetting => 7

/-- HSLOT_STAT of one Hearth slot (03 R87). -/
structure HSlot where
  anchor : Int
  group : Option (Fin 8)
  clearing : Bool
  sat : Bool
  nf : Bool
  nfPos : Nat
  deriving DecidableEq, Repr

def HSlot.reset : HSlot := ⟨0, none, false, false, false, 0⟩

/-- AGn_CFG, AGn_STAT and the splint mark of one accumulation group (03 R78, R81; 07 R183). -/
structure Group where
  opened : Bool
  mode : Nat
  init : Bool
  anchor : Int
  count : Nat
  base : Nat
  fill : Bool
  swapPend : Bool
  badcfg : Bool
  overlap : Bool
  wrIgn : Bool
  splint : Bool
  deriving DecidableEq, Repr

def Group.reset : Group := ⟨false, 0, false, 0, 1, 0, false, false, false, false, false, false⟩

/-- AMXn (05 R122). -/
structure Amx where
  nf : Bool
  amax : Nat
  deriving DecidableEq, Repr

def Amx.reset : Amx := ⟨false, 0x4000⟩

/-- One row record of a statistics set (04 R114); `latched`: a STAT2 has gone into the row since STATI, so MUQ is latched (04 R115). -/
structure StatRow where
  s1 : Int
  s2 : Nat
  cnt1 : Nat
  cnt2 : Nat
  muq : Int
  nf : Bool
  ovf : Bool
  latched : Bool
  deriving DecidableEq, Repr

def StatRow.reset : StatRow := ⟨0, 0, 0, 0, 0, false, false, false⟩

/-- A statistics set: MODE (0 TWO, 1 ONE, 2 RMS), the anchors, the latched r words, the rows, and STATF has run (04 R114, R119). -/
structure StatSet where
  mode : Nat
  a : Int
  a2 : Int
  r : Vector Nat 32
  rows : Vector StatRow 32
  done : Bool
  deriving DecidableEq, Repr

def StatSet.reset : StatSet := ⟨0, 0, 0, .replicate 32 0x4000, .replicate 32 .reset, false⟩

/-- The units whose operations retire after they issue (06 R146). -/
inductive ExecUnit where
  | lattice | drain | elementwise | lantern | ieee | abacus
  deriving DecidableEq, Repr

/-- What an issued operation does when it retires. -/
inductive Effect where
  /-- Writes bytes at a memory address. -/
  | store (addr : Nat) (bytes : List Byte)
  /-- Clears a Hearth slot (03 R80, R88). -/
  | clear (slot : SlotIx)
  /-- Sets CVT_STAT bits (02 R60). -/
  | cvt (bits : Nat)
  /-- Sets LNT_STAT bits (04 R120). -/
  | lnt (bits : Nat)
  /-- Records a non-finite Lantern output (04 R120). -/
  | lntNf (pos : Nat)
  /-- Records a non-finite drain output (03 R91). -/
  | drnNf (slot pos : Nat)
  /-- Folds a word, or a non-finite mark, into AMXn (05 R122). -/
  | amx (n : Fin 8) (word : Nat) (nf : Bool)
  /-- A first-NaN event: its source, slot (0xFF for a bank) and element (06 R161, R162). -/
  | nanEvent (source slot elem : Nat)
  /-- Writes the register a specifier names (07 R170). -/
  | reg (spec : Nat) (value : W64)
  /-- Sets IEEE_STAT flags (06 R160). -/
  | ieee (flags : Nat)
  /-- Replaces a statistics set (04 R114). -/
  | stats (i : Fin 2) (set : StatSet)
  /-- Writes table RAM entries (04 R112). -/
  | tableRam (first : Nat) (words : List W32)
  /-- Counts an AB (21 R482, R493): its operation, its outcome word, its units, the elements KGEN regenerated. -/
  | abacus (op outcome units elems : Nat)
  /-- A unit that KGEN in Marionette mode still reads (21 R487): its channel, source, destination and length, and whether it is under way. -/
  | keyUnit (ch : ChanIx) (src : W64) (dst len : Nat) (started : Bool)
  deriving DecidableEq, Repr

/-- The captured operands of a lattice pass: slot, anchor, K, A by rows, B by rows of k (03 R62). -/
structure Pass where
  slot : SlotIx
  anchor : Int
  k : Nat
  a : List Nat
  b : List Nat
  deriving DecidableEq, Repr

/-- An operation issued and not retired, with what it will write: scratchpad ranges, slots, registers, statistics sets, the table RAM; and the slots it read. -/
structure InFlight where
  unit : ExecUnit
  pc : Nat
  tag : W16
  pass : Option Pass
  effects : List Effect
  ranges : List (Nat × Nat)
  slots : List Nat
  readSlots : List Nat
  regs : List Nat
  sets : List Nat
  table : Bool
  /-- Scratchpad ranges it reads. -/
  reads : List (Nat × Nat)
  /-- Its place in the core's order of issue. -/
  order : Nat := 0
  deriving DecidableEq, Repr

/-- A CRED handed to the Canopy and not retired (07 R186, 18 R421). -/
structure CredWait where
  /-- The die's context and the reduction's number on it. -/
  ctx : Nat
  rseq : Nat
  mode : Nat
  axn : Nat
  sreg : Nat
  oreg : Nat
  slot : Nat
  dest : Nat
  pc : Nat
  tag : W16
  /-- Issued before the EPB of the open epoch (19 R444). -/
  outer : Bool
  /-- Its place in the core's order of issue. -/
  order : Nat
  deriving DecidableEq, Repr

/-- A SEND or RECV that waits: its word, its PC, and the tick at which it times out (10 R257). -/
structure StreamWait where
  word : W64
  pc : Nat
  due : Nat
  deriving DecidableEq, Repr

/-- Where the host read of a SHDER stands: to be issued once its channel is not active, issued with its tag, or answered without a
fitting scale and to be issued again (05 R137, R138). -/
inductive ShPhase where
  | due | asked (tag : Nat) | pause
  deriving DecidableEq, Repr

/-- A SHDER waiting for the host's scale: D, the record, its channel and host address, the step and the value of R129 (05 R137). -/
structure ShderWait where
  dreg : Nat
  record : Nat
  pch : ChanIx
  host : Nat
  step : W32
  derived : Nat
  pc : Nat
  tag : W16
  phase : ShPhase
  /-- Its place in the core's order of issue. -/
  order : Nat
  deriving DecidableEq, Repr

/-- The snapshot of an epoch (06 R157). -/
structure Snapshot where
  sreg : Vector W64 32
  areg : Vector W64 16
  preg : Vector Bool 8
  lreg : Vector W32 4
  treg : Vector (BitVec 256) 16
  tag : W16
  groups : Vector Group 8
  amx : Vector Amx 8
  stats : Vector StatSet 2
  lntKv1 : Bool
  lntFtz : Int
  lntStat : W32
  cvt : Nat
  drnNf : Bool
  drnSlot : Nat
  drnPos : Nat
  ieeeRnd : Nat
  ieeeStat : Nat
  deriving DecidableEq, Repr

/-- EPOCH_CTL, EPOCH_BANKS, EPOCH_SLOTS and the snapshot (06 R155, R157). -/
structure Epoch where
  opened : Bool
  discarding : Bool
  id : W32
  restart : Nat
  banks : W32
  slots : W64
  snapshot : Option Snapshot
  deriving DecidableEq, Repr

def Epoch.reset : Epoch := ⟨false, false, 0, 0, 0, 0, none⟩

/-- The states of a Porter channel (09 R223). -/
inductive ChanState where
  | idle | queued | active | preempted | done | rejected | stoppedByEngine | aborted
  deriving DecidableEq, Repr

def ChanState.code : ChanState → Nat
  | .idle => 0 | .queued => 1 | .active => 2 | .preempted => 3
  | .done => 4 | .rejected => 5 | .stoppedByEngine => 6 | .aborted => 7

/-- The active states (09 R223). -/
def ChanState.isActive : ChanState → Bool
  | .queued | .active | .preempted => true
  | _ => false

/-- The writable registers of a channel, kept where the Scout may have to restore them (06 R153, 09 R222). -/
structure ChanRegs where
  src : W64
  dst : W64
  cnt : W32
  ns : Bool
  prio : Nat
  mode : Nat
  width : Byte
  fill : W64
  deriving DecidableEq, Repr

def ChanRegs.reset : ChanRegs := ⟨0, 0, 0, true, 0, 0, 0, 0⟩

/-- What a channel held before the Scout wrote it: its registers and PCH_STAT's fields (06 R153). -/
structure ChanSaved where
  regs : ChanRegs
  state : ChanState
  cause : Nat
  wdone : Nat
  collide : Bool
  mismatch : Bool
  nf : Bool
  deriving DecidableEq, Repr

/-- A read that a beat has asked for: its space, address and length, and the tag of a HOST read (09 R234). -/
structure ReadAsked where
  space : Nat
  addr : Nat
  len : Nat
  tag : Nat
  deriving DecidableEq, Repr

/-- One Porter channel (09 R222–R230): its registers, PCH_STAT, the holding register, the beats waiting in the read buffer. -/
structure Channel where
  regs : ChanRegs
  state : ChanState
  cause : Nat
  collide : Bool
  wrIgn : Bool
  mismatch : Bool
  nf : Bool
  held : List Byte
  wdone : Nat
  /-- The checks of R226 have passed. -/
  checked : Bool
  /-- GO was written with RESUME on a channel that could not resume. -/
  resumeBad : Bool
  /-- ABORT was written and acts at the next beat boundary. -/
  aborting : Bool
  /-- Read data that has arrived, one entry a beat. -/
  buffer : List (List Byte)
  /-- Beats whose data has been asked for, in order, each with its reads outside the core (09 R234). -/
  asked : List (List ReadAsked)
  spec : Bool
  saved : Option ChanSaved
  /-- CVT_STAT bits of a Scout's conversion, which reach CVT_STAT when its PGO retires (06 R153, R154). -/
  cvt : Nat
  deriving DecidableEq, Repr

def Channel.reset : Channel :=
  ⟨.reset, .idle, 0, false, false, false, false, [], 0, false, false, false, [], [], false, none, 0⟩

/-- BANK_OWN[b]: the fields a core holds for its window (08 R202). -/
structure BankOwn where
  outc : Nat
  collide : Bool
  wrIgn : Bool
  arb : Bool
  target : Nat
  deriving DecidableEq, Repr

def BankOwn.reset : BankOwn := ⟨0, false, false, false, 0⟩

/-- The Scout of one core: its PC, the PCs it has passed and the sequencer has not reached, its shadow registers and which
of them are unready, the claims and channels it holds (06 R150–R153). -/
structure Scout where
  running : Bool
  pc : Nat
  window : List Nat
  sreg : Vector W64 32
  areg : Vector W64 16
  preg : Vector Bool 8
  lreg : Vector W32 4
  unready : List Nat
  /-- Speculative claims: the PC of the CLAIM, the window index and the home core. -/
  claims : List (Nat × BankIx × CoreId)
  /-- Speculative transfers: the PC of the PGO and the channel. -/
  chans : List (Nat × ChanIx)
  /-- Bank ranges that instructions passed in the window write. -/
  passedWrites : List (Nat × Nat)
  /-- Instructions whose operands are prefetched: the PC and the ranges read. -/
  prefetched : List (Nat × List (Nat × Nat))
  deriving DecidableEq, Repr

def Scout.reset : Scout :=
  ⟨false, 0, [], .replicate 32 0, .replicate 16 0, (Vector.replicate 8 false).set 0 true, .replicate 4 0, [], [], [], [], []⟩

/-- The power state of a core domain and its operating points (16 R361–R364). -/
structure CorePower where
  /-- 0 powered, 2 NAP, 3 GATED; whether a powered core dozes follows from its mode (16 R363). -/
  state : Nat
  op : Nat
  /-- The ceiling of the power cap, which a POWER answer also sets, and the thermal ceiling. -/
  capCeiling : Nat
  thermalCeiling : Nat
  held : Bool
  /-- Gating units of banks that are off, one bit a unit. -/
  gated : Nat
  deriving DecidableEq, Repr

/-- One core: the registers of 06 R140, its control registers, its units' work in flight, windows and channels. -/
structure Core where
  part : Option PartId
  mode : CoreMode
  pc : Nat
  tag : W16
  sreg : Vector W64 32
  areg : Vector W64 16
  preg : Vector Bool 8
  lreg : Vector W32 4
  treg : Vector (BitVec 256) 16
  epseq : Bool
  maskIgn : Bool
  ecc1 : Bool
  cvt : Nat
  drnNf : Bool
  drnSlot : Nat
  drnPos : Nat
  lntKv1 : Bool
  lntFtz : Int
  lntStat : W32
  ieeeRnd : Nat
  ieeeStat : Nat
  groups : Vector Group 8
  slots : Vector HSlot 64
  amx : Vector Amx 8
  shdirCount : Nat
  shdirBase : Nat
  scoutDepth : Nat
  scoutEn : Bool
  scoutCounts : Vector W32 6
  epoch : Epoch
  frec : W64
  stepno : W32
  ltd : Vector W64 16
  stats : Vector StatSet 2
  /-- The model's own count of instructions issued: the order in which they retire (06 R144, R150; log 120). -/
  issued : Nat
  inflight : List InFlight
  creds : List CredWait
  wait : Option StreamWait
  shder : Option ShderWait
  /-- Records a commit walk skipped, whose MISS flag waits for their bank (05 R128). -/
  missed : List Nat
  chans : Vector Channel 16
  served : Option (ChanIx × Nat)
  /-- Reads issued before their channel stopped, whose answers are still due (09 R239). -/
  late : List ReadAsked
  /-- Record writes of commits that wait for their channel: the channel, the host address, the bytes (05 R138). -/
  hostWrites : List (ChanIx × Nat × List Byte)
  windows : Vector (Option CoreId) 32
  bankOwn : Vector BankOwn 32
  scout : Scout
  power : CorePower
  deriving DecidableEq, Repr

/-- FREC0 with no fault recorded: FIELD 0xF (07 R179). -/
def frecReset : W64 := 0xF000000000000000

/-- The reset value of p0–p7: p0 reads 1 (06 R140). -/
def pregReset : Vector Bool 8 := (Vector.replicate 8 false).set 0 true

def Core.reset : Core where
  part := none
  mode := .halted
  pc := 0
  tag := 0
  sreg := .replicate 32 0
  areg := .replicate 16 0
  preg := pregReset
  lreg := .replicate 4 0
  treg := .replicate 16 0
  epseq := false
  maskIgn := false
  ecc1 := false
  cvt := 0
  drnNf := false
  drnSlot := 0
  drnPos := 0
  lntKv1 := false
  lntFtz := -16256
  lntStat := 0
  ieeeRnd := 0
  ieeeStat := 0
  groups := .replicate 8 .reset
  slots := .replicate 64 .reset
  amx := .replicate 8 .reset
  shdirCount := 0
  shdirBase := 0
  scoutDepth := 64
  scoutEn := true
  scoutCounts := .replicate 6 0
  epoch := .reset
  frec := frecReset
  stepno := 0
  ltd := .replicate 16 0
  stats := .replicate 2 .reset
  issued := 0
  inflight := []
  creds := []
  wait := none
  shder := none
  missed := []
  chans := .replicate 16 .reset
  served := none
  late := []
  hostWrites := []
  windows := .replicate 32 none
  bankOwn := .replicate 32 .reset
  scout := .reset
  power := ⟨0, 0, 7, 7, false, 0⟩

/-- A core whose domain is unpowered (06 R144, 16 R363). -/
def Core.gated : Core := { Core.reset with mode := .off, power := ⟨3, 0, 7, 7, false, 0⟩ }

/-! ## Banks and streams (08, 10) -/

/-- The party a clearing bank belongs to when clearing ends (08 R216). -/
inductive BankParty where
  | pool
  | core (c : CoreId)
  | claimer (r : Requester)
  | lent
  deriving DecidableEq, Repr

/-- The state of a physical bank (08 R201). -/
inductive BankState where
  | free
  | scoutHeld (c : CoreId)
  | owned (c : CoreId)
  | transit (target : CoreId)
  | clearing (next : BankParty)
  | staged (n : PartId) (t : CoreId)
  | patrol
  | lent
  deriving DecidableEq, Repr

/-- A claim that has been issued and not answered (08 R204): who asks, for which core, where the result goes, and the candidates left, as home and index. -/
structure Claim where
  who : Requester
  target : CoreId
  dreg : Nat
  cands : List (CoreId × BankIx)
  /-- The PC of the CLAIM and its place in the core's order of issue. -/
  pc : Nat
  order : Nat
  deriving DecidableEq, Repr

/-- Who hands a bank over (08 R207): a GIVE with its D, a GO write, the ring engine of a partition. -/
inductive Giver where
  | give (dreg : Nat)
  | go
  | ring (n : PartId)
  deriving DecidableEq, Repr

/-- A handover under way (08 R207). `sent`: the home router has set TRANSIT; `recorded`: the target's router holds the bank. -/
structure Handover where
  home : CoreId
  bank : BankIx
  /-- The giving core; none for the ring engine. -/
  source : Option CoreId
  target : CoreId
  how : Giver
  sent : Bool
  recorded : Bool
  /-- The PC of the GIVE and its place in the core's order of issue; the channels started before it that have bytes left in the window. -/
  pc : Nat
  order : Nat
  waits : List ChanIx
  deriving DecidableEq, Repr

/-- A stream context (10 R248), and whether its ring headers are still being cleared (R251). -/
structure Ctx where
  state : Nat
  remote : Bool
  side : Bool
  part : Nat
  score : Nat
  rcore : Nat
  ring : Nat
  far : Nat
  slotExp : Nat
  depthExp : Nat
  cause : Nat
  sent : W16
  rcvd : W16
  cred : W16
  esent : Nat
  ercvd : Nat
  clearing : Bool
  deriving DecidableEq, Repr

def Ctx.reset : Ctx := ⟨0, false, false, 0, 0, 0, 0, 0, 0, 0, 0, 0, 0, 0, 0, 0, false⟩

/-- A message, a credit return or a close notice under way to a context of a partition (10 R252, R253, R262), with the cores it leaves
and goes to: messages of one class between two cores keep their order (01 R18). -/
inductive StreamTraffic where
  | msg (n : PartId) (ctx : Nat) (index : Nat) (spec : Option W32) (payload : List Byte) (src dst : Nat)
  | credit (n : PartId) (ctx : Nat) (count : Nat) (src dst : Nat)
  | close (n : PartId) (ctx : Nat)
  deriving DecidableEq, Repr

/-! ## Ridgeline ports and the fabric (18) -/

/-- A lane of a port: codewords good and bad in a row, and its lock (18 R405). -/
structure Lane where
  good : Nat
  bad : Nat
  locked : Bool
  deriving DecidableEq, Repr

/-- One Ridgeline port (18 R403–R412). Classes count as 2·VC + DL. -/
structure Link where
  wasUp : Bool
  lanes : Vector Lane 4
  /-- Codewords that wait for the other lanes of their block: CWSEQ, lane, flits. -/
  deskew : List (Nat × Nat × List Flit)
  credits : Vector Nat 16
  /-- Flits of queued packets not sent yet, each with the camp that injected it, 0 for transit. -/
  queue : List (Nat × Flit)
  /-- Spent credits by class and injecting camp, oldest first (18 R411). -/
  held : List (Nat × Nat)
  unacked : List Flit
  resend : List Flit
  fseq : Nat
  expected : Nat
  nak : Bool
  resends : Nat
  /-- Bytes of the packet in reception, by class, and its flits so far. -/
  asm : List (Nat × List Byte × Nat)
  owed : Vector Nat 16
  lctlDue : Bool
  lctlInit : Bool
  passed : Nat
  /-- Flits left in the round of CANOPY, DATA and STASH (18 R409). -/
  round : Nat × Nat × Nat
  deriving DecidableEq, Repr

/-- Receive buffers by VC, in flits (18 R408). -/
def vcBuffer (vc : Nat) : Nat :=
  if vc == 0 then 32 else if vc == 1 then 256 else if vc == 2 then 64 else if vc == 3 then 512
  else if vc == 4 then 256 else if vc == 5 then 32 else 0

def Link.reset : Link where
  wasUp := false
  lanes := .replicate 4 ⟨0, 0, false⟩
  deskew := []
  credits := .replicate 16 0
  queue := []
  held := []
  unacked := []
  resend := []
  fseq := 0
  expected := 0
  nak := false
  resends := 0
  asm := []
  owed := .replicate 16 0
  lctlDue := false
  lctlInit := false
  passed := 0
  round := (4, 3, 1)

/-- The fabric as this die sees it (18 R413–R417, R424): lost seats, lost links as seat and port, the remap table, the notices
seen, the number of its next notice. -/
structure Fabric where
  lostSeats : List Nat
  lostLinks : List (Nat × Nat)
  remap : List (Nat × Nat)
  seen : List (Nat × Nat × Nat)
  noticeSeq : Nat
  deriving DecidableEq, Repr

def Fabric.reset : Fabric := ⟨[], [], [], [], 1⟩

/-! ## The Canopy (18 R418–R426) -/

/-- What a tree node carries: a Hearth tile, a word of modes 1, 2 and 4, a vote, or nothing (18 R421, R422). -/
inductive CVal where
  | tile (vals : List (Int × Nat))
  | word (w : Nat)
  | vote (b : Bool)
  | nothing
  deriving DecidableEq, Repr

/-- A reduction in flight on this die (18 R419, R420). -/
structure Reduction where
  rseq : Nat
  mode : Nat
  nchunk : Nat
  q : Nat
  anchor : Int
  /-- Node values on this die, by level and number. -/
  nodes : List (Nat × Nat × CVal)
  /-- The CREDs issued here: core and chunk. -/
  issued : List (CoreId × Nat)
  /-- Ranks a child came from. -/
  children : List Nat
  /-- Nodes already sent up. -/
  sentUp : List (Nat × Nat)
  /-- The outcome that ends it: a code of R423, or 0xF for unequal anchors. -/
  fail : Option Nat
  /-- The root's outcome and value, once known here. -/
  root : Option (Nat × CVal)
  /-- STEPNO of the first core that issued its CRED here (19 R430). -/
  step : Option Nat
  /-- The SKIP round of a verdict (19 R440): V1 once it is delivered, the nodes over ranks, the ranks a child came from, the
  nodes sent up. -/
  verdict : Option Bool
  skipNodes : List (Nat × Nat × Bool)
  skipChildren : List Nat
  skipSent : List (Nat × Nat)
  deriving DecidableEq, Repr

/-- One of the die's eight reduction contexts (01 R27, 18 R418). -/
structure CanopyCtx where
  owner : Option PartId
  camp : Bool
  /-- CREDs issued so far, by core. -/
  counts : Tab Nat
  /-- Reductions that have ended here, and the outcomes other than DONE by number. -/
  settled : Nat
  ended : List (Nat × Nat)
  /-- In flight, oldest first. -/
  reds : List Reduction
  deriving DecidableEq, Repr

def CanopyCtx.reset : CanopyCtx := ⟨none, false, [], 0, [], []⟩

/-- What a die knows of a partition's camp (18 R426, 20 R466–R470): members present by seat or coordinate, members failed,
spares that are idle, and the recovery under way. -/
structure Camp where
  /-- The member count the partition was formed with (12 R291). -/
  members : Nat
  present : List Nat
  failed : List Nat
  coordinator : Bool
  reports : List (Nat × List Byte)
  done : List Nat
  /-- Seats proposed and not decided, then those decided: coordinate and seat (20 R467). -/
  proposals : List (Nat × Nat)
  /-- The outstanding REMAP call is about the first proposal (15 R349). -/
  called : Bool
  decided : List (Nat × Nat)
  /-- A pull under way: the step, and the stash's content length once its slot header has come (20 R469). -/
  pull : Option (Nat × Nat)
  pulled : List Byte
  understudy : Bool
  /-- Sealed steps this die holds for its ward, newest first: slot and step; the slot that fills, its step and length (20 R461, R462). -/
  wardSealed : List (Nat × Nat)
  wardFill : Option (Nat × Nat × Nat)
  deriving DecidableEq, Repr

def Camp.reset : Camp := ⟨0, [], [], false, [], [], [], false, [], none, [], false, [], none⟩

/-! ## Training and the stash (19, 20) -/

/-- A stash being sent to the buddy: its step, its content, the bytes sent, and the acknowledgement it waits for (20 R462). -/
structure Stash where
  step : Nat
  content : List Byte
  /-- The content has been sent and STASH_SEAL is out. -/
  sealing : Bool
  /-- It goes to the host: the half of its region that is used (20 R465). -/
  host : Option Nat
  deriving DecidableEq, Repr

/-- Step control of one partition beside its objects (19, 20). -/
structure Training where
  /-- A write of obj 8010.0B or a restore that the next START admission takes (19 R448). -/
  nextBlock : Option Nat
  /-- The first opening after formation or a restore is still due (20 R455). -/
  openDue : Bool
  replay : Bool
  resumed : Bool
  /-- S of the norm reduction of step NSTEP was not finite (19 R439). -/
  normBad : Bool
  /-- The record that is open: its step and its bytes. -/
  openRec : Option (Nat × List Byte)
  unresolved : Bool
  /-- Gradient scale floor and ceiling, growth interval and T in force (19 R447). -/
  floor : Nat
  ceiling : Nat
  growth : Nat
  clip : Nat
  stash : Option Stash
  /-- The half of the host region that holds the newest kept stash (20 R465). -/
  hostHalf : Option Nat
  /-- A stash was kept or given up since the STASH duty's last request (15 R352). -/
  stashOver : Bool
  /-- Items 1–3 of R461 for CSTEP and for P (20 R464). -/
  metaNow : Option (Nat × List Byte)
  metaPrev : Option (Nat × List Byte)
  deriving DecidableEq, Repr

def Training.reset : Training := ⟨none, true, false, false, false, none, false, 0xE0, 32, 2000, 0x3FF0000000000000, none, none, false, none, none⟩

/-! ## Patrol (22) -/

/-- A slice of the Patrol test (22 R506): whether one runs, the units taken, the sweep's position, and the sweep number. -/
structure Patrol where
  running : Bool
  banks : List (CoreId × BankIx × Bool)
  cores : List CoreId
  nextUnit : Nat
  sweep : Nat
  /-- The last pass of each audit, by key, as its tick (22 R505). -/
  audits : List (Nat × Nat)
  /-- The tick of the last device reset, since when a bank or core that nothing has changed has been idle (22 R504). -/
  since : Nat
  deriving DecidableEq, Repr

def Patrol.reset : Patrol := ⟨false, [], [], 0, 0, [], 0⟩

/-! ## Notifications, events, ring pages (13, 22, 11, 12) -/

/-- A notification (13 R325). -/
structure Note where
  seq : Nat
  reason : Nat
  part : Nat
  item : Nat
  data : Nat
  tick : Nat
  deriving DecidableEq, Repr

/-- A notification queue: the number of its next record, its records oldest first, the drops since the last LOST record (13 R326). -/
structure NoteQueue where
  seq : Nat
  items : List Note
  lost : Nat
  deriving DecidableEq, Repr

def NoteQueue.reset : NoteQueue := ⟨1, [], 0⟩

/-- An event record (22 R497). -/
structure EventRec where
  seq : Nat
  tick : Nat
  code : Nat
  cls : Nat
  part : Nat
  core : Nat
  detail : Nat
  deriving DecidableEq, Repr

/-- The event number, the logs and the events of the tick in force (22 R497, R498). -/
structure FaultLog where
  seq : Nat
  device : List EventRec
  fatal : List EventRec
  now : List (Nat × Nat × Nat)
  deriving DecidableEq, Repr

def FaultLog.reset : FaultLog := ⟨1, [], [], []⟩

/-- One entry of the vector table (11 R264); it starts masked, as the MSI-X layout has it (log 35). -/
structure VecEntry where
  addrLo : W32
  addrHi : W32
  data : W32
  ctl : W32
  deriving DecidableEq, Repr

def VecEntry.reset : VecEntry := ⟨0, 0, 0, 1⟩

/-- How far a fetched command is (12 R296, R299). -/
inductive CmdStage where
  | waiting | admitted | running
  deriving DecidableEq, Repr

/-- A fetched command that has no record yet (12 R295, R299). -/
structure Command where
  sqidx : Nat
  opc : Nat
  tok : Nat
  cid : Nat
  tmo : Nat
  run : Nat
  payload : List Byte
  fetched : Nat
  arrival : Nat
  within : Bool
  stage : CmdStage
  admitted : Nat
  waited : Nat
  delayed : Bool
  /-- STAGE: the bank the ring engine has claimed, and the source bytes it has asked for. -/
  work : Option (CoreId × BankIx)
  asked : Nat
  /-- A START that has ended and whose record waits for the partition's channels: outcome, cause and DETAIL (09 R246). -/
  ended : Option (Nat × Nat × Nat)
  deriving DecidableEq, Repr

/-- What a partition's transition ends in (12 R291, R292, R294). -/
inductive PartWork where
  | none | forming | dissolving
  deriving DecidableEq, Repr

/-- What the Vorum holds for one partition beside its objects: its ring page (11 R264), its rings (12 R293), its queues and
logs, its function's registers. -/
structure Partition where
  /-- First context of the partition's range (10 R250). -/
  ctxBase : Nat
  /-- An epoch has been discarded, so obj 4050.09 names one (10 R261). -/
  discarded : Bool
  notes : NoteQueue
  log : List EventRec
  cmdDb : W32
  cplDb : W32
  fenceTmo : Bool
  fenceWait : Bool
  dbBad : Bool
  sizeBad : Bool
  intMod : W32
  vectors : Vector VecEntry 8
  vecPending : Nat
  /-- The producer index the Vorum has observed (11 R266). -/
  observed : Nat
  /-- Completion records not yet signalled (11 R268). -/
  unsignalled : Nat
  /-- Records written since the last accepted CIDX (11 R265, 12 R293). -/
  unread : Nat
  phase : Bool
  lastIdx : Option Nat
  /-- A command fetch is out, and a wait on the full completion ring has been counted. -/
  fetching : Bool
  fullWait : Bool
  commands : List Command
  work : PartWork
  hbmUnits : List Nat
  /-- Local Canopy context numbers and the die contexts they name (12 R302, R305). -/
  canopy : List (Nat × Fin 8)
  /-- The next CALLSEQ of the partition's duties STEP and STASH (15 R349). -/
  callSeq : Nat × Nat
  /-- DOFF as taken at the last START admission (20 R452). -/
  doff : Nat
  camp : Camp
  train : Training
  /-- Writes of host apertures that wait for the channels that use them: the subindex and the value (09 R227, 11 R269). -/
  apertures : List (Nat × Nat)
  deriving DecidableEq, Repr

def Partition.reset : Partition where
  ctxBase := 0
  discarded := false
  notes := .reset
  log := []
  cmdDb := 0
  cplDb := 0
  fenceTmo := false
  fenceWait := false
  dbBad := false
  sizeBad := false
  intMod := 0
  vectors := .replicate 8 .reset
  vecPending := 0
  observed := 0
  unsignalled := 0
  unread := 0
  phase := true
  lastIdx := none
  fetching := false
  fullWait := false
  commands := []
  work := .none
  hbmUnits := []
  canopy := []
  callSeq := (1, 1)
  doff := 0
  camp := .reset
  train := .reset
  apertures := []

/-! ## Host attachment and HBM3E (11) -/

/-- What leaves the device, oldest first: the model's record of what other parties see (log 4). -/
inductive OutEvent where
  /-- A posted write to host memory. -/
  | hostWrite (n : PartId) (addr : Nat) (bytes : List Byte) (noSnoop : Bool)
  /-- A read request to host memory: its tag and its No-Snoop bit (09 R243). -/
  | hostRead (n : PartId) (tag addr len : Nat) (noSnoop : Bool)
  /-- A frame sent on the 10BASE-T1S port: an answer to its source, a NOTIFY to the listener (14 R341, R342). -/
  | t1sFrame (f : T1sFrame)
  /-- The PHY's PLCA registers written over MDIO: the node ID and the node count (14 R342). -/
  | plca (node count : Nat)
  /-- An I3C In-Band Interrupt with its mandatory byte. -/
  | ibi (byte : Nat)
  /-- An I3C answer byte string: a CCC's result, or a NACK. -/
  | i3c (bytes : List Byte)
  | i3cNack
  /-- The value a register read returns. -/
  | regValue (value : Nat)
  /-- A UCIe completion to the host: PART, ADDR, TAG, STATUS and data (11 R278). -/
  | ucieCpl (part addr tag status : Nat) (data : List Byte)
  /-- A UCIe CRD packet to the host: P headers, P data units, NP headers, C data units (11 R278). -/
  | ucieCrd (pHdr pDat npHdr cDat : Nat)
  /-- VD_FENCE_ACK. -/
  | fenceAck (q : Nat)
  /-- A flit sent on a Ridgeline port. -/
  | flit (p : PortIx) (f : Flit)
  deriving DecidableEq, Repr

/-- Who made a read of host memory: a Porter channel of a core, a command fetch, the SHDER of a core, the ring engine's STAGE; or one
that has since been reset. -/
inductive ReadUse where
  | chan (c : CoreId) | fetch | shder (c : CoreId) | stage | gone
  deriving DecidableEq, Repr

/-- A read of host memory without its complete answer (11 R271, R280). -/
structure HostRead where
  tag : Nat
  part : PartId
  addr : Nat
  len : Nat
  data : List Byte
  use : ReadUse
  deriving DecidableEq, Repr

/-- The host attachment: the configuration registers of its functions by function and register (11 R273), the transmit credits the
host has given, whether its first advertisement was large enough, the reads out and the next tag (11 R280, R281). -/
structure Attach where
  cfg : Tab Nat
  txHdrReq : Nat
  txDatReq : Nat
  txHdrNp : Nat
  txDatC : Nat
  /-- Credits of the host's own packets that wait for the Vorum's next CRD: P headers, P data units, NP headers (11 R281). -/
  owedHdrP : Nat
  owedDatP : Nat
  owedHdrNp : Nat
  enough : Bool
  reads : List HostRead
  nextTag : Nat
  /-- A fence has been received since link-up (11 R282). -/
  fenced : Bool
  /-- Packets that wait for credits, oldest first (11 R281). -/
  txq : List OutEvent
  deriving DecidableEq, Repr

def Attach.reset : Attach := ⟨[], 0, 0, 0, 0, 0, 0, 0, false, [], 0, false, []⟩

/-- The HBM3E units that are clearing and who gets them; the units that are assigned, by owner + 1 (11 R288, R289). -/
structure Hbm where
  owner : Tab Nat
  clearing : List (Nat × Option PartId)
  /-- The 32-byte accesses that hold the poison pattern, by device address over 32 (11 R287). -/
  poison : List Nat
  deriving DecidableEq, Repr

def Hbm.reset : Hbm := ⟨[], [], []⟩

/-! ## The warden's ports (14) -/

/-- An open block (14 R336, R337). `closed`: it timed out, and its next PDU learns so. -/
structure Block where
  port : Port
  source : Nat
  write : Bool
  view : Nat
  index : Nat
  sub : Nat
  total : Nat
  data : List Byte
  /-- Offset and length of the segment served last. -/
  last : Nat × Nat
  closed : Bool
  deriving DecidableEq, Repr

/-- The last request a port served from a source, by SEQ and CRC, and its answer (14 R335). -/
structure Served where
  port : Port
  source : Nat
  seq : Nat
  crc : Nat
  answer : Pdu
  deriving DecidableEq, Repr

/-- A request relayed to another die and not answered, by its tag (14 R345). -/
structure Relay where
  tag : Nat
  request : Request
  deriving DecidableEq, Repr

/-- The warden and its ports. -/
structure Warden where
  restarting : Bool
  /-- The request in execution that is answered later (17 R397). -/
  current : Option Request
  queue : List Request
  /-- The port served last (13 R318). -/
  lastPort : Port
  /-- Requests accepted within the last 32 ticks: port and tick (14 R340). -/
  accepted : List (Port × Nat)
  served : List Served
  blocks : List Block
  relays : List Relay
  nextTag : Nat
  notifySeq : Nat
  /-- The NOTIFY outstanding: its SEQ, its queue and the record it carries. -/
  notifyOut : Option (Nat × Option PartId × Note)
  ibiEnabled : Bool
  i3cAnswers : List Pdu
  mwl : Nat
  mrl : Nat
  mbReq : Bool
  mbRsp : Bool
  mbReqIgn : Bool
  mbBufIgn : Bool
  mbRequest : Tab Byte
  mbAnswer : List Byte
  deriving DecidableEq, Repr

def Warden.reset : Warden where
  restarting := false
  current := none
  queue := []
  lastPort := .t1s
  accepted := []
  served := []
  blocks := []
  relays := []
  nextTag := 0
  notifySeq := 1
  notifyOut := none
  ibiEnabled := false
  i3cAnswers := []
  mwl := 1040
  mrl := 1040
  mbReq := false
  mbRsp := false
  mbReqIgn := false
  mbBufIgn := false
  mbRequest := []
  mbAnswer := []

/-! ## Power, start, pins (16, 17, 23) -/

/-- One thermal sensor (16 R376): whether each of its last five readings was valid, and its last five valid readings, newest first. -/
structure Sensor where
  recent : List Bool
  valid : List Int
  deriving DecidableEq, Repr

/-- An entry into a device power state that is under way (16 R368). -/
inductive Entering where
  | nothing | nap | ember
  deriving DecidableEq, Repr

/-- The power control of the device. -/
structure Power where
  /-- The last five valid readings, newest first (16 R371). -/
  readings : List Int
  /-- Tick edges since the last change of the cap rules (16 R372). -/
  sinceChange : Nat
  /-- The POWER answer in force: the cores kept and the OP (16 R373), and the calm edges so far. -/
  answer : Option (Nat × Nat)
  calm : Nat
  /-- Autonomous enforcement runs because an answer was late (16 R373). -/
  late : Bool
  /-- A tick edge found a pending switch of the POWER duty held by a call (15 R353). -/
  edgeHeld : Bool
  limiter : Bool
  thermalLimiter : Bool
  sensors : Vector Sensor 16
  edges : Nat
  entering : Entering
  /-- Doorbells held by the attachment island while an entry is under way, oldest first: a CPL_DB, its page, the access (16 R368). -/
  doorbells : List (Bool × PartId × RegAccess)
  /-- An exit from Ember waits for MAIN_PG (23 R515). -/
  exitWait : Bool
  tripped : Bool
  deriving DecidableEq, Repr

def Power.reset : Power := ⟨[], 3, none, 0, false, false, false, false, .replicate 16 ⟨[], []⟩, 0, .nothing, [], false, false⟩

/-- The image that runs (17 R391). -/
structure Image where
  version : Nat
  isvn : Nat
  keySlot : Nat
  fuseUpd : Bool
  digest : Nat
  deriving DecidableEq, Repr

/-- The start in progress and the Ember latches (17 R379–R397). -/
structure Boot where
  /-- A start is due and has not begun; it may wait for MAIN_PG (23 R515). -/
  due : Bool
  running : Bool
  cold : Bool
  forced : Bool
  forceNext : Bool
  /-- The start goes to Bivouac: it was forced there, or its attempts are used up (17 R381). -/
  bivouac : Bool
  /-- SRC of the boot record: 0 none, 1 slot A, 2 slot B, 3 Guyline; why each failed; the flash slot read next (17 R383, R390–R393). -/
  src : Nat
  causeA : Nat
  causeB : Nat
  causeG : Nat
  slot : Nat
  /-- Both slots so far answered nothing (17 R390). -/
  silent : Bool
  /-- The start waits for an image on Guyline (17 R393). -/
  waiting : Bool
  image : Option Image
  /-- The Ember latch of the fuse words, by word (17 R386). -/
  latched : Bool
  fuses : Tab Nat
  /-- The fuse array as it was read or programmed last (17 R387, R397). -/
  array : Tab Nat
  keysUsable : Nat
  /-- A fuse update being programmed: KIND and VALUE (17 R397). -/
  programming : Option (Nat × Nat)
  /-- Warden watchdog expiries of the last 32,768 ticks, newest first (22 R500). -/
  expiries : List Nat
  deriving DecidableEq, Repr

def Boot.reset : Boot where
  due := true
  running := false
  cold := true
  forced := false
  forceNext := false
  bivouac := false
  src := 0
  causeA := 0
  causeB := 0
  causeG := 0
  slot := 0
  silent := true
  waiting := false
  image := none
  latched := false
  fuses := []
  array := []
  keysUsable := 0
  programming := none
  expiries := []

/-- The registers a TAP instruction can select (23 R518). -/
inductive TapReg where
  | bypass | idcode | boundary | debug
  deriving DecidableEq, Repr

/-- The pins of the Ember domain whose level the device keeps (23 R511–R518). -/
structure Pins where
  mainPg : Bool
  perst : Bool
  thermTripN : Bool
  tap : TapReg
  deriving DecidableEq, Repr

def Pins.reset : Pins := ⟨false, true, true, .idcode⟩

/-! ## The whole device -/

/-- Why a run stops. No command of this device stops it: every constructor is here for a stop that the spec backs. -/
inductive Fault where
  /-- Raised by no meaning of this model. Safe. -/
  | none
  deriving DecidableEq, Repr

/-- Why a command is not carried out. -/
inductive Refusal where
  /-- A command whose meaning is not modelled, by its mnemonic. Safe. -/
  | notModelled (mnemonic : String)
  deriving DecidableEq, Repr

/-- The delivery of the die (00_scope R1). -/
inductive Delivery where
  | kv2c | kv2p
  deriving DecidableEq, Repr

/-- The state of one Vorum. -/
structure State where
  delivery : Delivery
  cores : Vector Core 64
  parts : Vector Partition 64
  mem : Memory
  objs : Tab Nat
  banks : Tab BankState
  /-- The tick of the last change of state of a bank, by bank key, and of a core's last entry into GATED, by 2,048 + its number (22 R504). -/
  idleSince : Tab Nat
  ctxs : Tab Ctx
  traffic : List StreamTraffic
  claims : List Claim
  handovers : List Handover
  gptr : Nat
  /-- The Ember tick count (16 R356). -/
  tick : Nat
  notes : NoteQueue
  faults : FaultLog
  /-- Commands that have arrived for admission (12 R299). -/
  arrivals : Nat
  attach : Attach
  hbm : Hbm
  warden : Warden
  power : Power
  boot : Boot
  pins : Pins
  links : Vector Link 6
  fabric : Fabric
  canopy : Vector CanopyCtx 8
  patrol : Patrol
  /-- The next CALLSEQ of the duties REMAP, PATROL and POWER (15 R349). -/
  callSeq : Nat × Nat × Nat
  /-- The model's own counter of free values used (log 2). -/
  freeCount : Nat
  out : List OutEvent
  pending : List Instr
  deriving DecidableEq, Repr

/-- The state right after power-on reset. obj 2000.02 reads 1, as it does while MAIN_PG is low (23 R515); the store holds a value + 1. -/
def State.reset : State where
  delivery := .kv2p
  cores := .replicate 64 .gated
  parts := .replicate 64 .reset
  mem := []
  objs := [(0x200002, 2)]
  banks := []
  idleSince := []
  ctxs := []
  traffic := []
  claims := []
  handovers := []
  gptr := 0
  tick := 0
  notes := .reset
  faults := .reset
  arrivals := 0
  attach := .reset
  hbm := .reset
  warden := .reset
  power := .reset
  boot := .reset
  pins := .reset
  links := .replicate 6 .reset
  fabric := .reset
  canopy := .replicate 8 .reset
  patrol := .reset
  callSeq := (1, 1, 1)
  freeCount := 0
  out := []
  pending := []

end Sys2Proof.Machine
end

