-- ==== Sys2Proof/Machine/Dictionary.lean ====
section
/-!
DEFINITION. The dictionary's store (13 R307–R321): object rows, values with their defaults, saturating counters, what a
device reset keeps, and the values that other parts of the machine look up.
-/
namespace Sys2Proof.Machine

/-! ## Rows -/

/-- The listed row of an object. -/
def listedRow (index sub : Nat) : Option ObjRow :=
  (objBlock (index / 4096)).find? fun r => r.index == index && r.sub == sub

/-- The rows of an index. -/
def rowsAt (index : Nat) : List ObjRow := (objBlock (index / 4096)).filter fun r => r.index == index

/-- The highest subindex of an index (13 R308). -/
def highestSub (index : Nat) : Nat := (rowsAt index).foldl (fun m r => max m r.sub) 0

/-- The row of an object; subindex .00 of an index without one of its own is its highest subindex (13 R308). -/
def objRow (index sub : Nat) : Option ObjRow :=
  match listedRow index sub with
  | some r => some r
  | none =>
    if sub != 0 then none
    else match rowsAt index with
      | [] => none
      | r :: rs => some ⟨index, 0, .uint, .ro, r.scopeP, 1, highestSub index, 0, 255,
          if rs.all (fun q => q.on == r.on) then r.on else .both⟩

/-! ## Values -/

/-- The key of an object in the store: scope G, or the view of partition n. -/
def objKey (part : Option PartId) (index sub : Nat) : Nat :=
  (match part with | none => 0 | some n => (n.val + 1) * 2 ^ 24) + index * 256 + sub

/-- The default of obj 8010.0B: the step state a training partition starts with (19 R448). -/
def stepStateDefault : Nat :=
  0xFFFFFFFF + 0xFFFFFFFF * 2 ^ 32 + 16 * 2 ^ 80 + 16 * 2 ^ 88 + 0xFFFFFFFF * 2 ^ 160

/-- The default value of an object. -/
def objDefault (index sub : Nat) : Nat :=
  if index == 0x8010 && sub == 0x0B then stepStateDefault
  else if index == 0x8010 && sub == 4 then 16
  else match objRow index sub with | some r => r.dflt | none => 0

/-- The value an object holds: what was stored last, or its default. The store keeps v + 1, an absent key reads 0. -/
def objGet (s : State) (part : Option PartId) (index sub : Nat) : Nat :=
  match tabGet (0 : Nat) s.objs (objKey part index sub) with
  | 0 => objDefault index sub
  | v + 1 => v

/-- Stores a value. -/
def objSet (s : State) (part : Option PartId) (index sub v : Nat) : State :=
  { s with objs := tabSet 0 s.objs (objKey part index sub) (v + 1) }

/-- The largest value of an object's type. -/
def objMax (index sub : Nat) : Nat := match objRow index sub with | some r => 2 ^ (8 * r.len) - 1 | none => 0

/-- Counts in an object; a count saturates at its type's largest value (13 R321). -/
def objBump (s : State) (part : Option PartId) (index sub : Nat) (by_ : Nat := 1) : State :=
  objSet s part index sub (min (objGet s part index sub + by_) (objMax index sub))

/-- The partition a core belongs to. -/
def State.partOf (s : State) (c : CoreId) : Option PartId := (s.cores[c]).part

/-- Counts in an object of the partition a core belongs to; a free-pool core counts nowhere. -/
def bumpOf (s : State) (c : CoreId) (index sub : Nat) (by_ : Nat := 1) : State :=
  match s.partOf c with
  | some n => objBump s (some n) index sub by_
  | none => s

/-- Every stored object of a partition returns to its default, but those the test names. -/
def State.clearPartObjs (s : State) (n : PartId) (keep : Nat → Nat → Bool) : State :=
  { s with objs := s.objs.filter fun e => e.1 / 2 ^ 24 != n.val + 1 || keep (e.1 / 256 % 65536) (e.1 % 256) }

/-- A BLOB of varying length as a stored number: its bytes followed by 1; the empty one is 0. -/
def blobNat (bs : List Byte) : Nat := if bs == [] then 0 else leNat (bs ++ [1])

/-- The number of bytes before the final 1 of such a number. -/
def blobLen (v : Nat) : Nat := Nat.log2 v / 8

def natBlob (v : Nat) : List Byte := if v == 0 then [] else leBytes (blobLen v) v

/-! ## Partitions and locks the other parts ask for -/

/-- The state of a partition, obj 4010.07: 0 UNFORMED, 1 FORMING, 2 FORMED, 3 RESETTING, 4 DISSOLVING (12 R306). -/
def State.partState (s : State) (n : PartId) : Nat := objGet s (some n) 0x4010 7

/-- A partition is formed: it is not UNFORMED (13 R315, R526). -/
def State.partExists (s : State) (n : PartId) : Bool := s.partState n != 0

/-- The partition with a function of it changed. -/
def State.modPart (s : State) (n : PartId) (f : Partition → Partition) : State :=
  { s with parts := s.parts.set n (f s.parts[n]) }

/-- The objects a device reset keeps: the Ember-retained ones (13 R316; 16 R378, 17 R401, 22 R509, 23 R525, 14 R346), and
the identity latched from fuses (13 R327). -/
def objRetained (index sub : Nat) : Bool :=
  (index == 0x2000 && (sub == 9 || sub == 0xA)) || (index == 0x2030 && sub == 8)
    || (index == 0x2040 && (sub == 1 || sub == 3 || sub == 4))
    || (index == 0x3000 && (sub == 1 || sub == 5 || sub == 7 || sub == 8 || sub == 9 || sub == 0xA || sub == 0xB))
    || (index == 0x3010 && (sub == 4 || sub == 5)) || index == 0x3020 || index == 0xA020
    || (index == 0xA000 && sub == 7) || (index == 0xD010 && sub == 1) || (index == 0xD020 && sub == 3)
    || (index == 0x1000 && sub == 6)

/-- A device reset (01 R29): every partition, core, ring, stream and the uncore start anew; the Ember latches, the
boot-attempt counter, the retained objects, the fatal log and the pins stay, and a new start is due (17 R380). -/
def State.deviceReset (s : State) : State :=
  let inEmber := !s.pins.mainPg || (s.delivery == .kv2p && s.pins.perst)
  let s := { State.reset with
    delivery := s.delivery
    objs := s.objs.filter fun e => e.1 < 2 ^ 24 && objRetained (e.1 / 256) (e.1 % 256)
    tick := s.tick
    patrol := { Patrol.reset with since := s.tick }
    faults := { s.faults with device := [] }
    boot := { Boot.reset with
      cold := false, forceNext := s.boot.forceNext, latched := s.boot.latched, fuses := s.boot.fuses
      array := s.boot.array, keysUsable := s.boot.keysUsable, expiries := s.boot.expiries }
    pins := s.pins
    power := { Power.reset with tripped := s.power.tripped, sensors := s.power.sensors }
    warden := { s.warden with
      restarting := false, current := none, blocks := [], relays := [], notifySeq := 1, notifyOut := none
      queue := s.warden.queue.filter (fun r => r.port != .mailbox)
      mbReq := false, mbRsp := false, mbReqIgn := false, mbBufIgn := false, mbRequest := [], mbAnswer := [] }
    freeCount := s.freeCount
    out := s.out
    pending := s.pending }
  if inEmber then objSet s none 0x2000 2 1 else s

/-- The device is in Bivouac (17 R398). -/
def State.inBivouac (s : State) : Bool := objGet s none 0x3000 4 == 1

/-- Boot complete has been reached since the last start (17 R395). -/
def State.booted (s : State) : Bool := objGet s none 0x3000 2 == 7 && !s.boot.running

/-- The device state (16 R361). -/
def State.devState (s : State) : Nat := objGet s none 0x2000 2
def State.setDevState (s : State) (v : Nat) : State := objSet s none 0x2000 2 v

/-- The host attachment's link is up (11 R290). -/
def State.linkUp (s : State) : Bool := objGet s none 0xC010 2 != 0

end Sys2Proof.Machine
end

