-- ==== Sys2Proof/Machine/Notify.lean ====
section
/-!
DEFINITION. What the Vorum tells the outside by itself: posted writes, interrupts (11 R267, R269), notifications
(13 R322, R325, R326; 14 R341), event records and the fatal sequence (22 R497–R499).
-/
namespace Sys2Proof.Machine

/-! ## Host apertures and posted writes (11 R269, R270) -/

/-- An aperture lets every byte of [addr, addr + len) through for the access (11 R269, R290). -/
def apertureCovers (v addr len : Nat) (write : Bool) : Bool :=
  let base := bits v 51 12 * 4096
  let size := v / 2 ^ 64
  bitOf v (if write then 1 else 0) && size != 0 && base ≤ addr && addr + len ≤ base + size

/-- The key of a PCIe function's register: 0 Link Control, 1 Command, 2 Device Control, 3 Device Control 2, 4 MSI-X control, 5 power
management, 6 and 7 BAR0/1, 8 SR-IOV control, 9 NumVFs, 10 and 11 VF BAR0/1, 12 to 15 AER uncorrectable status, mask and severity and
correctable mask (11 R271, R273, R275). -/
def cfgKey (f : PartId) (reg : Nat) : Nat := f.val * 16 + reg

/-- What a register holds until it is written, as PCIe resets it: Device Control with Enable No Snoop set and 512-byte reads, the AER
severities, the mask of advisory errors (log 57). -/
def cfgDefault (reg : Nat) : Nat := if reg == 2 then 0x2800 else if reg == 14 then 0x462030 else if reg == 15 then 0x2000 else 0

/-- A register of a PCIe function; the store keeps its value + 1. -/
def State.cfgGet (s : State) (f : PartId) (reg : Nat) : Nat :=
  match tabGet (0 : Nat) s.attach.cfg (cfgKey f reg) with
  | 0 => cfgDefault reg
  | v + 1 => v

def State.cfgSet (s : State) (f : PartId) (reg v : Nat) : State :=
  { s with attach := { s.attach with cfg := tabSet 0 s.attach.cfg (cfgKey f reg) (v + 1) } }

/-- Bus Master Enable of the partition's function; UCIe has no such bit (11 R272). -/
def State.busMaster (s : State) (n : PartId) : Bool := s.delivery == .kv2c || bitOf (s.cfgGet n 1) 2

/-- Enable No Snoop of the partition's function; on UCIe nothing takes it away (11 R272). -/
def State.noSnoopOk (s : State) (n : PartId) : Bool := s.delivery == .kv2c || bitOf (s.cfgGet n 2) 11

/-- The bytes lie inside one host aperture of the partition that grants the access (11 R269). -/
def State.inAperture (s : State) (n : PartId) (addr len : Nat) (write : Bool) : Bool :=
  (List.range 8).any fun i => apertureCovers (objGet s (some n) 0xC031 (i + 1)) addr len write

/-- The bytes lie inside one host aperture of the partition that grants the access, and its function may issue requests (11 R269, R272). -/
def State.hostInside (s : State) (n : PartId) (addr len : Nat) (write : Bool) : Bool :=
  s.busMaster n && s.inAperture n addr len write

def State.emit (s : State) (e : OutEvent) : State := { s with out := s.out ++ [e] }

/-- Payload units of 16 bytes (11 R281). -/
def payloadUnits (len : Nat) : Nat := (len + 15) / 16

/-- What a packet of the given kind waits behind, and the credits it takes: 0 a WR, 1 an RD, 2 a completion (11 R281). -/
def packetKind : OutEvent → Nat
  | .hostWrite .. => 0
  | .hostRead .. => 1
  | _ => 2

/-- The payload units a packet takes: P data of a WR, C data of a CPLD. -/
def packetUnits : OutEvent → Nat
  | .hostWrite _ _ bs _ => payloadUnits bs.length
  | .ucieCpl _ _ _ _ bs => payloadUnits bs.length
  | _ => 0

/-- The books once a packet has taken its credits; none while it lacks one. -/
def Attach.pay (a : Attach) (e : OutEvent) : Option Attach :=
  let u := packetUnits e
  match packetKind e with
  | 0 => if a.txHdrReq == 0 || a.txDatReq < u then none else some { a with txHdrReq := a.txHdrReq - 1, txDatReq := a.txDatReq - u }
  | 1 => if a.txHdrNp == 0 then none else some { a with txHdrNp := a.txHdrNp - 1 }
  | _ => if a.txDatC < u then none else some { a with txDatC := a.txDatC - u }

/-- A packet may not pass one of these kinds that waits before it: nothing passes a WR, an RD no RD, a WR no completion (11 R281). -/
def packetHeld (kind : Nat) (before : List Nat) : Bool :=
  before.contains 0 || (kind == 1 && before.contains 1) || (kind == 0 && before.contains 2)

/-- The waiting packets that may be sent (11 R281), given the kinds of those that stay before them: the credit books, what is left,
what leaves. -/
def sendable (a : Attach) (before : List Nat) : List OutEvent → Attach × List OutEvent × List OutEvent
  | [] => (a, [], [])
  | e :: es =>
    match if packetHeld (packetKind e) before then none else a.pay e with
    | some a => let (a, l, o) := sendable a before es; (a, l, e :: o)
    | none => let (a, l, o) := sendable a (packetKind e :: before) es; (a, e :: l, o)

/-- The Vorum returns the credits it owes in a CRD, which takes a P header credit itself: where WR or RD credits are owed, or sixteen
P headers of the host's own CRDs (11 R281; log 131). -/
def State.sendCrd (s : State) : State :=
  let a := s.attach
  if a.txHdrReq == 0 || (a.owedDatP == 0 && a.owedHdrNp == 0 && a.owedHdrP < 16) then s
  else { s with
    attach := { a with txHdrReq := a.txHdrReq - 1, owedHdrP := 0, owedDatP := 0, owedHdrNp := 0 }
    out := s.out ++ [.ucieCrd a.owedHdrP a.owedDatP a.owedHdrNp 0] }

/-- A packet of the host has been taken: its credits are owed (11 R281). -/
def State.owe (s : State) (pHdr pDat npHdr : Nat) : State :=
  ({ s with attach := { s.attach with
    owedHdrP := s.attach.owedHdrP + pHdr, owedDatP := s.attach.owedDatP + pDat, owedHdrNp := s.attach.owedHdrNp + npHdr } }).sendCrd

/-- Waiting packets leave while the host's credits last; none leaves before the host has advertised enough (11 R281). -/
def State.flushTx (s : State) : State :=
  if !s.attach.enough then s
  else
    let (a, left, sent) := sendable s.attach [] s.attach.txq
    { s with attach := { a with txq := left }, out := s.out ++ sent }

/-- A packet goes to the host: on UCIe under its credits (11 R281), on PCIe at once. -/
def State.transmit (s : State) (e : OutEvent) : State :=
  if s.delivery == .kv2p then s.emit e
  else ({ s with attach := { s.attach with txq := s.attach.txq ++ [e] } }).flushTx

/-- A byte string in packets of at most 256 bytes (11 R278), each with its offset; the count bounds the packets. -/
def packets256 : Nat → Nat → List Byte → List (Nat × List Byte)
  | 0, _, _ => []
  | f + 1, o, bs => if bs.length ≤ 256 then [(o, bs)] else (o, bs.take 256) :: packets256 f (o + 256) (bs.drop 256)

/-- A range in pieces of at most `most` bytes that cross no multiple of `bound` (11 R271, R280); the count bounds them. -/
def cuts (bound most : Nat) : Nat → Nat → Nat → List (Nat × Nat)
  | 0, _, _ => []
  | f + 1, a, l => if l == 0 then [] else let n := min l (min (max most 1) (bound - a % bound)); (a, n) :: cuts bound most f (a + n) (l - n)

/-- Max Payload Size and Max Read Request Size of a partition's function, in bytes (11 R271). -/
def State.maxPayload (s : State) (n : PartId) : Nat := min 512 (2 ^ (7 + bits (s.cfgGet n 2) 7 5))
def State.maxRead (s : State) (n : PartId) : Nat := min 512 (2 ^ (7 + bits (s.cfgGet n 2) 14 12))

/-- A posted write to host memory on behalf of a partition leaves the device, unless its function may issue none (11 R270, R272). -/
def State.hostPost (s : State) (n : PartId) (addr : Nat) (bs : List Byte) (noSnoop : Bool) : State :=
  if !s.busMaster n then s else
  let ns := noSnoop && s.noSnoopOk n
  if s.delivery == .kv2p then
    (cuts 4096 (s.maxPayload n) (bs.length / 128 + 3) addr bs.length).foldl (fun (s : State) (e : Nat × Nat) =>
      s.emit (.hostWrite n e.1 ((bs.drop (e.1 - addr)).take e.2) ns)) s
  else (packets256 (bs.length / 256 + 1) 0 bs).foldl (fun (s : State) (e : Nat × List Byte) => s.transmit (.hostWrite n (addr + e.1) e.2 ns)) s

/-- So many more reads of host memory may be outstanding for the device: 512 on PCIe, one for each tag on UCIe (11 R271, R278). -/
def State.readRoom (s : State) (n : Nat := 1) : Bool := s.attach.reads.length + n ≤ (if s.delivery == .kv2p then 512 else 1024)

/-- The first tag from t on that no outstanding read carries; the count bounds the search. -/
def freeTag (reads : List HostRead) : Nat → Nat → Nat
  | 0, t => t % 1024
  | f + 1, t => if reads.any fun r => r.tag == t % 1024 then freeTag reads f (t + 1) else t % 1024

/-- A read of host memory is issued: its tag, and the state with the read outstanding (11 R271, R280). -/
def State.hostAsk (s : State) (n : PartId) (addr len : Nat) (use : ReadUse) (noSnoop : Bool) : Nat × State :=
  let tag := freeTag s.attach.reads 1024 s.attach.nextTag
  let s := { s with attach := { s.attach with
    nextTag := (tag + 1) % 1024, reads := s.attach.reads ++ [HostRead.mk tag n addr len [] use] } }
  (tag, s.transmit (.hostRead n tag addr len (noSnoop && s.noSnoopOk n)))

/-- A read crosses no multiple of the first number and asks for no more bytes than the second: 512 on PCIe, or Max Read Request Size, and
256 on UCIe (11 R271, R280). -/
def State.readCut (s : State) (n : PartId) : Nat × Nat := if s.delivery == .kv2p then (512, s.maxRead n) else (256, 256)

/-- The reads of a range of host memory (11 R271, R280). -/
def State.hostAskAll (s : State) (n : PartId) (addr len : Nat) (use : ReadUse) (noSnoop : Bool) : List ReadAsked × State :=
  let (b, m) := s.readCut n
  (cuts b m (len / 128 + 3) addr len).foldl (fun (r : List ReadAsked × State) (e : Nat × Nat) =>
    let (t, s) := r.2.hostAsk n e.1 e.2 use noSnoop
    (r.1 ++ [⟨1, e.1, e.2, t⟩], s)) ([], s)

/-- A read that nobody waits for any more: on PCIe its answer no longer finds it, on UCIe its tag stays in use until it is answered
(11 R271, R280; log 121). -/
def State.abandonReads (s : State) (p : HostRead → Bool) : State :=
  if s.delivery == .kv2p then { s with attach := { s.attach with reads := s.attach.reads.filter fun r => !p r } }
  else { s with attach := { s.attach with reads := s.attach.reads.map fun r => if p r then { r with use := .gone } else r } }

/-! ## Interrupts (11 R267) -/

/-- Sends vector v of a ring page, or leaves it pending: while it is masked, while its address lies outside the partition's
host apertures, and while the link is down or the function is no bus master. -/
def State.raiseVector (s : State) (n : PartId) (v : Fin 8) : State :=
  let e := (s.parts[n]).vectors[v]
  let addr := e.addrHi.toNat * 2 ^ 32 + e.addrLo.toNat
  let hang (s : State) : State := s.modPart n fun p => { p with vecPending := p.vecPending ||| 2 ^ v.val }
  if bitOf e.ctl.toNat 0 || !s.linkUp || !s.busMaster n then hang s
  else if !s.hostInside n addr 4 true then objBump (hang s) (some n) 0xC020 5
  else
    let s := s.modPart n fun p => { p with vecPending := p.vecPending &&& (255 - 2 ^ v.val) }
    objBump (s.hostPost n addr (leBytes 4 e.data.toNat) false) (some n) 0xC020 4

/-! ## Notifications (13 R325, R326) -/

/-- REASON codes (13 R325). -/
def reasonWritten : Nat := 1
def reasonLocked : Nat := 2
def reasonIgnored : Nat := 3
def reasonChange : Nat := 4
def reasonEvent : Nat := 5
def reasonLost : Nat := 6

/-- An object's address in a notification (13 R308). -/
def itemOf (index sub : Nat) : Nat := index * 256 + sub

/-- The queue of a partition, or the global one. -/
def State.noteQueue (s : State) : Option PartId → NoteQueue
  | none => s.notes
  | some n => (s.parts[n]).notes

def State.setNoteQueue (s : State) (q : Option PartId) (x : NoteQueue) : State :=
  match q with
  | none => { s with notes := x }
  | some n => s.modPart n fun p => { p with notes := x }

/-- The index whose objects show a queue: 1121 global, 1120 a partition's. -/
def noteIndex : Option PartId → Nat
  | none => 0x1121
  | some _ => 0x1120

/-- The next number of a queue, which skips 0 (13 R325). -/
def nextNote (k : Nat) : Nat := if k == 65535 then 1 else k + 1

/-- A record enters a queue. -/
def NoteQueue.put (x : NoteQueue) (reason part item data tick : Nat) : NoteQueue :=
  { x with seq := nextNote x.seq, items := x.items ++ [⟨x.seq, reason, part, item, data % 2 ^ 32, tick % 2 ^ 32⟩] }

/-- The queue is pushed to listeners (14 R341). -/
def State.pushed (s : State) : Option PartId → Bool
  | none => objGet s none 0xD000 6 == 1
  | some n => bitOf (objGet s none 0xD000 5) n.val

/-- The bytes of a notification record (13 R325). -/
def Note.bytes (x : Note) : List Byte :=
  leBytes 2 x.seq ++ leBytes 1 x.reason ++ leBytes 1 x.part ++ leBytes 4 x.item ++ leBytes 4 x.data ++ leBytes 4 x.tick

/-- CRC-16 of a PDU, one byte more (14 R330). -/
def crc16Byte (crc : Nat) (b : Byte) : Nat :=
  (List.range 8).foldl (fun c _ => if bitOf c 15 then (c * 2 % 65536) ^^^ 0x1021 else c * 2) (crc ^^^ (b.toNat * 256))

def crc16 (bs : List Byte) : Nat := bs.foldl crc16Byte 0xFFFF

/-- Header bytes 0–13 of a PDU (14 R329). -/
def pduHead (p : Pdu) : List Byte :=
  leBytes 1 p.ver ++ leBytes 1 p.op ++ leBytes 2 p.seq ++ leBytes 1 p.view ++ leBytes 1 p.flags ++ leBytes 2 p.die
    ++ leBytes 2 p.index ++ leBytes 1 p.sub ++ leBytes 1 p.status ++ leBytes 2 p.len

/-- The PDU with its CRC computed (14 R330). -/
def pduSealed (p : Pdu) : Pdu := { p with crc := crc16 (pduHead p ++ p.data) }

/-- The NOTIFY that carries a record of a queue (14 R331, R341). -/
def notifyPdu (seq : Nat) (q : Option PartId) (x : Note) : Pdu :=
  pduSealed ⟨2, 0x0A, seq, (match q with | none => 0x80 | some n => n.val), 0, 0x8000, noteIndex q, 1, 0, 16, 0, x.bytes⟩

/-- The first pushed queue that holds a record, in the order global, P0–P63 (14 R341). -/
def State.firstPushed (s : State) : Option (Option PartId × Note) :=
  (none :: (List.finRange 64).map some).findSome? fun q =>
    if s.pushed q then (s.noteQueue q).items.head?.map fun x => (q, x) else none

/-- The MAC address of a node of the segment as a number, its first byte on top (14 R342). -/
def State.macOf (s : State) (node : Nat) : Nat := 0x024D44 * 2 ^ 24 + objGet s none 0xD010 3 * 256 + node

/-- The own MAC address. -/
def State.mac (s : State) : Nat := s.macOf (objGet s none 0xD010 1)

/-- The bytes of a PDU (14 R329). -/
def pduBytes (p : Pdu) : List Byte := pduHead p ++ leBytes 2 p.crc ++ p.data

/-- The frame that carries a PDU to a MAC address, padded with zeros to 46 bytes (14 R342). -/
def State.frameTo (s : State) (dst : Nat) (p : Pdu) : OutEvent :=
  let bs := pduBytes p
  .t1sFrame ⟨dst, s.mac, objGet s none 0xD010 4, true, bs ++ List.replicate (46 - bs.length) 0⟩

/-- The PHY's PLCA registers take the node ID and the node count (14 R342). -/
def State.writePlca (s : State) : State := s.emit (.plca (objGet s none 0xD010 1) (objGet s none 0xD010 2))

/-- With no NOTIFY outstanding and a listener named, the oldest record of a pushed queue leaves (14 R341). -/
def State.pushNotify (s : State) : State :=
  let node := objGet s none 0xD010 5
  if s.warden.notifyOut.isSome || node == 255 || s.warden.restarting then s
  else match s.firstPushed with
    | none => s
    | some (q, x) =>
      ({ s with warden := { s.warden with notifyOut := some (s.warden.notifySeq, q, x), notifySeq := nextNote s.warden.notifySeq } }).emit
        (s.frameTo (s.macOf node) (notifyPdu s.warden.notifySeq q x))

/-- A notification has entered a queue: vector 1 of its ring page, an In-Band Interrupt and a NOTIFY where the queue is pushed (13 R325,
14 R341). -/
def State.noteRing (s : State) (q : Option PartId) : State :=
  let s := s.raiseVector (match q with | none => 0 | some n => n) 1
  let s := if s.pushed q && s.warden.ibiEnabled then s.emit (.ibi 2) else s
  s.pushNotify

/-- A notification is posted (13 R325, R326): coalesced with one of the same REASON, PART and ITEM, dropped at 31 queued, or
queued, with vector 1 raised and the listeners told (14 R341). -/
def State.notePost (s : State) (q : Option PartId) (reason item data : Nat) : State :=
  let x := s.noteQueue q
  let part := match q with | none => 255 | some n => n.val
  if x.items.any (fun e => e.reason == reason && e.part == part && e.item == item) then objBump s q (noteIndex q) 4
  else if 31 ≤ x.items.length then objBump (s.setNoteQueue q { x with lost := x.lost + 1 }) q (noteIndex q) 3
  else (s.setNoteQueue q (x.put reason part item data s.tick)).noteRing q

/-- The oldest notification leaves its queue; the slot it frees takes the LOST record of the drops so far, which rings as any other
(13 R325, R326; 14 R341). -/
def State.noteTake (s : State) (q : Option PartId) : Option Note × State :=
  let x := s.noteQueue q
  match x.items with
  | [] => (none, s)
  | e :: rest =>
    let y : NoteQueue := { x with items := rest }
    if y.lost == 0 then (some e, s.setNoteQueue q y)
    else
      let part := match q with | none => 255 | some n => n.val
      (some e, (s.setNoteQueue q { y.put reasonLost part 0 (min y.lost (2 ^ 32 - 1)) s.tick with lost := 0 }).noteRing q)

/-- A CHANGE notification for an object (13 R325): its new value's first four bytes. -/
def State.noteChange (s : State) (q : Option PartId) (index sub : Nat) : State :=
  s.notePost q reasonChange (itemOf index sub) (objGet s q index sub)

/-! ## Ignored writes (13 R322, R526) -/

/-- The counter set and queue of a partition: the global one while it is UNFORMED or there is none (13 R526). -/
def State.bookOf (s : State) : Option PartId → Option PartId
  | none => none
  | some n => if s.partExists n then some n else none

/-- The index of the counter set: 1111 global, 1110 a partition's. -/
def bookIndex : Option PartId → Nat
  | none => 0x1111
  | some _ => 0x1110

/-- An ignored register write of core c (13 R322): counted, recorded, notified. -/
def countIgnored (s : State) (c : CoreId) (csr v : Nat) : State :=
  let q := s.bookOf (s.partOf c)
  let item := 2 ^ 31 + c.val * 2 ^ 24 + csr % 4096
  let s := objSet (objBump s q (bookIndex q) 3) q (bookIndex q) 5 item
  s.notePost q reasonIgnored item v

/-! ## Events (22 R494–R499) -/

/-- The class of an event code (22 R495). -/
def eventClass (code : Nat) : Nat :=
  if code < 0x20 then 1 else if code < 0x30 then 2 else if code < 0x40 then 3 else 4

/-- The bytes of an event record (22 R497). -/
def EventRec.bytes (e : EventRec) : List Byte :=
  leBytes 4 e.seq ++ leBytes 4 e.tick ++ leBytes 2 e.code ++ leBytes 1 e.cls ++ leBytes 1 e.part ++ leBytes 1 e.core
    ++ leBytes 3 0 ++ leBytes 8 e.detail

def partByte : Option PartId → Nat
  | none => 255
  | some n => n.val

def coreByte : Option CoreId → Nat
  | none => 255
  | some c => c.val

/-- Records an event in the logs, coalesced within one tick where it may be (22 R498 steps 1–4). -/
def State.recordEvent (s : State) (code : Nat) (part : Option PartId) (core : Option CoreId) (detail : Nat) : State :=
  let cls := eventClass code
  let k := (code, partByte part, coreByte core)
  if cls != 4 && s.faults.now.contains k then objBump s none 0xA000 6
  else
    let e : EventRec := ⟨s.faults.seq, s.tick % 2 ^ 32, code, cls, partByte part, coreByte core, detail % 2 ^ 64⟩
    let s := if 64 ≤ s.faults.device.length then objBump s none 0xA000 5 else s
    let s := { s with faults := { s.faults with
      seq := if s.faults.seq == 2 ^ 32 - 1 then 1 else s.faults.seq + 1
      device := (e :: s.faults.device).take 64
      fatal := if cls == 4 then (e :: s.faults.fatal).take 8 else s.faults.fatal
      now := k :: s.faults.now } }
    let s := match part with
      | some n => s.modPart n fun p => { p with log := (e :: p.log).take 16 }
      | none => s
    let s := objBump s none 0xA000 cls
    if cls == 1 then s.notePost part reasonEvent 0x00A10001 code
    else if cls == 2 then s.notePost none reasonEvent 0x00A01101 code
    else s

/-- The fatal sequence (22 R499): the record, vector 3 of ring page 0, the device reset. -/
def State.fatal (s : State) (code : Nat) (part : Option PartId) (core : Option CoreId) (detail : Nat) : State :=
  let s := s.recordEvent code part core detail
  let s := if s.linkUp && !bitOf (((s.parts[(0 : PartId)]).vectors[(3 : Fin 8)]).ctl.toNat) 0 then s.raiseVector 0 3 else s
  s.deviceReset

/-- A fault event is posted: classes 1 to 3 are recorded, class 4 runs the fatal sequence (22 R494, R498, R499). -/
def postEvent (s : State) (code : Nat) (part : Option PartId) (core : Option CoreId) (detail : Nat) : State :=
  if eventClass code == 4 then s.fatal code part core detail else s.recordEvent code part core detail

end Sys2Proof.Machine
end

