-- ==== Sys2Proof/Machine/Store.lean ====
section
/-!
DEFINITION. The stores of the machine: cores, memory and its spaces, banks and windows, scratchpads, HBM3E as partitions
see it (08 R199–R203; 11 R288, R289).
-/
namespace Sys2Proof.Machine

/-! ## Cores -/

def State.core (s : State) (c : CoreId) : Core := s.cores[c]

def State.setCore (s : State) (c : CoreId) (k : Core) : State := { s with cores := s.cores.set c k }

def State.modCore (s : State) (c : CoreId) (f : Core → Core) : State := s.setCore c (f (s.core c))

/-- The next free value's number, and the state after drawing it (log 2). -/
def State.drawFree (s : State) : Nat × State := (s.freeCount, { s with freeCount := s.freeCount + 1 })

/-! ## Memory: one byte space holds every addressed store of the die

Banks B(m,b) from 0, the Hearths from 2^28, the program memories from 2^29, the table RAMs from 2^30, HBM3E from 2^36. -/

def bankBase (m : CoreId) (b : BankIx) : Nat := (m.val * 32 + b.val) * 0x20000

def hearthAddr (c : CoreId) (slot i : Nat) : Nat := 0x10000000 + ((c.val * 64 + slot) * 1024 + i) * 8

def progBase (c : CoreId) : Nat := 0x20000000 + c.val * 0x20000

def tableBase (c : CoreId) : Nat := 0x40000000 + c.val * 0x4000

def hbmBase : Nat := 2 ^ 36

def memByte (m : Memory) (a : Nat) : Byte := tabGet 0 m a

def memBytes (m : Memory) (a : Nat) : Nat → List Byte
  | 0 => []
  | n + 1 => memByte m a :: memBytes m (a + 1) n

def memWrite (m : Memory) (a : Nat) : List Byte → Memory
  | [] => m
  | b :: bs => memWrite (tabSet 0 m a b) (a + 1) bs

def memNat (m : Memory) (a n : Nat) : Nat := leNat (memBytes m a n)

def State.write (s : State) (a : Nat) (bs : List Byte) : State := { s with mem := memWrite s.mem a bs }

/-- The bytes of [lo, hi) read 0 from now on. -/
def State.clearMem (s : State) (lo hi : Nat) : State := { s with mem := tabClear s.mem lo hi }

/-! ## Banks and windows (08 R199–R203) -/

def bankKey (m : CoreId) (b : BankIx) : Nat := m.val * 32 + b.val

def State.bank (s : State) (m : CoreId) (b : BankIx) : BankState := tabGet .lent s.banks (bankKey m b)

def State.setBank (s : State) (m : CoreId) (b : BankIx) (x : BankState) : State :=
  { s with
    banks := tabSet .lent s.banks (bankKey m b) x
    idleSince := if s.bank m b == x then s.idleSince else tabSet 0 s.idleSince (bankKey m b) s.tick }

/-- A core enters GATED: Patrol's core idle threshold counts from here (22 R504). -/
def State.gateCore (s : State) (c : CoreId) : State := { s with idleSince := tabSet 0 s.idleSince (2048 + c.val) s.tick }

/-- How many ticks a bank has kept its state, or a core has been GATED, by its key (22 R504). -/
def State.idleTicks (s : State) (key : Nat) : Nat := s.tick - max s.patrol.since (tabGet 0 s.idleSince key)

/-- The window an offset of the scratchpad lies in (08 R199). -/
def windowOf (off : Nat) : BankIx := Fin.ofNat 32 (off / 0x20000)

/-- The memory address of a scratchpad offset of a core, where its window holds a bank (08 R199, R200). -/
def scratchAddr (k : Core) (off : Nat) : Option Nat :=
  (k.windows[windowOf off]).map fun m => bankBase m (windowOf off) + off % 0x20000

/-- A byte of the scratchpad of a core; a vacant window reads 0 (the checks of 06 R149 come before any read). -/
def scratchByte (m : Memory) (k : Core) (off : Nat) : Byte :=
  match scratchAddr k off with
  | some a => memByte m a
  | none => 0

def scratchBytes (m : Memory) (k : Core) (off : Nat) : Nat → List Byte
  | 0 => []
  | n + 1 => scratchByte m k off :: scratchBytes m k (off + 1) n

def scratchNat (m : Memory) (k : Core) (off n : Nat) : Nat := leNat (scratchBytes m k off n)

/-- Writes bytes through the windows of a core. -/
def scratchWrite (m : Memory) (k : Core) (off : Nat) : List Byte → Memory
  | [] => m
  | b :: bs =>
    scratchWrite (match scratchAddr k off with | some a => tabSet 0 m a b | none => m) k (off + 1) bs

/-- What the ownership check finds for a window: owned, wait, or not owned (06 R149 step 5, 08 R201, R202). -/
inductive Held where
  | owned | wait | no
  deriving DecidableEq, Repr

/-- A handover from core c, or one on its way to it, concerns a bank of index b (06 R149 step 5, 08 R207). -/
def State.inTransit (s : State) (c : CoreId) (b : BankIx) : Bool :=
  s.handovers.any fun h => h.bank == b &&
    (h.source == some c || (h.target == c && h.sent && !h.recorded))

def State.held (s : State) (c : CoreId) (b : BankIx) : Held :=
  let k := s.core c
  if s.inTransit c b then .wait
  else match k.windows[b] with
    | none => .no
    | some m =>
      match s.bank m b with
      | .owned o => if o == c then .owned else .no
      | .clearing _ => .wait
      | .transit t => if t == c then .owned else .wait
      | _ => .no

/-- The windows that ranges of scratchpad offsets touch. -/
def windowsOf (rs : List (Nat × Nat)) : List BankIx :=
  (List.finRange 32).filter fun b => rs.any fun r => r.1 < (b.val + 1) * 0x20000 && b.val * 0x20000 < r.2

/-- The ownership check over ranges: a wait anywhere comes before a fault (06 R149 step 5). -/
def State.heldAll (s : State) (c : CoreId) (rs : List (Nat × Nat)) : Held :=
  let hs := (windowsOf rs).map (s.held c)
  if hs.any (· == .wait) then .wait else if hs.any (· == .no) then .no else .owned

/-- A core naps: its units and the banks of its OWNED units are in retention (16 R363). -/
def State.naps (s : State) (m : CoreId) : Bool := (s.core m).power.state == 2

/-- Ranges of a core's scratchpad lie in a bank whose home core naps: the access stalls until that core is ACTIVE (16 R363; log 77). -/
def State.napping (s : State) (c : CoreId) (rs : List (Nat × Nat)) : Bool :=
  (windowsOf rs).any fun b => match (s.core c).windows[b] with | some m => s.naps m | none => false

/-- A napping core wakes; no other core changes (16 R363). -/
def State.wakeCore (s : State) (m : CoreId) : State :=
  if s.naps m then s.modCore m fun k => { k with power := { k.power with state := 0 } } else s

/-- An access that is part of a larger step wakes the cores whose banks it meets, and goes on once they are ACTIVE (16 R363; log 77). -/
def State.wakeBanks (s : State) (c : CoreId) (rs : List (Nat × Nat)) : State :=
  (windowsOf rs).foldl (fun (s : State) (b : BankIx) => match (s.core c).windows[b] with | some m => s.wakeCore m | none => s) s

/-! ## HBM3E (11 R288, R289) -/

/-- Bytes of an HBM3E unit (11 R288). -/
def hbmUnit : Nat := 0x200000

/-- The memory address of a byte of a partition's HBM3E space (11 R288). -/
def State.hbmPhys (s : State) (n : PartId) (off : Nat) : Option Nat :=
  (s.parts[n]).hbmUnits[off / hbmUnit]?.map fun u => hbmBase + u * hbmUnit + off % hbmUnit

/-- No unit under the range is still clearing (11 R289, 12 R294 step 4). -/
def State.hbmReady (s : State) (n : PartId) (off len : Nat) : Bool :=
  (List.range (len / hbmUnit + 2)).all fun i =>
    let o := min (off + i * hbmUnit) (off + len - 1)
    len == 0 || match (s.parts[n]).hbmUnits[o / hbmUnit]? with
      | some u => !(s.hbm.clearing.any fun e => e.1 == u)
      | none => true

/-- Bytes of a partition's HBM3E space. -/
def State.hbmRead (s : State) (n : PartId) (off : Nat) : Nat → List Byte
  | 0 => []
  | k + 1 => (match s.hbmPhys n off with | some a => memByte s.mem a | none => 0) :: s.hbmRead n (off + 1) k

/-- Writes bytes of a partition's HBM3E space, as their addresses map. -/
def State.hbmBytes (s : State) (n : PartId) (off : Nat) : List Byte → State
  | [] => s
  | b :: bs => (match s.hbmPhys n off with | some a => s.write a [b] | none => s).hbmBytes n (off + 1) bs

/-- The 32-byte accesses that lie whole in a range of a partition's HBM3E space, by device address over 32. -/
def State.hbmWhole (s : State) (n : PartId) (off len : Nat) : List Nat :=
  (List.range (len / 32 + 1)).filterMap fun i =>
    let o := (off + 31) / 32 * 32 + 32 * i
    if o + 32 ≤ off + len then (s.hbmPhys n o).map fun a => (a - hbmBase) / 32 else none

/-- Some byte of the range lies in a 32-byte access that holds the poison pattern (11 R287). -/
def State.hbmPoisoned (s : State) (n : PartId) (off len : Nat) : Bool :=
  len != 0 && (List.range ((off + len - 1) / 32 - off / 32 + 1)).any fun i =>
    match s.hbmPhys n (off / 32 * 32 + 32 * i) with
    | some a => s.hbm.poison.contains ((a - hbmBase) / 32)
    | none => false

/-- A write of HBM3E: an access that is written whole holds no poison pattern any more (11 R287; log 126). -/
def State.hbmWrite (s : State) (n : PartId) (off : Nat) (bs : List Byte) : State :=
  let s := s.hbmBytes n off bs
  if s.hbm.poison == [] then s
  else
    let whole := s.hbmWhole n off bs.length
    { s with hbm := { s.hbm with poison := s.hbm.poison.filter fun g => !(whole.contains g) } }

/-- A unit reads zero from now on, and it is assigned or free once it has been cleared (11 R289). -/
def State.clearUnit (s : State) (u : Nat) (next : Option PartId) : State :=
  let s := s.clearMem (hbmBase + u * hbmUnit) (hbmBase + (u + 1) * hbmUnit)
  { s with hbm := { s.hbm with
    clearing := s.hbm.clearing.filter (fun e => e.1 != u) ++ [(u, next)]
    poison := s.hbm.poison.filter fun g => g / (hbmUnit / 32) != u } }

/-- The units 16–12,287 that no partition holds and none is clearing for, in ascending number (11 R288). -/
def State.freeUnits (s : State) : List Nat :=
  ((List.range 12272).map (· + 16)).filter fun u =>
    tabGet 0 s.hbm.owner u == 0 && !(s.hbm.clearing.any fun e => e.1 == u && e.2.isSome)

end Sys2Proof.Machine
end

