-- ==== Sys2Proof/Machine/Records.lean ====
section
/-!
DEFINITION. The step block (19 R431, R432, R448) and step records (20 R454–R456): the block's fields, its write into
scratchpads, Porter-equivalent writes of the Vorum, openings and closings, and what a START admission does for a step.
-/
namespace Sys2Proof.Machine

/-! ## The step block (19 R431) -/

/-- A field of a byte record held as its little-endian number: `len` bytes at byte `off`. -/
def fieldOf (v off len : Nat) : Nat := v / 2 ^ (8 * off) % 2 ^ (8 * len)

/-- The record with that field replaced. -/
def withField (v off len x : Nat) : Nat :=
  v - fieldOf v off len * 2 ^ (8 * off) + x % 2 ^ (8 * len) * 2 ^ (8 * off)

def blkVstep (v : Nat) : Nat := fieldOf v 0 4
def blkCstep (v : Nat) : Nat := fieldOf v 4 4
def blkVerdict (v : Nat) : Nat := fieldOf v 8 1
def blkMbuf (v : Nat) : Nat := fieldOf v 9 1
def blkGexp (v : Nat) : Int := signed 8 (fieldOf v 10 1)
def blkGspec (v : Nat) : Int := signed 8 (fieldOf v 11 1)
def blkGrow (v : Nat) : Nat := fieldOf v 12 4
def blkSkips (v : Nat) : Nat := fieldOf v 16 4
def blkNstep (v : Nat) : Nat := fieldOf v 20 4
def blkSsum (v : Nat) : Nat := fieldOf v 24 8
def blkNorm (v : Nat) : Nat := fieldOf v 32 8

/-- No step: 0xFFFF_FFFF. -/
def noStep : Nat := 0xFFFFFFFF

/-- The block of a partition, obj 8010.0B. -/
def State.block (s : State) (n : PartId) : Nat := objGet s (some n) 0x8010 0xB

/-- The block changes, and the objects that show its fields with it (19 R448). -/
def State.setBlock (s : State) (n : PartId) (v : Nat) : State :=
  let s := objSet (objSet s (some n) 0x8010 0xB v) (some n) 0x8010 1 (blkCstep v)
  let s := objSet (objSet s (some n) 0x8010 2 (blkVstep v)) (some n) 0x8010 3 (blkVerdict v)
  objSet (objSet s (some n) 0x8010 4 (fieldOf v 10 1)) (some n) 0x8010 5 (blkNorm v)

/-- The step block at formation and at partition reset (19 R431): VSTEP, CSTEP and NSTEP none, GEXP and GSPEC from obj 8000.04. -/
def State.initialBlock (s : State) (n : PartId) : Nat :=
  let g := objGet s (some n) 0x8000 4 % 256
  noStep + noStep * 2 ^ 32 + g * 2 ^ 80 + g * 2 ^ 88 + noStep * 2 ^ 160

/-- The floor, ceiling, growth interval and threshold written last come into force (19 R447). -/
def State.latchStepConfig (s : State) (n : PartId) : State :=
  let g (sub : Nat) : Nat := objGet s (some n) 0x8000 sub
  s.modPart n fun p => { p with train := { p.train with floor := g 5, ceiling := g 6, growth := g 7, clip := g 8 } }

/-- Step control returns to its initial values (19 R431). -/
def State.resetTraining (s : State) (n : PartId) : State :=
  ((s.setBlock n (s.initialBlock n)).modPart n fun p => { p with train := .reset }).latchStepConfig n

/-- The cores the step block is written to: those obj 8000.03 names, 0 naming every core of the partition (19 R431). -/
def State.blockCores (s : State) (n : PartId) : List CoreId :=
  let mask := objGet s (some n) 0x8000 3
  (List.finRange 64).filter fun c => (s.core c).part == some n && (mask == 0 || bitOf mask c.val)

/-- The step block is written into the window of each named core, or the write is skipped and counted (19 R432). -/
def State.writeStepBlock (s : State) (n : PartId) : State :=
  let off := objGet s (some n) 0x8000 2
  let bytes := leBytes 64 (s.block n)
  (s.blockCores n).foldl (fun (s : State) (c : CoreId) =>
    let k := s.core c
    if s.heldAll c [(off, off + 64)] == .owned && !(k.epoch.opened && bitOf k.epoch.banks.toNat (windowOf off).val) then
      let s := s.wakeBanks c [(off, off + 64)]
      { s with mem := scratchWrite s.mem k off bytes }
    else objBump s (some n) 0x8010 0xA) s

/-! ## Porter-equivalent writes and reads of the Vorum (20 R455; 09 R220, R221) -/

def spaceOf (a : Nat) : Nat := bits a 63 60
def offsetOf (a : Nat) : Nat := bits a 59 0

/-- Every byte of an HBM range is in the partition's regions (09 R226 check 9). -/
def State.hbmInside (s : State) (n : PartId) (off len : Nat) : Bool :=
  s.delivery == .kv2p &&
    ((List.range (len / 0x200000 + 2)).all fun i =>
      let o := min (off + i * 0x200000) (off + len - 1)
      len == 0 || (s.hbmPhys n o).isSome)

/-- The Vorum may write, or read, these bytes for a partition. -/
def State.reaches (s : State) (n : PartId) (a len : Nat) (write : Bool) : Bool :=
  (spaceOf a == 1 && offsetOf a < 2 ^ 52 && s.hostInside n (offsetOf a) len write)
    || (spaceOf a == 2 && offsetOf a < 2 ^ 35 && s.hbmInside n (offsetOf a) len)

/-- A snooped write at a Porter address in HOST or HBM space. -/
def State.put (s : State) (n : PartId) (a : Nat) (bs : List Byte) : State :=
  if spaceOf a == 1 then s.hostPost n (offsetOf a) bs false
  else if spaceOf a == 2 then s.hbmWrite n (offsetOf a) bs else s

/-! ## CRC-32 (14 R337) -/

def crc32Byte (crc : Nat) (b : Byte) : Nat :=
  (List.range 8).foldl (fun c _ => if bitOf c 0 then (c / 2) ^^^ 0xEDB88320 else c / 2) (crc ^^^ b.toNat)

def crc32 (bs : List Byte) : Nat := bs.foldl crc32Byte 0xFFFFFFFF ^^^ 0xFFFFFFFF

/-! ## Step records (20 R454–R456) -/

/-- The cores whose histories a record holds (obj 8100.04; 0 names the lowest core). -/
def State.historyCores (s : State) (n : PartId) : List CoreId :=
  let mask := objGet s (some n) 0x8100 4
  let mine := (List.finRange 64).filter fun c => (s.core c).part == some n
  if mask == 0 then mine.take 1 else mine.filter fun c => bitOf mask c.val

/-- The records those cores list: core and offset, in the order of a step record (20 R454). -/
def State.historyList (s : State) (n : PartId) : List (CoreId × Nat) :=
  (s.historyCores n).flatMap fun c => (List.range (s.core c).shdirCount).map fun i => (c, ((s.core c).shdirBase + i) * 128)

/-- A listed record lies in a bank its core owns. -/
def State.historyHeld (s : State) (e : CoreId × Nat) : Bool :=
  e.2 + 128 ≤ 0x400000 && s.heldAll e.1 [(e.2, e.2 + 128)] == .owned

/-- The records are read or written: the cores whose banks hold them wake (16 R363). -/
def State.wakeHistories (s : State) (n : PartId) : State :=
  (s.historyList n).foldl (fun (s : State) (e : CoreId × Nat) => if s.historyHeld e then s.wakeBanks e.1 [(e.2, e.2 + 128)] else s) s

/-- The capture of the listed records without pending entries of step N and later; one out of reach gives zeros with MISS (20 R456). -/
def State.captureHistories (s : State) (n : PartId) (step : Nat) : List Byte :=
  (s.historyList n).flatMap fun e =>
    if s.historyHeld e then
      (((ShRec.ofNat (scratchNat s.mem (s.core e.1) e.2 128)).discard step).1.bytes).take 96
    else leBytes 96 (0x20 * 2 ^ 664)

/-- The bytes of the record of step N as its opening holds them; VERDICT, SSUM, BATCH and CRC are 0 (20 R454). -/
def State.recordBytes (s : State) (n : PartId) (step : Nat) : List Byte :=
  let t := (s.parts[n]).train
  let hist := s.captureHistories n step
  let g (ix sub : Nat) : Nat := objGet s (some n) ix sub
  leBytes 4 0x5232564B ++ leBytes 2 1 ++ leBytes 2 (hist.length / 96) ++ leBytes 4 step ++ leBytes 4 (g 0x4010 8)
    ++ leBytes 2 (objGet s none 0x7000 2) ++ leBytes 2 (g 0x7100 6) ++ leBytes 2 (g 0x7100 7)
    ++ leBytes 1 0 ++ leBytes 1 (b2n t.replay + 2 * b2n t.resumed) ++ leBytes 8 (g 0x8100 1) ++ leBytes 4 (s.parts[n]).doff
    ++ leBytes 4 (256 + hist.length) ++ leBytes 64 (s.block n) ++ leBytes 8 0 ++ leBytes 32 0 ++ leBytes 48 (g 0x8100 3)
    ++ leBytes 64 0 ++ hist

/-- The Porter address of the slot of step N (20 R455). -/
def State.recordSlot (s : State) (n : PartId) (step : Nat) : Nat :=
  let e := objGet s (some n) 0x8100 7
  objGet s (some n) 0x8100 6 + (if e == 0 then 0 else step % e) * objGet s (some n) 0x8100 8

/-- A record is left unwritten or partial (20 R455). -/
def State.recordLost (s : State) (n : PartId) (step : Nat) : State :=
  (postEvent (objBump s (some n) 0x8100 0xA) 0x14 (some n) none step).modPart n fun p => { p with train := { p.train with openRec := none } }

/-- The opening of the record of step N (20 R455): every field but VERDICT, which reads 0, SSUM, BATCH and CRC. -/
def State.openRecord (s : State) (n : PartId) (step : Nat) : State :=
  let s := s.wakeHistories n
  let bs := s.recordBytes n step
  let at_ := s.recordSlot n step
  let ok := objGet s (some n) 0x8100 6 != 0 && objGet s (some n) 0x8100 7 != 0 && bs.length ≤ objGet s (some n) 0x8100 8
    && s.reaches n at_ bs.length true
  let s := if ok then
      let s := ((s.put n at_ (bs.take 104)).put n (at_ + 144) ((bs.drop 144).take 108)).put n (at_ + 256) (bs.drop 256)
      s.modPart n fun p => { p with train := { p.train with openRec := some (step, bs) } }
    else s.recordLost n step
  s.modPart n fun p => { p with train := { p.train with openDue := false, replay := false, resumed := false } }

/-- The closing of the record of step N with its VERDICT and SSUM (20 R455). A record that was never opened for N has been lost. -/
def State.closeRecord (s : State) (n : PartId) (step verdict ssum : Nat) : State :=
  match (s.parts[n]).train.openRec with
  | none => s
  | some (m, bs) =>
    let at_ := s.recordSlot n step
    let off := objGet s (some n) 0x8100 5
    match s.blockCores n with
    | [] => s.recordLost n step
    | c :: _ =>
      if m != step || !s.reaches n at_ bs.length true || s.heldAll c [(off, off + 32)] != .owned then s.recordLost n step
      else
        let s := s.wakeBanks c [(off, off + 32)]
        let sum := leBytes 8 ssum
        let batch := scratchBytes s.mem (s.core c) off 32
        let v := leBytes 1 verdict
        let whole := bs.take 22 ++ v ++ (bs.drop 23).take 81 ++ sum ++ batch ++ (bs.drop 144).take 108
        let crc := leBytes 4 (crc32 (whole ++ bs.drop 256))
        let s := ((s.put n (at_ + 22) v).put n (at_ + 104) (sum ++ batch)).put n (at_ + 252) crc
        let s := objSet (objBump s (some n) 0x8100 9) (some n) 0x8100 0xB step
        s.modPart n fun p => { p with train := { p.train with openRec := none } }

/-! ## The stash list and PREV_OK (20 R461, R464) -/

/-- The entries of the stash list: OFF0, OFF1 and LEN (20 R461). -/
def State.stashList (s : State) (n : PartId) : List (Nat × Nat × Nat) :=
  let bs := natBlob (objGet s (some n) 0x8200 2)
  (List.range (bs.length / 24)).map fun i =>
    let f (o : Nat) : Nat := leNat ((bs.drop (24 * i + o)).take 8)
    (f 0, f 8, f 16)

/-- The stash state of obj 8200.07 with its low two bits replaced. -/
def State.stashState (s : State) (n : PartId) (v : Nat) : State :=
  objSet s (some n) 0x8200 7 (objGet s (some n) 0x8200 7 / 4 * 4 + v)

def State.prevOk (s : State) (n : PartId) : Bool := bitOf (objGet s (some n) 0x8200 7) 3

def State.setPrevOk (s : State) (n : PartId) (b : Bool) : State :=
  objSet s (some n) 0x8200 7 (objGet s (some n) 0x8200 7 % 8 + 8 * b2n b)

/-- A transfer starts that writes [lo, hi) of the partition's HBM space: PREV_OK clears where it meets a stash-list range of
buffer 1 − MBUF (20 R464). -/
def State.transferStarts (s : State) (n : PartId) (lo hi : Nat) : State :=
  let other := 1 - blkMbuf (s.block n)
  let hit := (s.stashList n).any fun e => let o := if other == 0 then e.1 else e.2.1; lo < o + e.2.2 && o < hi
  if hit && s.prevOk n then s.setPrevOk n false else s

/-! ## The admission of a START (19 R432, R447, R448; 20 R452, R455) -/

/-- A written step state and DOFF come into force, the step block is written, and the first opening that is due is made. -/
def State.startAdmitted (s : State) (n : PartId) : State :=
  let s := match (s.parts[n]).train.nextBlock with
    | some v => (s.setBlock n v).modPart n fun p => { p with train := { p.train with nextBlock := none } }
    | none => s
  let s := s.modPart n fun p => { p with doff := objGet s (some n) 0x8100 2 }
  let b := s.block n
  let s := if blkNstep b == noStep || blkNstep b == blkVstep b then s.latchStepConfig n else s
  let s := s.writeStepBlock n
  if (s.parts[n]).train.openDue then s.openRecord n ((blkVstep b + 1) % 2 ^ 32) else s

end Sys2Proof.Machine
end

