-- ==== Sys2Proof/Machine/Rings.lean ====
section
/-!
DEFINITION. Partition buffer tokens, admission and completion records (12 R293, R298–R301, R303, R304; 11 R267, R268).
-/
namespace Sys2Proof.Machine

/-! ## Tokens and shares (12 R298, R301) -/

/-- Tokens a command demands: TOK for START, else 1 (12 R295). -/
def Command.demand (c : Command) : Nat := if c.opc == 1 then c.tok else 1

def State.tokensFree (s : State) : Nat := objGet s none 0x4000 3

def State.tokensHeld (s : State) (n : PartId) : Nat := objGet s (some n) 0x4010 6

/-- A command of the partition demanding d tokens is within its guaranteed share (12 R298). -/
def State.withinShare (s : State) (n : PartId) (d : Nat) : Bool :=
  s.tokensHeld n + d ≤ objGet s (some n) 0x4010 4

/-- Tokens move from the pool to a partition in one step (12 R301). -/
def State.takeTokens (s : State) (n : PartId) (d : Nat) : State :=
  objSet (objSet s none 0x4000 3 (s.tokensFree - d)) (some n) 0x4010 6 (s.tokensHeld n + d)

/-- Tokens return to the pool in one step (12 R301). -/
def State.giveTokens (s : State) (n : PartId) (d : Nat) : State :=
  objSet (objSet s none 0x4000 3 (s.tokensFree + d)) (some n) 0x4010 6 (s.tokensHeld n - d)

/-- The formed partitions, by the mask of obj 4000.01. -/
def State.formedParts (s : State) : List PartId :=
  (List.finRange 64).filter fun n => bitOf (objGet s none 0x4000 1) n.val

/-- W and every guaranteed share are computed anew (12 R298). -/
def State.recomputeShares (s : State) : State :=
  let ps := s.formedParts
  let w := ps.foldl (fun a n => a + objGet s (some n) 0x4010 2) 0
  ps.foldl (fun (s : State) (n : PartId) =>
    objSet s (some n) 0x4010 4 (if w == 0 then 0 else 4096 * objGet s (some n) 0x4010 2 / w)) (objSet s none 0x4000 4 w)

/-! ## Waiting commands (12 R299) -/

/-- The commands of all partitions that wait for admission, in arrival order. -/
def State.waiters (s : State) : List (PartId × Command) :=
  ((List.finRange 64).flatMap fun n => ((s.parts[n]).commands.filter fun c => c.stage == .waiting).map fun c => (n, c)).mergeSort
    fun a b => a.2.arrival ≤ b.2.arrival

def State.classOf (s : State) (n : PartId) : Nat := objGet s (some n) 0x4010 3

/-- Changes the command of a partition that arrived as number a. -/
def State.modCommand (s : State) (n : PartId) (a : Nat) (f : Command → Command) : State :=
  s.modPart n fun p => { p with commands := p.commands.map fun c => if c.arrival == a then f c else c }

/-- A command is admitted: it takes its tokens, and its wait stands in its record (12 R299); a START brings the step state
into force (19 R432, R448). -/
def State.admission (s : State) (n : PartId) (c : Command) (late : Bool) : State :=
  let within := s.withinShare n c.demand
  let s := s.takeTokens n c.demand
  let waited := s.tick - c.fetched
  let s := objBump s (some n) 0x4020 9 waited
  let s := s.modCommand n c.arrival fun c => { c with
    stage := .admitted, admitted := s.tick, waited := waited, within := within, delayed := late && !within }
  if c.opc == 1 then s.startAdmitted n else s

/-- The next waiting command to be admitted: a within-share one by arrival; with none waiting, an above-share one by class, then
arrival (12 R299). -/
def State.nextAdmission (s : State) : Option (PartId × Command) :=
  let ws := s.waiters
  let free := s.tokensFree
  let inside := ws.filter fun e => s.withinShare e.1 e.2.demand
  match inside.find? fun e => e.2.demand ≤ free with
  | some e => some e
  | none =>
    if inside != [] then none
    else (ws.mergeSort fun a b => s.classOf a.1 ≤ s.classOf b.1).find? fun e => e.2.demand ≤ free

/-- Tokens have come back: waiting commands are admitted while one fits (12 R299); the count bounds the rounds. -/
def State.considerWaiting : Nat → State → State
  | 0, s => s
  | k + 1, s =>
    match s.nextAdmission with
    | none => s
    | some (n, c) => State.considerWaiting k (s.admission n c true)

def State.reconsider (s : State) : State := State.considerWaiting s.waiters.length s

/-- A checked command meets admission (12 R299): served at once, or it waits. -/
def State.meetAdmission (s : State) (n : PartId) (c : Command) : State :=
  let s := s.modPart n fun p => { p with commands := p.commands ++ [c] }
  let ws := (s.waiters).filter fun e => e.2.arrival != c.arrival
  let fits := c.demand ≤ s.tokensFree && !(ws.any fun e => s.withinShare e.1 e.2.demand)
  let fits := fits && (s.withinShare n c.demand || !(ws.any fun e => s.classOf e.1 ≤ s.classOf n))
  if fits then s.admission n c false else s

/-! ## Completion records (12 R293, R304) -/

/-- The fields of a completion record. -/
structure Record where
  cid : Nat
  opc : Nat
  outcome : Nat
  cause : Nat
  adm : Bool
  wait : Nat
  time : Nat
  sqidx : Nat
  detail : Nat
  result : Nat
  deriving DecidableEq, Repr

/-- Its 32 bytes (12 R304). -/
def Record.bytes (r : Record) (phase : Bool) : List Byte :=
  leBytes 4 r.cid ++ leBytes 1 r.opc ++ leBytes 1 r.outcome ++ leBytes 1 r.cause
    ++ leBytes 1 (b2n phase + 2 * b2n r.adm) ++ leBytes 4 (min r.wait (2 ^ 32 - 1)) ++ leBytes 4 (min r.time (2 ^ 32 - 1))
    ++ leBytes 2 r.sqidx ++ leBytes 2 0 ++ leBytes 4 r.detail ++ leBytes 8 r.result

/-- Vector 0 is due when max(COUNT, 1) records are unsignalled (11 R268). -/
def State.moderate (s : State) (n : PartId) : State :=
  let p := s.parts[n]
  if max (bits p.intMod.toNat 7 0) 1 ≤ p.unsignalled then
    (s.modPart n fun p => { p with unsignalled := 0 }).raiseVector n 0
  else s

/-- A completion record is written at CWR (12 R293, R304), snooped, and vector 0 follows it under moderation (11 R267, R268). -/
def State.writeRecord (s : State) (n : PartId) (r : Record) : State :=
  let cwr := objGet s (some n) 0x4010 0xF
  let entries := objGet s (some n) 0x4010 0xD
  let s := s.hostPost n (objGet s (some n) 0x4010 0xC + 32 * cwr) (r.bytes (s.parts[n]).phase) false
  let wraps := entries ≤ cwr + 1
  let s := objSet s (some n) 0x4010 0xF (if wraps then 0 else cwr + 1)
  let s := s.modPart n fun p => { p with
    phase := p.phase != wraps, unread := p.unread + 1, unsignalled := p.unsignalled + 1 }
  (objBump s (some n) 0x4020 (r.outcome + 1)).moderate n

/-- A command completes (12 R302, R304): its record is written, its tokens return in the same nc, waiting commands are
considered. -/
def State.finish (s : State) (n : PartId) (c : Command) (outcome cause detail result : Nat) : State :=
  let adm := c.stage != .waiting
  let s := s.writeRecord n ⟨c.cid, c.opc, outcome, cause, adm, c.waited,
    if adm then s.tick - c.admitted else 0, c.sqidx, detail, result⟩
  let s := s.modPart n fun p => { p with
    commands := p.commands.filter fun d => d.arrival != c.arrival
    lastIdx := some c.sqidx }
  if adm then (s.giveTokens n c.demand).reconsider else s

/-- The outcome a command that ends well has: DELAYED above share after waiting, else SERVED (12 R299). -/
def Command.outcome (c : Command) : Nat := if c.delayed then 1 else 0

/-- The START that runs in a partition. -/
def Partition.runningStart (p : Partition) : Option Command := p.commands.find? fun c => c.opc == 1 && c.stage == .running

/-- The cores a command names (12 R295). -/
def Command.mask (c : Command) : Nat := leNat (c.payload.take 8)

def Command.named (c : Command) : List CoreId := (List.finRange 64).filter fun k => bitOf c.mask k.val

/-- RESULT of a START: s0 of the lowest named core when it halted, 0 when it did not (12 R304, log 36). -/
def State.startResult (s : State) (c : Command) : Nat :=
  match c.named with
  | k :: _ => if (s.cores[k]).mode == .halted then ((s.cores[k]).sreg[(0 : Fin 32)]).toNat else 0
  | [] => 0

/-- A channel of the partition's cores is active. -/
def State.channelsRun (s : State) (n : PartId) : Bool :=
  s.cores.toList.any fun (k : Core) => k.part == some n && k.chans.toList.any fun (ch : Channel) => ch.state.isActive

/-- The running START of a partition ends with an outcome, a cause and DETAIL (12 R300, R303, R304); its record waits until no channel of
the partition is active (09 R246). -/
def State.endStart (s : State) (n : PartId) (outcome cause detail : Nat) : State :=
  match (s.parts[n]).runningStart with
  | some c =>
    if c.ended.isSome then s
    else if s.channelsRun n then s.modCommand n c.arrival fun c => { c with ended := some (outcome, cause, detail) }
    else s.finish n c outcome cause detail (s.startResult c)
  | none => s

/-- A core fault or the first-NaN trap ends the running START with FAULTED (06 R159, R161; 12 R303). -/
def commandFaulted (s : State) (n : PartId) (detail : Nat) : State := s.endStart n 4 0 detail

end Sys2Proof.Machine
end

