-- ==== Sys2Proof/Machine/Duties.lean ====
section
/-!
DEFINITION. Movable duties (15 R347–R353): their scopes, calls to the host, and mode switches.
-/
namespace Sys2Proof.Machine

/-- The duties of R347 whose scope is a partition: SCALE, STEP, STASH, KEYGEN. -/
def dutyOfPart (k : Nat) : Bool := k == 1 || k == 2 || k == 3 || k == 7

/-- The scope in which duty k moves: its partition, or the die. -/
def dutyScope (k : Nat) (n : PartId) : Option PartId := if dutyOfPart k then some n else none

/-- obj 5k00. -/
def dutyIndex (k : Nat) : Nat := 0x5000 + k * 256

/-- obj 5k10. -/
def callIndex (k : Nat) : Nat := 0x5010 + k * 256

/-- The mode in force of a duty: true is Marionette (15 R352). -/
def State.marionette (s : State) (q : Option PartId) (k : Nat) : Bool := objGet s q (dutyIndex k) 2 == 1

def State.callOut (s : State) (q : Option PartId) (k : Nat) : Bool := objGet s q (dutyIndex k) 8 == 1

/-- A pending switch of duty k takes effect (15 R352): the mode in force takes the requested one, the switch counts, its tick is
recorded, a CHANGE notification is posted. An outstanding call holds it (R353). -/
def State.dutySwitch (s : State) (q : Option PartId) (k : Nat) : State :=
  let ix := dutyIndex k
  if objGet s q ix 3 == 0 || s.callOut q k then s
  else
    let s := objSet s q ix 2 (objGet s q ix 1)
    let s := objBump (objSet s q ix 3 0) q ix 4
    (objSet s q ix 7 (s.tick % 2 ^ 32)).noteChange q ix 2

/-- The step boundary of a partition: the switch point of SCALE and KEYGEN (15 R352). -/
def State.stepBoundary (s : State) (n : PartId) : State := (s.dutySwitch (some n) 1).dutySwitch (some n) 7

/-- The CALLSEQ of the next call of a duty, and the state after taking it (15 R349). -/
def State.takeCallSeq (s : State) (q : Option PartId) (k : Nat) : Nat × State :=
  match q with
  | some n =>
    let (a, b) := (s.parts[n]).callSeq
    if k == 2 then (a, s.modPart n fun p => { p with callSeq := (a + 1, b) })
    else (b, s.modPart n fun p => { p with callSeq := (a, b + 1) })
  | none =>
    let (a, b, c) := s.callSeq
    if k == 4 then (a, { s with callSeq := (a + 1, b, c) })
    else if k == 5 then (b, { s with callSeq := (a, b + 1, c) })
    else (c, { s with callSeq := (a, b, c + 1) })

/-- A call is posted (15 R349): its record stands in obj 5k10.01, obj 5k00.08 reads 1, the host is notified. -/
def State.postCall (s : State) (q : Option PartId) (k : Nat) (body : List Byte) : State :=
  let (seq, s) := s.takeCallSeq q k
  let s := objSet s q (callIndex k) 1 (leNat (leBytes 4 seq ++ leBytes 1 k ++ leBytes 3 0 ++ body))
  (objSet s q (dutyIndex k) 8 1).noteChange q (callIndex k) 1

/-- The record of the outstanding call. -/
def State.callRecord (s : State) (q : Option PartId) (k : Nat) : List Byte := leBytes 32 (objGet s q (callIndex k) 1)

/-- The call ends, answered or late (15 R350). -/
def State.endCall (s : State) (q : Option PartId) (k : Nat) : State := objSet s q (dutyIndex k) 8 0

/-- A call's timeout passes: the late answer counts (15 R348). -/
def State.lateCall (s : State) (q : Option PartId) (k : Nat) : State := objBump (s.endCall q k) q (dutyIndex k) 5

/-- A partition reset withdraws the partition's calls and applies its pending switches at once (15 R353). -/
def State.withdrawCalls (s : State) (n : PartId) : State :=
  [1, 2, 3, 7].foldl (fun (s : State) (k : Nat) =>
    let s := if s.callOut (some n) k then objSet (s.endCall (some n) k) (some n) (callIndex k) 1 0 else s
    s.dutySwitch (some n) k) s

end Sys2Proof.Machine
end

