-- ==== Sys2Proof/Config.lean ====
section
/-!
DEFINITION. The values the spec leaves open: constants without a body, so that nothing can rest on what they are.
-/
namespace Sys2Proof

/-- KV1 ROM table SB1, entries 16 units of D apart (04 R113); its appendix is not part of the spec (log 5). -/
opaque Config.kv1Sb (j : Nat) : Int

/-- KV1 ROM table DB1: the direct entries D = 1–63, then entries 16 units of D apart from D = 64 (04 R113, log 5). -/
opaque Config.kv1Db (j : Nat) : Int

/-- KV1 GELUT table, 257 entries from −8 to 8 (04 R113, log 5). -/
opaque Config.kv1Gelut (j : Nat) : Int

/-- μ, var and r of a statistics row whose N is 0 while its other count is not (04 R117, log 6): by output, S1 and S2. -/
opaque Config.statNoCount (output : Nat) (s1 : Int) (s2 : Nat) : W16

/-- MUQ that STATF latches in ONE mode for such a row (04 R117, log 6). -/
opaque Config.statNoMuq (s1 : Int) : BitVec 64

/-- S1 and S2 where their exact sum leaves S64 or U128 (04 R116, log 115). -/
opaque Config.statSum1 (sum : Int) : BitVec 64
opaque Config.statSum2 (sum : Nat) : BitVec 128

/-- Zero times infinity plus a quiet NaN raises INV: IEEE 754-2019 leaves it to the implementation (07 R190, log 28). -/
opaque Config.fmaInvalidWithNan : Bool

/-- The latency in ns that obj 7100.04 records at a camp vote, by the count of free values drawn; the model has no clock (log 41). -/
opaque Config.voteLatency (draw : Nat) : W32

/-- The bound in ns that a read of obj 7100.05 returns, by the count of free values drawn (log 41). -/
opaque Config.voteBound (draw : Nat) : W32

/-- The two status bytes an I3C GETSTATUS returns, by the count of free values drawn (14 R343 gives no layout, log 45). -/
opaque Config.i3cStatus (draw : Nat) : W16

/-- Byte i of a range whose content is undefined, by the count of free values drawn (21 R490, log 47). -/
opaque Config.freeByte (draw i : Nat) : Byte

/-- Which of the codes that 18 R423 leaves unused tells other dies of unequal anchors (log 39). -/
opaque Config.anchorStatusPick : BitVec 4

/-- The filtered power of fewer than five valid readings: the spec gives the median of the last five alone (16 R371, log 49). -/
opaque Config.powerOfFew (readings : List Int) : W32

/-- The filtered temperature of fewer than five valid readings of a sensor (16 R376, log 49). -/
opaque Config.temperatureOfFew (readings : List Int) : W16

end Sys2Proof
end

