-- ==== Sys2Proof/Machine/Fabric.lean ====
section
/-!
DEFINITION. The Ridgeline fabric below its packets' handlers: seats, coordinates, routes (18 R413, R414), packets as flits
(R406, R415), and the queueing of packets and notices on ports (R424).
-/
namespace Sys2Proof.Machine

/-! ## Seats and routes (18 R413, R414) -/

/-- The size of the i, j and k ring, the spare plane counted in the k ring (18 R413). -/
def State.ringSize (s : State) (dim : Nat) : Nat :=
  let t := objGet s none 0x7000 1
  if dim == 0 then bits t 3 0 + 1 else if dim == 1 then bits t 7 4 + 1 else bits t 11 8 + 1 + b2n (bitOf t 12)

/-- The position of a coordinate on a ring; the spare seat of a k ring comes last (18 R413). -/
def State.ringPos (s : State) (dim seat : Nat) : Nat :=
  if dim == 0 then bits seat 3 0 else if dim == 1 then bits seat 7 4
  else if bits seat 12 8 == 16 then bits (objGet s none 0x7000 1) 11 8 + 1 else bits seat 12 8

/-- A seat with its position on a ring replaced. -/
def State.atPos (s : State) (dim seat pos : Nat) : Nat :=
  if dim == 0 then seat - bits seat 3 0 + pos
  else if dim == 1 then seat - bits seat 7 4 * 16 + pos * 16
  else seat - bits seat 12 8 * 256 + (if pos == bits (objGet s none 0x7000 1) 11 8 + 1 then 16 else pos) * 256

/-- The seat one hop away over a port: even ports lead up their ring, odd ones down. -/
def State.nextSeat (s : State) (seat port : Nat) : Nat :=
  let dim := port / 2
  let n := s.ringSize dim
  s.atPos dim seat ((s.ringPos dim seat + (if port % 2 == 0 then 1 else n - 1)) % n)

def State.mySeat (s : State) : Nat := objGet s none 0x7000 3

def State.myCoord (s : State) : Nat := objGet s none 0x7000 2

/-- The seat of a logical coordinate: the remap table's, or the coordinate itself (18 R414). -/
def State.seatOf (s : State) (coord : Nat) : Nat :=
  match s.fabric.remap.find? fun e => e.1 == coord with
  | some e => e.2
  | none => coord

/-- A link, seen from one of its ends, is lost. -/
def State.linkLost (s : State) (seat port : Nat) : Bool :=
  s.fabric.lostLinks.contains (seat, port) || s.fabric.lostLinks.contains (s.nextSeat seat port, if port % 2 == 0 then port + 1 else port - 1)

/-- A walk of so many hops over one port's direction crosses neither a lost link nor a lost seat (18 R414). -/
def State.ringOpen (s : State) (port : Nat) : Nat → Nat → Bool
  | 0, _ => true
  | h + 1, seat =>
    let nx := s.nextSeat seat port
    !s.linkLost seat port && !(s.fabric.lostSeats.contains nx) && s.ringOpen port h nx

/-- The port that leads toward a position on a ring: fewer hops, the positive one on a tie, the other where it is blocked (18 R414). -/
def State.ringPort (s : State) (dim seat target : Nat) : Option (Nat × Nat) :=
  let n := s.ringSize dim
  let up := (target + n - s.ringPos dim seat) % n
  let down := (n - up) % n
  let first := if up ≤ down then (2 * dim, up) else (2 * dim + 1, down)
  let other := if up ≤ down then (2 * dim + 1, down) else (2 * dim, up)
  if s.ringOpen first.1 first.2 seat then some first
  else if s.ringOpen other.1 other.2 seat then some other else none

/-- The first dimension in which two seats differ (18 R414: i, then j, then k). -/
def State.diffDim (s : State) (a b : Nat) : Option Nat :=
  [0, 1, 2].find? fun d => s.ringPos d a != s.ringPos d b

/-- The next hop from a seat toward another: the port and whether it crosses from the last position to position 0 or back. -/
def State.nextHop (s : State) (seat dst : Nat) : Option (Nat × Bool) :=
  match s.diffDim seat dst with
  | none => none
  | some d =>
    (s.ringPort d seat (s.ringPos d dst)).map fun e =>
      (e.1, if e.1 % 2 == 0 then s.ringPos d seat + 1 == s.ringSize d else s.ringPos d seat == 0)

/-- The hops from one seat to another, none where the destination is unreachable; the count bounds the walk (18 R414). -/
def State.hopsTo (s : State) (dst : Nat) : Nat → Nat → Option Nat
  | 0, _ => none
  | f + 1, seat =>
    if seat == dst then some 0
    else match s.nextHop seat dst with
      | some (p, _) => (s.hopsTo dst f (s.nextSeat seat p)).map (· + 1)
      | none => none

/-- A destination coordinate can be reached from this die (18 R414). -/
def State.reachable (s : State) (coord : Nat) : Bool :=
  s.delivery == .kv2p && s.mySeat != 0x8000 && (s.hopsTo (s.seatOf coord) 64 s.mySeat).isSome

/-! ## Packets as flits (18 R406, R408, R415) -/

/-- The virtual channel of a packet kind; a Canopy packet of mode 0 rides CANOPY (18 R408, R415). -/
def kindVc (kind : Nat) (body : List Byte) : Nat :=
  if kind == 1 then 3 else if kind == 2 || kind == 3 then 2 else if kind == 8 || kind == 9 then 5
  else if kind == 0x10 || kind == 0x11 then (if (body.getD 2 0).toNat % 8 == 0 then 1 else 0)
  else if 0x20 ≤ kind && kind < 0x30 then 4 else 0

/-- A KIND that is not reserved (18 R415). -/
def kindKnown (kind : Nat) : Bool :=
  [1, 2, 3, 8, 9, 0x10, 0x11, 0x18, 0x19, 0x1A, 0x1B, 0x1C].contains kind || (0x20 ≤ kind && kind < 0x2A)

def packetBytes (k : Packet) : List Byte :=
  leBytes 2 k.dst ++ leBytes 2 k.src ++ leBytes 1 k.kind ++ leBytes 1 0 ++ leBytes 2 k.body.length ++ leBytes 4 k.camp
    ++ leBytes 4 k.arg ++ k.body

/-- The packet a byte string spells, with the LEN it claims (18 R415). -/
def packetOf (bs : List Byte) : Packet × Nat :=
  let f (o n : Nat) : Nat := leNat ((bs.drop o).take n)
  (⟨f 0 2, f 2 2, f 4 1, f 8 4, f 12 4, bs.drop 16⟩, f 6 2)

/-- A byte string cut into pieces of at most n bytes; the count bounds the pieces. -/
def pieces (n : Nat) : Nat → List Byte → List (List Byte)
  | 0, _ => []
  | f + 1, bs => if bs.length ≤ n then [bs] else bs.take n :: pieces n f (bs.drop n)

/-- The DATA flits of a packet: at most 116 payload bytes each, SOP on the first, EOP on the last (18 R406, R415). -/
def packetFlits (vc : Nat) (dl : Nat) (bs : List Byte) : List Flit :=
  let ps := pieces 116 (bs.length + 1) bs
  ps.zipIdx.map fun e =>
    ⟨1, Fin.ofNat 8 vc, Fin.ofNat 2 dl, e.2 == 0, e.2 + 1 == ps.length, 0, e.1, 0, false, false, true⟩

def State.link (s : State) (p : PortIx) : Link := s.links[p]

def State.modLink (s : State) (p : PortIx) (f : Link → Link) : State := { s with links := s.links.set p (f s.links[p]) }

/-- obj 701p. -/
def portIndex (p : PortIx) : Nat := 0x7010 + p.val

/-- Port state: 0 DOWN, 1 TRAINING, 2 STANDBY, 3 UP (18 R404). -/
def State.portState (s : State) (p : PortIx) : Nat := objGet s none (portIndex p) 1

/-- A packet is queued on a port in a class, injected by a camp (0: transit). -/
def State.queueOn (s : State) (p : PortIx) (dl camp : Nat) (k : Packet) : State :=
  if s.portState p != 3 then s
  else s.modLink p fun l => { l with
    queue := l.queue ++ (packetFlits (kindVc k.kind k.body) dl (packetBytes k)).map fun f => (camp, f) }

/-- The die's own logical coordinate, or its seat while it has none (18 R415). -/
def State.dieCoord (s : State) : Nat := if s.myCoord == 0x8000 then s.mySeat else s.myCoord

/-- A packet leaves this die toward its destination (18 R414); DL is 0 where it enters a dimension and 1 over the link
between the last position and position 0. An unreachable destination gets nothing. -/
def State.sendPacket (s : State) (k : Packet) : State :=
  match s.nextHop s.mySeat (s.seatOf k.dst) with
  | some (p, dateline) => s.queueOn (Fin.ofNat 6 p) (b2n dateline) k.camp k
  | none => s

/-- A notice goes out on every UP port but the one it came in on (18 R424). -/
def State.forwardNotice (s : State) (k : Packet) (except_ : Option PortIx) : State :=
  (List.finRange 6).foldl (fun (s : State) (p : PortIx) => if except_ == some p then s else s.queueOn p 0 0 k) s

/-- This die floods a notice of its own under the next notice sequence (18 R424). -/
def State.flood (s : State) (kind camp : Nat) (body : List Byte) : State :=
  let me := s.dieCoord
  let q := s.fabric.noticeSeq
  let s := { s with fabric := { s.fabric with noticeSeq := q + 1, seen := (me, kind, q) :: s.fabric.seen } }
  s.forwardNotice ⟨0xFFFF, me, kind, camp, q, body⟩ none

/-- A member fault notice (01 R30, 18 R426): the coordinate of the failed member, or the seat of a spare that has none. -/
def State.floodFault (s : State) (camp : Nat) : State := s.flood 0x1A camp (leBytes 2 s.dieCoord)

end Sys2Proof.Machine
end

