-- ==== Sys2Proof/Machine/Ops.lean ====
section
/-!
DEFINITION. The shared operations of the machine: the Hearth's elements, registers, what a
retiring operation does, the stop of a partition, a core fault (06 R159), and the frame every core instruction issues in.
-/
namespace Sys2Proof.Machine

/-- The element i of a Hearth slot (03 R77). -/
def hearthGet (m : Memory) (c : CoreId) (slot i : Nat) : HElem := .ofWord (memNat m (hearthAddr c slot i) 8)

def hearthSet (m : Memory) (c : CoreId) (slot i : Nat) (e : HElem) : Memory :=
  memWrite m (hearthAddr c slot i) (leBytes 8 e.word)

/-- Two lists of ranges share a byte. -/
def overlaps (xs ys : List (Nat × Nat)) : Bool :=
  xs.any fun x => ys.any fun y => x.1 < y.2 && y.1 < x.2

/-- A write to these ranges must wait for an open epoch to end (06 R156). -/
def Core.epochHolds (k : Core) (writes : List (Nat × Nat)) : Bool :=
  k.epoch.opened && (windowsOf writes).any fun b => !bitOf k.epoch.banks.toNat b.val

/-- A write to this slot must wait for an open epoch to end (06 R156). -/
def Core.epochHoldsSlot (k : Core) (h : Nat) : Bool := k.epoch.opened && !bitOf k.epoch.slots.toNat h

/-! ## Registers by specifier (07 R170) -/

/-- The value a 6-bit specifier reads. -/
def Core.reg (k : Core) (spec : Nat) : W64 :=
  if spec < 32 then k.sreg[Fin.ofNat 32 spec]
  else if spec < 48 then k.areg[Fin.ofNat 16 (spec - 32)]
  else if spec < 56 then (if k.preg[Fin.ofNat 8 (spec - 48)] then 1 else 0)
  else (k.lreg[Fin.ofNat 4 (spec - 56)]).zeroExtend 64

/-- Writes the register of a 6-bit specifier; p0 discards the write (06 R140). -/
def Core.setReg (k : Core) (spec : Nat) (v : W64) : Core :=
  if spec < 32 then { k with sreg := k.sreg.set (Fin.ofNat 32 spec) v }
  else if spec < 48 then { k with areg := k.areg.set (Fin.ofNat 16 (spec - 32)) v }
  else if spec == 48 then k
  else if spec < 56 then { k with preg := k.preg.set (Fin.ofNat 8 (spec - 48)) (v.getLsbD 0) }
  else { k with lreg := k.lreg.set (Fin.ofNat 4 (spec - 56)) (v.truncate 32) }

def Core.regNat (k : Core) (spec : Nat) : Nat := (k.reg spec).toNat

/-- Registers that an operation not yet retired will write. -/
def Core.pendingRegs (k : Core) : List Nat :=
  k.inflight.flatMap (·.regs) ++ k.creds.flatMap (fun w => w.oreg :: (if w.mode ≤ 1 then [] else if w.mode == 3 then [48 + w.sreg % 8] else [w.sreg]))
    ++ (match k.shder with | some w => [w.dreg] | none => [])

/-- Registers that a bank instruction of the core under way will write (08 R211). -/
def State.bankRegs (s : State) (c : CoreId) : List Nat :=
  s.claims.filterMap (fun q => if q.who == .core c then some q.dreg else none) ++
  s.handovers.filterMap (fun h => match h.how with | .give d => if h.source == some c then some d else none | _ => none)

/-- Some register of the list is not ready; p0 always is (06 R140, R145). -/
def State.unready (s : State) (c : CoreId) (specs : List Nat) : Bool :=
  let busy := (s.core c).pendingRegs ++ s.bankRegs c
  specs.any fun r => r != 48 && busy.contains r

/-! ## Control registers as words -/

/-- The instructions of a core that have issued and not retired, each with its place in the order of issue and its PC. -/
def State.unretired (s : State) (c : CoreId) : List (Nat × Nat) :=
  let k := s.core c
  k.inflight.map (fun i => (i.order, i.pc)) ++ k.creds.map (fun w => (w.order, w.pc))
    ++ (match k.shder with | some q => [(q.order, q.pc)] | none => [])
    ++ s.claims.filterMap (fun q => if q.who == .core c then some (q.order, q.pc) else none)
    ++ s.handovers.filterMap (fun h => match h.how with | .give _ => if h.source == some c then some (h.order, h.pc) else none | _ => none)

/-- The oldest unretired instruction of a core: the first of those issued, else the one its PC names (06 R144). -/
def State.oldest (s : State) (c : CoreId) : Nat × Nat :=
  (s.unretired c).foldl (fun a e => if e.1 < a.1 then e else a) ((s.core c).issued, (s.core c).pc)

/-- CORE_STAT with the PC of the oldest unretired instruction (06 R144). -/
def Core.coreStat (k : Core) (pc : Nat) : Nat :=
  b2n k.epseq * 2 ^ 21 + b2n k.maskIgn * 2 ^ 20 + b2n k.ecc1 * 2 ^ 19 + k.mode.code * 2 ^ 15
    + b2n k.epoch.opened * 2 ^ 14 + pc % 16384

/-- HSLOT_STAT (03 R87). -/
def HSlot.word (h : HSlot) : Nat :=
  unsigned 10 h.anchor * 2 ^ 17
    + (match h.group with | some g => 2 ^ 16 + g.val * 2 ^ 13 | none => 0)
    + b2n h.clearing * 2 ^ 12 + b2n h.sat * 2 ^ 11 + b2n h.nf * 2 ^ 10 + (if h.nf then h.nfPos else 0)

/-- The slots of a group (03 R78). -/
def Group.covers (g : Group) (h : Nat) : Bool := g.base ≤ h && h < g.base + g.count

/-! ## What a retiring operation does -/

/-- A first-NaN event waiting to be reported: pc, tag, source, slot, element (06 R161). -/
abbrev NanEvent := Nat × W16 × Nat × Nat × Nat

/-- Records that element i of a slot became non-finite or clamped (03 R87). -/
def HSlot.mark (h : HSlot) (f : AddFlags) (i : Nat) : HSlot :=
  { h with
    sat := h.sat || f.sat
    nf := h.nf || f.nf
    nfPos := if f.nf then (if h.nf then min h.nfPos i else i) else h.nfPos }

/-- A core with the marks of one slot changed. -/
def Core.modSlot (k : Core) (h : SlotIx) (f : HSlot → HSlot) : Core := { k with slots := k.slots.set h (f k.slots[h]) }

/-- Clears a slot: V and ST of every element, SAT, NF and NF_POS; CLEARING stays until HEARTH_CLEAR_DONE (03 R80, R86). -/
def State.clearSlot (s : State) (c : CoreId) (h : SlotIx) : State :=
  let s := s.clearMem (hearthAddr c h 0) (hearthAddr c h 1024)
  s.modCore c fun k => k.modSlot h fun x => { x with clearing := true, sat := false, nf := false, nfPos := 0 }

/-- The adds of one element in ascending k (03 R70): its operands, the element, the flags so far. -/
def passElement (anchor : Int) : List (Nat × Nat) → HElem → AddFlags → HElem × AddFlags
  | [], e, f => (e, f)
  | (a, b) :: ps, e, f =>
    let (e', g) := e.add maxV (contribution a b anchor)
    passElement anchor ps e' ⟨f.sat || g.sat, f.nf || g.nf, f.toNan || g.toNan⟩

/-- The operand pairs of element i of a pass: A[r][k] with B[k][c] (03 R62). -/
def Pass.pairs (p : Pass) (i : Nat) : List (Nat × Nat) :=
  (List.range p.k).map fun k => (p.a.getD (i / 32 * p.k + k) pxZero, p.b.getD (k * 32 + i % 32) pxZero)

/-- One element of a retiring pass: the Hearth and the slot's marks after it, and the first element turned to NaN (03 R69, R87). -/
def passStep (c : CoreId) (p : Pass) (acc : Memory × HSlot × Option Nat) (i : Nat) : Memory × HSlot × Option Nat :=
  let (m, h, nan) := acc
  let e := hearthGet m c p.slot i
  let (e', f) := passElement p.anchor (p.pairs i) e ⟨false, false, false⟩
  (if e' = e then m else hearthSet m c p.slot i e', h.mark f i, if f.toNan && nan.isNone then some i else nan)

/-- A pass retires (03 R70): every element takes its contributions. -/
def State.applyPass (s : State) (c : CoreId) (p : Pass) : State × Option Nat :=
  let (m, h, nan) := (List.range 1024).foldl (passStep c p) (s.mem, (s.core c).slots[p.slot], none)
  (({ s with mem := m }).modCore c fun k => { k with slots := k.slots.set p.slot h }, nan)

/-- Folds a word into an AMX register (05 R122). -/
def Amx.fold (x : Amx) (word : Nat) (nf : Bool) : Amx := ⟨x.nf || nf, px16Max x.amax word⟩

/-- An AB is over (21 R482, R493): its outcome is counted and, where it is not OK, recorded. -/
def State.countAbacus (s : State) (c : CoreId) (op outcome elems : Nat) : State :=
  let s := if bitOf outcome 8 then bumpOf s c 0x9000 4 else s
  let s := bumpOf s c 0x9000 5 elems
  if outcome % 256 == 0 then bumpOf s c 0x9000 1
  else
    let s := bumpOf s c 0x9000 2
    match s.partOf c with
    | some n => objSet s (some n) 0x9000 3 (outcome % 256 + op * 2 ^ 8 + c.val * 2 ^ 16)
    | none => s

/-- One effect of a retiring operation; a first-NaN event is left to the caller. -/
def State.applyEffect (s : State) (c : CoreId) : Effect → State
  | .store a bs => s.write a bs
  | .clear h => s.clearSlot c h
  | .cvt b => s.modCore c fun k => { k with cvt := k.cvt ||| b }
  | .lnt b => s.modCore c fun k => { k with lntStat := k.lntStat ||| BitVec.ofNat 32 b }
  | .lntNf pos => s.modCore c fun k =>
      let w := k.lntStat.toNat
      if bitOf w 10 && bits w 9 0 ≤ pos then k
      else { k with lntStat := BitVec.ofNat 32 (w / 2048 * 2048 + 1024 + pos % 1024) }
  | .drnNf slot pos => s.modCore c fun k => if k.drnNf then k else { k with drnNf := true, drnSlot := slot, drnPos := pos }
  | .amx n w nf => s.modCore c fun k => { k with amx := k.amx.set n ((k.amx[n]).fold w nf) }
  | .nanEvent _ _ _ => s
  | .reg r v => s.modCore c fun k => k.setReg r v
  | .ieee f => s.modCore c fun k => { k with ieeeStat := k.ieeeStat ||| f }
  | .stats i set => s.modCore c fun k => { k with stats := k.stats.set i set }
  | .tableRam first ws => s.write (tableBase c + 4 * first) (ws.flatMap fun w => leBytes 4 w.toNat)
  | .abacus op outcome _ elems => s.countAbacus c op outcome elems
  | .keyUnit _ _ _ _ _ => s

/-- The first-NaN events among effects. -/
def nanEvents (i : InFlight) : List NanEvent :=
  i.effects.filterMap fun e => match e with
    | .nanEvent src slot el => some (i.pc, i.tag, src, slot, el)
    | _ => none

/-- One operation retires: its pass, its effects, and the first-NaN events it raises. -/
def State.retire (s : State) (c : CoreId) (i : InFlight) : State × List NanEvent :=
  let (s, ev) := match i.pass with
    | some p => let (s, nan) := s.applyPass c p; (s, match nan with | some el => [(i.pc, i.tag, 1, p.slot.val, el)] | none => [])
    | none => (s, [])
  (i.effects.foldl (fun s e => s.applyEffect c e) s, ev ++ nanEvents i)

/-- Bytes of no defined content (21 R490): free values. -/
def freeBytes (draw : Nat) (n : Nat) : List Byte := (List.range n).map fun i => Config.freeByte draw i

/-- An AB in execution is abandoned (21 R490): its destination ranges, all but the last of its ranges, hold no defined content; D
takes ABORTED; a transfer of a Marionette KGEN stops at its next beat boundary. -/
def State.abandon (s : State) (c : CoreId) (i : InFlight) : State :=
  let s := i.ranges.dropLast.foldl (fun (s : State) (r : Nat × Nat) =>
    let (d, s) := s.drawFree
    { s with mem := scratchWrite s.mem (s.core c) r.1 (freeBytes d (r.2 - r.1)) }) s
  let s := i.effects.foldl (fun (s : State) (e : Effect) => match e with
    | .reg r _ => s.modCore c fun k => k.setReg r 9
    | .abacus op _ _ _ => s.countAbacus c op 9 0
    | .keyUnit ch _ _ _ true => s.modCore c fun k =>
        let x := k.chans[ch]
        { k with chans := k.chans.set ch { x with aborting := x.aborting || x.state.isActive } }
    | _ => s) s
  bumpOf s c 0x9000 7

/-- Every issued operation of a core retires, in issue order (06 R159, R163); an AB in execution is abandoned, one that waits
behind it is dropped (21 R490). -/
def State.retireAll (s : State) (c : CoreId) : State × List NanEvent :=
  let ops := (s.core c).inflight
  let s := s.modCore c fun k => { k with inflight := [] }
  let (s, ev) := (ops.filter fun i => i.unit != .abacus).foldl (fun (s, ev) i => let (s, e) := s.retire c i; (s, ev ++ e)) (s, [])
  match ops.find? fun i => i.unit == .abacus with
  | some i => (s.abandon c i, ev)
  | none => (s, ev)

/-! ## Streams break, the Scout cancels (06 R153, 10 R258) -/

/-- A context becomes BROKEN with its cause and counts in obj 4050.05 (10 R258). -/
def State.breakCtx (s : State) (key cause : Nat) : State :=
  let x := tabGet .reset s.ctxs key
  if x.state == 0 || x.state == 4 || x.state == 5 then s
  else objBump { s with ctxs := tabSet .reset s.ctxs key { x with state := 5, cause := cause } } (some (Fin.ofNat 64 x.part)) 0x4050 5

/-- Every context with an end on core c that meets a condition breaks. -/
def State.breakStreams (s : State) (c : CoreId) (cause : Nat) (p : Ctx → Bool) : State :=
  s.ctxs.foldl (fun s e =>
    let x := e.2
    let mine := (s.core c).part == some (Fin.ofNat 64 x.part)
    let sends := !(x.remote && x.side) && x.score == c.val
    let receives := !(x.remote && !x.side) && x.rcore == c.val
    if mine && (sends || receives) && p x then s.breakCtx e.1 cause else s) s

/-- A bank begins to clear: its bytes read 0, and its state says who it will belong to (08 R216). -/
def State.clearBank (s : State) (m : CoreId) (b : BankIx) (next : BankParty) : State :=
  (s.clearMem (bankBase m b) (bankBase m b + 0x20000)).setBank m b (.clearing next)

/-! ## Patrol gives way (22 R507) -/

/-- A tested bank goes back untested, cleared under R216 to the party that may have it, and the yield counts where work took it. -/
def State.yieldBank (s : State) (m : CoreId) (b : BankIx) (next : BankParty) (count : Bool) : State :=
  let s := s.clearBank m b next
  if !count then s
  else
    let s := objBump s none 0xB010 5
    match s.partOf m with | some n => objBump s (some n) 0x4030 6 | none => s

/-- Work at some units ends their tests, and the rest of the slice is abandoned: every unit goes back (22 R507), and the PATROL
duty may switch (15 R352). A bank that is work's goes to `next`. -/
def State.patrolYieldTo (s : State) (work : CoreId → Option BankIx → Bool) (next : BankParty) : State :=
  let q := s.patrol
  if !(q.banks.any fun e => work e.1 (some e.2.1)) && !(q.cores.any fun c => work c none) then s
  else
    let s := { s with patrol := { q with running := false, banks := [], cores := [] } }
    let s := q.banks.foldl (fun (s : State) (e : CoreId × BankIx × Bool) =>
      let mine := work e.1 (some e.2.1)
      s.yieldBank e.1 e.2.1 (if e.2.2 then .lent else if mine then next else .pool) mine) s
    let s := q.cores.foldl (fun (s : State) (c : CoreId) =>
      let s := s.modCore c fun k => { k with mode := .off, power := { k.power with state := 3 } }
      let s := s.gateCore c
      if work c none then objBump s none 0xB010 5 else s) s
    s.dutySwitch none 5

/-- Work at some cores ends the tests of their units (22 R507). -/
def State.patrolYield (s : State) (mine : CoreId → Bool) : State := s.patrolYieldTo (fun c _ => mine c) .pool

/-- The reads of a channel whose answers are still due (09 R234). -/
def Channel.readsDue (ch : Channel) : List ReadAsked := (ch.asked.drop ch.buffer.length).flatten

/-- A channel stops while reads are out: their answers count as late (09 R239). On PCIe an answer no longer names what asked for it,
so the read is no longer outstanding; on UCIe its tag stays in use until it is answered (11 R271, R280; log 121). -/
def State.dropReads (s : State) (c : CoreId) (i : ChanIx) : State :=
  let due := ((s.core c).chans[i]).readsDue
  let s := s.modCore c fun k => { k with late := k.late ++ due }
  if s.delivery == .kv2c then s
  else { s with attach := { s.attach with reads := s.attach.reads.filter fun r => !(due.any fun d => d.space == 1 && d.tag == r.tag) } }

/-- A speculative channel returns to what it held before the Scout wrote it (06 R153, 09 R237). -/
def Channel.unspeculate (ch : Channel) : Channel :=
  match ch.saved with
  | some v => { ch with
      regs := v.regs, state := v.state, cause := v.cause, wdone := v.wdone, collide := v.collide, mismatch := v.mismatch, nf := v.nf
      held := [], buffer := [], asked := [], checked := false, spec := false, saved := none, aborting := false, cvt := 0 }
  | none => ch

/-- A transfer of the Scout is cancelled: its reads drop, its channel is as before (06 R153). -/
def State.unspeculate (s : State) (c : CoreId) (i : ChanIx) : State :=
  (s.dropReads c i).modCore c fun k => { k with chans := k.chans.set i (k.chans[i]).unspeculate }

/-- Speculative issues a Scout holds: claims, transfers, prefetches (06 R154). -/
def Scout.held (q : Scout) : Nat := q.claims.length + q.chans.length + q.prefetched.length

/-- Adds to one of the Scout counters 0 ISS, 1 CAN, 2 MIS, 3 RET, 4 RVK, 5 EPD (06 R154). -/
def Core.scoutCount (k : Core) (i : Fin 6) (n : Nat) : Core :=
  { k with scoutCounts := k.scoutCounts.set i (k.scoutCounts[i] + BitVec.ofNat 32 n) }

/-- The Scout of a core cancels everything it holds (06 R153). -/
def State.scoutCancel (s : State) (c : CoreId) : State :=
  let q := (s.core c).scout
  if !q.running then s
  else
    let s := q.claims.foldl (fun s e => if s.bank e.2.2 e.2.1 == .scoutHeld c then s.clearBank e.2.2 e.2.1 .pool else s) s
    let s := q.chans.foldl (fun (s : State) (e : Nat × ChanIx) => s.unspeculate c e.2) s
    s.modCore c fun k => (({ k with scout := .reset }).scoutCount 1 q.held).scoutCount 3 q.claims.length

/-- The sequencer moves from a PC to the next: the Scout's window follows, and a path the Scout did not take cancels it (06 R151). -/
def State.scoutFollow (s : State) (c : CoreId) (old new : Nat) : State :=
  let q := (s.core c).scout
  if !q.running then s
  else match q.window with
    | [] => s.modCore c fun k => { k with scout := .reset }
    | p :: rest =>
      let expected := match rest with | [] => q.pc | x :: _ => x
      if p == old && expected == new then
        s.modCore c fun k => { k with scout := { q with window := rest, prefetched := q.prefetched.eraseP fun e => e.1 == old } }
      else (s.scoutCancel c).modCore c fun k => k.scoutCount 2 1

/-! ## Stop of a partition, faults, the first-NaN trap (06 R158–R161) -/

/-- The cores of a partition, in ascending number. -/
def State.coresOf (s : State) (n : PartId) : List CoreId :=
  (List.finRange 64).filter fun c => (s.core c).part == some n

/-- A stream wait of a core that stops completes with PEER_FAULT, since its context breaks (06 R165, 10 R258). -/
def Core.endWaiting (k : Core) : Core :=
  match k.wait with
  | some q => { (k.setReg (bits q.word.toNat 51 46) 3) with pc := (k.pc + 1) % 16384, wait := none, issued := k.issued + 1 }
  | none => k

/-- A core of a stopping partition stops at its next instruction boundary; its issued operations retire (06 R159). A core that runs no program stays as it is (log 21). -/
def State.stopCore (s : State) (c : CoreId) : State × List NanEvent :=
  let s := s.scoutCancel c
  let (s, ev) := s.retireAll c
  if (s.core c).mode == .running || (s.core c).mode == .waiting then
    ((s.modCore c fun k => { k.endWaiting with mode := .stopped }).breakStreams c 1 (fun _ => true), ev)
  else (s, ev)

/-- The first-NaN events after the first count in obj 6020.09 (06 R161). -/
def State.countNan (s : State) (n : PartId) (k : Nat) : State := if k == 0 then s else objBump s (some n) 0x6020 9 k

/-- Every core of a partition but one stops (06 R159); with the first-NaN events of what retires, by core. -/
def State.stopOthers (s : State) (n : PartId) (c : CoreId) : State × List (CoreId × NanEvent) :=
  (s.coresOf n).foldl (fun (a : State × List (CoreId × NanEvent)) d =>
    if d == c then a
    else
      let (s, ev) := a.1.stopCore d
      (s, a.2 ++ ev.map fun e => (d, e))) (s, [])

/-- The trap fires: the event is recorded, the partition stops with the producing core, the running command completes FAULTED (06 R161). -/
def State.fireTrap (s : State) (n : PartId) (c : CoreId) (e : NanEvent) : State :=
  let (pc, tag, src, slot, el) := e
  let s := objSet s (some n) 0x6020 1 0
  let s := objSet s (some n) 0x6020 2 1
  let s := objSet s (some n) 0x6020 3 c.val
  let s := objSet s (some n) 0x6020 4 pc
  let s := objSet s (some n) 0x6020 5 tag.toNat
  let s := objSet s (some n) 0x6020 6 slot
  let s := objSet s (some n) 0x6020 7 el
  let s := objSet s (some n) 0x6020 8 src
  let (s, ev) := s.stopCore c
  let (s, evs) := s.stopOthers n c
  postEvent (commandFaulted (s.countNan n (ev.length + evs.length)) n (c.val + 2 ^ 24)) 2 (some n) (some c)
    (el % 2 ^ 16 + slot % 64 * 2 ^ 16 + tag.toNat * 2 ^ 24 + pc % 16384 * 2 ^ 40)

/-- The first-NaN events of one cc reach the trap of a partition, the lowest core first: the first fires it while it is armed, the
others count, and so do all once it has fired (06 R161). -/
def State.nanTake (s : State) (n : PartId) (evs : List (CoreId × NanEvent)) : State :=
  match evs.mergeSort fun a b => a.1 ≤ b.1 with
  | [] => s
  | (c, e) :: rest =>
    if objGet s (some n) 0x6020 1 == 1 then (s.fireTrap n c e).countNan n rest.length
    else if objGet s (some n) 0x6020 2 == 1 then s.countNan n (rest.length + 1)
    else s

/-- First-NaN events of a core reach the trap of its partition. -/
def State.nanReport (s : State) (c : CoreId) (evs : List NanEvent) : State :=
  match (s.core c).part with
  | some n => s.nanTake n (evs.map fun e => (c, e))
  | none => s

/-- A core fault: class, cause, descriptor register, slot and failing field (06 R158, 07 R179). -/
structure CoreFault where
  cls : Nat
  cause : Nat
  dreg : Nat
  slot : Nat
  field : Nat
  deriving DecidableEq, Repr

def CoreFault.mk2 (cls cause : Nat) : CoreFault := ⟨cls, cause, 0, 0, 0xF⟩

def illOp : CoreFault := .mk2 1 1
def illField : CoreFault := .mk2 1 2
def illPc : CoreFault := .mk2 1 3
def progEcc : CoreFault := .mk2 4 1

/-- FREC0 of a fault (07 R179). -/
def CoreFault.word (f : CoreFault) (pc : Nat) (tag : W16) : W64 :=
  BitVec.ofNat 64 (f.field % 16 * 2 ^ 60 + f.slot % 64 * 2 ^ 54 + f.dreg % 16 * 2 ^ 50 + tag.toNat * 2 ^ 32
    + pc % 16384 * 2 ^ 18 + f.cause % 256 * 2 ^ 8 + f.cls % 256)

/-- A core takes a fault (06 R159): earlier operations retire, the Scout cancels, the core enters FAULTED with its record,
the other cores of its partition stop, the running command completes FAULTED, an event is posted. -/
def State.takeFaultAt (s : State) (c : CoreId) (f : CoreFault) (pc : Nat) (tag : W16) : State :=
  let s := s.scoutCancel c
  let (s, evs) := s.retireAll c
  let s := s.modCore c fun k => { k with mode := .faulted, frec := f.word pc tag, wait := none }
  let s := s.breakStreams c 1 (fun _ => true)
  match (s.core c).part with
  | some n =>
    let (s, others) := s.stopOthers n c
    let s := postEvent (commandFaulted s n (c.val + f.cls % 256 * 2 ^ 8 + f.cause % 256 * 2 ^ 16)) 1 (some n) (some c)
      (f.word pc tag).toNat
    s.nanTake n (evs.map (fun e => (c, e)) ++ others)
  | none => postEvent s 1 none (some c) (f.word pc tag).toNat

/-- The fault of the instruction at a core's PC. -/
def State.takeFault (s : State) (c : CoreId) (f : CoreFault) : State := s.takeFaultAt c f (s.core c).pc (s.core c).tag

/-! ## CREDs that end (18 R421, R423; 19 R444) -/

/-- A CRED writes registers: the live ones, and the snapshot's where it issued before the open epoch's EPB (19 R444). -/
def Core.credWrite (k : Core) (w : CredWait) (spec : Nat) (v : W64) : Core :=
  let k := k.setReg spec v
  match w.outer, k.epoch.snapshot with
  | true, some q =>
    let r := ({ k with sreg := q.sreg, areg := q.areg, preg := q.preg, lreg := q.lreg }).setReg spec v
    { k with epoch := { k.epoch with snapshot := some { q with sreg := r.sreg, areg := r.areg, preg := r.preg, lreg := r.lreg } } }
  | _, _ => k

/-- The CREDs of a core on a reduction that ends with an outcome other than DONE: OREG takes the code (18 R423). -/
def Core.credsEnd (k : Core) (p : CredWait → Bool) (code : Nat) : Core :=
  let k' : Core := (k.creds.filter p).foldl (fun (q : Core) (w : CredWait) => q.credWrite w w.oreg (BitVec.ofNat 64 code)) k
  { k' with creds := k.creds.filter fun w => !p w }

/-- The CREDs of every core that meet a condition end with a code. -/
def State.credsEnd (s : State) (p : CredWait → Bool) (code : Nat) : State :=
  { s with cores := s.cores.map fun (k : Core) => if k.creds.any p then k.credsEnd p code else k }

/-! ## Issue (06 R142, R145; 07 R167–R169) -/

/-- What an instruction does when it is offered for issue: it waits, it faults, it takes effect and the next word follows,
it takes effect and the program goes on at a PC, or it changes the state and stays where it is. -/
inductive Act where
  | stall
  | fault (f : CoreFault)
  | done (s : State)
  | jump (s : State) (pc : Nat)
  | hold (s : State)
  deriving DecidableEq, Repr

/-- The PC of a core moves, and its Scout follows. -/
def State.goto (s : State) (c : CoreId) (pc : Nat) : State :=
  (s.scoutFollow c (s.core c).pc pc).modCore c fun k => { k with pc := pc, issued := k.issued + 1 }

/-- The instruction has taken effect: the PC moves on; past word 16,383 the core takes ILL_PC (06 R142, log 22). -/
def State.advance (s : State) (c : CoreId) : State :=
  let k := s.core c
  if k.mode != .running && k.mode != .waiting && k.mode != .halted then s
  else if k.pc + 1 < 16384 then s.goto c (k.pc + 1)
  else if k.mode == .halted then s.setCore c { k with pc := 0 }
  else s.takeFault c illPc

/-- The state an outcome leaves, where it is a next one. -/
def nextOr (s : State) : Host.Outcome State Fault Refusal → State
  | .next t => t
  | _ => s

/-- Bits of n that v does not select. -/
def clearBits (n v : Nat) : Nat := n - (n &&& v)

def opcOf (w : Nat) : Nat := bits w 63 56

/-- The predicate of a word holds (07 R168). -/
def Core.executes (k : Core) (w : Nat) : Bool := (k.preg[Fin.ofNat 8 (bits w 55 53)]) != bitOf w 52

/-- A core instruction offered to its core's sequencer. `illegal` is the illegal-instruction check of its fields,
`body` what it does once it executes. A word whose opcode is not the row's is an undefined word of that row (log 23). -/
def issue (x : Issue) (s : State) (opc : Nat) (illegal : Core → Nat → Option CoreFault)
    (body : CoreId → Nat → State → Act) : Host.Outcome State Fault Refusal :=
  let c := x.core
  let w := x.word.toNat
  let k := s.core c
  if k.mode != .running || k.wait.isSome || k.epoch.discarding || k.power.held || k.power.state != 0 then .next s
  else if x.ecc == .double then .next (s.takeFault c progEcc)
  else
    let s := if x.ecc == .corrected then s.modCore c (fun k => { k with ecc1 := true }) else s
    if opcOf w != opc then .next (s.takeFault c illOp)
    else match illegal k w with
      | some f => .next (s.takeFault c f)
      | none =>
        if s.unready c [48 + bits w 55 53] then .next s
        else if !(k.executes w) then .next (s.advance c)
        else match body c w s with
          | .stall => .next s
          | .fault f => .next (s.takeFault c f)
          | .done s' => .next (s'.advance c)
          | .jump s' pc => .next (s'.goto c pc)
          | .hold s' => .next s'

end Sys2Proof.Machine
end

