-- ==== Sys2Proof/Machine/Dice.lean ====
section
/-!
DEFINITION. The Dice generator and the draws of stochastic rounding (20 R449–R452, 02 R54).
-/
namespace Sys2Proof.Machine

/-- 32-bit left rotation. -/
def rotl32 (x k : Nat) : Nat := (x * 2 ^ k) % 2 ^ 32 + x / 2 ^ (32 - k)

/-- The round constants and rotations of Dice (20 R449). -/
def diceRounds : List (Nat × Nat × Nat) :=
  [(0, 0x6B3A91C5, 7), (1, 0x2F8D470E, 13), (0, 0xD4196AB3, 19), (1, 0x85E20C7F, 5), (0, 0x17C4B958, 11), (1, 0xC9A03E21, 23)]

/-- One Feistel round: the key word of the round, its constant, its rotation. -/
def diceRound (k0 k1 : Nat) (lr : Nat × Nat) (rd : Nat × Nat × Nat) : Nat × Nat :=
  let (l, r) := lr
  let (w, rc, rot) := rd
  let f := (rotl32 ((r + (if w == 0 then k0 else k1) + rc) % 2 ^ 32) rot) ^^^ r
  (r, (l + f) % 2 ^ 32)

/-- dice(key, step, stream, g) (20 R449). -/
def dice (key step stream g : Nat) : Nat :=
  let k0 := key % 2 ^ 32
  let k1 := (key / 2 ^ 32 % 2 ^ 32) ^^^ (step % 2 ^ 32)
  let (l, r) := diceRounds.foldl (diceRound k0 k1) ((stream % 2 ^ 16 * 2 ^ 16 + g / 2 ^ 32) % 2 ^ 32, g % 2 ^ 32)
  l * 2 ^ 32 + r

/-- The 16-bit draw of element n of a stream for core c (02 R54, 20 R450). Seed and DOFF are those of the core's partition;
DOFF is the value taken at the last START admission (20 R452). A core of no partition has seed and DOFF 0. -/
def State.draw (s : State) (c : CoreId) (stream n : Nat) : Nat :=
  let (key, doff) := match s.partOf c with
    | some p => (objGet s (some p) 0x8100 1, (s.parts[p]).doff)
    | none => (0, 0)
  let m := n % 4
  bits (dice key ((s.core c).stepno.toNat + doff) stream (n / 4)) (16 * m + 15) (16 * m)

end Sys2Proof.Machine
end

