-- ==== Sys2Proof/Machine/Operands.lean ====
section
/-!
DEFINITION. The operand forms of the core instructions: instruction fields (07 R167–R171), tensor descriptors and their
checks (06 R148, R149), placement and edges (07 R180, R181), elements read as values or lattice words, and tiles written.
-/
namespace Sys2Proof.Machine

/-! ## Fields -/

/-- ILL_FIELD unless every condition holds (07 R169). -/
def require (conds : List Bool) : Option CoreFault := if conds.all id then none else some illField

def fD (w : Nat) : Nat := bits w 51 46
def fA (w : Nat) : Nat := bits w 45 40
def fB (w : Nat) : Nat := bits w 39 34
def fC (w : Nat) : Nat := bits w 33 28
def fTD (w : Nat) : Nat := bits w 51 48
def fTA (w : Nat) : Nat := bits w 47 44
def fTB (w : Nat) : Nat := bits w 43 40
def fH (w : Nat) : Nat := bits w 39 34
def fP (w : Nat) : Nat := bits w 33 28
def imm40 (w : Nat) : Int := signed 40 w
def imm46 (w : Nat) : Int := signed 46 w

/-- A specifier that names a register (07 R170). -/
def isReg (r : Nat) : Bool := r < 60

/-- A specifier that names s0–s31. -/
def isS (r : Nat) : Bool := r < 32

/-- A specifier that names p0–p7. -/
def isPred (r : Nat) : Bool := 48 ≤ r && r < 56

/-! ## Descriptors -/

/-- A tensor descriptor, field by field (06 R148). -/
structure Desc where
  base : Nat
  dim0 : Nat
  dim1 : Nat
  stride : Nat
  fmt : Nat
  res13 : Nat
  cscale : Nat
  bsa : Nat
  csa : Nat
  zpa : Nat
  res28 : Nat
  deriving DecidableEq, Repr

/-- The descriptor in 32 little-endian bytes (06 R148). -/
def Desc.ofNat (n : Nat) : Desc :=
  ⟨bits n 31 0, bits n 47 32, bits n 63 48, bits n 95 64, bits n 103 96, bits n 111 104, bits n 127 112,
   bits n 159 128, bits n 191 160, bits n 223 192, bits n 255 224⟩

def Core.desc (k : Core) (t : Nat) : Desc := .ofNat (k.treg[Fin.ofNat 16 t]).toNat

/-- Element bytes of a format (06 R148); an int4 element is half a byte. -/
def fmtBytes (f : Nat) : Nat := if f == 0 then 2 else if f == 2 then 4 else if f == 3 || f == 7 then 8 else 1

def isInt4 (f : Nat) : Bool := f == 4 || f == 5
def isWeight (f : Nat) : Bool := f == 4 || f == 5 || f == 6

/-- Columns stored in a row: padded to 32 for Poxel8, to an even count for int4 (06 R148). -/
def Desc.padded (d : Desc) : Nat :=
  if d.fmt == 1 then (d.dim0 + 1 + 31) / 32 * 32 else if isInt4 d.fmt then (d.dim0 + 2) / 2 * 2 else d.dim0 + 1

/-- Stored bytes of a row (06 R148). -/
def Desc.rowBytes (d : Desc) : Nat := if isInt4 d.fmt then d.padded / 2 else d.padded * fmtBytes d.fmt

/-- Byte offset of a logical element. -/
def Desc.addr (d : Desc) (row col : Nat) : Nat :=
  d.base + row * d.stride + (if isInt4 d.fmt then col / 2 else col * fmtBytes d.fmt)

/-- The block-scale byte of a logical element of a Poxel8 tensor (07 R181). -/
def Desc.scaleAddr (d : Desc) (row col : Nat) : Nat := d.bsa + row * ((d.dim0 + 32) / 32) + col / 32

/-- A logical element inside the tensor (07 R181). -/
def Desc.inside (d : Desc) (row col : Nat) : Bool := row ≤ d.dim1 && col ≤ d.dim0

/-- A run of bytes an instruction uses, and the field code of the descriptor it comes from (07 R179). -/
structure Piece where
  lo : Nat
  hi : Nat
  field : Nat
  deriving DecidableEq, Repr

/-- A tensor operand: its descriptor register, the descriptor, whether its format is accepted, the bytes used, whether its columns start on a block, whether it is written. -/
structure Operand where
  dreg : Nat
  desc : Desc
  accepted : Bool
  pieces : List Piece
  colOk : Bool
  written : Bool
  deriving DecidableEq, Repr

/-- Bytes named by an address register: the run, its alignment, whether they are written. -/
structure Area where
  lo : Nat
  hi : Nat
  align : Nat
  written : Bool
  deriving DecidableEq, Repr

/-- The bytes of a tile of a tensor: elements inside it, padding of a Poxel8 destination, block scales (07 R181). -/
def tilePieces (d : Desc) (row0 col0 rows cols : Nat) (dst : Bool) : List Piece :=
  let width := if dst && d.fmt == 1 then d.padded else d.dim0 + 1
  if width ≤ col0 then []
  else
    let hi := min (col0 + cols) width
    (List.range rows).flatMap fun r =>
      if d.dim1 < row0 + r then []
      else
        let a := d.addr (row0 + r) col0
        let z := if isInt4 d.fmt then d.base + (row0 + r) * d.stride + (hi + 1) / 2 else d.addr (row0 + r) hi
        ⟨a, z, 0⟩ :: (if d.fmt == 1 && col0 ≤ d.dim0 then
          [⟨d.scaleAddr (row0 + r) col0, d.scaleAddr (row0 + r) (hi - 1) + 1, 6⟩] else [])

/-- A tile operand of an instruction. -/
def tileOperand (k : Core) (t : Nat) (accepts : List Nat) (row0 col0 rows cols : Nat) (dst : Bool) : Operand :=
  let d := k.desc t
  ⟨t, d, accepts.contains d.fmt, tilePieces d row0 col0 rows cols dst, d.fmt != 1 || col0 % 32 == 0, dst⟩

/-- The result of the checks: they pass, the instruction waits, or it faults. -/
inductive Checked where
  | ok
  | wait
  | fault (f : CoreFault)
  deriving DecidableEq, Repr

def descFault (cause dreg field : Nat) : CoreFault := ⟨2, cause, dreg, 0, field⟩

/-- Step 1: the field with a reserved bit set, or the format (06 R149). -/
def Operand.fmtFault (o : Operand) : Option Nat :=
  let d := o.desc
  if 2 ^ 22 ≤ d.base then some 0
  else if 2 ^ 22 ≤ d.stride then some 3
  else if 8 ≤ d.fmt || !o.accepted then some 4
  else if d.res13 != 0 || d.res28 != 0 then some 0xF
  else if d.fmt == 1 && 2 ^ 22 ≤ d.bsa then some 6
  else if isWeight d.fmt && 2 ^ 22 ≤ d.csa then some 7
  else if isWeight d.fmt && 2 ^ 22 ≤ d.zpa then some 8
  else none

/-- Step 2: the field of the first byte run that leaves the scratchpad. -/
def Operand.rangeFault (o : Operand) : Option Nat :=
  (o.pieces.find? fun p => 0x400000 < p.hi).map (·.field)

/-- Step 3: a field that breaks its alignment. -/
def Operand.alignFault (o : Operand) : Option Nat :=
  let d := o.desc
  let a := if isInt4 d.fmt then 1 else fmtBytes d.fmt
  if d.base % a != 0 then some 0
  else if d.stride % a != 0 then some 3
  else if isWeight d.fmt && d.csa % 2 != 0 then some 7
  else if d.fmt == 4 && d.zpa % 32 != 0 then some 8
  else none

/-- Step 4: a stride below the stored row, or a Poxel8 tile that starts inside a block (06 R149, 07 R181). -/
def Operand.shapeFault (o : Operand) : Option Nat :=
  if 0 < o.desc.dim1 && o.desc.stride < o.desc.rowBytes then some 3
  else if !o.colOk then some 0xF
  else none

/-- The first operand on which a step fails, as the fault of its cause. -/
def firstFault (ops : List Operand) (cause : Nat) (f : Operand → Option Nat) : Option CoreFault :=
  ops.findSome? fun o => (f o).map (descFault cause o.dreg)

/-- Step 5 over all runs: which fault names the first run that is not owned. -/
def State.ownFault (s : State) (c : CoreId) (ops : List Operand) : CoreFault :=
  let bad (lo hi : Nat) : Bool := s.heldAll c [(lo, hi)] == .no
  match ops.findSome? (fun o => (o.pieces.find? (fun p => bad p.lo p.hi)).map fun p => descFault 5 o.dreg p.field) with
  | some f => f
  | none => descFault 5 0 0xF

def allRanges (ops : List Operand) (areas : List Area) : List (Nat × Nat) :=
  ops.flatMap (fun o => o.pieces.map fun p => (p.lo, p.hi)) ++ areas.map fun a => (a.lo, a.hi)

def writtenRanges (ops : List Operand) (areas : List Area) : List (Nat × Nat) :=
  (ops.filter (·.written)).flatMap (fun o => o.pieces.map fun p => (p.lo, p.hi)) ++ (areas.filter (·.written)).map fun a => (a.lo, a.hi)

/-- Steps 1 to 5 of 06 R149 over every descriptor and address of an instruction; `placeOk` is the reserved field of the placement word (07 R180).
An access to a bank of a napping core waits (16 R363). -/
def State.checkOperands (s : State) (c : CoreId) (ops : List Operand) (areas : List Area) (placeOk : Bool := true) : Checked :=
  match firstFault ops 1 Operand.fmtFault with
  | some f => .fault f
  | none =>
  if !placeOk then .fault (descFault 2 0 0xF)
  else match firstFault ops 2 Operand.rangeFault with
  | some f => .fault f
  | none =>
  if areas.any (fun a => 0x400000 < a.hi) then .fault (descFault 2 0 0xF)
  else match firstFault ops 3 Operand.alignFault with
  | some f => .fault f
  | none =>
  if areas.any (fun a => a.lo % a.align != 0) then .fault (descFault 3 0 0xF)
  else match firstFault ops 4 Operand.shapeFault with
  | some f => .fault f
  | none =>
  match s.heldAll c (allRanges ops areas) with
  | .wait => .wait
  | .no => .fault (s.ownFault c ops)
  | .owned => if s.napping c (allRanges ops areas) then .wait else .ok

/-! ## Dependencies (06 R145, R156) -/

/-- Some earlier operation, or an SHDER that waits for the host, has not yet retired a write to these ranges (06 R145). -/
def Core.rangeBusy (k : Core) (rs : List (Nat × Nat)) : Bool :=
  (k.inflight.any fun i => overlaps i.ranges rs) || k.shder.any fun q => overlaps [(q.record, q.record + 128)] rs

/-- Some earlier operation or reduction has not yet retired a write to this slot, or it is clearing (03 R84, R86; 18 R421). -/
def Core.slotBusy (k : Core) (h : Nat) : Bool :=
  (k.slots[Fin.ofNat 64 h]).clearing || (k.inflight.any fun i => i.slots.contains h)
    || k.creds.any fun w => w.mode == 0 && w.dest == h

def Core.unitCount (k : Core) (u : ExecUnit) : Nat := (k.inflight.filter fun i => i.unit == u).length

/-- Operations a unit holds at most (06 R146). -/
def unitLimit : ExecUnit → Nat
  | .lattice => 4
  | _ => 2

def Core.unitFull (k : Core) (u : ExecUnit) : Bool := unitLimit u ≤ k.unitCount u

/-- Ranges read or written are not ready, or an open epoch holds a write (06 R145, R156). -/
def Core.blocked (k : Core) (all writes : List (Nat × Nat)) : Bool := k.rangeBusy all || k.epochHolds writes

/-- The pair of a double-buffer group that h belongs to: its group number (03 R82). -/
def Core.pairOf (k : Core) (h : Nat) : Option (Fin 8) :=
  (List.finRange 8).find? fun n => let g := k.groups[n]; g.opened && g.mode == 1 && g.covers h

/-- The open group that covers slot h. -/
def Core.groupOf (k : Core) (h : Nat) : Option (Fin 8) :=
  (List.finRange 8).find? fun n => let g := k.groups[n]; g.opened && g.covers h

/-- h is BASE + 1 of an open double-buffer pair (07 R184). -/
def Core.isPairTop (k : Core) (h : Nat) : Bool :=
  match k.pairOf h with
  | some n => h != (k.groups[n]).base
  | none => false

/-- A swap of the pair of h is still pending, so its slots have no settled role (03 R82, log 24). -/
def Core.swapping (k : Core) (h : Nat) : Bool :=
  match k.pairOf h with
  | some n => (k.groups[n]).swapPend
  | none => false

/-- The slot an instruction that names h writes: the fill slot of a pair (03 R82). -/
def Core.fillSlot (k : Core) (h : Nat) : Nat :=
  match k.pairOf h with
  | some n => let g := k.groups[n]; if g.fill then g.base + 1 else g.base
  | none => h

/-- The slot an instruction that names h reads: the drain slot of a pair (03 R82). -/
def Core.drainSlot (k : Core) (h : Nat) : Nat :=
  match k.pairOf h with
  | some n => let g := k.groups[n]; if g.fill then g.base else g.base + 1
  | none => h

def hearthFault (cause slot : Nat) : CoreFault := ⟨3, cause, 0, slot, 0xF⟩

/-! ## Elements as values -/

/-- The value of a logical element of a tensor in Poxel16, Poxel8, FP32 or FP64 (02 R55). -/
def readVal (m : Memory) (k : Core) (d : Desc) (row col : Nat) : Val :=
  let a := d.addr row col
  if d.fmt == 0 then px16Val (scratchNat m k a 2)
  else if d.fmt == 1 then px8Val (scratchNat m k a 1) (scratchNat m k (d.scaleAddr row col) 1) (pxL d.cscale)
  else if d.fmt == 2 then fp32Val (scratchNat m k a 4)
  else fp64Val (scratchNat m k a 8)

/-- A value as the Poxel16 operand of the lattice or the Lantern, with what the conversion lost (02 R53, R55). -/
def readWord (m : Memory) (k : Core) (d : Desc) (row col : Nat) : Conv :=
  if d.fmt == 0 then ⟨scratchNat m k (d.addr row col) 2, 0⟩ else toPx16 (readVal m k d row col) .rne

/-- 2^(i/128) in units of 2^−512, for i below 128 (03 R92, log 25). -/
def pow2Units : Nat → Nat → Nat → Nat → Nat
  | 0, _, _, acc => acc
  | m + 1, i, root, acc =>
    let r := Nat.sqrt (root * 2 ^ 512)
    if 2 ^ m ≤ i then pow2Units m (i - 2 ^ m) r (acc * r / 2 ^ 512) else pow2Units m i r acc

/-- A finite Poxel16 word as an integer times 2^e (03 R92). -/
def px16Scaled (w : Nat) : Int × Int :=
  match px16Val w with
  | .fin s (.lin n _ _ q) =>
    let a : Int := (n * pow2Units 7 (q % 128).toNat (2 ^ 513) (2 ^ 512) : Nat)
    (if s then -a else a, q / 128 - 512)
  | _ => (0, 0)

/-- x − y of two integers scaled by powers of two. -/
def subScaled (x y : Int × Int) : Int × Int :=
  let e := min x.2 y.2
  (x.1 * (2 ^ (x.2 - e).toNat : Nat) - y.1 * (2 ^ (y.2 - e).toNat : Nat), e)

def scaledVal (x : Int × Int) : Val :=
  if x.1 == 0 then .zero else .fin (x.1 < 0) (.lin x.1.natAbs 1 1 (128 * x.2))

/-- A splint piece of an FP32 operand (03 R92). -/
def splintPiece (x : Nat) (piece : Nat) : Conv :=
  let h0 := toPx16 (fp32Val x) .rne
  if piece == 0 then h0
  else if !isFinite16 h0.code then ⟨pxZero, 0⟩
  else
    let xs : Int × Int := match fp32Val x with
      | .fin s (.lin n _ _ q) => (if s then -(n : Int) else n, q / 128)
      | _ => (0, 0)
    let d1 := subScaled xs (px16Scaled h0.code)
    let h1 := toPx16 (scaledVal d1) .rne
    if piece == 1 then h1
    else toPx16 (scaledVal (subScaled d1 (px16Scaled h1.code))) .rne

/-- The lattice word of a weight code of output channel `ch` (02 R57, R58). -/
def weightWord (m : Memory) (k : Core) (d : Desc) (row col ch : Nat) : Conv :=
  let byte := scratchNat m k (d.addr row col) 1
  let scale := scratchNat m k (d.csa + 2 * ch) 2
  let q4 := if col % 2 == 0 then byte % 16 else byte / 16
  if d.fmt == 4 then scalePx16 (scratchNat m k (d.zpa + 2 * q4) 2) scale
  else if d.fmt == 5 then zeroPointExpand ((q4 : Int) - (scratchNat m k (d.zpa + ch) 1 % 16 : Nat)) scale
  else zeroPointExpand (signed 8 byte - signed 8 (scratchNat m k (d.zpa + ch) 1)) scale

/-- The word an operand of the lattice brings in (03 R62): zero outside the tensor (07 R181). -/
def latticeWord (m : Memory) (k : Core) (d : Desc) (row col ch piece : Nat) : Conv :=
  if !d.inside row col then ⟨pxZero, 0⟩
  else if d.fmt == 2 then splintPiece (scratchNat m k (d.addr row col) 4) piece
  else if isWeight d.fmt then weightWord m k d row col ch
  else readWord m k d row col

/-! ## Tiles written -/

/-- One element to be written: its logical place, its tile index 32r + c, its value and its rounding. -/
structure OutElem where
  row : Nat
  col : Nat
  pos : Nat
  val : Val
  mode : Rounding
  deriving DecidableEq, Repr

/-- What writing a tile leaves: memory writes as (offset, bytes), CVT_STAT bits, non-finite positions, NaN positions, the amax fold (05 R122). -/
structure TileOut where
  writes : List (Nat × List Byte)
  cvt : Nat
  nonFinite : List Nat
  nans : List Nat
  amax : Nat
  amaxNf : Bool
  deriving DecidableEq, Repr

def TileOut.empty : TileOut := ⟨[], 0, [], [], pxZero, false⟩

def TileOut.join (a b : TileOut) : TileOut :=
  ⟨a.writes ++ b.writes, a.cvt ||| b.cvt, a.nonFinite ++ b.nonFinite, a.nans ++ b.nans, px16Max a.amax b.amax, a.amaxNf || b.amaxNf⟩

/-- The code of a value in a destination format (02 R49, R50, R55). -/
def convert (fmt : Nat) (v : Val) (e lc : Int) (mode : Rounding) : Conv :=
  if fmt == 0 then toPx16 v mode
  else if fmt == 1 then toPx8 v e lc mode
  else if fmt == 2 then toFp32 v
  else toFp64 v

/-- The code is a zero of its format. -/
def isZeroCode (fmt code : Nat) : Bool :=
  if fmt == 0 then code == 0x4000 else if fmt == 1 then code == 0x40 else if fmt == 2 then code % 2 ^ 31 == 0 else code % 2 ^ 63 == 0

/-- One element of a tile as it is written. -/
def writeElem (d : Desc) (e : Int) (o : OutElem) : TileOut :=
  let r := convert d.fmt o.val e (pxL d.cscale) o.mode
  let nan := o.val == .nan
  let inf := match o.val with | .inf _ => true | _ => false
  let bad := nan || inf || r.st &&& cvInfOut != 0
  let mag := match o.val with
    | .fin _ m => if bad || isZeroCode d.fmt r.code then pxZero else (toPx16 (.fin false m) .rne).code
    | _ => pxZero
  ⟨[(d.addr o.row o.col, leBytes (fmtBytes d.fmt) r.code)], r.st, if bad then [o.pos] else [], if nan then [o.pos] else [],
   mag, bad⟩

/-- One tile row as it is written: in Poxel8 its block scale, its elements and the padding (02 R44, R48; 03 R89; 07 R181). -/
def writeRow (d : Desc) (row col0 cols : Nat) (es : List OutElem) : TileOut :=
  let e := if d.fmt == 1 then blockScale (es.map (·.val)) (pxL d.cscale) else 0
  let body := es.foldl (fun t o => t.join (writeElem d e o)) .empty
  if d.fmt != 1 || d.dim1 < row then body
  else
    let pads := (List.range cols).filterMap fun c =>
      if d.dim0 < col0 + c && col0 + c < d.padded then some (d.addr row (col0 + c), [(0x40 : Byte)]) else none
    let scale := if col0 ≤ d.dim0 then [(d.scaleAddr row col0, leBytes 1 (unsigned 8 e))] else []
    { body with writes := scale ++ body.writes ++ pads }

/-- A tile as it is written: rows of tile elements inside the tensor, each with the value `f r c` and its rounding. -/
def writeTile (d : Desc) (row0 col0 rows cols : Nat) (f : Nat → Nat → Val) (mode : Nat → Nat → Rounding) : TileOut :=
  (List.range rows).foldl (fun t r =>
    if d.dim1 < row0 + r then t
    else
      let es := (List.range cols).filterMap fun c =>
        if col0 + c ≤ d.dim0 then some ⟨row0 + r, col0 + c, 32 * r + c, f r c, mode r c⟩ else none
      t.join (writeRow d (row0 + r) col0 cols es)) .empty

/-- The writes of a tile as effects of an operation of core k (03 R88, 07 R181). -/
def TileOut.stores (t : TileOut) (k : Core) : List Effect :=
  t.writes.flatMap fun (off, bs) =>
    (bs.zipIdx).filterMap fun (b, i) => (scratchAddr k (off + i)).map fun a => .store a [b]

/-- The amax fold of an instruction with AX = 0b1nnn (05 R122). -/
def TileOut.fold (t : TileOut) (ax : Nat) : List Effect :=
  if ax < 8 then [] else [.amx (Fin.ofNat 8 (ax % 8)) t.amax t.amaxNf]

/-- The smallest of a list of positions. -/
def firstPos (l : List Nat) : Option Nat := match l with | [] => none | x :: xs => some (xs.foldl min x)

/-- The rounding of an instruction's own output element (02 R53, R54): RM = 1 draws by the element's logical index. -/
def State.roundingOf (s : State) (c : CoreId) (rm stream : Nat) (d : Desc) (row col : Nat) : Rounding :=
  if rm == 1 then .sto (s.draw c stream (row * (d.dim0 + 1) + col)) else .rne

/-- A legal AX field (05 R122). -/
def axOk (ax : Nat) : Bool := ax == 0 || 8 ≤ ax

/-- A legal RM field (02 R53). -/
def rmOk (rm : Nat) : Bool := rm < 2

/-- The fields of a placement word (07 R180). -/
structure Place where
  row0 : Nat
  col0 : Nat
  stream : Nat
  ok : Bool
  deriving DecidableEq, Repr

def Place.of (v : Nat) : Place := ⟨bits v 15 0, bits v 31 16, bits v 47 32, bits v 63 48 == 0⟩

/-- The per-tensor scale of a Poxel8 operand is a scale (02 R46). -/
def scaleFault (ops : List Operand) : Option CoreFault :=
  ops.findSome? fun o => if o.desc.fmt == 1 && !isScale o.desc.cscale then some (descFault 6 o.dreg 5) else none

/-- The smoothing value of output column c, with its vector at an offset (05 R133). -/
def smooth (m : Memory) (k : Core) (at_ col : Nat) : Int := signed 16 (scratchNat m k (at_ + 2 * col) 2)

/-- A smoothing value outside −4,096 to 4,096 among the columns used (05 R133). -/
def smoothFault (m : Memory) (k : Core) (at_ col0 cols : Nat) : Bool :=
  (List.range cols).any fun c => let v := smooth m k at_ (col0 + c); v < -4096 || 4096 < v

end Sys2Proof.Machine
end

