-- ==== Sys2Proof/Machine/Hearth.lean ====
section
/-!
DEFINITION. Accumulation groups and the Hearth tile instructions: AGOPEN, AGCLOSE, HCLR, HLD, HST, SWAP, FOLD, the end of a
swap and of a clearing (03 R77–R87, R94; 07 R183, R184).
-/
namespace Sys2Proof.Machine

/-! ## Groups -/

/-- AGn_CFG as it reads (03 R78). -/
def Group.cfg (g : Group) : Nat :=
  b2n g.opened * 2 ^ 31 + g.mode % 4 * 2 ^ 29 + b2n g.init * 2 ^ 28 + unsigned 10 g.anchor * 2 ^ 18 + g.count % 128 * 2 ^ 11 + g.base % 64

/-- AGn_STAT as it reads (03 R81). -/
def Core.groupStat (k : Core) (n : Fin 8) : Nat :=
  let g := k.groups[n]
  let mine := k.slots.toList.filter fun h => h.group == some n
  b2n g.fill * 128 + b2n g.swapPend * 64 + b2n g.badcfg * 32 + b2n g.overlap * 16 + b2n g.wrIgn * 8
    + b2n (mine.any (·.nf)) * 4 + b2n (mine.any (·.sat)) * 2 + b2n g.opened

/-- The fields of an AGn_CFG value but OPEN (03 R78). -/
def Group.fields (g : Group) (v : Nat) : Group :=
  { g with mode := bits v 30 29, init := bitOf v 28, anchor := signed 10 (bits v 27 18), count := bits v 17 11, base := bits v 5 0 }

def State.setGroup (s : State) (c : CoreId) (n : Fin 8) (g : Group) : State :=
  s.modCore c fun k => { k with groups := k.groups.set n g }

/-- The slots of a group's range. -/
def Group.slotIxs (g : Group) : List SlotIx := (List.finRange 64).filter fun h => g.covers h.val

/-- Refusal of an open for its configuration (03 R80, 07 R183). -/
def Group.badConfig (g : Group) (splint : Bool) : Bool :=
  2 ≤ g.mode || g.count == 0 || 64 < g.base + g.count || (g.mode == 1 && g.count != 2)
    || (splint && (g.mode != 0 || g.count != 2 || g.anchor - 16 < -512))

/-- The open of a group is accepted: anchors recorded, slots marked, cleared where INIT is set (03 R80, 07 R183). FILL starts at 0,
with BASE the fill slot (log 112). -/
def State.acceptOpen (s : State) (c : CoreId) (n : Fin 8) (g : Group) (splint : Bool) : State :=
  let s := s.setGroup c n { g with opened := true, fill := false, swapPend := false, splint := splint }
  g.slotIxs.foldl (fun (s : State) (h : SlotIx) =>
    let anchor := if splint && h.val == g.base + 1 then g.anchor - 16 else g.anchor
    let s := s.modCore c fun k => k.modSlot h fun x => { x with anchor := anchor, group := some n }
    if g.init then s.clearSlot c h else s) s

/-- Some slot of a group's range belongs to an open group (03 R80). -/
def Core.openOverlaps (k : Core) (g : Group) : Bool := g.slotIxs.any fun h => (k.slots[h]).group.isSome

/-- A write of AGn_CFG with its OPEN bit (03 R79, R80, R84; 07 R183). -/
def State.groupWrite (s : State) (c : CoreId) (n : Fin 8) (v : Nat) (opening splint : Bool) : Act :=
  let k := s.core c
  let g := k.groups[n]
  let g' := g.fields v
  if g.opened then
    if g' != g then .done (countIgnored (s.setGroup c n { g with wrIgn := true }) c (0x10 + n.val) v)
    else if opening then .done s
    else if g.swapPend || g.slotIxs.any (fun h => k.inflight.any fun i => i.slots.contains h.val) then .stall
    else
      let s := s.setGroup c n { g with opened := false, splint := false }
      .done (g.slotIxs.foldl (fun (s : State) (h : SlotIx) => s.modCore c fun k => k.modSlot h fun x => { x with group := none }) s)
  else if !opening then .done (s.setGroup c n g')
  else if g'.badConfig splint || k.openOverlaps g' then
    .done (s.setGroup c n { g' with badcfg := g'.badcfg || g'.badConfig splint, overlap := g'.overlap || k.openOverlaps g' })
  else if g'.slotIxs.any (fun h => k.slotBusy h.val || (g'.init && k.epochHoldsSlot h.val)) then .stall
  else .done (s.acceptOpen c n g' splint)

def execAgopen (x : Issue) (s : State) : Host.Outcome State Fault Refusal :=
  issue x s 0x47 (fun _ w => require [fD w == 0, isReg (fA w), fB w == 0, fC w == 0, bits w 23 0 == 0]) fun c w s =>
    if s.unready c [fA w] then .stall
    else s.groupWrite c (Fin.ofNat 8 (bits w 27 25)) ((s.core c).regNat (fA w)) true (bitOf w 24)

def execAgclose (x : Issue) (s : State) : Host.Outcome State Fault Refusal :=
  issue x s 0x48 (fun _ w => require [bits w 51 28 == 0, bits w 24 0 == 0]) fun c w s =>
    let n : Fin 8 := Fin.ofNat 8 (bits w 27 25)
    s.groupWrite c n (((s.core c).groups[n]).cfg) false false

/-! ## Hearth tile instructions (07 R184) -/

/-- The fields of a T-format instruction that names H only. -/
def onlyH (w : Nat) : Option CoreFault := require [bits w 51 40 == 0, bits w 33 0 == 0]

def execHclr (x : Issue) (s : State) : Host.Outcome State Fault Refusal :=
  issue x s 0x41 (fun _ w => onlyH w) fun c w s =>
    let k := s.core c
    let h := fH w
    let f := k.fillSlot h
    if k.isPairTop h then .fault (hearthFault 1 h)
    else if k.swapping h || k.slotBusy f || k.epochHoldsSlot f then .stall
    else .done (s.clearSlot c (Fin.ofNat 64 f))

/-- The elements of a 32 × 32 tile inside a tensor, as tile index and byte offset (07 R181). -/
def tileAddrs (d : Desc) (p : Place) : List (Nat × Nat) :=
  (List.range 1024).filterMap fun i =>
    let row := p.row0 + i / 32
    let col := p.col0 + i % 32
    if d.inside row col then some (i, d.addr row col) else none

def execHld (x : Issue) (s : State) : Host.Outcome State Fault Refusal :=
  issue x s 0x42 (fun _ w => require [bits w 47 40 == 0, isS (fP w), bits w 27 0 == 0]) fun c w s =>
    if s.unready c [fP w] then .stall
    else
      let k := s.core c
      let p := Place.of (k.regNat (fP w))
      let o := tileOperand k (fTD w) [7] p.row0 p.col0 32 32 true
      match s.checkOperands c [o] [] p.ok with
      | .wait => .stall
      | .fault f => .fault f
      | .ok =>
        let h := fH w
        let d := k.drainSlot h
        if k.isPairTop h then .fault (hearthFault 1 h)
        else if k.swapping h || k.slotBusy d || k.blocked (allRanges [o] []) (writtenRanges [o] []) then .stall
        else .done { s with mem := (tileAddrs o.desc p).foldl (fun m (i, a) =>
          scratchWrite m k a (leBytes 8 (hearthGet s.mem c d i).word)) s.mem }

def execHst (x : Issue) (s : State) : Host.Outcome State Fault Refusal :=
  issue x s 0x43 (fun _ w => require [bits w 47 40 == 0, isS (fP w), bits w 27 0 == 0]) fun c w s =>
    if s.unready c [fP w] then .stall
    else
      let k := s.core c
      let p := Place.of (k.regNat (fP w))
      let o := tileOperand k (fTD w) [7] p.row0 p.col0 32 32 false
      match s.checkOperands c [o] [] p.ok with
      | .wait => .stall
      | .fault f => .fault f
      | .ok =>
        let h := fH w
        let f := k.fillSlot h
        if k.isPairTop h then .fault (hearthFault 1 h)
        else if k.swapping h || k.slotBusy f || k.epochHoldsSlot f || k.blocked (allRanges [o] []) [] then .stall
        else
          let elems := (tileAddrs o.desc p).map fun (i, a) => (i, HElem.ofWord (scratchNat s.mem k a 8))
          let m := elems.foldl (fun m (i, e) => hearthSet m c f i e) s.mem
          let sl := elems.foldl (fun (h : HSlot) (i, e) => h.mark ⟨false, decide (2 ≤ e.st), false⟩ i) (k.slots[Fin.ofNat 64 f])
          .done (({ s with mem := m }).modCore c fun k => { k with slots := k.slots.set (Fin.ofNat 64 f) sl })

/-- The open group whose BASE is h and that meets a condition. -/
def Core.groupBased (k : Core) (h : Nat) (p : Group → Bool) : Option (Fin 8) :=
  (List.finRange 8).find? fun n => let g := k.groups[n]; g.opened && g.base == h && p g

def execSwap (x : Issue) (s : State) : Host.Outcome State Fault Refusal :=
  issue x s 0x45 (fun _ w => onlyH w) fun c w s =>
    let k := s.core c
    match k.groupBased (fH w) (fun g => g.mode == 1) with
    | none => .fault (hearthFault 1 (fH w))
    | some n =>
      let g := k.groups[n]
      if g.swapPend || (g.init && k.epochHoldsSlot (k.drainSlot g.base)) then .stall
      else .done (s.setGroup c n { g with swapPend := true })

/-- A swap still waits: an earlier reader of the drain slot has not retired (03 R82), or the slot that INIT clears still has a write
to come (03 R84). -/
def Core.swapWaits (k : Core) (g : Group) (d : Nat) : Bool :=
  (k.inflight.any fun i => i.readSlots.contains d) || (k.creds.any fun q => q.mode == 0 && q.slot == d) || (g.init && k.slotBusy d)

/-- SWAP_COMPLETE: every earlier reader of the drain slot has retired; FILL inverts and INIT clears the new fill slot (03 R82). -/
def execSwapComplete (c : CoreId) (base : SlotIx) (s : State) : Host.Outcome State Fault Refusal :=
  let k := s.core c
  match k.groupBased base.val (fun g => g.mode == 1 && g.swapPend) with
  | none => .next s
  | some n =>
    let g := k.groups[n]
    let d := k.drainSlot base.val
    if k.swapWaits g d then .next s
    else
      let s := s.setGroup c n { g with fill := !g.fill, swapPend := false }
      .next (if g.init then s.clearSlot c (Fin.ofNat 64 d) else s)

/-- HEARTH_CLEAR_DONE: a group of four slots has been cleared (03 R86). -/
def execHearthClearDone (c : CoreId) (group : Fin 16) (s : State) : Host.Outcome State Fault Refusal :=
  .next ((List.finRange 64).foldl (fun (s : State) (h : SlotIx) =>
    if h.val / 4 == group.val then s.modCore c fun k => k.modSlot h fun x => { x with clearing := false } else s) s)

/-- V with its magnitude truncated by 16 bits (03 R94). -/
def foldTruncate (v : Int) : Int := if v < 0 then -((v.natAbs / 65536 : Nat) : Int) else ((v.natAbs / 65536 : Nat) : Int)

/-- The low element as a contribution of a fold (03 R94). -/
def foldContribution (low : HElem) : Contribution :=
  if low.st < 2 then .fin (foldTruncate low.v) (low.st == 1) else low.contribution

/-- One element of a fold: the Hearth, the high slot's marks, the first element turned to NaN (03 R94). -/
def foldStep (c : CoreId) (high low : Nat) (acc : Memory × HSlot × Option Nat) (i : Nat) : Memory × HSlot × Option Nat :=
  let (m, h, nan) := acc
  let l := hearthGet m c low i
  let (e, f) := (hearthGet m c high i).add maxV (foldContribution l)
  (hearthSet m c high i e, h.mark { f with sat := f.sat || l.st == 1 } i, if f.toNan && nan.isNone then some i else nan)

def execFold (x : Issue) (s : State) : Host.Outcome State Fault Refusal :=
  issue x s 0x46 (fun _ w => onlyH w) fun c w s =>
    let k := s.core c
    let h := fH w
    match k.groupBased h (·.splint) with
    | none => .fault (hearthFault 1 h)
    | some _ =>
      if k.slotBusy h || k.slotBusy (h + 1) || k.epochHoldsSlot h || k.epochHoldsSlot (h + 1) then .stall
      else
        let hi : SlotIx := Fin.ofNat 64 h
        let (m, sl, nan) := (List.range 1024).foldl (foldStep c h (h + 1)) (s.mem, k.slots[hi], none)
        let s := ({ s with mem := m }).modCore c fun k => { k with slots := k.slots.set hi sl }
        let s := s.clearSlot c (Fin.ofNat 64 (h + 1))
        .done (s.nanReport c (match nan with | some el => [(k.pc, k.tag, 1, h, el)] | none => []))

end Sys2Proof.Machine
end

