-- ==== Sys2Proof/Machine/Lattice.lean ====
section
/-!
DEFINITION. The lattice pass MMA and its retirement, the drain DRN and its retirement (03 R62–R76, R88–R91; 07 R182, R185).
-/
namespace Sys2Proof.Machine

/-- An operation enters its unit, after every operation issued before it. -/
def State.launch (s : State) (c : CoreId) (i : InFlight) : State :=
  s.modCore c fun k => { k with inflight := k.inflight ++ [{ i with order := k.issued }] }

/-- The oldest operation of a unit retires, and its first-NaN events reach the trap (06 R145, R161). -/
def State.retireUnit (s : State) (c : CoreId) (u : ExecUnit) : State :=
  match (s.core c).inflight.find? (fun i => i.unit == u) with
  | none => s
  | some i =>
    let s := s.modCore c fun k => { k with inflight := k.inflight.erase i }
    let (s, ev) := s.retire c i
    s.nanReport c ev

/-! ## MMA -/

/-- The weight arrays of operand B: scales and zero points of its output channels, or the codebook (02 R57, 07 R182). -/
def weightPieces (d : Desc) (j0 : Nat) (byRow : Bool) : List Piece :=
  if !isWeight d.fmt then []
  else
    let last := if byRow then d.dim1 else d.dim0
    if last < j0 then []
    else
      let hi := min (j0 + 32) (last + 1)
      [⟨d.csa + 2 * j0, d.csa + 2 * hi, 7⟩,
       if d.fmt == 4 then ⟨d.zpa, d.zpa + 32, 8⟩ else ⟨d.zpa + j0, d.zpa + hi, 8⟩]

/-- A bad scale, codebook entry or zero point of a weight operand, among the output channels of the pass (02 R46, R59; 07 R181; log 113). -/
def weightFault (m : Memory) (k : Core) (o : Operand) (j0 : Nat) (byRow : Bool) : Option CoreFault :=
  let d := o.desc
  if !isWeight d.fmt then none
  else
    let last := if byRow then d.dim1 else d.dim0
    let chans := (List.range 32).filterMap fun j => if j0 + j ≤ last then some (j0 + j) else none
    if chans.any (fun ch => !isScale (scratchNat m k (d.csa + 2 * ch) 2)) then some (descFault 6 o.dreg 7)
    else if d.fmt == 4 && (List.range 16).any (fun q => !isFinite16 (scratchNat m k (d.zpa + 2 * q) 2)) then some (descFault 6 o.dreg 8)
    else if d.fmt == 5 && chans.any (fun ch => 16 ≤ scratchNat m k (d.zpa + ch) 1) then some (descFault 6 o.dreg 8)
    else none

/-- ILL_FIELD of MMA (07 R182): unused fields, piece 3, or a piece of an operand that is not FP32. -/
def mmaIllegal (k : Core) (w : Nat) : Option CoreFault :=
  let pa := bits w 25 24
  let pb := bits w 23 22
  require [fTD w == 0, isS (fP w), bits w 21 0 == 0, pa != 3, pb != 3,
    pa == 0 || (k.desc (fTA w)).fmt == 2, pb == 0 || (k.desc (fTB w)).fmt == 2]

/-- The words of operand A, by rows, and of operand B, by rows of k, with what their conversions lost (03 R62). -/
def mmaWords (m : Memory) (k : Core) (w i0 k0 j0 kk : Nat) : List Conv × List Conv :=
  let da := k.desc (fTA w)
  let db := k.desc (fTB w)
  let trb := bitOf w 26
  let a := (List.range 32).flatMap fun i => (List.range kk).map fun x => latticeWord m k da (i0 + i) (k0 + x) 0 (bits w 25 24)
  let b := (List.range kk).flatMap fun x => (List.range 32).map fun j =>
    if trb then latticeWord m k db (j0 + j) (k0 + x) (j0 + j) (bits w 23 22)
    else latticeWord m k db (k0 + x) (j0 + j) (j0 + j) (bits w 23 22)
  (a, b)

def execMma (x : Issue) (s : State) : Host.Outcome State Fault Refusal :=
  issue x s 0x40 mmaIllegal fun c w s =>
    if s.unready c [fP w] then .stall
    else
      let k := s.core c
      let p := k.regNat (fP w)
      let i0 := bits p 15 0
      let k0 := bits p 31 16
      let j0 := bits p 47 32
      let trb := bitOf w 26
      let kk := if (k.desc (fTA w)).fmt == 1 && (k.desc (fTB w)).fmt == 1 then 64 else 32
      let oa := tileOperand k (fTA w) [0, 1, 2] i0 k0 32 kk false
      let ob0 := if trb then tileOperand k (fTB w) [0, 1, 2, 4, 5, 6] j0 k0 32 kk false
        else tileOperand k (fTB w) [0, 1, 2, 4, 5, 6] k0 j0 kk 32 false
      let ob := { ob0 with pieces := ob0.pieces ++ weightPieces ob0.desc j0 trb }
      match s.checkOperands c [oa, ob] [] (bits p 63 48 == 0) with
      | .wait => .stall
      | .fault f => .fault f
      | .ok =>
        if k.rangeBusy (allRanges [oa, ob] []) then .stall
        else match (scaleFault [oa, ob]).or (weightFault s.mem k ob j0 trb) with
        | some f => .fault f
        | none =>
          let h := fH w
          let f := k.fillSlot h
          if (k.groupOf h).isNone || k.isPairTop h then .fault (hearthFault 1 h)
          else if k.swapping h || k.unitFull .lattice || k.epochHoldsSlot f || (k.slots[Fin.ofNat 64 f]).clearing
              || k.inflight.any (fun i => i.unit != .lattice && i.slots.contains f) then .stall
          else
            let (a, b) := mmaWords s.mem k w i0 k0 j0 kk
            let st := (a ++ b).foldl (fun n v => n ||| v.st) 0
            .done (s.launch c {
              unit := .lattice, pc := k.pc, tag := k.tag
              pass := some ⟨Fin.ofNat 64 f, (k.slots[Fin.ofNat 64 f]).anchor, kk, a.map (·.code), b.map (·.code)⟩
              effects := [.cvt st], ranges := [], slots := [f], readSlots := [], regs := [], sets := [], table := false
              reads := allRanges [oa, ob] [] })

/-- LATTICE_PASS_RETIRE (03 R76). -/
def execLatticePassRetire (c : CoreId) (s : State) : Host.Outcome State Fault Refusal := .next (s.retireUnit c .lattice)

/-! ## DRN -/

/-- Where an element that is no NaN stands among the values of its slot: finite by V, infinity by its sign (03 R90). -/
def HElem.rank (e : HElem) : Int := if e.st == 2 then (if e.v < 0 then -2 ^ 63 else 2 ^ 63) else e.v

/-- The largest finite value or infinity of a row, by value; NaN only where nothing else is there (03 R90). -/
def rowMax : List HElem → Option HElem
  | [] => none
  | e :: es => match rowMax es with
    | none => some e
    | some f => if f.st == 3 then some e else if e.st == 3 then some f else if f.rank < e.rank then some e else some f

/-- The exact sum of V over a row, or the mark of a non-finite row (03 R90). -/
def rowSum (es : List HElem) : Nat :=
  if es.any (fun e => 2 ≤ e.st) then 2 ^ 63 else unsigned 64 (es.foldl (fun n e => n + e.v) 0)

def drnIllegal (w : Nat) : Option CoreFault :=
  let side := bitOf w 20 || bitOf w 19
  require [bits w 47 40 == 0, isS (fP w), bits w 9 0 == 0, rmOk (bits w 27 26), axOk (bits w 25 22),
    side || bits w 17 14 == 0, bitOf w 18 || bits w 13 10 == 0]

/-- The areas a drain's side vectors and smoothing vector use (07 R185). -/
def drnAreas (k : Core) (w : Nat) (p : Place) (cols : Nat) : List Area :=
  let sa := (k.areg[Fin.ofNat 16 (bits w 17 14)]).toNat
  let sv := (k.areg[Fin.ofNat 16 (bits w 13 10)]).toNat
  (if bitOf w 20 then [⟨sa, sa + 64, 64, true⟩] else [])
    ++ (if bitOf w 19 then (let b := if bitOf w 20 then sa + 64 else sa; [⟨b, b + 256, 64, true⟩]) else [])
    ++ (if bitOf w 18 then [⟨sv + 2 * p.col0, sv + 2 * (p.col0 + cols), 2, false⟩] else [])

/-- Columns of a tile inside the tensor. -/
def Desc.colsInside (d : Desc) (col0 cols : Nat) : Nat := min cols (d.dim0 + 1 - col0)

/-- The elements of tile row r inside the destination tensor (03 R90). -/
def drainRow (m : Memory) (c : CoreId) (slot : Nat) (d : Desc) (p : Place) (r : Nat) : List HElem :=
  if d.dim1 < p.row0 + r then []
  else (List.range (d.colsInside p.col0 32)).map fun j => hearthGet m c slot (32 * r + j)

/-- What a drain writes beside its tile: RMAX words with their losses, RSUM values (03 R90). -/
def drainSides (m : Memory) (k : Core) (c : CoreId) (slot : Nat) (anchor : Int) (d : Desc) (p : Place) (w : Nat) : TileOut :=
  let sa := (k.areg[Fin.ofNat 16 (bits w 17 14)]).toNat
  let rows := List.range 32
  let maxes := rows.map fun r => match rowMax (drainRow m c slot d p r) with
    | none => (⟨pxNan, 0⟩ : Conv)
    | some e => toPx16 (e.val anchor) .rne
  let mx := if bitOf w 20 then [(sa, maxes.flatMap fun v => leBytes 2 v.code)] else []
  let sm := if bitOf w 19 then
      [(if bitOf w 20 then sa + 64 else sa, rows.flatMap fun r => leBytes 8 (rowSum (drainRow m c slot d p r)))] else []
  { TileOut.empty with writes := mx ++ sm, cvt := if bitOf w 20 then maxes.foldl (fun n v => n ||| v.st) 0 else 0 }

def execDrn (x : Issue) (s : State) : Host.Outcome State Fault Refusal :=
  issue x s 0x44 (fun _ w => drnIllegal w) fun c w s =>
    let k := s.core c
    if s.unready c (fP w :: (if bitOf w 20 || bitOf w 19 then [32 + bits w 17 14] else []) ++ if bitOf w 18 then [32 + bits w 13 10] else []) then .stall
    else
      let p := Place.of (k.regNat (fP w))
      let o := tileOperand k (fTD w) [0, 1, 2] p.row0 p.col0 32 32 true
      let areas := drnAreas k w p (o.desc.colsInside p.col0 32)
      let sv := (k.areg[Fin.ofNat 16 (bits w 13 10)]).toNat
      match s.checkOperands c [o] areas p.ok with
      | .wait => .stall
      | .fault f => .fault f
      | .ok =>
        if k.rangeBusy (allRanges [o] areas) then .stall
        else match scaleFault [o] with
        | some f => .fault f
        | none =>
        if bitOf w 18 && smoothFault s.mem k sv p.col0 (o.desc.colsInside p.col0 32) then .fault (descFault 6 0 0xF)
        else
          let h := fH w
          let d := k.drainSlot h
          let di : SlotIx := Fin.ofNat 64 d
          if k.isPairTop h then .fault (hearthFault 1 h)
          else if k.swapping h || k.slotBusy d || k.unitFull .drain || k.epochHolds (writtenRanges [o] areas)
              || (bitOf w 21 && k.epochHoldsSlot d) then .stall
          else
            let anchor := (k.slots[di]).anchor
            let val (r j : Nat) : Val := ((hearthGet s.mem c d (32 * r + j)).val anchor).shift
              (if bitOf w 18 then -(smooth s.mem k sv (p.col0 + j)) else 0)
            let t := writeTile o.desc p.row0 p.col0 32 32 val fun r j =>
              s.roundingOf c (bits w 27 26) p.stream o.desc (p.row0 + r) (p.col0 + j)
            let sides := drainSides s.mem k c d anchor o.desc p w
            let effects := t.stores k ++ sides.stores k ++ [.cvt (t.cvt ||| sides.cvt)]
              ++ (match firstPos t.nonFinite with | some q => [.drnNf d q] | none => [])
              ++ t.fold (bits w 25 22)
              ++ (match firstPos t.nans with | some q => [.nanEvent 2 0xFF q] | none => [])
              ++ (if bitOf w 21 then [.clear di] else [])
            .done (s.launch c {
              unit := .drain, pc := k.pc, tag := k.tag, pass := none, effects := effects
              ranges := writtenRanges [o] areas, slots := if bitOf w 21 then [d] else [], readSlots := [d], regs := [], sets := [], table := false
              reads := allRanges [o] areas })

/-- DRAIN_RETIRE (05 R122). -/
def execDrainRetire (c : CoreId) (s : State) : Host.Outcome State Fault Refusal := .next (s.retireUnit c .drain)

end Sys2Proof.Machine
end

