-- ==== Sys2Proof/Machine/Stream.lean ====
section
/-!
DEFINITION. Streams: contexts and ring slots, SEND, RECV, SCLOSE, the arrival of messages, credits and close notices, waits
and their timeout, and what a Scout epoch's commit and discard do to them (10).
-/
namespace Sys2Proof.Machine

/-! ## Port collisions (08 R214, R215) -/

/-- The words of banks 0 and 1 of its own core that a write through port B and port A write in the same cc (08 R214, R215). -/
def Core.collisions (k : Core) (c : CoreId) (off len : Nat) (portA : List Nat) : List Nat :=
  portA.eraseDups.filter fun w =>
    len != 0 && w * 8 < off + len && off < w * 8 + 8 && w * 8 < 0x40000 && k.windows[windowOf (w * 8)] == some c

/-- One word of a write through port B is dropped: its bytes are as before, COLLIDE is set, the collision counts and is reported with
the Porter channel, or 0xF (08 R215, 22 R495). -/
def State.collide (s : State) (c : CoreId) (chan : Nat) (old : Memory) (off len w : Nat) : State :=
  let k := s.core c
  let b := windowOf (w * 8)
  let lo := max (w * 8) off
  let hi := min (w * 8 + 8) (off + len)
  let s := { s with mem := scratchWrite s.mem k lo (scratchBytes old k lo (hi - lo)) }
  let s := s.modCore c fun k => { k with bankOwn := k.bankOwn.set b { k.bankOwn[b] with collide := true } }
  postEvent (bumpOf s c 0x4030 4) 0x11 (s.core c).part (some c) (b.val + c.val * 2 ^ 8 + chan * 2 ^ 16)

/-! ## Contexts -/

/-- The store index and the context a partition's index names (10 R250). -/
def State.ctxOf (s : State) (n : PartId) (i : Nat) : Option (Nat × Ctx) :=
  if i < objGet s (some n) 0x4050 1 then
    let key := (s.parts[n]).ctxBase + i
    some (key, tabGet .reset s.ctxs key)
  else none

def State.setCtx (s : State) (key : Nat) (x : Ctx) : State := { s with ctxs := tabSet .reset s.ctxs key x }

def Ctx.slotBytes (x : Ctx) : Nat := 2 ^ (x.slotExp + 6)
def Ctx.depth (x : Ctx) : Nat := 2 ^ x.depthExp

/-- Scratchpad offset of a slot of the ring (10 R249). -/
def Ctx.slotOff (x : Ctx) (i : Nat) : Nat := x.ring * 64 + (i % x.depth) * x.slotBytes

/-- A slot header: LEN, VALID, SPEC and EPOCH (10 R249). -/
def slotHeader (len : Nat) (spec : Option W32) : Nat :=
  len % 2 ^ 24 + 2 ^ 24 + (match spec with | some e => 2 ^ 25 + e.toNat * 2 ^ 32 | none => 0)

def Ctx.rcoreId (x : Ctx) : CoreId := Fin.ofNat 64 x.rcore

/-- The header of slot i in the receiver's ring. -/
def State.slotHdr (s : State) (x : Ctx) (i : Nat) : Nat := scratchNat s.mem (s.core x.rcoreId) (x.slotOff i) 8

def State.setSlotHdr (s : State) (x : Ctx) (i v : Nat) : State :=
  { s with mem := scratchWrite s.mem (s.core x.rcoreId) (x.slotOff i) (leBytes 8 v) }

/-- A header marked with epoch e. -/
def hdrMarked (h : Nat) (e : W32) : Bool := bitOf h 24 && bitOf h 25 && bits h 63 32 == e.toNat

/-- The sender's end of a context is core c (10 R248, R262). -/
def Ctx.sends (x : Ctx) (c : CoreId) : Bool := !(x.remote && x.side) && x.score == c.val

/-- The receiver's end of a context is core c. -/
def Ctx.receives (x : Ctx) (c : CoreId) : Bool := !(x.remote && !x.side) && x.rcore == c.val

/-- The outcome codes of D[7:0] (10 R255). -/
def soOk : Nat := 0
def soTimeout : Nat := 1
def soClosed : Nat := 2
def soPeer : Nat := 3
def soBad : Nat := 4
def soLong : Nat := 5

/-- A packet to a far die of a partition's camp. -/
def State.campPacket (s : State) (n : PartId) (far kind arg : Nat) (body : List Byte) : State :=
  s.sendPacket { dst := far, src := s.dieCoord, kind := kind, camp := objGet s (some n) 0x4010 8, arg := arg, body := body }

/-- A remote stream whose far die no route reaches breaks with LINK_LOST (10 R258; 18 R414). -/
def State.farLost (s : State) (x : Ctx) (far : Nat) : Bool := x.remote && !s.reachable far

/-! ## SEND, RECV, SCLOSE (10 R252–R254) -/

/-- What a stream instruction comes to: an outcome with its D, or a wait. -/
inductive StreamResult where
  | done (s : State) (d : Nat)
  | wait
  | stall
  deriving DecidableEq, Repr

/-- The epoch a core has open. -/
def Core.openEpoch (k : Core) : Option W32 := if k.epoch.opened then some k.epoch.id else none

/-- SEND (10 R252, R261, R262). -/
def State.sendTry (s : State) (c : CoreId) (n : PartId) (i addr len : Nat) : StreamResult :=
  match s.ctxOf n i with
  | none => .done s soBad
  | some (key, x) =>
    let k := s.core c
    if x.clearing then .stall
    else if x.state == 0 || !x.sends c then .done s soBad
    else if len == 0 || x.slotBytes - 8 < len then .done s soLong
    else if x.state == 2 || x.state == 3 || x.state == 4 then .done s soClosed
    else if x.state == 5 then .done s soPeer
    else if s.farLost x x.far then .done (s.breakCtx key 4) soPeer
    else if x.cred == 0 then .wait
    else
      let e := k.openEpoch
      let payload := scratchBytes s.mem k addr len
      let index := x.sent.toNat % x.depth
      let x' := { x with cred := x.cred - 1, sent := x.sent + 1, esent := if e.isSome then (x.esent + 1) % 256 else x.esent }
      let s := objBump (s.setCtx key x') (some n) 0x4050 7
      .done (if x.remote then s.campPacket n x.far 0x01 i (leBytes 8 (slotHeader len e) ++ payload)
        else { s with traffic := s.traffic ++ [.msg n i index e payload x.score x.rcore] }) soOk

/-- One credit, or more, goes back to the sender (10 R253, R261, R262); where no route is left the stream breaks (R258). -/
def State.returnCredit (s : State) (n : PartId) (i count : Nat) (x : Ctx) : State :=
  if s.farLost x x.cred.toNat then s.breakCtx ((s.parts[n]).ctxBase + i) 4
  else if x.remote then s.campPacket n x.cred.toNat 0x02 i (leBytes 2 count)
  else { s with traffic := s.traffic ++ [.credit n i count x.rcore x.score] }

/-- The message at the read position may be delivered: it was sent and has not been received (10 R253, R260). -/
def Ctx.unread (x : Ctx) : Bool := x.ercvd < (x.sent - x.rcvd).toNat

/-- RECV (10 R253, R261); log 31: a receiver that has closed its end reads CLOSED. -/
def State.recvTry (s : State) (c : CoreId) (n : PartId) (i addr cap : Nat) : StreamResult :=
  match s.ctxOf n i with
  | none => .done s soBad
  | some (key, x) =>
    let k := s.core c
    if x.clearing then .stall
    else if x.state == 0 || !x.receives c then .done s soBad
    else if x.state == 3 || x.state == 4 then .done s soClosed
    else
      let pos := x.rcvd.toNat + x.ercvd
      if s.napping c [(x.slotOff pos, x.slotOff pos + 8 + cap)] then .stall else
      let h := s.slotHdr x pos
      let len := bits h 23 0
      let mine := !bitOf h 25 || (match k.openEpoch with | some e => bits h 63 32 == e.toNat | none => false)
      if bitOf h 24 && x.unread then
        if !mine then .wait
        else if cap < len then .done s soLong
        else if k.epochHolds [(addr, addr + len)] then .stall
        else
          let payload := scratchBytes s.mem k (x.slotOff pos + 8) len
          let s := { s with mem := scratchWrite s.mem k addr payload }
          let d := soOk + len * 2 ^ 16
          if k.epoch.opened then .done (s.setCtx key { x with ercvd := (x.ercvd + 1) % 256 }) d
          else
            let s := s.setSlotHdr x pos (h - 2 ^ 24)
            let s := objBump (s.setCtx key { x with rcvd := x.rcvd + 1 }) (some n) 0x4050 8
            .done (s.returnCredit n i 1 x) d
      else if x.state == 5 then .done s soPeer
      else if x.state == 2 && (x.remote || x.sent == x.rcvd + BitVec.ofNat 16 x.ercvd) then .done s soClosed
      else .wait

/-- VALID is cleared in every slot of a ring: unconsumed messages are dropped (10 R251, R254). -/
def State.clearRing (s : State) (x : Ctx) : State :=
  (List.range x.depth).foldl (fun (s : State) (i : Nat) => let h := s.slotHdr x i; if bitOf h 24 then s.setSlotHdr x i (h - 2 ^ 24) else s) s

/-- The state of a context after its sender's, or its receiver's, end closes (10 R254). -/
def Ctx.closed (x : Ctx) (sender : Bool) : Ctx :=
  let sc := x.state == 2 || x.state == 4 || sender
  let rc := x.state == 3 || x.state == 4 || !sender
  { x with state := if sc && rc then 4 else if sc then 2 else 3 }

/-- The die of a remote stream's other end (10 R248). -/
def Ctx.otherEnd (x : Ctx) : Nat := if x.side then x.cred.toNat else x.far

/-- SCLOSE (10 R254; log 31: a second close by one end reads CLOSED). -/
def State.closeTry (s : State) (c : CoreId) (n : PartId) (i : Nat) : StreamResult :=
  match s.ctxOf n i with
  | none => .done s soBad
  | some (key, x) =>
    if x.clearing then .stall
    else if x.state == 0 || !(x.sends c || x.receives c) then .done s soBad
    else if x.state == 5 then
      let s := s.setCtx key { x with state := 4 }
      .done (if x.remote then s.campPacket n x.otherEnd 0x03 i [] else s) soPeer
    else
      let asSender := x.sends c && x.state != 2 && x.state != 4
      let asReceiver := x.receives c && x.state != 3 && x.state != 4
      if !asSender && !asReceiver then .done s soClosed
      else
        let s := if asSender then s else s.clearRing x
        let s := s.setCtx key (x.closed asSender)
        .done (if x.remote then s.campPacket n x.otherEnd 0x03 i [] else s) soOk

/-! ## Issue and waits (10 R257) -/

/-- The stream instruction of a word, tried now. -/
def State.streamTry (s : State) (c : CoreId) (w : Nat) : StreamResult :=
  let k := s.core c
  match k.part with
  | none => .done s soBad
  | some n =>
    let i := k.regNat (fA w)
    match opcOf w with
    | 0x78 => s.sendTry c n i (k.regNat (fB w)) (k.regNat (fC w))
    | 0x79 => s.recvTry c n i (k.regNat (fB w)) (k.regNat (fC w))
    | _ => s.closeTry c n i

/-- D of a stream instruction is written. -/
def State.streamEnd (s : State) (c : CoreId) (w d : Nat) : State :=
  s.modCore c fun k => k.setReg (fD w) (BitVec.ofNat 64 d)

/-- A wait ends: the core runs on behind its stream instruction (06 R144, 10 R257). -/
def State.endWait (s : State) (c : CoreId) (w d : Nat) : State :=
  (((s.modCore c fun k => { k with mode := .running, wait := none }).streamEnd c w d)).advance c

/-- A waiting core looks again: what it awaits, or a change of state, may have come (10 R257). -/
def State.retryWait (s : State) (c : CoreId) : State :=
  match (s.core c).wait with
  | none => s
  | some q =>
    match s.streamTry c q.word.toNat with
    | .done s' d => s'.endWait c q.word.toNat d
    | _ => s

/-- The ends of a context that are cores of this die look again. -/
def State.retryEnds (s : State) (x : Ctx) : State :=
  let s := if x.remote && x.side then s else s.retryWait (Fin.ofNat 64 x.score)
  if x.remote && !x.side then s else s.retryWait x.rcoreId

/-- Every core looks again: contexts have changed (10 R257). -/
def State.retryAll (s : State) : State :=
  (List.finRange 64).foldl (fun (s : State) (c : CoreId) => s.retryWait c) s

/-- The ticks a stream instruction may wait: TMO, or the default of its partition where TMO is 0 (10 R257). -/
def State.waitTicks (s : State) (c : CoreId) (w : Nat) : Nat :=
  if bits w 27 12 == 0 then (match s.partOf c with | some n => objGet s (some n) 0x4050 3 | none => 3277) else bits w 27 12

/-- SEND, RECV and SCLOSE at issue: the payload checks of 07 R194, then the try. What they change may end another end's wait (10 R257). -/
def streamIssue (x : Issue) (s : State) (opc : Nat) (illegal : Nat → Option CoreFault) (payload : Bool) : Host.Outcome State Fault Refusal :=
  issue x s opc (fun _ w => illegal w) fun c w s =>
    let k := s.core c
    let a := k.regNat (fB w)
    let areas : List Area := if payload then [⟨a, a + k.regNat (fC w), 1, opc == 0x79⟩] else []
    if s.unready c ([fD w, fA w] ++ if payload then [fB w, fC w] else []) then .stall
    else match s.checkOperands c [] areas with
    | .wait => .stall
    | .fault f => .fault f
    | .ok =>
      if k.rangeBusy (allRanges [] areas) then .stall
      else match s.streamTry c w with
      | .stall => .stall
      | .done s d => .done (s.streamEnd c w d).retryAll
      | .wait => .hold (s.modCore c fun k => { k with mode := .waiting, wait := some ⟨x.word, k.pc, s.tick + s.waitTicks c w⟩ })

def execSend (x : Issue) (s : State) : Host.Outcome State Fault Refusal :=
  streamIssue x s 0x78 (fun w => require [isReg (fD w), isReg (fA w), isReg (fB w), isReg (fC w), bits w 11 0 == 0]) true

def execRecv (x : Issue) (s : State) : Host.Outcome State Fault Refusal :=
  streamIssue x s 0x79 (fun w => require [isReg (fD w), isReg (fA w), isReg (fB w), isReg (fC w), bits w 11 0 == 0]) true

def execSclose (x : Issue) (s : State) : Host.Outcome State Fault Refusal :=
  streamIssue x s 0x7A (fun w => require [isReg (fD w), isReg (fA w), fB w == 0, fC w == 0, bits w 27 0 == 0]) false

/-- STREAM_WAIT_TIMEOUT: at the tick edge that its TMO names a wait ends with TIMEOUT, unless what it awaits is there (10 R257). -/
def execStreamWaitTimeout (c : CoreId) (s : State) : Host.Outcome State Fault Refusal :=
  let s := s.retryWait c
  match (s.core c).wait with
  | none => .next s
  | some q => .next (if s.tick < q.due then s else (bumpOf s c 0x4050 4).endWait c q.word.toNat soTimeout)

/-! ## Arrivals -/

/-- A message is written into a slot of the ring, the header last (10 R252). It arrives over the mesh, through port B: a payload word
that port A writes in the same cc is dropped (08 R214, R215). -/
def State.landMessage (s : State) (key : Nat) (x : Ctx) (index hdr : Nat) (payload : List Byte) (portA : List Nat := []) : State :=
  if x.state == 0 || x.state == 3 || x.state == 4 then s
  else
    let s := s.wakeBanks x.rcoreId [(x.slotOff index, x.slotOff index + 8 + payload.length)]
    let off := x.slotOff index + 8
    let t := { s with mem := scratchWrite s.mem (s.core x.rcoreId) off payload }
    let s := ((s.core x.rcoreId).collisions x.rcoreId off payload.length portA).foldl
      (fun (t : State) (w : Nat) => t.collide x.rcoreId 0xF s.mem off payload.length w) t
    ((s.setSlotHdr x index hdr).setCtx key x).retryEnds x

/-- The first traffic that meets a condition, and the rest. Nothing where an older one that it may not pass is still under way. -/
def takeTraffic (p blocks : StreamTraffic → Bool) : List StreamTraffic → Option (StreamTraffic × List StreamTraffic)
  | [] => none
  | t :: ts => if p t then some (t, ts) else if blocks t then none else match takeTraffic p blocks ts with
    | some (u, rest) => some (u, t :: rest)
    | none => none

/-- Messages for context i of a partition; those of the Data class from the same core to the same core, which they may not pass (01 R18). -/
def isMsg (n : PartId) (i : Nat) : StreamTraffic → Bool
  | .msg m j _ _ _ _ _ => m == n && j == i
  | _ => false
def sameData (x : Ctx) : StreamTraffic → Bool
  | .msg _ _ _ _ _ src dst => src == x.score && dst == x.rcore
  | _ => false

/-- Credits for context i of a partition; those of the Control class from the same core to the same core (01 R18). -/
def isCredit (n : PartId) (i : Nat) : StreamTraffic → Bool
  | .credit m j _ _ _ => m == n && j == i
  | _ => false
def sameControl (x : Ctx) : StreamTraffic → Bool
  | .credit _ _ _ src dst => src == x.rcore && dst == x.score
  | _ => false

/-- STREAM_MESSAGE_ARRIVE: the oldest message in the mesh for a context lands (10 R252), unless one it may not pass is still before it. -/
def execStreamMessageArrive (n : PartId) (m : MessageArrival) (s : State) : Host.Outcome State Fault Refusal :=
  match s.ctxOf n m.ctx with
  | none => .next s
  | some (key, x) =>
    match takeTraffic (isMsg n m.ctx) (sameData x) s.traffic with
    | some (.msg _ _ index spec payload _ _, rest) =>
      .next (({ s with traffic := rest }).landMessage key x index (slotHeader payload.length spec) payload m.portA)
    | _ => .next s

/-- STREAM_CREDIT_ARRIVE: a credit return reaches the sender's context (10 R256), unless one it may not pass is still before it. -/
def execStreamCreditArrive (n : PartId) (i : Nat) (s : State) : Host.Outcome State Fault Refusal :=
  match s.ctxOf n i with
  | none => .next s
  | some (key, x) =>
    match takeTraffic (isCredit n i) (sameControl x) s.traffic with
    | some (.credit _ _ count _ _, rest) =>
      let s := { s with traffic := rest }
      .next (if x.state == 0 then s else (s.setCtx key { x with cred := x.cred + BitVec.ofNat 16 count }).retryEnds x)
    | _ => .next s

/-- Nothing for a context that opens anew is under way any more (10 R251, R259). -/
def State.dropTraffic (s : State) (n : PartId) (i : Nat) : State :=
  { s with traffic := s.traffic.filter fun t => match t with
    | .msg m j _ _ _ _ _ | .credit m j _ _ _ | .close m j => !(m == n && j == i) }

/-- A close notice reaches the far context of a remote stream (10 R262). -/
def State.closeArrives (s : State) (n : PartId) (i : Nat) : State :=
  match s.ctxOf n i with
  | some (key, x) =>
    if !x.remote || x.state == 0 || x.state == 4 then s
    else if x.state == 5 then s.setCtx key { x with state := 4 }
    else (s.setCtx key (x.closed x.side)).retryEnds x
  | none => s

/-- STREAM_CLOSE_NOTICE_ARRIVE (10 R262). -/
def execStreamCloseNoticeArrive (n : PartId) (i : Nat) (s : State) : Host.Outcome State Fault Refusal := .next (s.closeArrives n i)

/-- A message packet arrives for a receive-end (10 R261, R262). -/
def State.remoteMessage (s : State) (n : PartId) (i : Nat) (body : List Byte) : State :=
  match s.ctxOf n i with
  | some (key, x) =>
    let h := leNat (body.take 8)
    if !x.remote || !x.side || !(x.state == 1 || x.state == 2) then s
    else if bitOf h 25 && objGet s (some n) 0x4050 9 == bits h 63 32 && (s.parts[n]).discarded then objBump s (some n) 0x4050 6
    else s.landMessage key { x with sent := x.sent + 1 } x.sent.toNat h (body.drop 8)
  | none => s

/-- A credit packet arrives for a send-end (10 R262). -/
def State.remoteCredit (s : State) (n : PartId) (i count : Nat) : State :=
  match s.ctxOf n i with
  | some (key, x) =>
    if !x.remote || x.side || x.state == 0 then s
    else (s.setCtx key { x with cred := x.cred + BitVec.ofNat 16 count, rcvd := x.rcvd + BitVec.ofNat 16 count }).retryEnds x
  | none => s

/-! ## Epochs (10 R261) -/

/-- Which cores an epoch's end concerns: one, or every core of the partition at a verdict (19 R443). -/
def concerns (who : Option CoreId) (core : Nat) : Bool := match who with | some c => c.val == core | none => true

/-- The slots of a ring: f of each header, where it changes. -/
def State.mapHeaders (s : State) (x : Ctx) (f : Nat → Nat) : State :=
  (List.range x.depth).foldl (fun (s : State) (i : Nat) => let h := s.slotHdr x i; if f h == h then s else s.setSlotHdr x i (f h)) s

/-- The header's mark concerns this end of an epoch: its sender, or for a receive-end its receiver. -/
def Ctx.marksOf (x : Ctx) (who : Option CoreId) : Bool :=
  if x.remote then x.side && concerns who x.rcore else concerns who x.score

/-- Epoch e commits on a context (10 R261). -/
def State.commitCtx (s : State) (n : PartId) (i : Nat) (key : Nat) (x : Ctx) (who : Option CoreId) (e : W32) : State :=
  let s := if x.marksOf who then s.mapHeaders x (fun h => if hdrMarked h e then bits h 24 0 else h) else s
  let x := if concerns who x.score then { x with esent := 0 } else x
  if x.ercvd == 0 || !(concerns who x.rcore) || (x.remote && !x.side) then s.setCtx key x
  else
    let s := (List.range x.ercvd).foldl (fun (s : State) (j : Nat) =>
      let h := s.slotHdr x (x.rcvd.toNat + j); if bitOf h 24 then s.setSlotHdr x (x.rcvd.toNat + j) (h - 2 ^ 24) else s) s
    let s := objBump (s.setCtx key { x with rcvd := x.rcvd + BitVec.ofNat 16 x.ercvd, ercvd := 0 }) (some n) 0x4050 8 x.ercvd
    s.returnCredit n i x.ercvd x

/-- Epoch e is discarded on a context (10 R261). -/
def State.discardCtx (s : State) (n : PartId) (key : Nat) (x : Ctx) (who : Option CoreId) (e : W32) : State :=
  let hit := (List.range x.depth).filter fun i => x.marksOf who && hdrMarked (s.slotHdr x i) e
  let s := if x.marksOf who then s.mapHeaders x (fun h => if hdrMarked h e then h - 2 ^ 24 else h) else s
  let s := objBump s (some n) 0x4050 6 hit.length
  let x := if concerns who x.score && !(x.remote && x.side) then
      { x with sent := x.sent - BitVec.ofNat 16 x.esent, cred := x.cred + BitVec.ofNat 16 x.esent, esent := 0 } else x
  let x := if x.remote && x.side && x.marksOf who then { x with sent := x.sent - BitVec.ofNat 16 hit.length } else x
  s.setCtx key (if concerns who x.rcore then { x with ercvd := 0 } else x)

/-- The indices of the contexts of a partition that are not FREE. -/
def State.liveCtxs (s : State) (n : PartId) : List (Nat × Nat) :=
  s.ctxs.filterMap fun e => if e.2.part == n.val && e.2.state != 0 then
    some (e.1 - (s.parts[n]).ctxBase, e.1) else none

/-- A message in the mesh sent inside epoch e by a core concerned. -/
def State.trafficMarked (s : State) (n : PartId) (who : Option CoreId) (e : W32) : StreamTraffic → Bool
  | .msg m i _ (some f) _ _ _ => m == n && f == e && (match s.ctxOf n i with | some (_, x) => concerns who x.score | none => false)
  | _ => false

/-- Epoch e commits: messages in the mesh lose their mark, then every context (10 R261). -/
def State.streamsCommit (s : State) (n : PartId) (who : Option CoreId) (e : W32) : State :=
  let marked := s.trafficMarked n who e
  let s := { s with traffic := s.traffic.map fun (t : StreamTraffic) => match t with
    | .msg m i j sp p a b => .msg m i j (if marked t then none else sp) p a b
    | t => t }
  ((s.liveCtxs n).foldl (fun (s : State) (ik : Nat × Nat) => s.commitCtx n ik.1 ik.2 (tabGet .reset s.ctxs ik.2) who e) s).retryAll

/-- Epoch e is discarded: its messages in the mesh land and are invalidated with the slots marked e (10 R261). -/
def State.streamsDiscard (s : State) (n : PartId) (who : Option CoreId) (e : W32) : State :=
  let marked := s.trafficMarked n who e
  let dropped := (s.traffic.filter marked).length
  let s := { s with traffic := s.traffic.filter fun t => !marked t }
  let s := objSet (objBump s (some n) 0x4050 6 dropped) (some n) 0x4050 9 e.toNat
  let s := { s with parts := s.parts.set n { s.parts[n] with discarded := true } }
  ((s.liveCtxs n).foldl (fun (s : State) (ik : Nat × Nat) => s.discardCtx n ik.2 (tabGet .reset s.ctxs ik.2) who e) s).retryAll

end Sys2Proof.Machine
end

