-- ==== Sys2Proof/Machine/Bank.lean ====
section
/-!
DEFINITION. Bank ownership: CLAIM, GIVE, FREE, writes of BANK_OWN, the requests and answers of the home routers, and the
end of clearing (08).
-/
namespace Sys2Proof.Machine

/-! ## Transfers and their ranges (09 R222, R225) -/

def ChanRegs.sfmt (r : ChanRegs) : Nat := r.width.toNat % 16
def ChanRegs.dfmt (r : ChanRegs) : Nat := r.width.toNat / 16

/-- Source and destination element bytes (09 R225). -/
def ChanRegs.sw (r : ChanRegs) : Nat := if r.mode == 1 then fmtBytes r.sfmt else 1
def ChanRegs.dw (r : ChanRegs) : Nat := if r.mode == 1 then fmtBytes r.dfmt else 1

/-- Destination bytes of the whole transfer, or bytes compared. -/
def ChanRegs.length (r : ChanRegs) : Nat := r.cnt.toNat * r.dw / r.sw

def ChanRegs.srcAddr (r : ChanRegs) : Nat := r.src.toNat
def ChanRegs.dstAddr (r : ChanRegs) : Nat := r.dst.toNat

/-- The remaining source and destination ranges, as an address and a length. -/
def Channel.srcRange (ch : Channel) : Nat × Nat :=
  let done := ch.wdone * ch.regs.sw / ch.regs.dw
  (ch.regs.srcAddr + done, ch.regs.cnt.toNat - done)
def Channel.dstRange (ch : Channel) : Nat × Nat := (ch.regs.dstAddr + ch.wdone, ch.regs.length - ch.wdone)

/-- The scratchpad ranges in which a transfer has bytes remaining (08 R207, 09 R227). -/
def Channel.localRanges (ch : Channel) : List (Nat × Nat) :=
  ((if ch.regs.mode == 2 then [] else [ch.srcRange]) ++ [ch.dstRange]).filterMap fun (a, l) =>
    if spaceOf a == 0 then some (offsetOf a, offsetOf a + l) else none

/-- An active channel has bytes remaining in a window. -/
def Channel.uses (ch : Channel) (b : BankIx) : Bool :=
  ch.state.isActive && overlaps ch.localRanges [(b.val * 0x20000, (b.val + 1) * 0x20000)]

/-! ## Outcomes -/

/-- D of a bank instruction: 0 or the bank on success, bit 63 and the code on refusal (07 R195). -/
def bankResult (code value : Nat) : W64 := if code == 0 then BitVec.ofNat 64 value else BitVec.ofNat 64 (2 ^ 63 + code)

def State.setOutc (s : State) (c : CoreId) (b : BankIx) (code : Nat) : State :=
  s.modCore c fun k => { k with bankOwn := k.bankOwn.set b { k.bankOwn[b] with outc := code } }

/-- A GIVE, GO or FREE refused counts in obj 4030.03 (08 R219). -/
def State.countRefusal (s : State) (c : CoreId) (code : Nat) : State :=
  if code == 3 || code == 4 || code == 5 then bumpOf s c 0x4030 3 else s

def State.setWindow (s : State) (c : CoreId) (b : BankIx) (h : Option CoreId) : State :=
  s.modCore c fun k => { k with windows := k.windows.set b h }

/-- The bank of window b leaves core c: streams whose ring lies there break with RING_LOST (10 R258). -/
def State.loseWindow (s : State) (c : CoreId) (b : BankIx) : State :=
  ((s.setWindow c b none).breakStreams c 3 fun x => x.rcore == c.val && !(x.remote && !x.side) && (x.ring * 64) / 0x20000 == b.val)

/-! ## CLAIM (08 R204–R206) -/

/-- A bank becomes OWNED by a core; a record a commit walk missed in that window shows MISS (05 R128). -/
def State.setOwned (s : State) (m : CoreId) (b : BankIx) (c : CoreId) : State :=
  let s := s.setBank m b (.owned c)
  let mine := (s.core c).missed.filter fun a => windowOf a == b
  let s := s.modCore c fun k => { k with missed := k.missed.filter fun a => windowOf a != b }
  mine.foldl (fun (s : State) (a : Nat) =>
    let at_ := bankBase m b + (a + 83) % 0x20000
    s.write at_ [memByte s.mem at_ ||| 32]) s

/-- A bank a claim may select: FREE, or CLEARING for the pool (08 R204). -/
def claimable : BankState → Bool
  | .free | .clearing .pool => true
  | _ => false

/-- Window b of a core holds a bank, or one is on its way to it: handed over, or cleared for its claim (08 R200, R208). -/
def State.windowTaken (s : State) (t : CoreId) (b : BankIx) : Bool :=
  ((s.core t).windows[b]).isSome || s.inTransit t b || (List.finRange 64).any fun m => s.bank m b == .clearing (.claimer (.core t))

/-- The search order of a CLAIM of core t: its home banks, then the partition's other cores by number, windows vacant in t (08 R204).
With no FREE bank come those a Scout holds (06 R152), and then those in a Patrol test, lowest home and index first (22 R507; log 123). -/
def State.candidates (s : State) (t : CoreId) : List (CoreId × BankIx) :=
  match (s.core t).part with
  | none => []
  | some n =>
    let homes := t :: (s.coresOf n).filter (· != t)
    let all := homes.flatMap fun m => (List.finRange 32).filterMap fun b =>
      if s.windowTaken t b then none else some (m, b)
    let held (e : CoreId × BankIx) : Bool := match s.bank e.1 e.2 with | .scoutHeld _ => true | _ => false
    let tested := (all.filter fun e => s.bank e.1 e.2 == .patrol).mergeSort fun e f => bankKey e.1 e.2 ≤ bankKey f.1 f.2
    (all.filter fun e => claimable (s.bank e.1 e.2)) ++ all.filter held ++ tested

/-- The core or partition a claim counts in. -/
def State.claimPart (s : State) (q : Claim) : Option PartId :=
  match q.who with | .core c => (s.core c).part | .ring n => some n

def State.bumpClaim (s : State) (q : Claim) (sub : Nat) : State :=
  match s.claimPart q with | some n => objBump s (some n) 0x4030 sub | none => s

/-- The STAGE of a partition whose bank the ring engine seeks: the first that runs without one (08 R205). -/
def Partition.seeking (p : Partition) : Option Command :=
  p.commands.find? fun c => c.opc == 5 && c.stage == .running && c.work.isNone

/-- The target core of a STAGE (12 R295). -/
def Command.target (c : Command) : CoreId := Fin.ofNat 64 (leNat (c.payload.take 1))

/-- A payload field: `len` bytes at command byte `off` (12 R295). -/
def Command.field (c : Command) (off len : Nat) : Nat := leNat ((c.payload.drop (off - 16)).take len)

/-- The running STAGE of a partition whose bank is being filled: the oldest with a STAGED bank and no handover. -/
def State.filling (s : State) (n : PartId) : Option (Command × CoreId × BankIx) :=
  (s.parts[n]).commands.findSome? fun c =>
    match c.work with
    | some (m, b) => if c.stage == .running && !(s.handovers.any fun h => h.home == m && h.bank == b) then some (c, m, b) else none
    | none => none

/-- The ring engine issues the HOST reads of the STAGE it fills, in order, while reads may be outstanding (12 R302; 11 R270, R271); the
count bounds them. -/
def State.stageAsk (s : State) (n : PartId) : Nat → State
  | 0 => s
  | f + 1 =>
    match s.filling n with
    | some (c, _, _) =>
      let src := c.field 24 8
      let len := c.field 20 4
      if spaceOf src != 1 || len ≤ c.asked || !s.busMaster n || !s.readRoom then s
      else
        let (b, m) := s.readCut n
        match cuts b m 1 (offsetOf src + c.asked) (len - c.asked) with
        | (a, l) :: _ =>
          let (_, s) := s.hostAsk n a l .stage (c.field 17 1 == 1)
          (s.modCommand n c.arrival fun c => { c with asked := c.asked + l }).stageAsk n f
        | [] => s
    | none => s

/-- A STAGE without a bank completes REFUSED_CAPACITY with cause 3 NONE_FREE or 4 LOST_RACE (12 R302). -/
def State.stageRefused (s : State) (n : PartId) (code : Nat) : State :=
  match (s.parts[n]).seeking with
  | some c => s.finish n c 2 (code + 2) 0 0
  | none => s

/-- The ring engine of a partition issues its next claim when it has none in flight (08 R205); the count bounds the STAGEs. -/
def State.ringClaim (s : State) (n : PartId) : Nat → State
  | 0 => s
  | f + 1 =>
    if s.claims.any fun q => q.who == .ring n then s
    else match (s.parts[n]).seeking with
      | none => s
      | some c =>
        match s.candidates c.target with
        | [] => ((objBump s (some n) 0x4030 1).stageRefused n 1).ringClaim n f
        | cs => { s with claims := s.claims ++ [⟨.ring n, c.target, 0, cs, 0, 0⟩] }

/-- The ring engine goes on with the partition's STAGEs. -/
def State.ringNext (s : State) (n : PartId) : State := s.ringClaim n (s.parts[n]).commands.length

/-- A claim ends without a bank: the code reaches D, or ends the STAGE (08 R202, R206; 12 R302). -/
def State.claimRefused (s : State) (q : Claim) (code : Nat) (b : Option BankIx) : State :=
  let s := { s with claims := s.claims.filter fun r => r.who != q.who }
  let s := s.bumpClaim q (if code == 1 then 1 else 2)
  match q.who with
  | .core c =>
    let s := match b with | some b => s.setOutc c b code | none => s
    s.modCore c fun k => k.setReg q.dreg (bankResult code 0)
  | .ring n => (s.stageRefused n code).ringNext n

/-- The bank is granted to the claim: OWNED in the window, or STAGED for the ring engine (08 R204). -/
def State.grant (s : State) (q : Claim) (m : CoreId) (b : BankIx) : State :=
  let s := { s with claims := s.claims.filter fun r => r.who != q.who }
  match q.who with
  | .core c =>
    let s := (s.setOwned m b c).setWindow c b (some m)
    (s.setOutc c b 0).modCore c fun k => k.setReg q.dreg (bankResult 0 b.val)
  | .ring n =>
    let s := s.setBank m b (.staged n q.target)
    let s := match (s.parts[n]).seeking with
      | some c => s.modCommand n c.arrival fun c => { c with work := some (m, b) }
      | none => s
    (s.stageAsk n 1024).ringNext n

/-- A Scout's claim on a bank is revoked: its reads into that bank stop, and the revoke counts in SCOUT_RVK alone (06 R152, R154;
log 124). -/
def State.revoke (s : State) (d : CoreId) (m : CoreId) (b : BankIx) : State :=
  let stops := (List.finRange 16).filter fun i => ((s.core d).chans[i]).spec && ((s.core d).chans[i]).uses b
  let s := stops.foldl (fun (s : State) (i : ChanIx) => s.unspeculate d i) s
  s.modCore d fun k =>
    ({ k with scout := { k.scout with
      claims := k.scout.claims.filter fun e => !(e.2.1 == b && e.2.2 == m)
      chans := k.scout.chans.filter fun e => !(stops.contains e.2) } }).scoutCount 4 1

/-- The gating unit of a bank is off (16 R364). -/
def State.unitGated (s : State) (m : CoreId) (b : BankIx) : Bool := bitOf (s.core m).power.gated (b.val / 4)

/-- The gating unit of a bank powers up (16 R364): every bank of it was off and clears, those that are FREE for the pool (08 R216). -/
def State.ungate (s : State) (m : CoreId) (b : BankIx) : State :=
  if s.unitGated m b then
    let s := s.modCore m fun k => { k with power := { k.power with gated := k.power.gated - 2 ^ (b.val / 4) } }
    (List.finRange 32).foldl (fun (s : State) (i : BankIx) =>
      if i.val / 4 == b.val / 4 && s.bank m i == .free then s.clearBank m i .pool else s) s
  else s

/-- A claim takes the bank it selected: at once where it is FREE in a powered unit, after clearing otherwise (08 R204, R206; 06 R152; 16 R364). -/
def State.take (s : State) (q : Claim) (m : CoreId) (b : BankIx) : State :=
  let wait (s : State) : State :=
    { s with claims := s.claims.map fun r => if r.who == q.who then { r with cands := [] } else r }
  match s.bank m b with
  | .free => if s.unitGated m b then (wait (s.ungate m b)).clearBank m b (.claimer q.who) else s.grant q m b
  | .patrol =>
    (wait (s.patrolYieldTo (fun c i => c == m && i == some b) (.claimer q.who))).clearBank m b (.claimer q.who)
  | .clearing _ => (wait s).setBank m b (.clearing (.claimer q.who))
  | .scoutHeld d => (wait (s.revoke d m b)).clearBank m b (.claimer q.who)
  | _ => s

/-- The grant position of a requester (08 R205). -/
def requesterPos : Requester → Nat
  | .core c => c.val
  | .ring n => 64 + n.val

/-- Positions to count upward from GPTR to a requester (08 R205). -/
def grantDistance (gptr : Nat) (r : Requester) : Nat := (requesterPos r + 128 - gptr % 128) % 128

/-- The requester GPTR favours. -/
def contestWinner (gptr : Nat) : List Requester → Option Requester
  | [] => none
  | r :: rs => match contestWinner gptr rs with
    | none => some r
    | some w => if grantDistance gptr w < grantDistance gptr r then some w else some r

/-- A requester goes on to its next candidate, or ends with a code (08 R206). -/
def State.nextCandidate (s : State) (q : Claim) (b : BankIx) (lost : Bool) : State :=
  match q.cands.tail with
  | [] => s.claimRefused q (if lost then 2 else 1) (if lost then some b else none)
  | cs => { s with claims := s.claims.map fun r => if r.who == q.who then { r with cands := cs } else r }

/-- The bank can still be taken by a claim. -/
def takable : BankState → Bool
  | .free | .patrol | .clearing .pool | .scoutHeld _ => true
  | _ => false

/-- CLAIM_REQUEST_ARRIVE: claim requests reach a bank's home router in one nc (08 R204–R206). -/
def execClaimRequestArrive (home : CoreId) (b : BankIx) (who : List Requester) (s : State) : Host.Outcome State Fault Refusal :=
  let asks := s.claims.filter fun q => who.contains q.who && q.cands.head? == some (home, b)
  let fits (q : Claim) : Bool := !s.windowTaken q.target b && takable (s.bank home b)
  let able := asks.filter fits
  let s := (asks.filter fun q => !fits q).foldl (fun s q => s.nextCandidate q b false) s
  match contestWinner s.gptr (able.map (·.who)) with
  | none => .next s
  | some w =>
    let s := match able.find? (fun q => q.who == w) with | some q => s.take q home b | none => s
    let s := (able.filter fun q => q.who != w).foldl (fun s q => s.nextCandidate q b true) s
    .next (if able.length < 2 then s else { s with gptr := (requesterPos w + 1) % 128 })

/-- The claim the Scout holds for this CLAIM becomes ordinary (06 R152): the first it made at this PC. One whose window has been
taken since is given up, as a revoked one is (08 R200; log 124). -/
def State.adoptClaim (s : State) (c : CoreId) (pc : Nat) (dreg : Nat) : Option State :=
  match (s.core c).scout.claims.find? (fun e => e.1 == pc) with
  | some (_, b, m) =>
    if s.bank m b == .scoutHeld c && (s.core c).scout.window.head? == some pc && !s.windowTaken c b then
      let s := s.modCore c fun k => { k with scout := { k.scout with claims := k.scout.claims.eraseP fun e => e.1 == pc } }
      let s := (s.setOwned m b c).setWindow c b (some m)
      some ((s.setOutc c b 0).modCore c fun k => k.setReg dreg (bankResult 0 b.val))
    else none
  | none => none

/-- What a Scout's claim that this CLAIM cannot adopt leaves: its bank returns and clears, and the CLAIM is a new request (06 R152). -/
def State.dropClaim (s : State) (c : CoreId) (pc : Nat) : State :=
  match (s.core c).scout.claims.find? (fun e => e.1 == pc) with
  | some (_, b, m) => if s.bank m b == .scoutHeld c then (s.revoke c m b).clearBank m b .pool else s
  | none => s

/-- A bank instruction of the core is still under way (log 26). -/
def State.bankBusy (s : State) (c : CoreId) : Bool :=
  s.claims.any (fun q => q.who == .core c) || s.handovers.any fun h => h.source == some c && h.how != .go

def execClaim (x : Issue) (s : State) : Host.Outcome State Fault Refusal :=
  issue x s 0x80 (fun _ w => require [isReg (fD w), fA w == 0, fB w == 0, fC w == 0, bits w 27 0 == 0]) fun c w s =>
    if (s.core c).epoch.opened || s.bankBusy c || s.unready c [fD w] then .stall
    else match s.adoptClaim c (s.core c).pc (fD w) with
      | some s => .done s
      | none =>
        let s := s.dropClaim c (s.core c).pc
        let q : Claim := ⟨.core c, c, fD w, s.candidates c, (s.core c).pc, (s.core c).issued⟩
        if q.cands == [] then .done (s.claimRefused q 1 none)
        else .done { s with claims := s.claims ++ [q] }

/-! ## GIVE, GO and FREE (08 R207–R210) -/

/-- Step 1 of 08 R207 for an instruction of a place in the order of issue: earlier instructions that access window b have retired, no
channel started before it has bytes left there, and the bank in the window is OWNED. -/
def State.giveReady (s : State) (c : CoreId) (b : BankIx) (order : Nat) (waits : List ChanIx) : Bool :=
  let k := s.core c
  let w := [(b.val * 0x20000, (b.val + 1) * 0x20000)]
  !(k.inflight.any fun i => i.order < order && overlaps (i.ranges ++ i.reads) w)
    && !(k.shder.any fun q => q.order < order && overlaps [(q.record, q.record + 128)] w)
    && !(waits.any fun i => (k.chans[i]).uses b)
    && (match k.windows[b] with | some m => s.bank m b == .owned c | none => false)

/-- The channels of a core with bytes remaining in window b. -/
def Core.chansIn (k : Core) (b : BankIx) : List ChanIx := (List.finRange 16).filter fun i => (k.chans[i]).uses b

/-- How a local check ends a handover of bank b to target t: the code, or none where it goes on (08 R207). -/
def State.giveLocal (s : State) (c : CoreId) (b t : Nat) : Option Nat :=
  if 31 < b || 63 < t then some 3
  else if ((s.core c).windows[Fin.ofNat 32 b]).isNone then some 4
  else if t == c.val then some 0
  else none

/-- A GIVE, GO or FREE ends: its code to OUTC of the window it names, and to D where it has one. -/
def State.giveEnd (s : State) (c : CoreId) (b : Nat) (how : Giver) (code : Nat) : State :=
  let s := s.countRefusal c code
  let s := if b < 32 then s.setOutc c (Fin.ofNat 32 b) code else s
  match how with
  | .give d => s.modCore c fun k => k.setReg d (bankResult code 0)
  | _ => s

def execGive (x : Issue) (s : State) : Host.Outcome State Fault Refusal :=
  issue x s 0x81 (fun _ w => require [isReg (fD w), isReg (fA w), isReg (fB w), fC w == 0, bits w 27 0 == 0]) fun c w s =>
    let k := s.core c
    let b := k.regNat (fA w)
    let t := k.regNat (fB w)
    if k.epoch.opened || s.bankBusy c || s.unready c [fD w, fA w, fB w] then .stall
    else match s.giveLocal c b t with
      | some code => .done (s.giveEnd c b (.give (fD w)) code)
      | none =>
        let bi : BankIx := Fin.ofNat 32 b
        match k.windows[bi] with
        | some m =>
          if s.inTransit c bi || !s.giveReady c bi k.issued (k.chansIn bi) then .stall
          else .done { s with handovers := s.handovers ++ [⟨m, bi, some c, Fin.ofNat 64 t, .give (fD w), false, false, k.pc, k.issued, []⟩] }
        | none => .stall

/-- The home router refuses a handover: FOREIGN, or WIN_BUSY (08 R208). -/
def State.handoverRefusal (s : State) (h : Handover) : Option Nat :=
  let mine := match h.source, h.how with
    | some c, _ => (s.core c).part
    | none, .ring n => some n
    | none, _ => none
  if (s.core h.target).part != mine || mine.isNone then some 3
  else if ((s.core h.target).windows[h.bank]).isSome
      || s.handovers.any (fun g => g != h && g.target == h.target && g.bank == h.bank && g.sent)
      || (List.finRange 64).any (fun m => s.bank m h.bank == .clearing (.claimer (.core h.target))) then some 5
  else none

def State.dropHandover (s : State) (h : Handover) : State := { s with handovers := s.handovers.filter fun g => g != h }

/-- HANDOVER_REQUEST_ARRIVE: the home router checks the request, sets TRANSIT and sends the bank (08 R207). A giver whose window an
earlier GO has emptied meanwhile is no holder (log 125). A staged bank that is refused stays STAGED, and the ring engine's request
stands (08 R208; log 38). -/
def execHandoverRequestArrive (home : CoreId) (b : BankIx) (s : State) : Host.Outcome State Fault Refusal :=
  match s.handovers.find? (fun h => h.home == home && h.bank == b && !h.sent) with
  | none => .next s
  | some h =>
    match h.source with
    | some c =>
      if (s.core c).windows[b] != some home then
        if s.bank home b == .transit h.target || s.handovers.any (fun g => g.home == home && g.bank == b && g.sent) then .next s
        else .next ((s.dropHandover h).giveEnd c b h.how 4)
      else if !s.giveReady c b h.order h.waits then .next s
      else match s.handoverRefusal h with
        | some code => .next ((s.dropHandover h).giveEnd c b h.how code)
        | none =>
          let s := { s with handovers := s.handovers.map fun g => if g == h then { g with sent := true } else g }
          .next (((s.setBank home b (.transit h.target)).loseWindow c b).retryAll)
    | none =>
      match s.handoverRefusal h with
      | some _ => .next s
      | none =>
        let s := { s with handovers := s.handovers.map fun g => if g == h then { g with sent := true } else g }
        .next (s.setBank home b (.transit h.target))

/-- HANDOVER_BANK_ARRIVE: the target's router records the bank in its window (08 R207 step 3). -/
def execHandoverBankArrive (home : CoreId) (b : BankIx) (s : State) : Host.Outcome State Fault Refusal :=
  match s.handovers.find? (fun h => h.home == home && h.bank == b && h.sent && !h.recorded) with
  | none => .next s
  | some h =>
    .next (({ s with handovers := s.handovers.map fun g => if g == h then { g with recorded := true } else g }).setWindow h.target b (some home))

/-- The handover of a staged bank is acknowledged: its STAGE completes with the bank number (12 R302). -/
def State.stageDone (s : State) (n : PartId) (m : CoreId) (b : BankIx) : State :=
  match (s.parts[n]).commands.find? fun c => c.work == some (m, b) with
  | some c => s.finish n c c.outcome 0 0 b.val
  | none => s

/-- HANDOVER_ACK_ARRIVE: the bank is OWNED by the target and the GIVE retires (08 R207 step 4). -/
def execHandoverAckArrive (home : CoreId) (b : BankIx) (s : State) : Host.Outcome State Fault Refusal :=
  match s.handovers.find? (fun h => h.home == home && h.bank == b && h.recorded) with
  | none => .next s
  | some h =>
    let s := (s.dropHandover h).setOwned home b h.target
    .next (match h.source, h.how with
      | some c, _ => s.giveEnd c b h.how 0
      | none, .ring n => s.stageDone n home b
      | none, _ => s)

/-- HANDOVER_TIMEOUT: the bank returns to its giver, or to STAGED, and a device-fatal event is posted (08 R209). -/
def execHandoverTimeout (home : CoreId) (b : BankIx) (s : State) : Host.Outcome State Fault Refusal :=
  match s.handovers.find? (fun h => h.home == home && h.bank == b && h.sent) with
  | none => .next s
  | some h =>
    let s := s.dropHandover h
    let s := if h.recorded then s.loseWindow h.target b else s
    match h.source, h.how with
    | some c, _ =>
      let s := ((s.setOwned home b c).setWindow c b (some home)).giveEnd c b h.how 6
      .next (postEvent (bumpOf s c 0x4030 5) 0x40 (s.core c).part (some c) (b.val + home.val * 2 ^ 8 + h.target.val * 2 ^ 16))
    | none, .ring n =>
      let s := objBump (s.setBank home b (.staged n h.target)) (some n) 0x4030 5
      .next (postEvent s 0x40 (some n) (some h.target) (b.val + home.val * 2 ^ 8 + h.target.val * 2 ^ 16))
    | none, _ => .next s

def execFree (x : Issue) (s : State) : Host.Outcome State Fault Refusal :=
  issue x s 0x82 (fun _ w => require [isReg (fD w), isReg (fA w), fB w == 0, fC w == 0, bits w 27 0 == 0]) fun c w s =>
    let k := s.core c
    let b := k.regNat (fA w)
    if k.epoch.opened || s.bankBusy c || s.unready c [fD w, fA w] then .stall
    else if 31 < b then .done (s.giveEnd c b (.give (fD w)) 3)
    else
      let bi : BankIx := Fin.ofNat 32 b
      match k.windows[bi] with
        | none => .done (s.giveEnd c b (.give (fD w)) 4)
        | some m =>
          if !s.inTransit c bi && s.giveReady c bi k.issued (k.chansIn bi) then
            .done ((((s.loseWindow c bi).clearBank m bi .pool).giveEnd c b (.give (fD w)) 0).retryAll)
          else .stall

/-- BANK_CLEAR_DONE: a bank passes to the party it belongs to (08 R216). -/
def execBankClearDone (home : CoreId) (b : BankIx) (s : State) : Host.Outcome State Fault Refusal :=
  match s.bank home b with
  | .clearing .pool => .next (s.setBank home b .free)
  | .clearing (.core c) => .next (s.setOwned home b c)
  | .clearing .lent => .next (s.setBank home b .lent)
  | .clearing (.claimer r) =>
    match s.claims.find? (fun q => q.who == r && q.cands == []) with
    | some q => .next (s.grant q home b)
    | none => .next (s.setBank home b .free)
  | _ => .next s

/-! ## BANK_OWN (08 R202) -/

/-- The home of the bank BANK_OWN[b] of core n describes. -/
def Core.describedHome (k : Core) (n : CoreId) (b : BankIx) : CoreId := (k.windows[b]).getD n

/-- STAT and OWNER of a bank state (08 R201, R202). -/
def bankStat : BankState → Nat × Nat
  | .free | .scoutHeld _ => (0, 0)
  | .owned c => (1, c.val)
  | .transit t => (2, t.val)
  | .clearing _ => (3, 0)
  | .staged _ t => (4, t.val)
  | .patrol => (5, 0)
  | .lent => (6, 0)

/-- BANK_OWN[b] of core n as it reads (08 R202). -/
def State.bankOwnWord (s : State) (n : CoreId) (b : BankIx) : Nat :=
  let k := s.core n
  let r := k.bankOwn[b]
  let m := k.describedHome n b
  let (st, ow) := bankStat (s.bank m b)
  r.outc % 256 * 2 ^ 32 + b2n r.collide * 2 ^ 31 + b2n r.wrIgn * 2 ^ 30 + b2n r.arb * 2 ^ 29 + r.target % 64 * 2 ^ 22
    + st * 2 ^ 19 + b2n (k.windows[b]).isSome * 2 ^ 18 + m.val * 2 ^ 12 + ow * 2 ^ 6

/-- A write of BANK_OWN[b] (08 R202, R207): RO fields that would change set WR_IGN; ARB and TARGET take effect; GO hands the bank over. -/
def State.bankOwnWrite (s : State) (c : CoreId) (b : BankIx) (v : Nat) : Act :=
  let k := s.core c
  let r := k.bankOwn[b]
  let cur := s.bankOwnWord c b
  let ro := bits v 39 32 != bits cur 39 32 || bits v 21 6 != bits cur 21 6
  let r := { r with
    collide := r.collide && !bitOf v 31
    wrIgn := ro || (r.wrIgn && !bitOf v 30)
    arb := bitOf v 29
    target := bits v 27 22 }
  let s1 := s.setCore c { k with bankOwn := k.bankOwn.set b r }
  let s1 := if ro then countIgnored s1 c (0x180 + b.val) v else s1
  if !bitOf v 28 then .done s1
  else if k.epoch.opened then .stall
  else match s1.giveLocal c b r.target with
    | some code => .done (s1.giveEnd c b .go code)
    | none =>
      match k.windows[b] with
      | some m => .done { s1 with handovers := s1.handovers ++ [⟨m, b, some c, Fin.ofNat 64 r.target, .go, false, false, k.pc, k.issued, k.chansIn b⟩] }
      | none => .done s1

end Sys2Proof.Machine
end

