-- ==== Sys2Proof/Machine/Control.lean ====
section
/-!
DEFINITION. The control instructions NOP, HALT, SYNC, TAGI, BR, CALL, JR, LOOP and LSET (07 R174).
-/
namespace Sys2Proof.Machine

/-- Every earlier instruction of a core has retired (07 R174). -/
def State.allRetired (s : State) (c : CoreId) : Bool :=
  let k := s.core c
  k.inflight == [] && k.creds == [] && k.shder == none && !(k.groups.toList.any (·.swapPend)) && s.bankRegs c == []

/-- Some Porter channel of a core is active (09 R223). -/
def Core.porterActive (k : Core) : Bool := k.chans.toList.any fun ch => ch.state.isActive

def execNop (x : Issue) (s : State) : Host.Outcome State Fault Refusal :=
  issue x s 0x00 (fun _ w => require [bits w 51 0 == 0]) fun _ _ s => .done s

def execHalt (x : Issue) (s : State) : Host.Outcome State Fault Refusal :=
  issue x s 0x01 (fun _ w => require [bits w 51 0 == 0]) fun c _ s =>
    if s.allRetired c then .done (s.modCore c fun k => { k with mode := .halted }) else .stall

def execSync (x : Issue) (s : State) : Host.Outcome State Fault Refusal :=
  issue x s 0x02 (fun _ w => require [bits w 51 1 == 0]) fun c w s =>
    if s.allRetired c && !(bitOf w 0 && (s.core c).porterActive) then .done s else .stall

def execTagi (x : Issue) (s : State) : Host.Outcome State Fault Refusal :=
  issue x s 0x03 (fun _ w => require [fD w == 0, bits w 45 16 == 0]) fun c w s =>
    .done (s.modCore c fun k => { k with tag := BitVec.ofNat 16 (bits w 15 0) })

def execBr (x : Issue) (s : State) : Host.Outcome State Fault Refusal :=
  issue x s 0x04 (fun _ w => require [fD w == 0, bits w 45 44 == 0, bits w 42 14 == 0]) fun _ w s =>
    .jump s (bits w 13 0)

def execCall (x : Issue) (s : State) : Host.Outcome State Fault Refusal :=
  issue x s 0x05 (fun _ w => require [isReg (fD w), bits w 45 14 == 0]) fun c w s =>
    if s.unready c [fD w] then .stall
    else .jump (s.modCore c fun k => k.setReg (fD w) (BitVec.ofNat 64 (k.pc + 1))) (bits w 13 0)

def execJr (x : Issue) (s : State) : Host.Outcome State Fault Refusal :=
  issue x s 0x06 (fun _ w => require [fD w == 0, isReg (fA w), bits w 39 0 == 0]) fun c w s =>
    if s.unready c [fA w] then .stall
    else
      let v := (s.core c).regNat (fA w)
      if v < 2 ^ 14 then .jump s v else .fault illPc

def execLoop (x : Issue) (s : State) : Host.Outcome State Fault Refusal :=
  issue x s 0x07 (fun _ w => require [fD w == 0, bits w 43 14 == 0]) fun c w s =>
    let lc := bits w 45 44
    if s.unready c [56 + lc] then .stall
    else
      let v := (s.core c).regNat (56 + lc)
      if v == 0 then .done s
      else
        let s' := s.modCore c fun k => k.setReg (56 + lc) (BitVec.ofNat 64 (v - 1))
        if v == 1 then .done s' else .jump s' (bits w 13 0)

def execLset (x : Issue) (s : State) : Host.Outcome State Fault Refusal :=
  issue x s 0x08 (fun _ w => require [56 ≤ fD w && fD w < 60, isReg (fA w)]) fun c w s =>
    if s.unready c [fD w, fA w] then .stall
    else .done (s.modCore c fun k => k.setReg (fD w) (k.reg (fA w) + BitVec.ofInt 64 (imm40 w)))

end Sys2Proof.Machine
end

