-- ==== Sys2Proof/Machine/Porter.lean ====
section
/-!
DEFINITION. Porter: channel registers, starts and their checks, beats through the holding register, scheduling, stops and
bus errors (09).
-/
namespace Sys2Proof.Machine

/-! ## Addresses and lengths -/

/-- A bit the space does not use is set (09 R220, R221). -/
def unusedBits (a : Nat) : Bool :=
  match spaceOf a with
  | 0 => bits a 59 22 != 0
  | 1 => bits a 59 52 != 0
  | 2 => bits a 59 35 != 0
  | 3 => bits a 59 38 != 0 || bits a 31 17 != 0
  | _ => false

/-- Source bytes consumed (09 R230). -/
def Channel.consumed (ch : Channel) : Nat := (ch.wdone + ch.held.length) * ch.regs.sw / ch.regs.dw

/-! ## Registers -/

/-- PCH_STAT (09 R222). -/
def Channel.stat (ch : Channel) : Nat :=
  ch.state.code * 2 ^ 60 + ch.cause % 256 * 2 ^ 52 + b2n ch.collide * 2 ^ 51 + b2n ch.wrIgn * 2 ^ 50 + b2n ch.mismatch * 2 ^ 49
    + b2n ch.nf * 2 ^ 48 + ch.held.length % 8 * 2 ^ 40 + ch.wdone % 2 ^ 32

/-- PCH_CTL as it reads. -/
def Channel.ctl (ch : Channel) : Nat :=
  b2n ch.spec * 2 ^ 11 + b2n ch.regs.ns * 2 ^ 10 + ch.regs.prio % 4 * 2 ^ 8 + ch.regs.mode % 4 * 2 ^ 4

/-- Channel register r as it reads (07 R178). -/
def Channel.read (ch : Channel) (r : Nat) : Nat :=
  match r with
  | 0 => ch.regs.src.toNat
  | 1 => ch.regs.dst.toNat
  | 2 => ch.regs.cnt.toNat
  | 3 => ch.ctl
  | 4 => ch.stat
  | 5 => ch.regs.fill.toNat
  | _ => ch.regs.width.toNat

def State.setChan (s : State) (c : CoreId) (i : ChanIx) (ch : Channel) : State :=
  s.modCore c fun k => { k with chans := k.chans.set i ch }

/-- GO: the channel enters QUEUED and its checks begin (09 R225). -/
def Channel.start (ch : Channel) (resume : Bool) : Channel :=
  let bad := resume && ch.state != .stoppedByEngine && ch.state != .aborted
  let ch := if resume then ch else { ch with wdone := 0, nf := false, collide := false }
  { ch with
    state := .queued, held := [], cause := 0, mismatch := false, checked := false, resumeBad := bad, aborting := false
    buffer := [], asked := [], spec := false, saved := none, cvt := 0 }

/-- The registers of a channel after a write of one of them, and whether the write was ignored (09 R224). -/
def Channel.write (ch : Channel) (r v : Nat) : Channel × Bool :=
  let g := ch.regs
  let busy := ch.state.isActive
  let put (g' : ChanRegs) : Channel × Bool :=
    if busy && g' != g then ({ ch with wrIgn := true }, true) else ({ ch with regs := if busy then g else g' }, false)
  match r with
  | 0 => put { g with src := BitVec.ofNat 64 v }
  | 1 => put { g with dst := BitVec.ofNat 64 v }
  | 2 => put { g with cnt := BitVec.ofNat 32 v }
  | 5 => put { g with fill := BitVec.ofNat 64 v }
  | 6 => put { g with width := BitVec.ofNat 8 v }
  | 4 => ({ ch with collide := ch.collide && !bitOf v 51, wrIgn := ch.wrIgn && !bitOf v 50 }, false)
  | 3 =>
    let ns := bitOf v 10
    let mode := bits v 5 4
    if busy then
      let ign := ns != g.ns || mode != g.mode || bitOf v 0 || bitOf v 1
      ({ ch with regs := { g with prio := bits v 9 8 }, aborting := ch.aborting || bitOf v 2, wrIgn := ch.wrIgn || ign }, ign)
    else
      let ch := { ch with regs := { g with ns := ns, mode := mode, prio := bits v 9 8 } }
      if bitOf v 0 then (ch.start (bitOf v 1), false)
      else if bitOf v 1 then ({ ch with wrIgn := true }, true)
      else (ch, false)
  | _ => (ch, false)

/-- A start that an open epoch holds: it would write outside the scratchpad or an unmarked bank (06 R156). -/
def Core.epochHoldsStart (k : Core) (g : ChanRegs) : Bool :=
  k.epoch.opened && g.mode != 3 &&
    (spaceOf g.dstAddr != 0 || k.epochHolds [(offsetOf g.dstAddr, offsetOf g.dstAddr + g.length)])

/-- A channel starts anew: a GO of a bank that waited for its earlier transfer waits for it no longer (08 R207). -/
def State.freshChan (s : State) (c : CoreId) (i : ChanIx) : State :=
  { s with handovers := s.handovers.map fun h => if h.source == some c then { h with waits := h.waits.filter (· != i) } else h }

/-- A write of channel register r by the core's program: a CRW (09 R222, R224, R225). -/
def State.chanWrite (s : State) (c : CoreId) (i : ChanIx) (r v : Nat) : Act :=
  let ch := (s.core c).chans[i]
  let (ch', ign) := ch.write r v
  if r == 3 && bitOf v 0 && !ch.state.isActive && (s.core c).epochHoldsStart ch'.regs then .stall
  else
    let s := s.setChan c i ch'
    let s := if ch'.state == .queued && !ch.state.isActive then s.freshChan c i else s
    .done (if ign then countIgnored s c (0x100 + 8 * i.val + r) v else s)

/-- A channel the Scout started for this PGO becomes ordinary: SPEC clears, its bytes so far are counted, and what its conversions
reported reaches CVT_STAT (09 R242; 06 R154). -/
def State.adoptTransfer (s : State) (c : CoreId) (i : ChanIx) : Option State :=
  let q := (s.core c).scout
  let ch := (s.core c).chans[i]
  if ch.spec && q.chans.contains ((s.core c).pc, i) then
    let s := s.setChan c i { ch with spec := false, saved := none, cvt := 0 }
    let s := s.modCore c fun k => { k with cvt := k.cvt ||| ch.cvt, scout := { q with chans := q.chans.erase (k.pc, i) } }
    some (bumpOf (bumpOf s c 0x4040 1 (ch.wdone + ch.held.length)) c 0x4040 2 ch.wdone)
  else none

/-- The registers a PGO writes: SRC, DST, CNT, then CTL with GO = 1 (07 R196). -/
def Channel.pgo (ch : Channel) (src dst cnt ctl : Nat) : Channel :=
  ((((ch.write 0 src).1.write 1 dst).1.write 2 cnt).1.write 3 (ctl - ctl % 2 + 1)).1

def execPgo (x : Issue) (s : State) : Host.Outcome State Fault Refusal :=
  issue x s 0x83 (fun _ w => require [isReg (fD w), isReg (fA w), isReg (fB w), isReg (fC w), bits w 23 0 == 0]) fun c w s =>
    let k := s.core c
    let i : ChanIx := Fin.ofNat 16 (bits w 27 24)
    if s.unready c [fD w, fA w, fB w, fC w] then .stall
    else match s.adoptTransfer c i with
      | some s => .done s
      | none =>
        let ch := k.chans[i]
        if ch.state.isActive then .stall
        else
          let ch' := ch.pgo (k.regNat (fA w)) (k.regNat (fB w)) (k.regNat (fC w)) (k.regNat (fD w))
          if k.epochHoldsStart ch'.regs then .stall else .done ((s.setChan c i ch').freshChan c i)

def execPwait (x : Issue) (s : State) : Host.Outcome State Fault Refusal :=
  issue x s 0x84 (fun _ w => require [isReg (fD w), fA w == 0, fB w == 0, fC w == 0, bits w 23 0 == 0]) fun c w s =>
    let ch := (s.core c).chans[Fin.ofNat 16 (bits w 27 24)]
    if s.unready c [fD w] || ch.state.isActive then .stall
    else .done (s.modCore c fun k => k.setReg (fD w) (BitVec.ofNat 64 ch.stat))

/-! ## The checks of a start (09 R226) -/

/-- The conversion pairs of 09 R232. -/
def convPair (sfmt dfmt : Nat) : Bool :=
  (sfmt == 2 && dfmt == 0) || (sfmt == 3 && dfmt == 0) || (sfmt == 0 && dfmt == 2) || (sfmt == 0 && dfmt == 3)

/-- Bytes a space holds (09 R226 check 5). -/
def spaceSize (sp : Nat) : Nat :=
  if sp == 0 then 0x400000 else if sp == 1 then 2 ^ 52 else if sp == 2 then 24 * 2 ^ 30 else 0x20000

/-- The offset of an address inside its space: PROG counts within one core. -/
def spaceOffset (a : Nat) : Nat := if spaceOf a == 3 then bits a 16 0 else offsetOf a

/-- The first byte of a remaining range that starts `done` bytes after an address, inside its space: PROG counts within one core. -/
def rangeStart (a done : Nat) : Nat := (if spaceOf a == 3 then bits a 16 0 else offsetOf a) + done

/-- Checks 1 to 6: the code of the first that fails, 0 where all pass. -/
def Channel.checkStatic (ch : Channel) : Nat :=
  let g := ch.regs
  let fill := g.mode == 2
  let (sa, sl) := ch.srcRange
  let (da, dl) := ch.dstRange
  let badSpace (a : Nat) : Bool := 3 < spaceOf a || unusedBits a
  let past (a done l : Nat) : Bool := l != 0 && spaceSize (spaceOf a) < rangeStart a done + l
  if (if g.mode == 1 then !convPair g.sfmt g.dfmt else g.width != 0) || (fill && g.src != 0) then 1
  else if ch.resumeBad then 2
  else if badSpace g.dstAddr || (spaceOf g.dstAddr == 3 && g.mode != 0) || (!fill && (badSpace g.srcAddr || spaceOf g.srcAddr == 3)) then 3
  else if (g.mode == 1 && (g.srcAddr % g.sw != 0 || g.dstAddr % g.dw != 0 || g.cnt.toNat % g.sw != 0))
      || (spaceOf g.dstAddr == 3 && (g.dstAddr % 8 != 0 || g.cnt.toNat % 8 != 0)) then 4
  else if past g.dstAddr ch.wdone dl || (!fill && past g.srcAddr (ch.wdone * g.sw / g.dw) sl) || 2 ^ 32 - 1 < g.length then 5
  else if !fill && sl != 0 && dl != 0 && spaceOf g.srcAddr == 0 && spaceOf g.dstAddr == 0 && overlaps [(sa, sa + sl)] [(da, da + dl)] then 6
  else 0

/-- The ends of a transfer: the address and the space it names, its remaining bytes, and whether it is written. -/
def Channel.ends (ch : Channel) : List (Nat × Nat × Bool) :=
  let (da, dl) := ch.dstRange
  (if ch.regs.mode == 2 then [] else let (sa, sl) := ch.srcRange; [(sa, sl, false)]) ++ [(da, dl, ch.regs.mode != 3)]

/-- Check 7 over the local ranges of a channel. A GO that waits for this channel does not make it wait (08 R207, 09 R227). -/
def State.heldFor (s : State) (c : CoreId) (i : ChanIx) (rs : List (Nat × Nat)) : Held :=
  ({ s with handovers := s.handovers.filter fun h => !(h.source == some c && h.waits.contains i && !h.sent) }).heldAll c rs

/-- Checks 7 to 10: none where a handover must resolve first, else the code (09 R226). A range without a byte fails none of 7 to 9
but for the function or the part that lacks the space. -/
def State.checkAccess (s : State) (c : CoreId) (i : ChanIx) (ch : Channel) : Option Nat :=
  let ends := ch.ends
  let locals := if ch.spec then [] else ends.filterMap fun (a, l, _) => if spaceOf a == 0 && 0 < l then some (a, a + l) else none
  match s.heldFor c i locals, (s.core c).part with
  | .wait, _ => none
  | .no, _ => some 7
  | .owned, none => some (if ends.any (fun e => spaceOf e.1 == 1) then 8 else if ends.any (fun e => spaceOf e.1 == 2) then 9
      else if spaceOf ch.regs.dstAddr == 3 then 10 else 0)
  | .owned, some n =>
    if ends.any (fun (a, l, wr) => spaceOf a == 1 && (!s.busMaster n || (l != 0 && !s.inAperture n (offsetOf a) l wr))) then some 8
    else if ends.any (fun (a, l, _) => spaceOf a == 2 && (s.delivery == .kv2c || (l != 0 && !s.hbmInside n (offsetOf a) l))) then some 9
    else if spaceOf ch.regs.dstAddr == 3 &&
        (let p := s.core (Fin.ofNat 64 (bits ch.regs.dstAddr 37 32))
         p.part != some n || (p.mode != .halted && p.mode != .stopped)) then some 10
    else some 0

/-! ## Beats (09 R228–R233) -/

/-- Source bytes of the beat that begins after `pos` source bytes (09 R228). -/
def Channel.beatSpan (ch : Channel) (pos : Nat) : Nat :=
  let g := ch.regs
  let block := if g.sw < g.dw then 64 * g.sw / g.dw else 64
  let a := if g.mode == 2 then g.dstAddr + pos else g.srcAddr + pos
  min (block - a % block) (g.cnt.toNat - pos)

/-- Where the beat after j waiting beats begins. -/
def Channel.beatStart (ch : Channel) : Nat → Nat
  | 0 => ch.consumed
  | j + 1 => let p := ch.beatStart j; p + ch.beatSpan p

/-- A transfer that reads memory outside the core. -/
def ChanRegs.reads (g : ChanRegs) : List Nat :=
  (if g.mode == 2 then [] else [g.srcAddr]) ++ (if g.mode == 3 then [g.dstAddr] else [])

def ChanRegs.remoteReads (g : ChanRegs) : List Nat := g.reads.filter fun a => spaceOf a != 0

/-- Read beats a core has asked for and not moved (09 R234). -/
def Core.outstanding (k : Core) : Nat := k.chans.toList.foldl (fun n ch => n + ch.asked.length) 0

/-- The reads of the next beat of a channel are issued: for each HOST address those that R271 and R280 of 11 cut it into; HBM3E
answers by itself. -/
def State.askBeat (s : State) (c : CoreId) (i : ChanIx) : State :=
  let ch := (s.core c).chans[i]
  let pos := ch.beatStart ch.asked.length
  let n := ch.beatSpan pos
  match s.partOf c with
  | none => s
  | some p =>
    let (out, s) := ch.regs.remoteReads.foldl (fun (acc : List ReadAsked × State) (a : Nat) =>
      if spaceOf a == 1 then let (l, s) := acc.2.hostAskAll p (offsetOf a + pos) n (.chan c) ch.regs.ns; (acc.1 ++ l, s)
      else (acc.1 ++ [⟨2, offsetOf a + pos, n, 0⟩], acc.2)) ([], s)
    s.modCore c fun k => { k with chans := k.chans.set i { k.chans[i] with asked := (k.chans[i]).asked ++ [out] } }

/-- The channel has a beat whose reads are not out: reads go out ahead while the core's 64 beats and the device's reads last. -/
def State.askRoom (s : State) (c : CoreId) (i : ChanIx) : Bool :=
  let k := s.core c
  let ch := k.chans[i]
  let host := ch.regs.remoteReads.any fun a => spaceOf a == 1
  ch.state.isActive && ch.checked && !ch.aborting && ch.regs.remoteReads != [] && k.outstanding < 64
    && ch.beatStart ch.asked.length < ch.regs.cnt.toNat
    && (!host || (s.readRoom 4 && match s.partOf c with | some p => s.busMaster p | none => false))

/-- Reads ahead of one channel, at most so many beats. -/
def State.askAhead (s : State) (c : CoreId) (i : ChanIx) : Nat → State
  | 0 => s
  | f + 1 => if s.askRoom c i then (s.askBeat c i).askAhead c i f else s

/-- Where a channel stands in the order in which the engine expects to serve: the Scout's last, the highest PRIO first, then from the
served channel upward, modulo 16 (09 R234). -/
def Core.serveKey (k : Core) (i : ChanIx) : Nat :=
  let ch := k.chans[i]
  let at_ := match k.served with | some (j, _) => (i.val + 16 - j.val) % 16 | none => i.val
  (if ch.spec then 64 else 0) + (3 - ch.regs.prio % 4) * 16 + at_

/-- A channel enters the order in which the engine expects to serve. -/
def Core.serveInto (k : Core) (i : ChanIx) : List ChanIx → List ChanIx
  | [] => [i]
  | j :: l => if k.serveKey j ≤ k.serveKey i then j :: k.serveInto i l else i :: j :: l

/-- The engine of a core issues its reads ahead, in the order in which it expects to serve (09 R234). -/
def State.issueReads (s : State) (c : CoreId) : State :=
  let k := s.core c
  let order := ((List.finRange 16).filter fun i => (k.chans[i]).state.isActive).foldl (fun l i => k.serveInto i l) []
  order.foldl (fun (s : State) (i : ChanIx) => s.askAhead c i 64) s

/-! ## What waits for a channel -/

/-- Every transfer of a partition with a HOST end that is active (09 R227). -/
def State.hostActive (s : State) (n : PartId) : Bool :=
  (s.coresOf n).any fun c => (s.core c).chans.toList.any fun (ch : Channel) =>
    ch.state.isActive && ch.ends.any fun e => spaceOf e.1 == 1

/-- A change of a partition's apertures that waited takes effect once no channel uses HOST space (09 R227, 11 R269). -/
def State.aperturesGoOn (s : State) (n : PartId) : State :=
  if (s.parts[n]).apertures == [] || s.hostActive n then s
  else ((s.parts[n]).apertures.foldl (fun (s : State) (e : Nat × Nat) => objSet s (some n) 0xC031 e.1 e.2) s).modPart n
    fun p => { p with apertures := [] }

/-- What waited for channels of a core goes on where it may: its SHDER's read and its record writes (05 R138), a change of its
partition's apertures (09 R227; 11 R269). -/
def State.porterGoesOn (s : State) (c : CoreId) : State :=
  let free (k : Core) (i : ChanIx) : Bool := !(k.chans[i]).state.isActive
  match s.partOf c with
  | none => s
  | some n =>
    let k := s.core c
    let s := match k.shder with
      | some q =>
        if q.phase == .due && free k q.pch && s.busMaster n && s.readRoom then
          let (t, s) := s.hostAsk n q.host 8 (.shder c) true
          s.modCore c fun k => { k with shder := some { q with phase := .asked t } }
        else s
      | none => s
    let s := (k.hostWrites.filter fun e => free k e.1).foldl (fun (s : State) (e : ChanIx × Nat × List Byte) => s.hostPost n e.2.1 e.2.2 false) s
    let s := s.modCore c fun x => { x with hostWrites := k.hostWrites.filter fun e => !free k e.1 }
    s.aperturesGoOn n

/-- PORTER_CHECKS_DONE: the start checks end (09 R225, R226); a comparison of no byte finds no difference (R233). -/
def execPorterChecksDone (c : CoreId) (i : ChanIx) (s : State) : Host.Outcome State Fault Refusal :=
  let ch := (s.core c).chans[i]
  if ch.state != .queued || ch.checked then .next s
  else
    let reject (code : Nat) : State := (bumpOf (s.setChan c i { ch with state := .rejected, cause := code }) c 0x4040 4).porterGoesOn c
    match ch.checkStatic with
    | 0 =>
      match s.checkAccess c i ch with
      | none => .next s
      | some 0 =>
        if ch.regs.length ≤ ch.wdone then
          let g := if ch.regs.mode == 3 then { ch.regs with fill := 0xFFFFFFFFFFFFFFFF } else ch.regs
          .next ((s.setChan c i { ch with state := .done, checked := true, regs := g }).porterGoesOn c)
        else
          let s := match (s.core c).part with
            | some n => if spaceOf ch.regs.dstAddr == 2 then
                s.transferStarts n (offsetOf ch.regs.dstAddr + ch.wdone) (offsetOf ch.regs.dstAddr + ch.regs.length) else s
            | none => s
          .next ((s.setChan c i { ch with checked := true }).issueReads c)
      | some code => .next (reject code)
    | code => .next (reject code)

/-! ## Stops and bus errors (09 R237–R239) -/

/-- A channel stops and is rewound (09 R238). -/
def State.stopChan (s : State) (c : CoreId) (i : ChanIx) (st : ChanState) (cause : Nat) : State :=
  let ch := (s.core c).chans[i]
  let s := if ch.held == [] || ch.spec then s else bumpOf s c 0x4040 3 ch.held.length
  (s.dropReads c i).setChan c i { ch with state := st, cause := cause, held := [], buffer := [], asked := [], aborting := false, checked := false }

/-- Every active channel of a core stops on a bus error; the Scout's are cancelled (09 R239). -/
def State.stopEngine (s : State) (c : CoreId) : State :=
  (List.finRange 16).foldl (fun s i =>
    let ch := (s.core c).chans[i]
    if ch.spec then s.unspeculate c i
    else if ch.state.isActive then s.stopChan c i .stoppedByEngine 0x10 else s) s

/-- A bus error on a read of a core: recorded in obj 4040.06–4040.0A (09 R239, R247). -/
def State.recordBusError (s : State) (c : CoreId) (space kind addr : Nat) : State :=
  match (s.core c).part with
  | none => s
  | some n =>
    let s := objBump s (some n) 0x4040 6
    let s := objSet s (some n) 0x4040 7 c.val
    let s := objSet s (some n) 0x4040 8 space
    let s := objSet s (some n) 0x4040 9 addr
    objSet s (some n) 0x4040 0xA kind

/-- What a read that ends in an error leaves beside the bus error: obj C110.03 counts one that HBM3E could not correct (11 R287); AER of
the partition's PCIe function notes a completion timeout or a poisoned completion (11 R271). -/
def State.noteReadError (s : State) (n : Option PartId) (kind : Nat) : State :=
  if kind == 6 then objBump s none 0xC110 3
  else match n with
    | some n => if s.delivery == .kv2p && (kind == 3 || kind == 4) then
        s.cfgSet n 12 (s.cfgGet n 12 ||| (if kind == 3 then 2 ^ 14 else 2 ^ 12)) else s
    | none => s

/-- The stop of a core's engine on a bus error: every active channel stops and the error is recorded (09 R239). -/
def State.busStop (s : State) (c : CoreId) (space kind addr : Nat) : State :=
  let s := (s.stopEngine c).recordBusError c space kind addr
  (postEvent (bumpOf s c 0x4040 5) 0x10 (s.core c).part (some c) (addr % 2 ^ 60 + kind * 2 ^ 60)).porterGoesOn c

def ReadAsked.covers (r : ReadAsked) (space addr : Nat) : Bool := r.space == space && r.addr ≤ addr && addr < r.addr + r.len

/-- The error answers a read that an active channel waits for. -/
def Core.waitsFor (k : Core) (p : ReadAsked → Bool) : Bool :=
  k.chans.toList.any fun (ch : Channel) => ch.state.isActive && ch.readsDue.any p

/-- A bus error on a read issued before its channel stopped: it counts in obj 4040.06 alone (09 R239). -/
def State.lateError (s : State) (c : CoreId) (p : ReadAsked → Bool) : State :=
  bumpOf (s.modCore c fun k => { k with late := k.late.eraseP p }) c 0x4040 6

/-- A bus error on the read of a core that a condition picks out. It stops the core's engine, unless what failed was issued before the
last stop (09 R239). -/
def State.busErrorOf (s : State) (c : CoreId) (space kind addr : Nat) (p : ReadAsked → Bool) : State :=
  let s := s.noteReadError (s.partOf c) kind
  let k := s.core c
  if k.porterActive && (k.waitsFor p || !(k.late.any p)) then
    (s.busStop c space kind addr).modCore c fun k => { k with late := k.late.eraseP p }
  else s.lateError c p

/-- The bus error of the Porter read that covers an address. -/
def State.busError (s : State) (c : CoreId) (space kind addr : Nat) : State :=
  s.busErrorOf c space kind addr fun r => r.covers space addr

/-- PORTER_BUS_ERROR. -/
def execPorterBusError (c : CoreId) (e : BusError) (s : State) : Host.Outcome State Fault Refusal :=
  .next (s.busError c (if e.kind == 6 then 2 else 1) e.kind e.addr.toNat)

/-! ## Read data (09 R234) -/

/-- The first read of a channel's next beat that HBM3E cannot correct, as its offset in the partition's space (11 R287). -/
def State.poisonedRead (s : State) (c : CoreId) (i : ChanIx) : Option Nat :=
  let ch := (s.core c).chans[i]
  match (s.core c).part with
  | none => none
  | some p => ((ch.asked.getD ch.buffer.length []).find? fun r => r.space == 2 && s.hbmPoisoned p r.addr r.len).map (·.addr)

/-- The data of a channel's next beat enters the read buffer: HOST bytes as they came, HBM bytes from the HBM3E (09 R234). -/
def State.readArrives (s : State) (c : CoreId) (i : ChanIx) (data : List Byte) : State :=
  let k := s.core c
  let ch := k.chans[i]
  let g := ch.regs
  let pos := ch.beatStart ch.buffer.length
  let n := ch.beatSpan pos
  let host := g.remoteReads.filter fun a => spaceOf a == 1
  let clearing := g.remoteReads.any fun a => spaceOf a == 2 && (match k.part with | some p => !s.hbmReady p (offsetOf a + pos) n | none => false)
  if clearing || ch.asked.length ≤ ch.buffer.length || data.length != host.length * n then s
  else match s.poisonedRead c i with
  | some off => s.busError c 2 6 off
  | none =>
    let fetch (acc : List Byte × List Byte) (a : Nat) : List Byte × List Byte :=
      if spaceOf a == 1 then (acc.1 ++ acc.2.take n, acc.2.drop n)
      else (acc.1 ++ (match k.part with | some p => s.hbmRead p (offsetOf a + pos) n | none => []), acc.2)
    let beat := ch.asked.getD ch.buffer.length []
    let s := { s with attach := { s.attach with reads := s.attach.reads.filter fun r => !(beat.any fun b => b.space == 1 && b.tag == r.tag) } }
    s.modCore c fun k => { k with chans := k.chans.set i { ch with buffer := ch.buffer ++ [(g.remoteReads.foldl fetch ([], data)).1] } }

/-- PORTER_READ_DATA_ARRIVE: the data of a channel's next beat arrives (09 R234); what HBM3E corrected in it counts (11 R287). -/
def execPorterReadDataArrive (c : CoreId) (i : ChanIx) (r : ReadArrival) (s : State) : Host.Outcome State Fault Refusal :=
  let hbm := ((s.core c).chans[i]).regs.remoteReads.any fun a => spaceOf a == 2
  let s := if hbm && s.delivery == .kv2p && r.corrected != 0 then objBump s none 0xC110 2 r.corrected else s
  .next ((s.readArrives c i r.data).issueReads c)

/-- The data of a beat at one of its read addresses: from the core's banks, or the next part of what arrived. -/
def State.beatData (s : State) (c : CoreId) (arrived : List Byte) (pos n : Nat) : List Nat → List (List Byte)
  | [] => []
  | a :: as =>
    if spaceOf a == 0 then scratchBytes s.mem (s.core c) (offsetOf a + pos) n :: s.beatData c arrived pos n as
    else arrived.take n :: s.beatData c (arrived.drop n) pos n as

/-- Converts source elements (09 R232): the bytes, the CVT_STAT bits, and whether an output is not finite. -/
def convertBytes (sfmt dfmt : Nat) (fuel : Nat) (bs : List Byte) : List Byte × Nat × Bool :=
  match fuel with
  | 0 => ([], 0, false)
  | f + 1 =>
    match bs with
    | [] => ([], 0, false)
    | _ =>
      let sw := fmtBytes sfmt
      let v := leNat (bs.take sw)
      let x := if sfmt == 0 then px16Val v else if sfmt == 2 then fp32Val v else fp64Val v
      let r := convert dfmt x 0 0 .rne
      let bad := (match x with | .nan | .inf _ => true | _ => false) || r.st &&& cvInfOut != 0
      let (rest, st, nf) := convertBytes sfmt dfmt f (bs.drop sw)
      (leBytes (fmtBytes dfmt) r.code ++ rest, r.st ||| st, bad || nf)

/-- A core as its Scout sees it: the banks it holds speculatively stand in their windows (06 R152). -/
def Core.scoutView (k : Core) : Core :=
  { k with windows := k.scout.claims.foldl (fun (v : Vector (Option CoreId) 32) (e : Nat × BankIx × CoreId) => v.set e.2.1 (some e.2.2)) k.windows }

/-- Writes destination bytes of a transfer into their space (09 R221). -/
def State.porterWrite (s : State) (c : CoreId) (a : Nat) (bs : List Byte) (ns spec : Bool) : State :=
  match spaceOf a, (s.core c).part with
  | 0, _ => { s with mem := scratchWrite s.mem (if spec then (s.core c).scoutView else s.core c) (offsetOf a) bs }
  | 1, some n => if bs == [] then s else s.hostPost n (offsetOf a) bs ns
  | 2, some n => s.hbmWrite n (offsetOf a) bs
  | 3, _ => s.write (progBase (Fin.ofNat 64 (bits a 37 32)) + bits a 16 0) bs
  | _, _ => s

/-- Accesses of an HBM3E write whose parity fails to the end hold the poison pattern: counted and reported (11 R287; log 126). -/
def State.poison (s : State) (c : CoreId) (a len : Nat) (bad : List Nat) : State :=
  match spaceOf a, (s.core c).part with
  | 2, some n =>
    (bad.eraseDups.filter fun g => len != 0 && g * 32 < offsetOf a + len && offsetOf a < g * 32 + 32).foldl (fun (s : State) (g : Nat) =>
      match s.hbmPhys n (g * 32) with
      | some x =>
        let s := { s with hbm := { s.hbm with poison := s.hbm.poison ++ [(x - hbmBase) / 32] } }
        postEvent (objBump s none 0xC110 5) 0x20 (some n) (some c) (x - hbmBase)
      | none => s) s
  | _, _ => s

/-- The byte books of a beat (09 R247): a Scout's transfer is counted when it becomes ordinary. -/
def State.beatBooks (s : State) (c : CoreId) (spec : Bool) (consumed written : Nat) : State :=
  if spec then s else bumpOf (bumpOf s c 0x4040 1 consumed) c 0x4040 2 written

/-- Offset of the first difference of two byte strings. -/
def firstDiff : List Byte → List Byte → Nat → Option Nat
  | x :: xs, y :: ys, i => if x = y then firstDiff xs ys (i + 1) else some i
  | _, _, _ => none

/-- A beat of compare mode (09 R233). -/
def State.compareBeat (s : State) (c : CoreId) (i : ChanIx) (ch : Channel) (n : Nat) (xs ys : List Byte) : State :=
  let w := ch.wdone + n
  let s := s.beatBooks c ch.spec n n
  match firstDiff xs ys ch.wdone with
  | some p => (s.dropReads c i).setChan c i { ch with
      state := .done, mismatch := true, wdone := w, regs := { ch.regs with fill := BitVec.ofNat 64 p }, buffer := [], asked := [] }
  | none => s.setChan c i
      (if w == ch.regs.length then { ch with state := .done, wdone := w, regs := { ch.regs with fill := 0xFFFFFFFFFFFFFFFF } }
       else { ch with state := .active, wdone := w })

/-- One beat of a channel through its holding register (09 R228–R233), with what the memories report of it. -/
def State.moveBeat (s : State) (c : CoreId) (i : ChanIx) (r : BeatReport) : State :=
  let ch := (s.core c).chans[i]
  let g := ch.regs
  let pos := ch.consumed
  let n := ch.beatSpan pos
  let last := pos + n == g.cnt.toNat
  let datas := s.beatData c (ch.buffer.headD []) pos n g.reads
  let ch := { ch with buffer := ch.buffer.tail, asked := ch.asked.tail }
  let s := s.setChan c i ch
  let src := datas.headD []
  if g.mode == 3 then s.compareBeat c i ch n src (datas.getD 1 [])
  else
    let (out, st, nf) : List Byte × Nat × Bool :=
      if g.mode == 1 then convertBytes g.sfmt g.dfmt 64 src
      else if g.mode == 2 then
        ((List.range n).map fun j => BitVec.ofNat 8 (g.fill.toNat / 256 ^ ((g.dstAddr + pos + j) % 8)), 0, false)
      else (src, 0, false)
    let all := ch.held ++ out
    let a := g.dstAddr + ch.wdone
    let keep := if last || g.mode == 2 then 0 else (a + all.length) % 8
    let wr := all.length - min keep all.length
    let lost := if spaceOf a == 0 then (s.core c).collisions c (offsetOf a) wr r.portA else []
    let t := s.porterWrite c a (all.take wr) g.ns ch.spec
    let t := lost.foldl (fun (t : State) (w : Nat) => t.collide c i.val s.mem (offsetOf a) wr w) t
    let t := t.poison c a wr r.poisoned
    let t := if ch.spec then t else t.modCore c fun k => { k with cvt := k.cvt ||| st }
    (t.beatBooks c ch.spec out.length wr).setChan c i
      { ch with
        state := if last then .done else .active, held := all.drop wr, wdone := ch.wdone + wr, nf := ch.nf || nf
        collide := ch.collide || lost != [], cvt := if ch.spec then ch.cvt ||| st else ch.cvt }

/-- The read data of a channel's next beat is there (09 R234). -/
def Channel.canMove (ch : Channel) : Bool :=
  ch.state.isActive && ch.checked && !ch.aborting && (ch.regs.remoteReads == [] || ch.buffer != [])

/-- The next channel upward from i, modulo 16, that meets a condition; i itself comes last. -/
def nextChan (i : ChanIx) (p : ChanIx → Bool) : Option ChanIx :=
  ((List.range 16).map fun j => (Fin.ofNat 16 (i.val + 1 + j) : ChanIx)).find? p

/-- The channel the engine serves at a beat boundary, and its beat count (09 R234, R235, log 27). -/
def Core.pickChan (k : Core) (ready : Channel → Bool) : Option (ChanIx × Nat) :=
  let can (sp : Bool) (i : ChanIx) : Bool := (k.chans[i]).canMove && (k.chans[i]).spec == sp && ready k.chans[i]
  let pick (ok : ChanIx → Bool) : Option (ChanIx × Nat) :=
    match (List.finRange 16).filter ok with
    | [] => none
    | l =>
      let top := l.foldl (fun p i => max p (k.chans[i]).regs.prio) 0
      let okTop (i : ChanIx) : Bool := ok i && (k.chans[i]).regs.prio == top
      match k.served with
      | some (i, n) =>
        if okTop i && n < 64 then some (i, n + 1)
        else match nextChan i okTop with
          | some j => some (j, if j == i then n else 1)
          | none => none
      | none => (nextChan 15 okTop).map fun j => (j, 1)
  match pick (can false) with
  | some r => some r
  | none => pick (can true)

/-- No bank under the next beat of a transfer is clearing: a bank that clears serves no request (08 R201, R213). None is in retention:
the beat stalls until the napping core is ACTIVE (16 R363). -/
def State.banksReady (s : State) (c : CoreId) (ch : Channel) : Bool :=
  let k := if ch.spec then (s.core c).scoutView else s.core c
  let near (e : Nat × Nat × Bool) : Option (Nat × Nat) :=
    if spaceOf e.1 == 0 then some (e.1, e.1 + min e.2.1 72) else none
  (windowsOf (ch.ends.filterMap near)).all fun b => match k.windows[b] with
    | some m => !s.naps m && match s.bank m b with | .clearing _ => false | _ => true
    | none => true

/-- The banks and the HBM3E units under a transfer's next beat take its bytes: none is still clearing (08 R213; 11 R289, 12 R294). -/
def State.beatReady (s : State) (c : CoreId) (ch : Channel) : Bool :=
  let (a, l) := ch.dstRange
  s.banksReady c ch && (spaceOf a != 3 || !s.naps (Fin.ofNat 64 (bits a 37 32))) && (spaceOf a != 2 || match s.partOf c with | some n => s.hbmReady n (offsetOf a) (min l 64) | none => true)

/-- PORTER_BEAT: at a beat boundary ABORTs act, then one channel moves one beat (09 R228, R234–R237). -/
def execPorterBeat (b : Beat) (s : State) : Host.Outcome State Fault Refusal :=
  let c := b.core
  let r := b.report
  let s := (List.finRange 16).foldl (fun s i =>
    if ((s.core c).chans[i]).aborting && ((s.core c).chans[i]).state.isActive then s.stopChan c i .aborted 0x11 else s) s
  match (s.core c).pickChan (s.beatReady c) with
  | none => .next (s.porterGoesOn c)
  | some (i, n) =>
    let prio := ((s.core c).chans[i]).regs.prio
    let s := s.modCore c fun k => { k with
      served := some (i, n)
      chans := k.chans.map fun (ch : Channel) => if ch.state == .active && ch.regs.prio < prio then { ch with state := .preempted } else ch }
    .next (((s.moveBeat c i r).issueReads c).porterGoesOn c)

end Sys2Proof.Machine
end

