-- ==== Sys2Proof/Machine/Abacus.lean ====
section
/-!
DEFINITION. The Abacus (21): residues and moduli, polynomial descriptors, the checks of AB in their order, MADD, NTT, INTT,
AUTO and KGEN, and an AB's completion.
-/
namespace Sys2Proof.Machine

/-! ## Residues and moduli (21 R474–R476) -/

/-- The n-bit reversal of i (21 R484). -/
def bitRev : Nat → Nat → Nat
  | 0, _ => 0
  | n + 1, i => i % 2 * 2 ^ n + bitRev n (i / 2)

/-- Σ c_i x^i mod q. -/
def hornerMod (q x : Nat) : List Nat → Nat
  | [] => 0
  | c :: cs => (c + x * hornerMod q x cs) % q

/-- An entry of a modulus chain (21 R475). -/
structure Modulus where
  q : Nat
  psi : Nat
  logm : Nat
  /-- No reserved bit or byte is nonzero. -/
  clean : Bool
  deriving DecidableEq, Repr

def Modulus.ofNat (v : Nat) : Modulus := ⟨bits v 30 0, bits v 63 32, bits v 71 64, !bitOf v 31 && bits v 127 72 == 0⟩

/-- The check every operation makes (21 R476). -/
def Modulus.ok (m : Modulus) : Bool := m.clean && m.q % 2 == 1 && 3 ≤ m.q

/-- The root checks of NTT and INTT for dimension 2^n (21 R476). -/
def Modulus.rootOk (m : Modulus) (n : Nat) : Bool :=
  n + 1 ≤ m.logm && m.q % 2 ^ m.logm == 1 && m.psi < m.q && powMod m.q 31 m.psi (2 ^ (m.logm - 1)) == m.q - 1

/-- ψ_N = PSI^(2^(LOGM − n − 1)) mod q (21 R475). -/
def Modulus.root (m : Modulus) (n : Nat) : Nat := powMod m.q 31 m.psi (2 ^ (m.logm - n - 1))

/-! ## Polynomial descriptors (21 R477–R479) -/

structure Poly where
  base : Nat
  lstride : Nat
  pstride : Nat
  logn : Nat
  level : Nat
  lbase : Nat
  chlen : Nat
  npoly : Nat
  dom : Nat
  chain : Nat
  /-- No reserved bit is set. -/
  clean : Bool
  deriving DecidableEq, Repr

def Poly.ofNat (v : Nat) : Poly :=
  ⟨bits v 21 0, bits v 53 32, bits v 85 64, bits v 103 96, bits v 111 104, bits v 119 112, bits v 127 120, bits v 129 128,
   bits v 130 130, bits v 181 160,
   bits v 31 22 == 0 && bits v 63 54 == 0 && bits v 95 86 == 0 && bits v 135 131 == 0 && bits v 159 136 == 0
     && bits v 191 182 == 0 && bits v 255 192 == 0⟩

def Poly.size (d : Poly) : Nat := 2 ^ d.logn

/-- Limbs in use. -/
def Poly.limbs (d : Poly) : Nat := d.level + 1

/-- Every field lies within 21 R477. -/
def Poly.ok (d : Poly) : Bool :=
  d.clean && d.base % 64 == 0 && d.lstride % 64 == 0 && d.pstride % 64 == 0 && d.chain % 16 == 0
    && 4 ≤ d.logn && d.logn ≤ 17 && d.level < 64 && d.lbase < 64 && 1 ≤ d.chlen && d.chlen ≤ 64 && d.lbase + d.level < d.chlen
    && 1 ≤ d.npoly && 4 * d.size ≤ d.lstride && (d.npoly == 1 || d.limbs * d.lstride ≤ d.pstride)

/-- The offset of limb k of polynomial p. -/
def Poly.unit (d : Poly) (p k : Nat) : Nat := d.base + p * d.pstride + k * d.lstride

/-- The units, polynomial by polynomial. -/
def Poly.units (d : Poly) : List (Nat × Nat) :=
  (List.range d.npoly).flatMap fun p => (List.range d.limbs).map fun k => (p, k)

/-- The byte ranges of the units. -/
def Poly.ranges (d : Poly) : List (Nat × Nat) := d.units.map fun e => (d.unit e.1 e.2, d.unit e.1 e.2 + 4 * d.size)

/-- The destination with the shape of a result (21 R479, R483). -/
def Poly.shaped (a s : Poly) : Poly := { a with npoly := s.npoly, lbase := s.lbase, level := s.level, dom := s.dom }

/-- LOGN, CHAIN and CHLEN agree (21 R478). -/
def Poly.sameRing (a b : Poly) : Bool := a.logn == b.logn && a.chain == b.chain && a.chlen == b.chlen

def Poly.sameLevel (a b : Poly) : Bool := a.lbase == b.lbase && a.level == b.level

/-- The residues of a unit. -/
def limbAt (m : Memory) (k : Core) (off n : Nat) : List Nat := (List.range n).map fun j => scratchNat m k (off + 4 * j) 4

def residueBytes (xs : List Nat) : List Byte := xs.flatMap fun x => leBytes 4 x

/-! ## The frame of AB (21 R480–R482) -/

def abOp (w : Nat) : Nat := bits w 27 24

/-- A specifier that names an a-register. -/
def isA (r : Nat) : Bool := 32 ≤ r && r < 48

/-- Phase 1 (21 R480): the operation, D, the descriptors' registers, and the reserved bits of SUB. -/
def abIllegal (op : Nat) (useC : Bool) (subOk : Bool) (w : Nat) : Option CoreFault :=
  require [abOp w == op, isS (fD w), isA (fA w), isA (fB w), if useC then isA (fC w) else fC w == 0, subOk]

/-- What an operation that passes its checks does: its outcome, the bytes written by offset, units to be read, elements regenerated. -/
structure AbResult where
  noncanon : Bool
  writes : List (Nat × List Byte)
  reads : List Effect
  elems : Nat

/-- One operation, as the frame needs it. -/
structure AbPlan where
  /-- The destination in the shape of the result. -/
  dst : Poly
  /-- The first outcome check that fails, 0 where none does. -/
  code : Nat
  /-- Ranges read, each with its alignment (21 R481 step 4). -/
  areas : List Area
  result : Unit → AbResult

/-- The bytes of the result's descriptor that are written: 13, 14 and 16 (21 R479). -/
def Poly.tail (d : Poly) (at_ : Nat) : List (Nat × List Byte) :=
  [(at_ + 13, leBytes 1 d.level), (at_ + 14, leBytes 1 d.lbase), (at_ + 16, leBytes 1 (d.npoly + 4 * d.dom))]

/-- The descriptor at an offset. -/
def State.poly (s : State) (c : CoreId) (at_ : Nat) : Poly := .ofNat (scratchNat s.mem (s.core c) at_ 32)

/-- The chain entry of limb k of a polynomial. -/
def State.modulus (s : State) (c : CoreId) (d : Poly) (k : Nat) : Modulus :=
  .ofNat (scratchNat s.mem (s.core c) (d.chain + 16 * (d.lbase + k)) 16)

/-- BAD_MODULUS for a shape (21 R476). -/
def State.badModulus (s : State) (c : CoreId) (d : Poly) (roots : Bool) : Bool :=
  (List.range d.limbs).any fun k => let m := s.modulus c d k; !m.ok || (roots && !m.rootOk d.logn)

/-- OVERLAP (21 R482): a destination unit shares a byte with a source unit that is not the same range. -/
def badOverlap (dst src : List (Nat × Nat)) : Bool := dst.any fun x => src.any fun y => x != y && x.1 < y.2 && y.1 < x.2

/-- The first failing outcome check in the order of the codes (21 R481 step 3). -/
def firstCode (checks : List (Nat × Bool)) : Nat := ((checks.find? fun e => e.2).map (·.1)).getD 0

/-- The frame of AB: phases 2 to 4 of 21 R481, then the operation enters its unit. The descriptors named are the destination at A,
the others at `more`; `chains` are those whose chain is used. -/
def abIssue (x : Issue) (s : State) (illegal : Nat → Option CoreFault) (useC : Bool)
    (chains : Nat → List Nat) (plan : CoreId → Nat → State → AbPlan) : Host.Outcome State Fault Refusal :=
  issue x s 0x70 (fun _ w => illegal w) fun c w s =>
    let k := s.core c
    let regs := [fA w, fB w] ++ (if useC then [fC w] else [])
    if s.unready c (fD w :: regs) || k.unitFull .abacus then .stall
    else
      let descs : List Area := regs.map fun r => ⟨k.regNat r, k.regNat r + 32, 32, false⟩
      match s.checkOperands c [] descs with
      | .wait => .stall
      | .fault f => .fault f
      | .ok =>
        if k.rangeBusy (allRanges [] descs) then .stall
        else
          let lists : List Area := (chains w).map fun r =>
            let d := s.poly c (k.regNat r)
            ⟨d.chain, d.chain + 16 * d.chlen, 16, false⟩
          match s.checkOperands c [] lists with
          | .wait => .stall
          | .fault f => .fault f
          | .ok =>
            if k.rangeBusy (allRanges [] lists) then .stall
            else
              let p := plan c w s
              let launch (outcome : Nat) (r : AbResult) (ranges : List (Nat × Nat)) : State :=
                s.launch c {
                  unit := .abacus, pc := k.pc, tag := k.tag, pass := none
                  effects := r.reads ++ ({ TileOut.empty with writes := r.writes }).stores k
                    ++ [.abacus (abOp w) outcome p.dst.units.length r.elems, .reg (fD w) (BitVec.ofNat 64 outcome)]
                  ranges := ranges, slots := [], readSlots := [], regs := [fD w], sets := [], table := false
                  reads := allRanges [] (lists ++ p.areas) }
              if p.code != 0 then .done (launch p.code ⟨false, [], [], 0⟩ [])
              else
                let at_ := k.regNat (fA w)
                let dst : List Area := p.dst.ranges.map fun r => ⟨r.1, r.2, 64, true⟩
                match s.checkOperands c [] (dst ++ p.areas) with
                | .wait => .stall
                | .fault f => .fault f
                | .ok =>
                  let writes := p.dst.ranges ++ [(at_, at_ + 32)]
                  if k.blocked (allRanges [] p.areas ++ writes) writes then .stall
                  else
                    let r := p.result ()
                    .done (launch (if r.noncanon then 256 else 0) { r with writes := r.writes ++ p.dst.tail at_ } writes)

/-! ## MADD (21 R483) -/

/-- MADD of one unit: the destination's, the first source's and the second source's residues. -/
def maddUnit (q : Nat) (acc neg : Bool) (as bs cs : List Nat) : List Nat :=
  (List.range bs.length).map fun j =>
    let a : Int := if acc then (as.getD j 0 : Nat) else 0
    let m : Int := (bs.getD j 0 * cs.getD j 0 : Nat)
    ((if neg then a - m else a + m) % (q : Int)).toNat

def areasOf (d : Poly) : List Area := d.ranges.map fun r => ⟨r.1, r.2, 64, false⟩

def maddPlan (c : CoreId) (w : Nat) (s : State) : AbPlan :=
  let k := s.core c
  let acc := bitOf w 23
  let neg := bitOf w 22
  let csc := bitOf w 21
  let bbc := bitOf w 20
  let bl := bits w 19 14
  let a := s.poly c (k.regNat (fA w))
  let b := s.poly c (k.regNat (fB w))
  let cc := s.poly c (k.regNat (fC w))
  let sh := if bbc then a else b
  let dst := a.shaped sh
  let scalars := bits (scratchNat s.mem k (k.regNat (fC w)) 4) 31 0
  let cPoly (p : Nat) : Nat := if cc.npoly == 1 then 0 else p
  let bUnits := if bbc then [(b.unit 0 bl, b.unit 0 bl + 4 * b.size)] else b.ranges
  let cUnits := if csc then [] else cc.ranges
  { dst := dst
    code := firstCode [
      (1, !b.ok || !a.clean || !dst.ok || (!bbc && acc && !a.ok) || (bbc && !a.ok) || (if csc then 2 ^ 22 ≤ scalars else !cc.ok)),
      (1, !a.sameRing sh || !b.sameRing sh || (!csc && (!cc.sameRing sh || !(cc.npoly == sh.npoly || cc.npoly == 1)))
        || (acc && a.npoly != sh.npoly) || (bbc && b.level < bl)),
      (2, (acc && !a.sameLevel sh) || (!csc && !cc.sameLevel sh)),
      (3, (acc && a.dom != sh.dom) || (bbc && b.dom != sh.dom) || (!csc && cc.dom != sh.dom)),
      (4, s.badModulus c sh false),
      (6, badOverlap dst.ranges (bUnits ++ cUnits))]
    areas := bUnits.map (fun r => ⟨r.1, r.2, 64, false⟩) ++ (if csc then [⟨cc.base, cc.base + 4 * sh.limbs, 4, false⟩] else areasOf cc)
    result := fun _ =>
      let outs := sh.units.map fun e =>
        let q := (s.modulus c sh e.2).q
        let n := sh.size
        let as := if acc then limbAt s.mem k (dst.unit e.1 e.2) n else []
        let bs := limbAt s.mem k (if bbc then b.unit 0 bl else b.unit e.1 e.2) n
        let cs := if csc then List.replicate n (scratchNat s.mem k (cc.base + 4 * e.2) 4)
          else limbAt s.mem k (cc.unit (cPoly e.1) e.2) n
        ((dst.unit e.1 e.2, residueBytes (maddUnit q acc neg as bs cs)), (as ++ bs ++ cs).any fun v => q ≤ v)
      ⟨outs.any (·.2), outs.map (·.1), [], 0⟩ }

def execMadd (x : Issue) (s : State) : Host.Outcome State Fault Refusal :=
  abIssue x s (fun w => abIllegal 0 true (bits w 13 0 == 0 && (bitOf w 20 || bits w 19 14 == 0)) w) true
    (fun w => [fA w, fB w] ++ (if bitOf w 21 then [] else [fC w])) maddPlan

/-! ## NTT and INTT (21 R484) -/

/-- The forward transform of a unit: position i receives A at br(i). -/
def nttUnit (m : Modulus) (n : Nat) (xs : List Nat) : List Nat :=
  let r := m.root n
  (List.range (2 ^ n)).map fun i => hornerMod m.q (powMod m.q 31 r (2 * bitRev n i + 1)) xs

/-- The inverse transform of a unit: from position i holding A at br(i). -/
def inttUnit (m : Modulus) (n : Nat) (xs : List Nat) : List Nat :=
  let y := powMod m.q 31 (m.root n) (2 * 2 ^ n - 1)
  let ninv := powMod m.q 31 ((m.q + 1) / 2) n
  let as := (List.range (2 ^ n)).map fun k => xs.getD (bitRev n k) 0
  (List.range (2 ^ n)).map fun j =>
    let yj := powMod m.q 31 y j
    ninv * (yj * hornerMod m.q (yj * yj % m.q) as) % m.q

/-- NTT and INTT. -/
def transformPlan (inverse : Bool) (c : CoreId) (w : Nat) (s : State) : AbPlan :=
  let k := s.core c
  let a := s.poly c (k.regNat (fA w))
  let b := s.poly c (k.regNat (fB w))
  let dst := { a.shaped b with dom := if inverse then 0 else 1 }
  { dst := dst
    code := firstCode [
      (1, !b.ok || !a.clean || !dst.ok),
      (1, !a.sameRing b),
      (3, b.dom != (if inverse then 1 else 0)),
      (4, s.badModulus c b true),
      (6, badOverlap dst.ranges b.ranges)]
    areas := areasOf b
    result := fun _ =>
      let outs := b.units.map fun e =>
        let m := s.modulus c b e.2
        let xs := limbAt s.mem k (b.unit e.1 e.2) b.size
        ((dst.unit e.1 e.2, residueBytes (if inverse then inttUnit m b.logn xs else nttUnit m b.logn xs)), xs.any fun v => m.q ≤ v)
      ⟨outs.any (·.2), outs.map (·.1), [], 0⟩ }

def execNtt (x : Issue) (s : State) : Host.Outcome State Fault Refusal :=
  abIssue x s (fun w => abIllegal 1 false (bits w 23 0 == 0) w) false (fun w => [fA w, fB w]) (transformPlan false)

def execIntt (x : Issue) (s : State) : Host.Outcome State Fault Refusal :=
  abIssue x s (fun w => abIllegal 2 false (bits w 23 0 == 0) w) false (fun w => [fA w, fB w]) (transformPlan true)

/-! ## AUTO (21 R485) -/

/-- σ_t on the coefficients of a unit: the one that reaches position u. -/
def autoCoeff (q n t : Nat) (xs : List Nat) : List Nat :=
  let size := 2 ^ n
  let moved : Tab Nat := (List.range size).foldl (fun (m : Tab Nat) (j : Nat) =>
    let u := j * t % (2 * size)
    let a := xs.getD j 0
    if u < size then tabSet 0 m u (a % q) else tabSet 0 m (u - size) ((q - a % q) % q)) []
  (List.range size).map fun u => tabGet 0 moved u

/-- σ_t on the evaluations of a unit. -/
def autoEval (q n t : Nat) (xs : List Nat) : List Nat :=
  (List.range (2 ^ n)).map fun i => xs.getD (bitRev n ((2 * bitRev n i + 1) * t % (2 * 2 ^ n) / 2)) 0 % q

def autoPlan (c : CoreId) (w : Nat) (s : State) : AbPlan :=
  let k := s.core c
  let a := s.poly c (k.regNat (fA w))
  let b := s.poly c (k.regNat (fB w))
  let dst := a.shaped b
  let v := bits w 17 0
  let t := if bitOf w 23 then powMod (2 * b.size) 18 5 v else v
  { dst := dst
    code := firstCode [
      (1, !b.ok || !a.clean || !dst.ok),
      (1, !a.sameRing b),
      (4, s.badModulus c b false),
      (5, t % 2 == 0 || 2 * b.size ≤ t),
      (6, overlaps dst.ranges b.ranges)]
    areas := areasOf b
    result := fun _ =>
      let outs := b.units.map fun e =>
        let q := (s.modulus c b e.2).q
        let xs := limbAt s.mem k (b.unit e.1 e.2) b.size
        ((dst.unit e.1 e.2, residueBytes (if b.dom == 0 then autoCoeff q b.logn t xs else autoEval q b.logn t xs)), xs.any fun v => q ≤ v)
      ⟨outs.any (·.2), outs.map (·.1), [], 0⟩ }

def execAuto (x : Issue) (s : State) : Host.Outcome State Fault Refusal :=
  abIssue x s (fun w => abIllegal 3 false (bits w 22 18 == 0) w) false (fun w => [fA w, fB w]) autoPlan

/-! ## KGEN (21 R486, R487) -/

/-- The residue KGEN regenerates. -/
def kgenValue (kseed kidx stream digit p limb q j : Nat) : Nat :=
  dice kseed kidx stream (digit * 2 ^ 25 + p * 2 ^ 23 + limb * 2 ^ 17 + j) * q / 2 ^ 64

def kgenPlan (c : CoreId) (w : Nat) (s : State) : AbPlan :=
  let k := s.core c
  let a := s.poly c (k.regNat (fA w))
  let v := scratchNat s.mem k (k.regNat (fB w)) 32
  let stream := bits v 111 96
  let dst := { a with dom := bits v 120 120 }
  let host := match s.partOf c with | some n => s.marionette (some n) 7 | none => false
  { dst := dst
    code := firstCode [
      (1, !a.ok),
      (4, s.badModulus c a false),
      (5, stream < 0xC000 || 0xE000 ≤ stream || bits v 127 121 != 0 || bits v 199 196 != 0 || bits v 255 200 != 0)]
    areas := []
    result := fun _ =>
      if host then
        ⟨false, [], dst.units.zipIdx.map fun e =>
          .keyUnit (Fin.ofNat 16 (bits v 195 192)) (BitVec.ofNat 64 (bits v 191 128 + 4 * a.size * e.2)) (dst.unit e.1.1 e.1.2)
            (4 * a.size) false, 0⟩
      else
        ⟨false, dst.units.map fun e =>
          (dst.unit e.1 e.2, residueBytes ((List.range a.size).map fun j =>
            kgenValue (bits v 63 0) (bits v 95 64) stream (bits v 119 112) e.1 (a.lbase + e.2) (s.modulus c a e.2).q j)), [],
          dst.units.length * a.size⟩ }

def execKgen (x : Issue) (s : State) : Host.Outcome State Fault Refusal :=
  abIssue x s (fun w => abIllegal 4 false (bits w 23 0 == 0) w) false (fun w => [fA w]) kgenPlan

/-! ## Completion (21 R487, R488) -/

/-- An operation that has ended with an outcome of its own: nothing more is written (21 R479). -/
def State.abEnds (s : State) (c : CoreId) (i : InFlight) (outcome : Nat) : State :=
  let s := s.modCore c fun k => { k with inflight := k.inflight.erase i }
  i.effects.foldl (fun (s : State) (e : Effect) => match e with
    | .abacus op _ _ _ => s.countAbacus c op outcome 0
    | .reg r _ => s.modCore c fun k => k.setReg r (BitVec.ofNat 64 outcome)
    | _ => s) s

/-- The registers of the transfer of one unit (21 R487): copy mode, NS 1, PRIO 0. -/
def keyRegs (g : ChanRegs) (src : W64) (dst len : Nat) : ChanRegs :=
  { g with src := src, dst := BitVec.ofNat 64 dst, cnt := BitVec.ofNat 32 len, ns := true, prio := 0, mode := 0 }

/-- The oldest AB of a core goes on (log 48): one that computes retires; a Marionette KGEN starts its next unit on a channel that
is free, and ends with its last unit, a refused start or a bus error. -/
def State.abNext (s : State) (c : CoreId) : State :=
  match (s.core c).inflight.find? (fun i => i.unit == .abacus) with
  | none => s
  | some i =>
    match i.effects with
    | .keyUnit ch src dst len started :: rest =>
      let x := (s.core c).chans[ch]
      let start (s : State) (es : List Effect) : State := match es with
        | .keyUnit ch src dst len _ :: es' =>
          let y := (s.core c).chans[ch]
          let s := s.setChan c ch (({ y with regs := keyRegs y.regs src dst len }).start false)
          s.modCore c fun k => { k with inflight := k.inflight.map fun (j : InFlight) =>
            if j == i then { j with effects := .keyUnit ch src dst len true :: es' } else j }
        | es => s.modCore c fun k => { k with inflight := k.inflight.map fun (j : InFlight) => if j == i then { j with effects := es } else j }
      let left := (i.effects.filter fun e => match e with | .keyUnit _ _ _ _ _ => true | _ => false).length
      let total := i.effects.foldl (fun (n : Nat) (e : Effect) => match e with | .abacus _ _ u _ => u | _ => n) 0
      if x.state.isActive then s
      else if !started then start s (.keyUnit ch src dst len started :: rest)
      else if x.state == .done then
        let s := start (bumpOf s c 0x9000 6 len) rest
        if left == 1 then s.retireUnit c .abacus else s
      else if x.state == .rejected then s.abEnds c i 7
      else if x.state == .stoppedByEngine then s.abEnds c i (8 + (total - left) * 2 ^ 16)
      else s.abEnds c i 9
    | _ => s.retireUnit c .abacus

/-- AB_EXECUTION_COMPLETE. -/
def execAbExecutionComplete (c : CoreId) (s : State) : Host.Outcome State Fault Refusal := .next (s.abNext c)

end Sys2Proof.Machine
end

