-- ==== Sys2Proof/Machine/Ieee.lean ====
section
/-!
DEFINITION. The IEEE unit: binary32 and binary64 arithmetic under IEEE_CFG.RND with default exception handling, the FV and
FS instructions, SSQ, CVTI, CVTF and their retirement (06 R160; 07 R190, R191).
-/
namespace Sys2Proof.Machine

/-! ## Binary floating point -/

/-- A binary format: significand bits and exponent bits. -/
structure FpFmt where
  p : Nat
  w : Nat
  deriving DecidableEq, Repr

def fmt32 : FpFmt := ⟨24, 8⟩
def fmt64 : FpFmt := ⟨53, 11⟩

def FpFmt.bias (f : FpFmt) : Int := (2 ^ (f.w - 1) : Nat) - 1

/-- The encoding of positive infinity. -/
def FpFmt.infCode (f : FpFmt) : Nat := (2 ^ f.w - 1) * 2 ^ (f.p - 1)

def FpFmt.signCode (f : FpFmt) (neg : Bool) : Nat := b2n neg * 2 ^ (f.p - 1 + f.w)

/-- The NaN an invalid operation returns (06 R160). -/
def FpFmt.nanCode (f : FpFmt) : Nat := f.infCode + 2 ^ (f.p - 2)

/-- An unpacked operand: NaN with its word and whether it signals, an infinity, or (−1)^neg × m × 2^e. -/
inductive Fp where
  | nan (word : Nat) (signaling : Bool)
  | inf (neg : Bool)
  | num (neg : Bool) (m : Nat) (e : Int)
  deriving DecidableEq, Repr

def FpFmt.unpack (f : FpFmt) (x : Nat) : Fp :=
  let man := x % 2 ^ (f.p - 1)
  let ex := x / 2 ^ (f.p - 1) % 2 ^ f.w
  let s := bitOf x (f.p - 1 + f.w)
  if ex == 2 ^ f.w - 1 then (if man == 0 then .inf s else .nan (x % 2 ^ (f.p + f.w)) (!bitOf x (f.p - 2)))
  else if ex == 0 then .num s man (1 - f.bias - (f.p - 1 : Nat))
  else .num s (man + 2 ^ (f.p - 1)) ((ex : Int) - f.bias - (f.p - 1 : Nat))

/-! IEEE_STAT flags (06 R160). -/
def fInv : Nat := 16
def fDz : Nat := 8
def fOfl : Nat := 4
def fUfl : Nat := 2
def fInx : Nat := 1

/-- A result word and the flags it raises. -/
structure FpRes where
  word : Nat
  flags : Nat
  deriving DecidableEq, Repr

/-- n/d as an integer in a rounding attribute 0–4 (06 R160), and whether it was inexact. -/
def roundDiv (mode : Nat) (neg : Bool) (n d : Nat) : Nat × Bool :=
  let q := n / d
  let r := n % d
  let up := match mode with
    | 0 => d < 2 * r || (2 * r == d && q % 2 == 1)
    | 1 => false
    | 2 => r != 0 && !neg
    | 3 => r != 0 && neg
    | _ => d ≤ 2 * r
  (if up then q + 1 else q, r != 0)

/-- n/d × 2^(e − q), rounded to an integer. -/
def roundAt (mode : Nat) (neg : Bool) (n d : Nat) (e q : Int) : Nat × Bool :=
  if q ≤ e then roundDiv mode neg (n * 2 ^ (e - q).toNat) d else roundDiv mode neg n (d * 2 ^ (q - e).toNat)

/-- The positive value n/d × 2^e, with a sign, rounded into a format; tininess after rounding (06 R160). -/
def FpFmt.round (f : FpFmt) (mode : Nat) (neg : Bool) (n d : Nat) (e : Int) : FpRes :=
  let top := floorLog2 n d + e
  let low := 1 - f.bias
  let (mu, _) := roundAt mode neg n d e (top - (f.p - 1 : Nat))
  let tiny := (if mu == 2 ^ f.p then top + 1 else top) < low
  let ex := max top low
  let (m, ix) := roundAt mode neg n d e (ex - (f.p - 1 : Nat))
  let body := m + 2 ^ (f.p - 1) * (ex + f.bias - 1).toNat
  let s := f.signCode neg
  if f.infCode ≤ body then
    let toInf := mode == 0 || mode == 4 || (mode == 2 && !neg) || (mode == 3 && neg)
    ⟨s + (if toInf then f.infCode else f.infCode - 1), fOfl + fInx⟩
  else ⟨s + body, if ix then fInx + (if tiny then fUfl else 0) else 0⟩

/-- A NaN word, quieted. -/
def FpFmt.quiet (f : FpFmt) (x : Nat) : Nat := if bitOf x (f.p - 2) then x else x + 2 ^ (f.p - 2)

/-- The first NaN among operands, quieted, with INV where one signals (06 R160). -/
def FpFmt.firstNan (f : FpFmt) (ops : List Fp) : Option FpRes :=
  let sig := ops.any fun o => match o with | .nan _ true => true | _ => false
  ops.findSome? fun o => match o with
    | .nan w _ => some ⟨f.quiet w, if sig then fInv else 0⟩
    | _ => none

def FpFmt.invalid (f : FpFmt) : FpRes := ⟨f.nanCode, fInv⟩

def FpFmt.zero (f : FpFmt) (neg : Bool) : FpRes := ⟨f.signCode neg, 0⟩

def FpFmt.infinity (f : FpFmt) (neg : Bool) : FpRes := ⟨f.signCode neg + f.infCode, 0⟩

/-- The sum of two finite numbers (IEEE 754-2019 by way of 07 R190). -/
def FpFmt.sum (f : FpFmt) (mode : Nat) (s1 : Bool) (m1 : Nat) (e1 : Int) (s2 : Bool) (m2 : Nat) (e2 : Int) : FpRes :=
  let e := min e1 e2
  let a : Int := (m1 * 2 ^ (e1 - e).toNat : Nat)
  let b : Int := (m2 * 2 ^ (e2 - e).toNat : Nat)
  let t := (if s1 then -a else a) + (if s2 then -b else b)
  if t == 0 then f.zero (if s1 == s2 then s1 else mode == 3)
  else f.round mode (t < 0) t.natAbs 1 e

def FpFmt.addFp (f : FpFmt) (mode : Nat) (a b : Fp) : FpRes :=
  match f.firstNan [a, b] with
  | some r => r
  | none =>
    match a, b with
    | .inf s, .inf t => if s == t then f.infinity s else f.invalid
    | .inf s, _ => f.infinity s
    | _, .inf t => f.infinity t
    | .num s m e, .num t n g => f.sum mode s m e t n g
    | _, _ => f.invalid

def Fp.negate : Fp → Fp
  | .inf s => .inf (!s)
  | .num s m e => .num (!s) m e
  | x => x

/-- a − b: a NaN operand keeps its own sign. -/
def FpFmt.subFp (f : FpFmt) (mode : Nat) (a b : Fp) : FpRes := f.addFp mode a b.negate

def FpFmt.mulFp (f : FpFmt) (mode : Nat) (a b : Fp) : FpRes :=
  match f.firstNan [a, b] with
  | some r => r
  | none =>
    match a, b with
    | .inf s, .inf t => f.infinity (s != t)
    | .inf s, .num t m _ => if m == 0 then f.invalid else f.infinity (s != t)
    | .num s m _, .inf t => if m == 0 then f.invalid else f.infinity (s != t)
    | .num s m e, .num t n g => if m == 0 || n == 0 then f.zero (s != t) else f.round mode (s != t) (m * n) 1 (e + g)
    | _, _ => f.invalid

def FpFmt.divFp (f : FpFmt) (mode : Nat) (a b : Fp) : FpRes :=
  match f.firstNan [a, b] with
  | some r => r
  | none =>
    match a, b with
    | .inf _, .inf _ => f.invalid
    | .inf s, .num t _ _ => f.infinity (s != t)
    | .num s _ _, .inf t => f.zero (s != t)
    | .num s m e, .num t n g =>
      if n == 0 then (if m == 0 then f.invalid else { f.infinity (s != t) with flags := fDz })
      else if m == 0 then f.zero (s != t)
      else f.round mode (s != t) m n (e - g)
    | _, _ => f.invalid

/-- The square root of m × 2^e with e even, as an integer and a sticky bit: enough bits for one rounding. -/
def rootBits (p m : Nat) (e : Int) : Nat × Int :=
  let k := p + 2
  let x := m * 2 ^ (2 * k)
  let r := Nat.sqrt x
  (2 * r + b2n (r * r != x), e / 2 - (k : Int) - 1)

def FpFmt.sqrtFp (f : FpFmt) (mode : Nat) (a : Fp) : FpRes :=
  match f.firstNan [a] with
  | some r => r
  | none =>
    match a with
    | .inf s => if s then f.invalid else f.infinity false
    | .num s m e =>
      if m == 0 then f.zero s
      else if s then f.invalid
      else
        let (n, q) := if e % 2 == 0 then rootBits f.p m e else rootBits f.p (2 * m) (e - 1)
        f.round mode false n 1 q
    | _ => f.invalid

/-- a × b + c with one rounding. Whether zero times infinity plus a quiet NaN raises INV is open in IEEE 754 (log 28). -/
def FpFmt.fmaFp (f : FpFmt) (mode : Nat) (a b c : Fp) : FpRes :=
  let zeroInf := match a, b with
    | .inf _, .num _ 0 _ => true
    | .num _ 0 _, .inf _ => true
    | _, _ => false
  match f.firstNan [a, b, c] with
  | some r => if zeroInf && Config.fmaInvalidWithNan then { r with flags := fInv } else r
  | none =>
    if zeroInf then f.invalid
    else match a, b, c with
    | .num s m e, .num t n g, .num u o h => f.sum mode (s != t) (m * n) (e + g) u o h
    | .num _ _ _, .num _ _ _, .inf u => f.infinity u
    | x, y, z =>
      let neg (v : Fp) : Bool := match v with | .inf s => s | .num s _ _ => s | _ => false
      let s := neg x != neg y
      match z with
      | .inf u => if s == u then f.infinity s else f.invalid
      | _ => f.infinity s

/-- a < b for operands that are not NaN. -/
def Fp.lt : Fp → Fp → Bool
  | .inf s, .inf t => s && !t
  | .inf s, _ => s
  | _, .inf t => !t
  | .num s m e, .num t n g =>
    let q := min e g
    let a : Int := (m * 2 ^ (e - q).toNat : Nat)
    let b : Int := (n * 2 ^ (g - q).toNat : Nat)
    (if s then -a else a) < (if t then -b else b)
  | _, _ => false

/-- maximumNumber and minimumNumber (06 R160): `big` chooses the maximum; x and y are the operand words. -/
def FpFmt.pickFp (f : FpFmt) (big : Bool) (x y : Nat) : FpRes :=
  let a := f.unpack x
  let b := f.unpack y
  let isNan (v : Fp) : Bool := match v with | .nan _ _ => true | _ => false
  let sig := [a, b].any fun o => match o with | .nan _ true => true | _ => false
  let fl := if sig then fInv else 0
  if isNan a && isNan b then ⟨f.quiet x, fl⟩
  else if isNan a then ⟨y, fl⟩
  else if isNan b then ⟨x, fl⟩
  else if a.lt b then ⟨if big then y else x, 0⟩
  else if b.lt a then ⟨if big then x else y, 0⟩
  else ⟨if bitOf x (f.p - 1 + f.w) == big then y else x, 0⟩

/-- convertFormat; a NaN keeps the high bits of its payload, quieted (06 R160; log 29). -/
def convertFp (src dst : FpFmt) (mode : Nat) (x : Nat) : FpRes :=
  match src.unpack x with
  | .nan w sig =>
    let man := src.quiet w % 2 ^ (src.p - 1)
    let man := if src.p ≤ dst.p then man * 2 ^ (dst.p - src.p) else man / 2 ^ (src.p - dst.p)
    ⟨dst.signCode (bitOf w (src.p - 1 + src.w)) + dst.infCode + man, if sig then fInv else 0⟩
  | .inf s => dst.infinity s
  | .num s m e => if m == 0 then dst.zero s else dst.round mode s m 1 e

/-- A quiet compare: false and INV for a signaling NaN (07 R190). -/
def FpFmt.compare (f : FpFmt) (p : Fp → Fp → Bool) (x y : Nat) : FpRes :=
  let a := f.unpack x
  let b := f.unpack y
  match f.firstNan [a, b] with
  | some r => ⟨0, r.flags⟩
  | none => ⟨b2n (p a b), 0⟩

/-- convertToIntegerExact into a signed 64-bit word (07 R190). -/
def FpFmt.toInt64 (f : FpFmt) (mode : Nat) (x : Nat) : FpRes :=
  let bad : FpRes := ⟨2 ^ 63, fInv⟩
  match f.unpack x with
  | .num s m e =>
    let (n, ix) := roundAt mode s m 1 e 0
    if (if s then 2 ^ 63 else 2 ^ 63 - 1) < n then bad else ⟨unsigned 64 (if s then -(n : Int) else n), if ix then fInx else 0⟩
  | _ => bad

/-- A signed 64-bit integer in a format (07 R190). -/
def FpFmt.ofInt64 (f : FpFmt) (mode : Nat) (x : Nat) : FpRes :=
  let v := signed 64 x
  if v == 0 then f.zero false else f.round mode (v < 0) v.natAbs 1 0

/-! ## FV -/

def fvOp (w : Nat) : Nat := bits w 27 24
def fvRows (w : Nat) : Nat := bits w 23 19 + 1
def fvCols (w : Nat) : Nat := bits w 18 14 + 1

def fpOfFmt (f : Nat) : FpFmt := if f == 2 then fmt32 else fmt64

/-- An FV operation: its code, whether it reads TB and TD. -/
structure FvOp where
  op : Nat
  binary : Bool
  reads : Bool
  deriving DecidableEq, Repr

def fvIllegal (o : FvOp) (w : Nat) : Option CoreFault :=
  require [fH w == 0, isS (fP w), fvOp w == o.op, bits w 13 6 == 0, bits w 5 0 == 0, o.binary || fTB w == 0]

/-- An FV instruction over a tile: `f` takes the source format, the destination format, the rounding and the operand words (07 R190). -/
def fvTile (x : Issue) (s : State) (o : FvOp) (f : FpFmt → FpFmt → Nat → Nat → Nat → Nat → FpRes) : Host.Outcome State Fault Refusal :=
  issue x s 0x60 (fun _ w => fvIllegal o w) fun c w s =>
    let k := s.core c
    if s.unready c [fP w] then .stall
    else
      let p := Place.of (k.regNat (fP w))
      let rows := fvRows w
      let cols := fvCols w
      let fd := (k.desc (fTD w)).fmt
      let same := if o.op == 8 then (if fd == 2 then [3] else if fd == 3 then [2] else [2, 3])
        else if fd == 2 || fd == 3 then [fd] else [2, 3]
      let td := tileOperand k (fTD w) [2, 3] p.row0 p.col0 rows cols true
      let ta := tileOperand k (fTA w) same p.row0 p.col0 rows cols false
      let tb := tileOperand k (fTB w) same p.row0 p.col0 rows cols false
      let ops := if o.binary then [td, ta, tb] else [td, ta]
      match s.checkOperands c ops [] p.ok with
      | .wait => .stall
      | .fault f => .fault f
      | .ok =>
        if k.blocked (allRanges ops []) (writtenRanges ops []) || k.unitFull .ieee then .stall
        else
          let n := fmtBytes td.desc.fmt
          let read (d : Desc) (r j : Nat) : Nat := if d.inside r j then scratchNat s.mem k (d.addr r j) (fmtBytes d.fmt) else 0
          let elems := (List.range rows).flatMap fun r => (List.range cols).filterMap fun j =>
            let row := p.row0 + r
            let col := p.col0 + j
            if td.desc.inside row col then
              some (td.desc.addr row col, f (fpOfFmt ta.desc.fmt) (fpOfFmt td.desc.fmt) k.ieeeRnd (read ta.desc row col)
                (if o.binary then read tb.desc row col else 0) (if o.reads then read td.desc row col else 0))
            else none
          let t : TileOut := { TileOut.empty with writes := elems.map fun e => (e.1, leBytes n e.2.word) }
          .done (s.launch c {
            unit := .ieee, pc := k.pc, tag := k.tag, pass := none
            effects := t.stores k ++ [.ieee (elems.foldl (fun m e => m ||| e.2.flags) 0)]
            ranges := writtenRanges ops [], slots := [], readSlots := [], regs := [], sets := [], table := false
            reads := allRanges ops [] })

/-- The operations that FV and FS share, on words of one format (07 R190). -/
def opAdd (f : FpFmt) (r a b : Nat) : FpRes := f.addFp r (f.unpack a) (f.unpack b)
def opSub (f : FpFmt) (r a b : Nat) : FpRes := f.subFp r (f.unpack a) (f.unpack b)
def opMul (f : FpFmt) (r a b : Nat) : FpRes := f.mulFp r (f.unpack a) (f.unpack b)
def opDiv (f : FpFmt) (r a b : Nat) : FpRes := f.divFp r (f.unpack a) (f.unpack b)
def opSqrt (f : FpFmt) (r a : Nat) : FpRes := f.sqrtFp r (f.unpack a)
def opFma (f : FpFmt) (r a b d : Nat) : FpRes := f.fmaFp r (f.unpack a) (f.unpack b) (f.unpack d)

def execFvAdd (x : Issue) (s : State) : Host.Outcome State Fault Refusal := fvTile x s ⟨0, true, false⟩ fun f _ r a b _ => opAdd f r a b
def execFvSub (x : Issue) (s : State) : Host.Outcome State Fault Refusal := fvTile x s ⟨1, true, false⟩ fun f _ r a b _ => opSub f r a b
def execFvMul (x : Issue) (s : State) : Host.Outcome State Fault Refusal := fvTile x s ⟨2, true, false⟩ fun f _ r a b _ => opMul f r a b
def execFvDiv (x : Issue) (s : State) : Host.Outcome State Fault Refusal := fvTile x s ⟨3, true, false⟩ fun f _ r a b _ => opDiv f r a b
def execFvSqrt (x : Issue) (s : State) : Host.Outcome State Fault Refusal := fvTile x s ⟨4, false, false⟩ fun f _ r a _ _ => opSqrt f r a
def execFvFma (x : Issue) (s : State) : Host.Outcome State Fault Refusal := fvTile x s ⟨5, true, true⟩ fun f _ r a b d => opFma f r a b d
def execFvMax (x : Issue) (s : State) : Host.Outcome State Fault Refusal := fvTile x s ⟨6, true, false⟩ fun f _ _ a b _ => f.pickFp true a b
def execFvMin (x : Issue) (s : State) : Host.Outcome State Fault Refusal := fvTile x s ⟨7, true, false⟩ fun f _ _ a b _ => f.pickFp false a b
def execFvCvt (x : Issue) (s : State) : Host.Outcome State Fault Refusal := fvTile x s ⟨8, false, false⟩ fun f g _ a _ _ => convertFp f g 0 a

/-- An operation on FP64 words whose flags join those so far. -/
def FpRes.next (r : FpRes) (f : Nat → FpRes) : FpRes := let t := f r.word; ⟨t.word, r.flags ||| t.flags⟩

/-- The four lanes of SSQ after the elements, e counted from `i` (07 R191). -/
def ssqLanes (mode : Nat) : List FpRes → Nat → Vector FpRes 4 → Vector FpRes 4
  | [], _, ls => ls
  | x :: xs, i, ls =>
    let j : Fin 4 := Fin.ofNat 4 i
    let l := ls[j]
    let l' := l.next fun v => opFma fmt64 mode x.word x.word v
    ssqLanes mode xs (i + 1) (ls.set j { l' with flags := l'.flags ||| x.flags })

/-- s[SD] + ((lane0 + lane1) + (lane2 + lane3)) (07 R191). -/
def ssqSum (mode sd : Nat) (ls : Vector FpRes 4) : FpRes :=
  let add (a b : FpRes) : FpRes := let t := opAdd fmt64 mode a.word b.word; ⟨t.word, a.flags ||| b.flags ||| t.flags⟩
  add ⟨sd, 0⟩ (add (add ls[0] ls[1]) (add ls[2] ls[3]))

def execFvSsq (x : Issue) (s : State) : Host.Outcome State Fault Refusal :=
  issue x s 0x60 (fun _ w => require [fH w == 0, isS (fP w), fvOp w == 9, bits w 13 6 == 0, fTB w == 0, fTD w == 0, isS (bits w 5 0)]) fun c w s =>
    let k := s.core c
    let sd := bits w 5 0
    if s.unready c [fP w, sd] then .stall
    else
      let p := Place.of (k.regNat (fP w))
      let ta := tileOperand k (fTA w) [2, 3] p.row0 p.col0 (fvRows w) (fvCols w) false
      match s.checkOperands c [ta] [] p.ok with
      | .wait => .stall
      | .fault f => .fault f
      | .ok =>
        if k.blocked (allRanges [ta] []) [] || k.unitFull .ieee then .stall
        else
          let elems := (List.range (fvRows w)).flatMap fun r => (List.range (fvCols w)).filterMap fun j =>
            let row := p.row0 + r
            let col := p.col0 + j
            if ta.desc.inside row col then
              let v := scratchNat s.mem k (ta.desc.addr row col) (fmtBytes ta.desc.fmt)
              some (if ta.desc.fmt == 2 then convertFp fmt32 fmt64 k.ieeeRnd v else ⟨v, 0⟩)
            else none
          let r := ssqSum k.ieeeRnd (k.regNat sd) (ssqLanes k.ieeeRnd elems 0 (.replicate 4 ⟨0, 0⟩))
          .done (s.launch c {
            unit := .ieee, pc := k.pc, tag := k.tag, pass := none
            effects := [.reg sd (BitVec.ofNat 64 r.word), .ieee r.flags]
            ranges := [], slots := [], readSlots := [], regs := [sd], sets := [], table := false
            reads := allRanges [ta] [] })

/-! ## FS -/

/-- The width of an FS operation (07 R190). -/
def fsFmt (w : Nat) : FpFmt := if bitOf w 29 then fmt64 else fmt32

/-- The operation that an FS instruction puts into its unit: its result goes to D, its flags to IEEE_STAT (06 R146, R160; 07 R190). -/
def fsOperation (k : Core) (w : Nat) (r : FpRes) : InFlight :=
  { unit := .ieee, pc := k.pc, tag := k.tag, pass := none
    effects := [.reg (fD w) (BitVec.ofNat 64 r.word), .ieee r.flags]
    ranges := [], slots := [], readSlots := [], regs := [fD w], sets := [], table := false, reads := [] }

/-- An FS instruction: `f` takes the word of its format, the rounding, A, B and D (07 R190). -/
def fsScalar (x : Issue) (s : State) (op : Nat) (binary reads : Bool) (f : FpFmt → Nat → Nat → Nat → Nat → FpRes) : Host.Outcome State Fault Refusal :=
  issue x s 0x61 (fun _ w => require [isReg (fD w), isReg (fA w), if binary then isReg (fB w) else fB w == 0,
      bits w 33 30 == op, bits w 28 0 == 0]) fun c w s =>
    let k := s.core c
    if s.unready c ([fD w, fA w] ++ if binary then [fB w] else []) || k.unitFull .ieee then .stall
    else
      let r := f (fsFmt w) k.ieeeRnd (k.regNat (fA w)) (if binary then k.regNat (fB w) else 0) (if reads then k.regNat (fD w) else 0)
      .done (s.launch c (fsOperation k w r))

/-- The operand of a format: an FP32 operand is bits [31:0] (07 R190). -/
def FpFmt.cut (f : FpFmt) (v : Nat) : Nat := v % 2 ^ (f.p + f.w)

def execFsAdd (x : Issue) (s : State) : Host.Outcome State Fault Refusal := fsScalar x s 0 true false fun f r a b _ => opAdd f r a b
def execFsSub (x : Issue) (s : State) : Host.Outcome State Fault Refusal := fsScalar x s 1 true false fun f r a b _ => opSub f r a b
def execFsMul (x : Issue) (s : State) : Host.Outcome State Fault Refusal := fsScalar x s 2 true false fun f r a b _ => opMul f r a b
def execFsDiv (x : Issue) (s : State) : Host.Outcome State Fault Refusal := fsScalar x s 3 true false fun f r a b _ => opDiv f r a b
def execFsSqrt (x : Issue) (s : State) : Host.Outcome State Fault Refusal := fsScalar x s 4 false false fun f r a _ _ => opSqrt f r a
def execFsFma (x : Issue) (s : State) : Host.Outcome State Fault Refusal := fsScalar x s 5 true true fun f r a b d => opFma f r a b d
def execFsMax (x : Issue) (s : State) : Host.Outcome State Fault Refusal := fsScalar x s 6 true false fun f _ a b _ => f.pickFp true (f.cut a) (f.cut b)
def execFsMin (x : Issue) (s : State) : Host.Outcome State Fault Refusal := fsScalar x s 7 true false fun f _ a b _ => f.pickFp false (f.cut a) (f.cut b)
def execFsCvt (x : Issue) (s : State) : Host.Outcome State Fault Refusal :=
  fsScalar x s 8 false false fun f _ a _ _ => convertFp f (if f == fmt32 then fmt64 else fmt32) 0 a
def execFsCmplt (x : Issue) (s : State) : Host.Outcome State Fault Refusal := fsScalar x s 9 true false fun f _ a b _ => f.compare Fp.lt a b
def execFsCmpeq (x : Issue) (s : State) : Host.Outcome State Fault Refusal :=
  fsScalar x s 10 true false fun f _ a b _ => f.compare (fun p q => !p.lt q && !q.lt p) a b
def execCvti (x : Issue) (s : State) : Host.Outcome State Fault Refusal := fsScalar x s 11 false false fun f r a _ _ => f.toInt64 r a
def execCvtf (x : Issue) (s : State) : Host.Outcome State Fault Refusal := fsScalar x s 12 false false fun f r a _ _ => f.ofInt64 r a

/-- IEEE_RETIRE (06 R146). -/
def execIeeeRetire (c : CoreId) (s : State) : Host.Outcome State Fault Refusal := .next (s.retireUnit c .ieee)

end Sys2Proof.Machine
end

