-- ==== Sys2Proof/Machine/ScaleHistory.lean ====
section
/-!
DEFINITION. Scale histories: the record, SHINIT, SHOBS, SHCMT, SHDSC, SHDER with the host's scale, SHANC, and the commit and
discard walk over the records that SHDIR lists (05 R121–R139; 07 R192).
-/
namespace Sys2Proof.Machine

/-! ## Reading and writing records -/

def State.shRead (s : State) (c : CoreId) (at_ : Nat) : ShRec := .ofNat (scratchNat s.mem (s.core c) at_ 128)

def State.shWrite (s : State) (c : CoreId) (at_ : Nat) (r : ShRec) : State :=
  { s with mem := scratchWrite s.mem (s.core c) at_ r.bytes }

/-- An object of the partition a core belongs to; the default for a core of the free pool. -/
def State.partObj (s : State) (c : CoreId) (index sub default_ : Nat) : Nat :=
  match (s.core c).part with
  | some n => objGet s (some n) index sub
  | none => default_

/-- The SCALE duty of a core's partition is Marionette (05 R137, 15 R347). -/
def State.scaleMarionette (s : State) (c : CoreId) : Bool := s.partObj c 0x5100 2 0 == 1

/-- A host access of R138 passes checks 3, 5 and 8 of 09 R226. -/
def State.shHostOk (s : State) (c : CoreId) (haddr off len : Nat) (write : Bool) : Bool :=
  spaceOf haddr == 1 && !unusedBits haddr && offsetOf haddr + off + len ≤ 2 ^ 52 &&
    match (s.core c).part with
    | some n => s.hostInside n (offsetOf haddr + off) len write
    | none => false

/-- SHDER took its own value: HOST_LATE counts (05 R137, R138). -/
def State.shLate (s : State) (c : CoreId) : State := bumpOf s c 0x6010 4

/-- Commit(s) on one record: the books, and in Marionette mode the record's bytes to the host, once its channel is not active
(05 R127, R137, R138). -/
def State.shCommit (s : State) (c : CoreId) (at_ step : Nat) : State :=
  match (s.shRead c at_).commit step with
  | none => s
  | some r =>
    let s := bumpOf (s.shWrite c at_ r) c 0x6010 1
    let s := match (s.core c).part with | some n => objSet s (some n) 0x6010 7 step | none => s
    if !s.scaleMarionette c then s
    else if r.pch ≤ 15 && s.shHostOk c r.haddr 64 96 true then
      (s.modCore c fun k => { k with
        hostWrites := k.hostWrites ++ [(Fin.ofNat 16 r.pch, offsetOf r.haddr + 64, r.bytes.take 96)] }).porterGoesOn c
    else (s.shLate c).shWrite c at_ (r.mark 3)

/-- Discard(s) on one record (05 R127). -/
def State.shDiscard (s : State) (c : CoreId) (at_ step : Nat) : State :=
  let (r, n) := (s.shRead c at_).discard step
  bumpOf (s.shWrite c at_ r) c 0x6010 2 n

/-- A walk skips a record whose bank the core does not own: MISS waits for the bank, the skip is counted and reported (05 R128). -/
def State.shSkip (s : State) (c : CoreId) (at_ : Nat) : State :=
  let s := s.modCore c fun k => { k with missed := k.missed ++ [at_] }
  postEvent (bumpOf s c 0x6010 6) 0x12 (s.core c).part (some c) at_

/-- The core owns the bank of a record: it is OWNED, or clears for the core, whatever handover is under way (05 R128). -/
def State.ownsRecord (s : State) (c : CoreId) (at_ : Nat) : Bool :=
  match (s.core c).windows[windowOf at_] with
  | some m => (match s.bank m (windowOf at_) with
    | .owned o => o == c
    | .transit t => t == c
    | .clearing (.core o) => o == c
    | _ => false)
  | none => false

/-- The walk over the records SHDIR lists, in address order (05 R127, R128). -/
def State.shWalk (s : State) (c : CoreId) (step : Nat) (commit : Bool) : State :=
  let k := s.core c
  (List.range k.shdirCount).foldl (fun s i =>
    let a := (k.shdirBase + i) * 128
    if a + 128 ≤ 0x400000 && s.ownsRecord c a then
      let s := s.wakeBanks c [(a, a + 128)]
      if commit then s.shCommit c a step else s.shDiscard c a step
    else s.shSkip c a) s

/-! ## The instructions (07 R192) -/

def shRecFault : CoreFault := descFault 8 0 0xF

/-- The checks of a named record in the order of 06 R149: RANGE, NOT_OWNED, then SH_REC for one that is not aligned or, where it is
read, of illegal contents (05 R125; log 30). -/
def State.shCheck (s : State) (c : CoreId) (at_ : List Nat) (reads : Bool) (go : Unit → Act) : Act :=
  let rs := at_.map fun a => (a, a + 128)
  if at_.any fun a => 0x400000 < a + 128 then .fault (descFault 2 0 0xF)
  else match s.heldAll c rs with
  | .wait => .stall
  | .no => .fault (descFault 5 0 0xF)
  | .owned =>
    if at_.any fun a => a % 128 != 0 then .fault shRecFault
    else if (s.core c).rangeBusy rs || s.napping c rs then .stall
    else if reads && at_.any (fun a => (s.shRead c a).bad) then .fault shRecFault
    else go ()

/-- An earlier instruction has not yet folded into this AMX register (05 R123). -/
def Core.amxBusy (k : Core) (n : Fin 8) : Bool :=
  k.creds.any (fun q => q.mode == 1 && q.axn == n.val) ||
    k.inflight.any fun i => i.effects.any fun e => match e with | .amx m _ _ => m == n | _ => false

def execShinit (x : Issue) (s : State) : Host.Outcome State Fault Refusal :=
  issue x s 0x68 (fun _ w => require [fD w == 0, isReg (fA w), fB w == 0, fC w == 0, bits w 27 6 == 0, bits w 5 0 ≤ 32]) fun c w s =>
    if s.unready c [fA w] then .stall
    else
      let a := (s.core c).regNat (fA w)
      s.shCheck c [a] false fun _ =>
        let len := if bits w 5 0 == 0 then s.partObj c 0x6000 1 16 else bits w 5 0
        let r := { ShRec.ofNat 0 with len := len, tgt := s.partObj c 0x6000 3 0, hdr := s.partObj c 0x6000 2 2 }
        .done (s.shWrite c a r)

def execShobs (x : Issue) (s : State) : Host.Outcome State Fault Refusal :=
  issue x s 0x69 (fun _ w => require [fD w == 0, isReg (fA w), fB w == 0, fC w == 0, bits w 27 3 == 0]) fun c w s =>
    let k := s.core c
    let n : Fin 8 := Fin.ofNat 8 (bits w 2 0)
    if s.unready c [fA w] || k.amxBusy n then .stall
    else
      let a := k.regNat (fA w)
      s.shCheck c [a] true fun _ =>
        let (r, exceeds) := (s.shRead c a).observe (k.amx[n]).amax k.stepno.toNat
        let s := (s.shWrite c a r).modCore c fun k => { k with amx := k.amx.set n .reset }
        .done (if exceeds then bumpOf s c 0x6010 3 else s)

def execShcmt (x : Issue) (s : State) : Host.Outcome State Fault Refusal :=
  issue x s 0x6A (fun _ w => require [fD w == 0, isReg (fA w), isReg (fB w), fC w == 0, bits w 27 0 == 0]) fun c w s =>
    if s.unready c [fA w, fB w] then .stall
    else
      let a := (s.core c).regNat (fA w)
      s.shCheck c [a] true fun _ => .done (s.shCommit c a ((s.core c).regNat (fB w) % 2 ^ 32))

def execShdsc (x : Issue) (s : State) : Host.Outcome State Fault Refusal :=
  issue x s 0x6B (fun _ w => require [fD w == 0, isReg (fA w), isReg (fB w), fC w == 0, bits w 27 0 == 0]) fun c w s =>
    if s.unready c [fA w, fB w] then .stall
    else
      let a := (s.core c).regNat (fA w)
      s.shCheck c [a] true fun _ => .done (s.shDiscard c a ((s.core c).regNat (fB w) % 2 ^ 32))

/-- SHDER ends: SCALE takes a value, and D receives it (05 R129, R137; 07 R192). -/
def State.shFinish (s : State) (c : CoreId) (dreg at_ : Nat) (r : ShRec) (scale : Nat) : State :=
  (s.shWrite c at_ { r with scale := scale }).modCore c fun k => k.setReg dreg (BitVec.ofNat 64 scale)

def execShder (x : Issue) (s : State) : Host.Outcome State Fault Refusal :=
  issue x s 0x6C (fun _ w => require [isReg (fD w), isReg (fA w), fB w == 0, fC w == 0, bits w 27 0 == 0]) fun c w s =>
    let k := s.core c
    if s.unready c [fD w, fA w] || k.shder.isSome then .stall
    else
      let a := k.regNat (fA w)
      s.shCheck c [a] true fun _ =>
        let r := s.shRead c a
        let (d, empty) := r.derive k.stepno.toNat
        let r := if empty then r.mark 2 else r
        if !s.scaleMarionette c then .done (s.shFinish c (fD w) a r d)
        else if !s.shHostOk c r.haddr 0 8 false then .done ((s.shLate c).shFinish c (fD w) a (r.mark 3) d)
        else
          let q : ShderWait := {
            dreg := fD w, record := a, pch := Fin.ofNat 16 r.pch, host := offsetOf r.haddr, step := k.stepno, derived := d, pc := k.pc
            tag := k.tag, phase := .due, order := k.issued }
          .done (((s.shWrite c a r).modCore c fun k => { k with shder := some q }).porterGoesOn c)

/-- The read of a SHDER has its answer: it is no longer outstanding (11 R271, R280). -/
def State.endShRead (s : State) (c : CoreId) : State :=
  { s with attach := { s.attach with reads := s.attach.reads.filter fun r => r.use != .shder c } }

/-- Nobody waits for the read of a core's SHDER any more. -/
def State.dropShRead (s : State) (c : CoreId) : State := s.abandonReads fun r => r.use == .shder c

/-- The answer to the read of a core's SHDER: the host's scale, or an error, which stops no channel (05 R137, R138). -/
def State.shAnswered (s : State) (c : CoreId) (answer : ReadAnswer) : State :=
  match (s.core c).shder with
  | none => s
  | some q =>
    match q.phase with
    | .asked _ =>
      let s := s.endShRead c
      let again (s : State) : State := s.modCore c fun k => { k with shder := some { q with phase := .pause } }
      match answer with
      | .error kind => again ((s.noteReadError (s.partOf c) kind).recordBusError c 1 kind q.host)
      | .data bs =>
        let v := leNat (bs.take 8)
        let hs := bits v 15 0
        let r := { s.shRead c q.record with hscale := hs, hstep := bits v 63 32 }
        if bits v 63 32 == q.step.toNat && hs < 0x8000 && isScale hs then
          let diff := hs != q.derived
          let s := if diff then bumpOf s c 0x6010 5 else s
          (s.shFinish c q.dreg q.record (if diff then r.mark 4 else r) hs).modCore c fun k => { k with shder := none }
        else again (s.shWrite c q.record r)
    | _ => s

/-- SHDER_HOST_DATA_ARRIVE. -/
def execShderHostDataArrive (c : CoreId) (answer : ReadAnswer) (s : State) : Host.Outcome State Fault Refusal :=
  .next (s.shAnswered c answer)

/-- SHDER_HOST_RETRY: at the second Ember tick edge the read is made again (05 R137). -/
def execShderHostRetry (c : CoreId) (s : State) : Host.Outcome State Fault Refusal :=
  .next ((s.modCore c fun k => { k with shder := k.shder.map fun q => if q.phase == .pause then { q with phase := .due } else q }).porterGoesOn c)

/-- SHDER_HOST_TIMEOUT: SCALE takes the derived value, HOST_LATE is set, the late answer counts (05 R137; 15 R348). -/
def execShderHostTimeout (c : CoreId) (s : State) : Host.Outcome State Fault Refusal :=
  match (s.core c).shder with
  | none => .next s
  | some q =>
    let s := bumpOf ((s.dropShRead c).shLate c) c 0x5100 5
    .next ((s.shFinish c q.dreg q.record ((s.shRead c q.record).mark 3) q.derived).modCore c fun k => { k with shder := none })

def execShanc (x : Issue) (s : State) : Host.Outcome State Fault Refusal :=
  issue x s 0x6D (fun _ w => require [isReg (fD w), isReg (fA w), isReg (fB w), isReg (fC w), bits w 27 0 == 0]) fun c w s =>
    let k := s.core c
    if s.unready c [fD w, fA w, fB w, fC w] then .stall
    else
      let a := k.regNat (fA w)
      let b := k.regNat (fB w)
      let len := k.regNat (fC w)
      s.shCheck c [a, b] true fun _ =>
        if len == 0 || 2 ^ 20 < len then .fault shRecFault
        else .done (s.modCore c fun k =>
          k.setReg (fD w) (BitVec.ofInt 64 (anchorOf (s.shRead c a) (s.shRead c b) len k.stepno.toNat)))

end Sys2Proof.Machine
end

