-- ==== Sys2Proof/Machine/Epoch.lean ====
section
/-!
DEFINITION. Scout epochs of a core: EPB, EPC, EPD, the discard that a verdict shares; and the reset of a core, the end of
its clearing (06 R144, R155–R157, R163).
-/
namespace Sys2Proof.Machine

/-! ## Snapshot and discard (06 R157) -/

/-- The snapshot of a core (06 R157). -/
def Core.capture (k : Core) : Snapshot where
  sreg := k.sreg
  areg := k.areg
  preg := k.preg
  lreg := k.lreg
  treg := k.treg
  tag := k.tag
  groups := k.groups
  amx := k.amx
  stats := k.stats
  lntKv1 := k.lntKv1
  lntFtz := k.lntFtz
  lntStat := k.lntStat
  cvt := k.cvt
  drnNf := k.drnNf
  drnSlot := k.drnSlot
  drnPos := k.drnPos
  ieeeRnd := k.ieeeRnd
  ieeeStat := k.ieeeStat

/-- INGRP and GROUP of the slots follow the open groups. -/
def Core.regroup (k : Core) : Core :=
  { k with slots := Vector.ofFn fun (h : Fin 64) => { k.slots[h] with group := k.groupOf h.val } }

/-- The core with a snapshot restored. -/
def Core.restore (k : Core) (q : Snapshot) : Core :=
  ({ k with
    sreg := q.sreg, areg := q.areg, preg := q.preg, lreg := q.lreg, treg := q.treg, tag := q.tag, groups := q.groups, amx := q.amx
    stats := q.stats, lntKv1 := q.lntKv1, lntFtz := q.lntFtz, lntStat := q.lntStat, cvt := q.cvt, drnNf := q.drnNf
    drnSlot := q.drnSlot, drnPos := q.drnPos, ieeeRnd := q.ieeeRnd, ieeeStat := q.ieeeStat }).regroup

/-- A channel of the core writes a marked bank (06 R157). -/
def Core.writesMarked (k : Core) (ch : Channel) : Bool :=
  let g := ch.regs
  let a := offsetOf g.dstAddr
  ch.state.isActive && g.mode != 3 && spaceOf g.dstAddr == 0 &&
    (windowsOf [(a, a + g.length)]).any fun b => bitOf k.epoch.banks.toNat b.val

/-- Channels into marked banks stop with EPOCH_DISCARD (06 R157 step 2, 09 R237). -/
def State.stopMarked (s : State) (c : CoreId) : State :=
  (List.finRange 16).foldl (fun (s : State) (i : ChanIx) =>
    if (s.core c).writesMarked ((s.core c).chans[i]) then s.stopChan c i .aborted 0x12 else s) s

/-- Marked slots and marked banks are cleared (06 R157 step 4; 08 R216); rings in marked banks are lost (10 R258). -/
def State.clearMarked (s : State) (c : CoreId) : State :=
  let ep := (s.core c).epoch
  let s := (List.finRange 64).foldl (fun (s : State) (h : SlotIx) => if bitOf ep.slots.toNat h.val then s.clearSlot c h else s) s
  let s := (List.finRange 32).foldl (fun (s : State) (b : BankIx) =>
    match (s.core c).windows[b] with
    | some m => if bitOf ep.banks.toNat b.val && s.bank m b == .owned c then s.clearBank m b (.core c) else s
    | none => s) s
  s.breakStreams c 3 fun x => x.rcore == c.val && !(x.remote && !x.side) && bitOf ep.banks.toNat ((x.ring * 64) / 0x20000)

/-- The epoch fields with none open; EPOCH_BANKS, EPOCH_SLOTS, the identifier and RESTART stay. -/
def Epoch.shut (e : Epoch) : Epoch := { e with opened := false, discarding := false, snapshot := none }

/-- A SHDER that waits for the host is dropped, with its read (06 R157, R163). -/
def State.dropShder (s : State) (c : CoreId) : State :=
  match (s.core c).shder with
  | some _ => (s.dropShRead c).modCore c fun k => { k with shder := none }
  | none => s

/-- A discard on one core, its five steps (06 R157). `runs`: the core restarts at RESTART. Inner CREDs are dropped (log 33), and so is
a SHDER that waits: EPB left none outside. -/
def State.discardCore (s : State) (c : CoreId) (runs : Bool) : State × List NanEvent :=
  let s := s.scoutCancel c
  let (s, ev) := s.retireAll c
  let s := ((s.dropShder c).stopMarked c).clearMarked c
  let s := s.modCore c fun k =>
    let k : Core := match k.epoch.snapshot with | some q => k.restore q | none => k
    let creds : List CredWait := (k.creds.filter (·.outer)).map fun q => { q with outer := false }
    let k : Core := { k with creds := creds }
    ({ k with
      pc := if runs then k.epoch.restart else k.pc
      mode := if runs then .running else k.mode
      wait := none, epoch := k.epoch.shut }).scoutCount 5 1
  (s, ev)

/-- The epoch of a core commits (06 R155): the snapshot is dropped, held instructions go on. -/
def Core.commitEpoch (k : Core) : Core :=
  { k with epoch := k.epoch.shut, creds := k.creds.map fun (q : CredWait) => { q with outer := false } }

/-! ## EPB, EPC, EPD (06 R155; 07 R197) -/

def epochFields (w : Nat) : Option CoreFault := require [fD w == 0, isReg (fA w), fB w == 0, fC w == 0, bits w 27 0 == 0]

/-- The verdict of the step before an epoch has been applied already (19 R442). -/
def State.verdictPassed (s : State) (c : CoreId) (id : W32) : Bool :=
  match (s.core c).part with
  | some n => let v := objGet s (some n) 0x8010 2; v != 0xFFFFFFFF && id.toNat ≤ v + 1
  | none => false

def epochMisused (s : State) (c : CoreId) : State := s.modCore c fun k => { k with epseq := true }

/-- EPB: waits until earlier operations have retired, so that the snapshot holds what they did (log 32). -/
def execEpb (x : Issue) (s : State) : Host.Outcome State Fault Refusal :=
  issue x s 0x88 (fun _ w => epochFields w) fun c w s =>
    let k := s.core c
    if s.unready c [fA w] then .stall
    else if k.epoch.opened then .done (epochMisused s c)
    else if k.inflight != [] || k.shder.isSome || s.bankRegs c != [] then .stall
    else
      let id : W32 := (k.reg (fA w)).truncate 32
      if s.verdictPassed c id then .done s
      else .done (s.modCore c fun k => { k with
        epoch := { k.epoch with opened := true, discarding := false, id := id, restart := (k.pc + 1) % 16384, snapshot := some k.capture }
        creds := k.creds.map fun (q : CredWait) => { q with outer := true } })

/-- An EPC or EPD names the open epoch. -/
def Core.epochNamed (k : Core) (w : Nat) : Bool := k.epoch.opened && k.epoch.id == (k.reg (fA w)).truncate 32

def execEpc (x : Issue) (s : State) : Host.Outcome State Fault Refusal :=
  issue x s 0x89 (fun _ w => epochFields w) fun c w s =>
    let k := s.core c
    if s.unready c [fA w] then .stall
    else if !k.epochNamed w then .done (epochMisused s c)
    else
      let s' := s.modCore c Core.commitEpoch
      .done (match k.part with | some n => s'.streamsCommit n (some c) k.epoch.id | none => s')

/-- EPD: the discard; the next instruction is the one at RESTART (07 R197). -/
def execEpd (x : Issue) (s : State) : Host.Outcome State Fault Refusal :=
  issue x s 0x8A (fun _ w => epochFields w) fun c w s =>
    let k := s.core c
    if s.unready c [fA w] then .stall
    else if !k.epochNamed w then .done (epochMisused s c)
    else
      let s := match k.part with | some n => s.streamsDiscard n (some c) k.epoch.id | none => s
      let (s, ev) := s.discardCore c true
      .hold (s.nanReport c ev).retryAll

/-! ## Core reset (06 R163) -/

/-- The steps that a CLAIM, a GIVE, a GO or a FREE of a core has left. -/
def State.bankSteps (s : State) (c : CoreId) : Nat :=
  (s.claims.filter fun q => q.who == .core c).foldl (fun n q => n + q.cands.length + 2) (3 * s.handovers.length + 1)

/-- The next step of a bank instruction of the core that is under way; none where nothing is under way (08 R217). -/
def State.bankStep (s : State) (c : CoreId) : Option State :=
  match s.claims.find? fun q => q.who == .core c with
  | some q =>
    match q.cands with
    | (m, b) :: _ => some (nextOr s (execClaimRequestArrive m b [.core c] s))
    | [] =>
      match (List.finRange 64).findSome? fun m => ((List.finRange 32).find? fun b => s.bank m b == .clearing (.claimer (.core c))).map fun b => (m, b) with
      | some (m, b) => some (nextOr s (execBankClearDone m b s))
      | none => none
  | none =>
    match s.handovers.find? fun h => h.source == some c with
    | some h => some (nextOr s (if !h.sent then execHandoverRequestArrive h.home h.bank s
        else if !h.recorded then execHandoverBankArrive h.home h.bank s else execHandoverAckArrive h.home h.bank s))
    | none => none

/-- The bank instructions a core has issued complete before its reset goes on (08 R217); the count bounds their steps. -/
def State.bankOpsEnd (s : State) (c : CoreId) : Nat → State
  | 0 => s
  | f + 1 => match s.bankStep c with
    | some t => t.bankOpsEnd c f
    | none => s

/-- Held bytes of every channel return to unconsumed, and the channels take their reset values (06 R163 step 3, 09 R238). -/
def State.resetChans (s : State) (c : CoreId) : State :=
  let held := (s.core c).chans.toList.foldl (fun n ch => if ch.spec then n else n + ch.held.length) 0
  let s := (List.finRange 16).foldl (fun (s : State) (i : ChanIx) => s.dropReads c i) s
  ((bumpOf s c 0x4040 3 held).modCore c fun k => { k with chans := .replicate 16 .reset, served := none }).porterGoesOn c

/-- The registers a core reset resets (06 R163 steps 4 to 6; log 34). -/
def Core.resetRegs (k : Core) : Core :=
  ({ k with
    mode := .halted, pc := 0, tag := 0, sreg := .replicate 32 0, areg := .replicate 16 0, preg := pregReset, lreg := .replicate 4 0
    treg := .replicate 16 0, groups := .replicate 8 .reset, cvt := 0, drnNf := false, drnSlot := 0, drnPos := 0
    amx := .replicate 8 .reset, lntStat := 0, stats := .replicate 2 .reset, ieeeStat := 0, frec := frecReset, creds := []
    wait := none, shder := none, epoch := k.epoch.shut }).regroup

/-- A core reset: issued operations retire, channels stop, issued bank instructions complete, registers reset; a core that was OFF stays OFF, and one still CLEARING goes on (06 R163). -/
def State.resetCore (s : State) (c : CoreId) : State :=
  if (s.core c).mode == .off || (s.core c).mode == .clearing then s
  else
    let s := s.scoutCancel c
    let (s, ev) := s.retireAll c
    let s := (s.dropShder c).resetChans c
    let s := s.bankOpsEnd c (s.bankSteps c)
    let s := (s.breakStreams c 2 (fun _ => true)).modCore c Core.resetRegs
    s.nanReport c ev

/-- A core whose stores have been cleared is HALTED, and none of its Hearth slots clears any more (03 R86, 06 R144). -/
def Core.cleared (k : Core) : Core :=
  { k with mode := .halted, slots := k.slots.map fun (h : HSlot) => { h with clearing := false } }

/-- CORE_CLEARING_DONE: Hearth, table RAM and program memory are clear and the core enters HALTED (06 R144). -/
def execCoreClearingDone (c : CoreId) (s : State) : Host.Outcome State Fault Refusal :=
  .next (if (s.core c).mode == .clearing then s.modCore c Core.cleared else s)

end Sys2Proof.Machine
end

