-- ==== Sys2Proof/Machine/Partition.lean ====
section
/-!
DEFINITION. Forming, resetting and dissolving partitions (12 R291, R292, R294, R305).
-/
namespace Sys2Proof.Machine

/-! ## Cores of a partition (08 R203, 06 R142–R144) -/

/-! ## Operating points (16 R361) -/

/-- The sensor that covers a core (16 R376). -/
def sensorOf (c : CoreId) : Nat := c.val % 8 / 2 + 4 * (c.val / 8 / 2)

/-- The requested OP of a core's partition, obj 2020.01. -/
def State.requestedOp (s : State) (c : CoreId) : Nat :=
  match s.partOf c with
  | some n => objGet s (some n) 0x2020 1
  | none => 7

/-- The thermal ceiling: 3 at most while the core's sensor is failed (16 R376). -/
def State.thermalCeilingOf (s : State) (c : CoreId) : Nat :=
  min (s.core c).power.thermalCeiling (if bitOf (objGet s none 0x2030 6) (sensorOf c) then 3 else 7)

/-- The OP a core moves toward (16 R361). -/
def State.targetOp (s : State) (c : CoreId) : Nat :=
  min (min (s.requestedOp c) (s.core c).power.capCeiling) (s.thermalCeilingOf c)

/-- A core whose domain was GATED powers up at the OP that R361 puts in force; a powered one keeps its OP (log 72). -/
def State.powerUpOp (s : State) (c : CoreId) (was : Nat) (mode : CoreMode) : State :=
  if was == 3 && mode != .off then
    s.modCore c fun k => { k with power := { k.power with op := s.targetOp c } }
  else s

/-- Everything a core holds reads 0: its home banks, its Hearth, its program memory, its table RAM (06 R142, 03 R86, 04 R112, 08 R216). -/
def State.clearCoreMem (s : State) (c : CoreId) : State :=
  let s := s.clearMem (bankBase c 0) (bankBase c 0 + 0x400000)
  let s := s.clearMem (hearthAddr c 0 0) (hearthAddr c 64 0)
  let s := s.clearMem (progBase c) (progBase c + 0x20000)
  s.clearMem (tableBase c) (tableBase c + 0x4000)

/-- A core of a partition right after its formation or reset, in a mode: reset registers, its home banks in its windows (08 R203), its
Hearth clearing where it powers up (03 R86). -/
def Core.ofPart (k : Core) (c : CoreId) (n : PartId) (mode : CoreMode) : Core :=
  { Core.reset with
    part := some n, mode := mode, windows := .replicate 32 (some c)
    slots := .replicate 64 { HSlot.reset with clearing := mode == .clearing }
    power := { k.power with state := (if mode == .off then 3 else 0), held := false, gated := 0 } }

/-- A core and its banks are the partition's; the banks clear for it (08 R203, R216). -/
def State.giveCore (s : State) (n : PartId) (mode : CoreMode) (c : CoreId) : State :=
  let s := ((s.clearCoreMem c).modCore c fun k => k.ofPart c n mode).powerUpOp c (s.core c).power.state mode
  (List.finRange 32).foldl (fun (s : State) (b : BankIx) => s.setBank c b (.clearing (.core c))) s

/-- A core returns to the free pool: unpowered, its home banks clear and are LENT (08 R203, 16 R363). The ceilings of its place
on the die stay (16 R372, R377). -/
def State.freeCore (s : State) (c : CoreId) : State :=
  let p := (s.core c).power
  let s := ((s.clearCoreMem c).gateCore c).setCore c
    { Core.gated with power := { Core.gated.power with capCeiling := p.capCeiling, thermalCeiling := p.thermalCeiling } }
  (List.finRange 32).foldl (fun (s : State) (b : BankIx) => s.setBank c b (.clearing .lent)) s

/-- The cores named by a mask. -/
def coresIn (mask : Nat) : List CoreId := (List.finRange 64).filter fun c => bitOf mask c.val

/-! ## Contexts and HBM3E units (10 R250, 11 R288) -/

/-- The context ranges in use, as base and quota. -/
def State.ctxRanges (s : State) : List (Nat × Nat) :=
  (((List.finRange 64).filter fun n => s.partExists n).map fun n => ((s.parts[n]).ctxBase, objGet s (some n) 0x4050 1)).filter fun e => e.2 != 0

/-- The unallocated runs of contexts, as base and length, in ascending order. -/
def ctxGaps (used : List (Nat × Nat)) : List (Nat × Nat) :=
  let (gaps, top) := (used.mergeSort fun a b => a.1 ≤ b.1).foldl
    (fun (acc : List (Nat × Nat) × Nat) (e : Nat × Nat) => (acc.1 ++ [(acc.2, e.1 - acc.2)], e.1 + e.2)) ([], 0)
  gaps ++ [(top, 65536 - top)]

def State.freeCtxs (s : State) : Nat := 65536 - (s.ctxRanges).foldl (fun a e => a + e.2) 0

/-! ## Canopy contexts (12 R302, R305) -/

/-- The lowest free reduction context of the die. -/
def State.freeCanopy (s : State) : Option (Fin 8) := (List.finRange 8).find? fun i => (s.canopy[i]).owner.isNone

/-- A partition takes a die context under a local number. -/
def State.takeCanopy (s : State) (n : PartId) (local_ : Nat) (camp : Bool) (i : Fin 8) : State :=
  ({ s with canopy := s.canopy.set i { CanopyCtx.reset with owner := some n, camp := camp } }).modPart n fun p =>
    { p with canopy := (local_, i) :: p.canopy }

/-- A die context returns; a CRED still out on it ends as one whose context is not held (18 R423). -/
def State.dropCanopy (s : State) (n : PartId) (local_ : Nat) : State :=
  match (s.parts[n]).canopy.find? fun e => e.1 == local_ with
  | some (_, i) =>
    let s := s.credsEnd (fun w => w.ctx == i.val) 1
    ({ s with canopy := s.canopy.set i .reset }).modPart n fun p => { p with canopy := p.canopy.filter fun e => e.1 != local_ }
  | none => s

/-- The camp identifier of a partition, 0 for none (12 R305). -/
def State.campOf (s : State) (n : PartId) : Nat := objGet s (some n) 0x4010 8

/-! ## Partition reset (12 R294) -/

/-- Commands announced and not completed: those fetched without a record, and those from NEXT to the last accepted PIDX (12 R294, R304). -/
def State.discardedCommands (s : State) (n : PartId) : Nat :=
  let p := s.parts[n]
  let entries := objGet s (some n) 0x4010 0xB
  p.commands.length + (if entries == 0 then 0 else (bits p.cmdDb.toNat 15 0 + entries - objGet s (some n) 0x4010 0xE) % entries)

/-- Step 2: the cores of a partition stop, their issued operations retire, their channels stop; with the first-NaN events (12 R294). -/
def State.stopCores (s : State) (n : PartId) : State :=
  let (s, ev) := (s.coresOf n).foldl (fun (a : State × List (CoreId × NanEvent)) (c : CoreId) =>
    let (s, e) := (a.1.scoutCancel c).retireAll c
    (((s.dropShder c).stopEngine c), a.2 ++ e.map fun x => (c, x))) (s, [])
  (s.nanTake n ev).aperturesGoOn n

/-- Step 4: the cores of a partition and all they hold take their values after formation; no read of its command ring, of its STAGEs and
of its SHDERs is waited for. -/
def State.resetCores (s : State) (n : PartId) : State :=
  let cs := s.coresOf n
  let s := s.abandonReads fun r => r.part == n && (match r.use with | .chan _ => false | _ => true)
  let s := { s with
    claims := s.claims.filter fun q => !(cs.contains q.target)
    handovers := s.handovers.filter fun h => !(cs.contains h.target) && !(match h.source with | some c => cs.contains c | none => false) }
  cs.foldl (fun (s : State) (c : CoreId) => s.giveCore n (if (s.core c).mode == .off then .off else .halted) c) s

/-- The Porter objects obj 4040.01–4040.0A return to their defaults (09 R247). -/
def State.clearPorterObjs (s : State) (n : PartId) : State :=
  (List.range 10).foldl (fun (s : State) (i : Nat) => objSet s (some n) 0x4040 (i + 1) 0) s

/-- Step 3: every stream context of the partition is FREE, and nothing for it is under way (10 R258). -/
def State.freeStreams (s : State) (n : PartId) : State :=
  let base := (s.parts[n]).ctxBase
  { s with
    ctxs := tabClear s.ctxs base (base + objGet s (some n) 0x4050 1)
    traffic := s.traffic.filter fun t => match t with | .msg m _ _ _ _ _ _ => m != n | .credit m _ _ _ _ => m != n | .close m _ => m != n }

/-- Step 3: contexts of CTX_ACQ return; the camp's context stays, and its reductions end on this die (12 R294). -/
def State.resetCanopy (s : State) (n : PartId) : State :=
  (s.parts[n]).canopy.foldl (fun (s : State) (e : Nat × Fin 8) =>
    if (s.canopy[e.2]).camp then
      let lost := (s.canopy[e.2]).reds.length
      objBump { s with canopy := s.canopy.set e.2 { CanopyCtx.reset with owner := some n, camp := true } } (some n) 0x7100 3 lost
    else s.dropCanopy n e.1) s

/-- Step 5: every token returns, and the partition's commands are gone (12 R294). -/
def State.dropCommands (s : State) (n : PartId) : State :=
  let held := s.tokensHeld n
  let s := s.modPart n fun p => { p with commands := [], fetching := false, fullWait := false }
  (s.giveTokens n held).reconsider

/-- Step 6: the rings are cleared (12 R294). -/
def State.clearRings (s : State) (n : PartId) : State :=
  let s := objSet (objSet s (some n) 0x4010 0xE 0) (some n) 0x4010 0xF 0
  s.modPart n fun p => { p with
    cmdDb := 0, cplDb := 0, observed := 0, unread := 0, unsignalled := 0, phase := true, lastIdx := none, fenceWait := false }

/-- The partition reset (12 R294); `record` says whether it writes the reset record. -/
def State.partitionReset (s : State) (n : PartId) (record : Bool) : State :=
  let s := (s.patrolYield fun c => s.partOf c == some n).stopCores n
  let discarded := s.discardedCommands n
  let last := match (s.parts[n]).lastIdx with | some i => i | none => 0xFFFF
  let s := (((s.resetCores n).freeStreams n).resetCanopy n).clearPorterObjs n
  let s := if s.campOf n != 0 then objSet (s.floodFault (s.campOf n)) (some n) 0x4010 9 3 else s
  let s := (s.parts[n]).hbmUnits.foldl (fun (s : State) (u : Nat) => s.clearUnit u (some n)) s
  let s := ((s.dropCommands n).clearRings n).resetTraining n
  let s := s.withdrawCalls n
  let s := objSet s (some n) 0x1100 2 0
  let s := s.modPart n fun p => { p with notes := .reset, discarded := false }
  let s := objBump s (some n) 0x4020 8
  if record then s.writeRecord n ⟨0, 0xFF, 5, 1, false, 0, 0, last, discarded, 0⟩ else s

/-! ## Formation (12 R291) -/

def powerOfTwo (n : Nat) : Bool := n != 0 && 2 ^ Nat.log2 n == n

/-- A ring's base, entry count and place are bad (12 R291 order 5). -/
def State.badRing (s : State) (n : PartId) (base entries size : Nat) (write : Bool) : Bool :=
  base % 4096 != 0 || !powerOfTwo entries || entries < 8 || 32768 < entries || !s.inAperture n base (size * entries) write

/-- The code of the first formation check that fails, 0 where all pass (12 R291). -/
def State.formCode (s : State) (n : PartId) : Nat :=
  let g (sub : Nat) : Nat := objGet s none 0x4100 sub
  let camp := g 0xC % 2 ^ 32
  let members := bits (g 0xC) 47 32
  if s.partState n != 0 then 1
  else if g 2 == 0 || g 2 &&& objGet s none 0x4000 2 != g 2 then 2
  else if !((ctxGaps s.ctxRanges).any fun e => g 3 ≤ e.2) then 3
  else if objGet s none 0xC110 4 < g 4 || (g 4 != 0 && s.delivery == .kv2c) then 4
  else if s.badRing n (g 5) (g 6) 64 false || s.badRing n (g 7) (g 8) 32 true then 5
  else if 255 < g 9 || 3 < g 0xA || g 0xB == 0 || 4096 < g 0xB then 6
  else if camp != 0 && ((s.formedParts.any fun m => s.campOf m == camp) || ((List.finRange 64).any fun m => s.partState m == 1 && s.campOf m == camp)
      || members == 0 || 4352 < members || (1 < members && s.delivery == .kv2c)) then 7
  else if camp != 0 && s.freeCanopy.isNone then 8
  else 0

/-- Where a quota of contexts is allocated: the lowest run that holds it. -/
def State.ctxPlace (s : State) (quota : Nat) : Nat :=
  match (ctxGaps s.ctxRanges).find? fun e => quota ≤ e.2 with | some e => e.1 | none => 0

/-- An accepted FORM (12 R291): the partition is FORMING, its cores leave the pool and clear, its contexts, units and camp
context are its own. -/
def State.form (s : State) (n : PartId) : State :=
  let g (sub : Nat) : Nat := objGet s none 0x4100 sub
  let cs := coresIn (g 2)
  let camp := g 0xC % 2 ^ 32
  let units := s.freeUnits.take (g 4)
  let place := s.ctxPlace (g 3)
  let s := s.patrolYield fun c => cs.contains c
  let s := s.clearPartObjs n fun ix _ => ix == 0xC031
  let s := objSet (objSet s none 0x4100 0x10 0) none 0x4000 2 (objGet s none 0x4000 2 - g 2)
  let s := [(1, 2), (2, 9), (3, 0xA), (5, 0xB), (0xA, 5), (0xB, 6), (0xC, 7), (0xD, 8)].foldl
    (fun (s : State) (e : Nat × Nat) => objSet s (some n) 0x4010 e.1 (g e.2)) s
  let s := objSet (objSet s (some n) 0x4010 7 1) (some n) 0x4010 8 camp
  let s := objSet (objSet s (some n) 0x4050 1 (g 3)) none 0x4000 7 (objGet s none 0x4000 7 - g 3)
  let s := s.modPart n fun p => { Partition.reset with
    ctxBase := place, intMod := p.intMod, vectors := p.vectors, vecPending := p.vecPending, sizeBad := p.sizeBad
    dbBad := p.dbBad, fenceTmo := p.fenceTmo, work := .forming, hbmUnits := units
    camp := { Camp.reset with members := bits (g 0xC) 47 32 } }
  let s := cs.foldl (fun (s : State) (c : CoreId) => s.giveCore n .clearing c) s
  let s := units.foldl (fun (s : State) (u : Nat) => s.clearUnit u (some n)) s
  let s := objSet (objSet s (some n) 0xC120 1 units.length) none 0xC110 4 (objGet s none 0xC110 4 - units.length)
  let s := s.resetTraining n
  match camp, s.freeCanopy with
  | 0, _ => s
  | _, some i => objSet (s.takeCanopy n 0 true i) (some n) 0x4010 9 1
  | _, none => s

/-- What a partition was given is clear: its cores, their banks, its HBM3E units (12 R291; 11 R289). -/
def State.allClear (s : State) (n : PartId) : Bool :=
  ((s.coresOf n).all fun c => (s.core c).mode != .clearing &&
    (List.finRange 32).all fun b => match s.bank c b with | .clearing _ => false | _ => true)
    && !(s.hbm.clearing.any fun e => e.2 == some n)

/-- Ranked members M of a partition's camp: the seats of the torus, no more than the members (18 R418, log 37). -/
def State.campSize (s : State) (n : PartId) : Nat :=
  let members := (s.parts[n]).camp.members
  if s.delivery == .kv2c || members ≤ 1 then 1
  else
    let t := objGet s none 0x7000 1
    min members ((bits t 3 0 + 1) * (bits t 7 4 + 1) * (bits t 11 8 + 1))

/-- The number of a logical coordinate in the order of R418: i fastest, then j, then k. -/
def State.coordRank (s : State) (coord : Nat) : Nat :=
  let t := objGet s none 0x7000 1
  bits coord 3 0 + (bits t 3 0 + 1) * (bits coord 7 4 + (bits t 7 4 + 1) * bits coord 12 8)

/-- The logical coordinate of a rank. -/
def State.rankCoord (s : State) (r : Nat) : Nat :=
  let t := objGet s none 0x7000 1
  let i := bits t 3 0 + 1
  let j := bits t 7 4 + 1
  r % i + (r / i % j) * 16 + (r / i / j) * 256

/-- The formation work has ended (12 R291): the shares are computed anew, the partition is FORMED and told of it. A camp
member takes its rank; a camp of one is ACTIVE at once (18 R402, R426). -/
def State.formed (s : State) (n : PartId) : State :=
  let s := s.modPart n fun p => { p with work := .none }
  let s := objSet (objSet s (some n) 0x4010 7 2) none 0x4000 1 (objGet s none 0x4000 1 ||| 2 ^ n.val)
  let s := s.recomputeShares
  let camp := s.campOf n
  let m := s.campSize n
  let s := if camp == 0 then s
    else
      let solo := m == 1
      let rank := if solo then 0 else if s.myCoord == 0x8000 || m ≤ s.coordRank s.myCoord then 0xFFFF else s.coordRank s.myCoord
      let s := objSet (objSet s (some n) 0x7100 6 rank) (some n) 0x7100 7 m
      let members := (s.parts[n]).camp.members
      if s.delivery == .kv2c || members == 1 then objSet (objSet s (some n) 0x4010 9 2) (some n) 0x7100 8 1
      else if rank == 0 then
        objSet (s.modPart n fun p => { p with camp := { p.camp with present := [s.myCoord] } }) (some n) 0x7100 8 1
      else
        s.sendPacket ⟨s.rankCoord 0, s.dieCoord, 0x18, camp, members, []⟩
  s.notePost (some n) reasonChange (itemOf 0x4010 7) 2

/-! ## Dissolution (12 R292) -/

/-- Dissolution: the reset without its record, then everything the partition held returns. -/
def State.dissolve (s : State) (n : PartId) : State :=
  let cs := s.coresOf n
  let mask := objGet s (some n) 0x4010 1
  let quota := objGet s (some n) 0x4050 1
  let units := (s.parts[n]).hbmUnits
  let s := s.partitionReset n false
  let s := cs.foldl (fun (s : State) (c : CoreId) => s.freeCore c) s
  let s := units.foldl (fun (s : State) (u : Nat) => s.clearUnit u none) s
  let s := { s with hbm := { s.hbm with owner := units.foldl (fun t u => tabSet 0 t u 0) s.hbm.owner } }
  let s := objSet (objSet s none 0x4000 2 (objGet s none 0x4000 2 ||| mask)) none 0x4000 7 (objGet s none 0x4000 7 + quota)
  let s := if units == [] then s else objSet s none 0xC110 4 (objGet s none 0xC110 4 + units.length)
  let s := (s.parts[n]).canopy.foldl (fun (s : State) (e : Nat × Fin 8) => s.dropCanopy n e.1) s
  let s := objSet s none 0x4000 1 (objGet s none 0x4000 1 &&& (2 ^ 64 - 1 - 2 ^ n.val))
  let s := (s.clearPartObjs n fun _ _ => false).modPart n fun p => { Partition.reset with
    intMod := p.intMod, vectors := p.vectors, vecPending := p.vecPending, sizeBad := p.sizeBad, dbBad := p.dbBad, fenceTmo := p.fenceTmo }
  (s.recomputeShares).noteChange none 0x4000 1

end Sys2Proof.Machine
end

