-- ==== Sys2Proof/Machine/Canopy.lean ====
section
/-!
DEFINITION. The Canopy (18 R418–R423): reductions as trees of nodes, their packets, and the five CRED instructions (07 R186).
-/
namespace Sys2Proof.Machine

/-! ## Combining (18 R421; 03 R72) -/

/-- Unequal anchors as the end of a reduction, beside the outcome codes; its CREDs take ANCHOR_MISMATCH (18 R423, log 39). -/
def anchorFail : Nat := 0x10

/-- The STATUS of a packet: the outcome code, and for unequal anchors a code R423 leaves unused, 5 to 15, that is free (log 39). -/
def statusField (outcome : Nat) : Nat := if outcome == anchorFail then 5 + Config.anchorStatusPick.toNat % 11 else outcome

/-- The outcome a STATUS tells. -/
def outcomeOf (status : Nat) : Nat := if status ≤ 4 then status else anchorFail

/-- The 64-bit add of two partials of one element: left child first, clamped to ±(2^63 − 1) (03 R72, R73). -/
def combineElem (a b : Int × Nat) : Int × Nat :=
  let c : Contribution :=
    if b.2 == 2 then .inf (b.1 < 0) else if b.2 == 3 then .nan else .fin b.1 (b.2 == 1)
  let e := (HElem.add (2 ^ 63 - 1) ⟨a.1, a.2⟩ c).1
  (e.v, e.st)

/-- The combine of a mode, left child first (18 R421). -/
def combine (mode : Nat) (l r : CVal) : CVal :=
  match mode, l, r with
  | 0, .tile xs, .tile ys => .tile (List.zipWith combineElem xs ys)
  | 1, .word x, .word y => .word (px16Max x y)
  | 2, .word x, .word y => .word (fmt64.addFp 0 (fmt64.unpack x) (fmt64.unpack y)).word
  | 3, .vote x, .vote y => .vote (x || y)
  | _, x, _ => x

/-! ## The tree (18 R420) -/

/-- The value of a node, where this die has it. -/
def Reduction.node (r : Reduction) (l m : Nat) : Option CVal :=
  (r.nodes.find? fun e => e.1 == l && e.2.1 == m).map fun e => e.2.2

/-- The rank that evaluates node (l, m). -/
def nodeHome (q l m : Nat) : Nat := m * 2 ^ l / max 1 q

/-- The level of the root over n chunks. -/
def rootLevel (n : Nat) : Nat := clog2 n

/-- Level l of the nodes a rank evaluates: those whose children it has. -/
def Reduction.growLevel (rank l : Nat) (r : Reduction) : Reduction :=
  let lo := (rank * r.q + 2 ^ l - 1) / 2 ^ l
  let hi := min (((rank + 1) * r.q - 1) / 2 ^ l) ((r.nchunk - 1) / 2 ^ l)
  (List.range (hi + 1 - lo)).foldl (fun (r : Reduction) (i : Nat) =>
    let m := lo + i
    if (r.node l m).isSome then r
    else match r.node (l - 1) (2 * m) with
      | none => r
      | some x =>
        if r.nchunk ≤ (2 * m + 1) * 2 ^ (l - 1) then { r with nodes := r.nodes ++ [(l, m, x)] }
        else match r.node (l - 1) (2 * m + 1) with
          | some y => { r with nodes := r.nodes ++ [(l, m, combine r.mode x y)] }
          | none => r) r

/-- Every node a rank can evaluate by now. -/
def Reduction.grow (rank : Nat) (r : Reduction) : Reduction :=
  (List.range (rootLevel r.nchunk)).foldl (fun (r : Reduction) (l : Nat) => r.growLevel rank (l + 1)) r

/-- The nodes a rank has that its tree neighbours evaluate the parents of, and has not sent yet: an odd node whose parent lies
on another rank. -/
def Reduction.toSend (rank : Nat) (r : Reduction) : List (Nat × Nat × CVal) :=
  r.nodes.filter fun e =>
    e.2.1 % 2 == 1 && nodeHome r.q e.1 e.2.1 == rank && nodeHome r.q (e.1 + 1) (e.2.1 / 2) != rank
      && e.1 < rootLevel r.nchunk && !r.sentUp.contains (e.1, e.2.1)

/-- The root's value, where this die is rank 0 and has it. -/
def Reduction.rootValue (rank : Nat) (r : Reduction) : Option CVal :=
  if rank == 0 then r.node (rootLevel r.nchunk) 0 else none

/-! ## Packets (18 R422) -/

/-- Two-bit ST fields packed little-endian. -/
def stBytes (vals : List (Int × Nat)) : List Byte :=
  (List.range (vals.length / 4)).map fun b =>
    let st (j : Nat) : Nat := ((vals.getD (4 * b + j) (0, 0)).2) % 4
    BitVec.ofNat 8 (st 0 + 4 * st 1 + 16 * st 2 + 64 * st 3)

def CVal.bytes (mode : Nat) : CVal → List Byte
  | .tile vals => vals.flatMap (fun e => leBytes 8 (unsigned 64 e.1)) ++ stBytes vals
  | .word w => leBytes (if mode == 1 then 2 else 8) w
  | .vote b => leBytes 1 (b2n b)
  | .nothing => []

/-- The value bytes of a mode, read back; a body too short for its value carries nothing. -/
def cvalOf (mode : Nat) (bs : List Byte) : CVal :=
  if mode == 0 then
    if bs.length < 8448 then .nothing
    else .tile ((List.range 1024).map fun i =>
      (signed 64 (leNat ((bs.drop (8 * i)).take 8)), bits (leNat ((bs.drop (8192 + i / 4)).take 1)) (2 * (i % 4) + 1) (2 * (i % 4))))
  else if mode == 3 then (if bs.length < 1 then .nothing else .vote (bitOf (leNat (bs.take 1)) 0))
  else if mode == 1 then (if bs.length < 2 then .nothing else .word (leNat (bs.take 2)))
  else if bs.length < 8 then .nothing else .word (leNat (bs.take 8))

/-- The fields of a Canopy packet body. -/
structure CanopyBody where
  rseq : Nat
  mode : Nat
  status : Nat
  level : Nat
  node : Nat
  nchunk : Nat
  anchor : Int
  q : Nat
  value : CVal
  deriving DecidableEq, Repr

def CanopyBody.bytes (b : CanopyBody) : List Byte :=
  leBytes 2 b.rseq ++ leBytes 1 (b.mode + 16 * statusField b.status) ++ leBytes 1 b.level ++ leBytes 4 b.node ++ leBytes 4 b.nchunk
    ++ leBytes 2 (unsigned 16 b.anchor) ++ leBytes 1 b.q ++ leBytes 1 0 ++ b.value.bytes b.mode

def canopyBody (bs : List Byte) : CanopyBody :=
  let f (o n : Nat) : Nat := leNat ((bs.drop o).take n)
  let mode := f 2 1 % 8
  ⟨f 0 2, mode, outcomeOf (f 2 1 / 16), f 3 1, f 4 4, f 8 4, signed 16 (f 12 2), f 14 1, cvalOf mode (bs.drop 16)⟩

/-! ## Contexts and reductions of this die (18 R418, R419) -/

/-- The partition of a camp on this die (18 R415). -/
def State.campPart (s : State) (camp : Nat) : Option PartId :=
  if camp == 0 then none else (List.finRange 64).find? fun n => s.partExists n && s.campOf n == camp

/-- The camp's context of a partition. -/
def State.campCtxOf (s : State) (n : PartId) : Option (Fin 8) :=
  ((s.parts[n]).canopy.find? fun e => (s.canopy[e.2]).camp).map (·.2)

/-- M of a context: the ranked members, or 1 (18 R418). -/
def State.ctxMembers (s : State) (n : PartId) (i : Fin 8) : Nat := if (s.canopy[i]).camp then objGet s (some n) 0x7100 7 else 1

/-- This die's rank on a context. -/
def State.ctxRank (s : State) (n : PartId) (i : Fin 8) : Nat :=
  if (s.canopy[i]).camp && s.ctxMembers n i != 1 then objGet s (some n) 0x7100 6 else 0

/-- The context is the partition's verdict context (19 R430). -/
def State.verdictCtx (s : State) (n : PartId) (i : Fin 8) : Bool :=
  (s.parts[n]).canopy.any fun e => e.2 == i && e.1 == objGet s (some n) 0x8000 1

/-- A step reduction: mode 2 or 3 on the verdict context (19 R430). -/
def State.isStep (s : State) (n : PartId) (i : Fin 8) (r : Reduction) : Bool := s.verdictCtx n i && (r.mode == 2 || r.mode == 3)

def State.setCanopy (s : State) (i : Fin 8) (x : CanopyCtx) : State := { s with canopy := s.canopy.set i x }

/-- The reductions of a context, with one replaced or, where it is new, put in by its number. -/
def putRed (r : Reduction) : List Reduction → List Reduction
  | [] => [r]
  | x :: xs => if x.rseq == r.rseq then r :: xs else if r.rseq < x.rseq then r :: x :: xs else x :: putRed r xs

def State.putReduction (s : State) (i : Fin 8) (r : Reduction) : State :=
  let x := s.canopy[i]
  s.setCanopy i { x with reds := putRed r x.reds }

/-- A reduction that has just begun. -/
def newReduction (rseq mode nchunk q : Nat) (anchor : Int) : Reduction :=
  { rseq := rseq, mode := mode, nchunk := nchunk, q := q, anchor := anchor, nodes := [], issued := [], children := [], sentUp := []
    fail := none, root := none, step := none, verdict := none, skipNodes := [], skipChildren := [], skipSent := [] }

/-- A Canopy packet from this die to a rank of the camp. -/
def State.sendCanopy (s : State) (n : PartId) (kind rank : Nat) (b : CanopyBody) : State :=
  s.sendPacket ⟨s.rankCoord rank, s.myCoord, kind, s.campOf n, 0, b.bytes⟩

/-- The body of a packet that carries a node of a reduction, or its outcome. -/
def Reduction.body (r : Reduction) (level node status : Nat) (v : CVal) : CanopyBody :=
  ⟨r.rseq % 65536, r.mode, status, level, node, r.nchunk, if r.mode == 0 then r.anchor else 0, r.q, v⟩

/-- A stash holds this die's partial of a norm reduction back (20 R463). -/
def State.withheld (s : State) (n : PartId) (i : Fin 8) (r : Reduction) : Bool :=
  (s.parts[n]).train.stash.isSome && s.verdictCtx n i && r.mode == 2

/-- The reduction grows on this die, and what other ranks wait for leaves it; a tree neighbour out of reach ends it with
MEMBER_LOST (18 R420, R423). -/
def State.growReduction (s : State) (n : PartId) (i : Fin 8) (r : Reduction) : State :=
  if r.fail.isSome then s.putReduction i r
  else if s.withheld n i r then (s.putReduction i r).stashState n (if r.issued == [] then 1 else 2)
  else
    let rank := s.ctxRank n i
    let r := r.grow rank
    let out := r.toSend rank
    let r := { r with sentUp := r.sentUp ++ out.map fun e => (e.1, e.2.1) }
    let home (e : Nat × Nat × CVal) : Nat := nodeHome r.q (e.1 + 1) (e.2.1 / 2)
    if out.any fun e => !s.reachable (s.rankCoord (home e)) then s.putReduction i { r with fail := some 4 }
    else out.foldl (fun (s : State) (e : Nat × Nat × CVal) =>
      s.sendCanopy n 0x10 (home e) (r.body e.1 e.2.1 0 (if r.mode == 4 then .nothing else e.2.2))) (s.putReduction i r)

/-! ## CRED (07 R186) -/

def credMode (w : Nat) : Nat := bits w 24 22
def credAxn (w : Nat) : Nat := bits w 21 19
def credSreg (w : Nat) : Nat := bits w 18 13
def credOreg (w : Nat) : Nat := bits w 5 0

/-- The illegal-field check of a CRED of a mode: the mode of the word, the reserved bits, the fields the mode does not use. -/
def credIllegal (mode w : Nat) : Option CoreFault :=
  require [credMode w == mode, bits w 51 40 == 0, isS (fP w), bits w 12 6 == 0, isS (credOreg w),
    mode == 0 || fH w == 0, mode == 1 || credAxn w == 0,
    (mode == 2 || mode == 4) && isS (credSreg w) || mode == 3 && credSreg w < 8 || (mode == 0 || mode == 1) && credSreg w == 0]

/-- The partial a CRED hands over (18 R421): the source slot's elements, a register's word, a predicate, or in a broadcast the
word of chunk 0 alone. -/
def State.partial_ (s : State) (c : CoreId) (w slot chunk : Nat) : CVal :=
  let k := s.core c
  match credMode w with
  | 0 => .tile ((List.range 1024).map fun i => let e := hearthGet s.mem c slot i; (e.v, e.st))
  | 1 => .word (k.amx[Fin.ofNat 8 (credAxn w)]).amax
  | 2 => .word (k.regNat (credSreg w))
  | 3 => .vote (k.preg[Fin.ofNat 8 (credSreg w)])
  | _ => if chunk == 0 then .word (k.regNat (credSreg w)) else .nothing

/-- The outcome a CRED brings upon its reduction: BAD_SHAPE, the anchor failure, or none (18 R419, R420, R423; 19 R430, R441). -/
def State.credFails (s : State) (n : PartId) (i : Fin 8) (r : Reduction) (mode chunk nchunk step : Nat) (anchor : Int) : Option Nat :=
  let m := s.ctxMembers n i
  let q := nchunk / max 1 m
  if (s.isStep n i r || (s.verdictCtx n i && (mode == 2 || mode == 3))) && (s.parts[n]).train.unresolved then some 2
  else if nchunk == 0 || nchunk % max 1 m != 0 || q < 1 || 64 < q then some 2
  else if r.mode != mode || r.nchunk != nchunk || r.q != q || nchunk ≤ chunk || chunk / q != s.ctxRank n i
      || (r.issued.any fun e => e.2 == chunk) then some 2
  else if s.isStep n i r && r.step != some step then some 2
  else if mode == 0 && r.anchor != anchor then some anchorFail
  else none

/-- A CRED joins its reduction (18 R419). -/
def State.joinReduction (s : State) (n : PartId) (i : Fin 8) (c : CoreId) (rseq mode chunk nchunk : Nat) (anchor : Int) (v : CVal) : State :=
  let x := s.canopy[i]
  let step := (s.core c).stepno.toNat
  let r := match x.reds.find? fun r => r.rseq == rseq with
    | some r => r
    | none => newReduction rseq mode nchunk (nchunk / max 1 (s.ctxMembers n i)) anchor
  let r := if r.step.isNone then { r with step := some step } else r
  let f := s.credFails n i r mode chunk nchunk step anchor
  let r := { r with
    issued := r.issued ++ [(c, chunk)]
    fail := match r.fail with | some o => some o | none => f
    nodes := if f.isSome then r.nodes else r.nodes ++ [(0, chunk, v)] }
  s.growReduction n i r

/-- A CRED of an executing word: its context, its wait for a fifth reduction, the hand-over (18 R419, R423). -/
def State.credTake (s : State) (c : CoreId) (w : Nat) (slot dest : Nat) : Act :=
  let k := s.core c
  let p := k.regNat (fP w)
  let held : Option (PartId × Fin 8) := match k.part with
    | some n => ((s.parts[n]).canopy.find? fun e => e.1 == bits w 27 25).map fun (e : Nat × Fin 8) => (n, e.2)
    | none => none
  let at_ (o : Nat) : State := s.modCore c fun k => k.setReg (credOreg w) (BitVec.ofNat 64 o)
  match held with
  | none => .done (at_ 1)
  | some (n, i) =>
    let x := s.canopy[i]
    let rseq := tabGet 0 x.counts c.val
    let count (s : State) : State := s.setCanopy i { x with counts := tabSet 0 x.counts c.val (rseq + 1) }
    if rseq < x.settled then
      match x.ended.find? fun e => e.1 == rseq with
      | some (_, o) => if o == anchorFail then .fault (hearthFault 2 slot) else .done (count (at_ o))
      | none => .done (count (at_ 2))
    else if 4 ≤ (x.reds.filter fun r => r.issued != []).length && !(x.reds.any fun r => r.rseq == rseq) then .stall
    else
      let cred : CredWait := ⟨i.val, rseq, credMode w, credAxn w, credSreg w, credOreg w, slot, dest, k.pc, k.tag, false, k.issued⟩
      let v := s.partial_ c w slot (bits p 19 0)
      let s := (count s).modCore c fun k => { k with creds := k.creds ++ [cred] }
      .done (s.joinReduction n i c rseq (credMode w) (bits p 19 0) (bits p 39 20) (k.slots[Fin.ofNat 64 slot]).anchor v)

/-- A CRED of a mode (07 R186). -/
def credRun (x : Issue) (s : State) (mode : Nat) : Host.Outcome State Fault Refusal :=
  issue x s 0x49 (fun _ w => credIllegal mode w) fun c w s =>
    let k := s.core c
    let p := k.regNat (fP w)
    let regs := [fP w, credOreg w] ++ (if mode == 2 || mode == 4 then [credSreg w] else if mode == 3 then [48 + credSreg w] else [])
    if s.unready c regs then .stall
    else if mode == 0 then
      let h := fH w
      let d := k.drainSlot h
      let dest := bits p 45 40
      if k.isPairTop h then .fault (hearthFault 1 h)
      else if (k.groupOf dest).isSome then .fault (hearthFault 1 dest)
      else if k.swapping h || k.slotBusy d || k.slotBusy dest || k.epochHoldsSlot dest then .stall
      else s.credTake c w d dest
    else if mode == 1 && (k.amxBusy (Fin.ofNat 8 (credAxn w))) then .stall
    else s.credTake c w 0 0

def execCredHearthSum (x : Issue) (s : State) : Host.Outcome State Fault Refusal := credRun x s 0
def execCredMaximum (x : Issue) (s : State) : Host.Outcome State Fault Refusal := credRun x s 1
def execCredFp64Sum (x : Issue) (s : State) : Host.Outcome State Fault Refusal := credRun x s 2
def execCredVote (x : Issue) (s : State) : Host.Outcome State Fault Refusal := credRun x s 3
def execCredBroadcast (x : Issue) (s : State) : Host.Outcome State Fault Refusal := credRun x s 4

end Sys2Proof.Machine
end

