-- ==== Sys2Proof/Machine/Commands.lean ====
section
/-!
DEFINITION. The commands of the command rings: fetching, checks, admission, execution and completion (12 R293–R303).
-/
namespace Sys2Proof.Machine

/-! ## Fetching (12 R293) -/

/-- A completion entry is free for one more command (12 R293). -/
def State.cplFree (s : State) (n : PartId) : Bool :=
  (s.parts[n]).unread + (s.parts[n]).commands.length < objGet s (some n) 0x4010 0xD

/-- COMMAND_FETCH: entry NEXT is read when it is announced and no fetched command waits; a full completion ring counts once
for each wait (12 R293, R296). -/
def execCommandFetch (n : PartId) (s : State) : Host.Outcome State Fault Refusal :=
  let p := s.parts[n]
  let nx := objGet s (some n) 0x4010 0xE
  if s.partState n != 2 || p.fetching || p.commands.any (fun c => c.stage == .waiting) || nx == p.observed
      || !s.busMaster n || !s.readRoom then .next s
  else if !s.cplFree n then
    .next (if p.fullWait then s else objBump (s.modPart n fun p => { p with fullWait := true }) (some n) 0x4020 0xA)
  else
    let (_, s) := s.hostAsk n (objGet s (some n) 0x4010 0xA + 64 * nx) 64 .fetch true
    .next (s.modPart n fun p => { p with fetching := true, fullWait := false })

/-! ## Checks (12 R297) -/

/-- The command 64 bytes spell (12 R295). -/
def commandOf (bytes : List Byte) (sqidx dfltTmo arrival tick : Nat) : Command :=
  let f (o l : Nat) : Nat := leNat ((bytes.drop o).take l)
  let tmo := f 8 4
  ⟨sqidx, f 0 1, f 2 2, f 4 4, if tmo == 0 then dfltTmo else tmo, f 12 4, (bytes.drop 16).take 48, tick, arrival, false,
    .waiting, 0, 0, false, none, 0, none⟩

/-- The payload bytes an opcode leaves unused, and its reserved bits, are 0 (12 R295). -/
def Command.reservedOk (c : Command) : Bool :=
  let z (lo hi : Nat) : Bool := c.field lo (hi + 1 - lo) == 0
  match c.opc with
  | 0 => z 16 63
  | 1 => z 26 31
  | 2 => z 24 63
  | 3 => z 16 63
  | 4 =>
    let kind := c.field 23 1
    let geom := c.field 22 1
    kind < 4 && z 28 63 && !bitOf geom 3 && !bitOf geom 7 && c.field 26 2 < 2 ^ 13 &&
      (if !bitOf kind 0 then z 26 27 else if !bitOf kind 1 then z 21 21 else z 20 20)
  | 5 => c.field 17 1 < 2 && z 18 19 && z 32 63
  | 6 => z 17 63
  | 7 => z 17 63
  | _ => false

/-- The core mask of a partition. -/
def State.coreMask (s : State) (n : PartId) : Nat := objGet s (some n) 0x4010 1

def State.ownsCore (s : State) (n : PartId) (c : Nat) : Bool := c < 64 && bitOf (s.coreMask n) c

/-- A coordinate is one of the ranked members of a partition's camp (10 R251; 18 R418). -/
def State.campDie (s : State) (n : PartId) (coord : Nat) : Bool :=
  let t := objGet s none 0x7000 1
  s.campOf n != 0 && s.delivery == .kv2p && bits coord 3 0 ≤ bits t 3 0 && bits coord 7 4 ≤ bits t 7 4 && bits coord 12 8 ≤ bits t 11 8
    && s.coordRank (coord % 2 ^ 13) < objGet s (some n) 0x7100 7

/-- The order of the first failing check of a STREAM_OPEN, 0 where all pass (10 R251). -/
def State.openOrder (s : State) (n : PartId) (c : Command) : Nat :=
  let kind := c.field 23 1
  let remote := bitOf kind 0
  let side := bitOf kind 1
  let geom := c.field 22 1
  let slot := bits geom 2 0
  let size := 2 ^ (slot + 6)
  let off := c.field 24 2 * 64
  let total := size * 2 ^ bits geom 6 4
  let rcore := c.field 21 1
  match s.ctxOf n (c.field 16 4) with
  | none => 1
  | some (_, x) =>
    if x.state != 0 && x.state != 4 then 2
    else if (!(remote && side) && !s.ownsCore n (c.field 20 1)) || (!(remote && !side) && !s.ownsCore n rcore)
        || (remote && !s.campDie n (c.field 26 2)) then 3
    else if 6 < slot || (side && !remote) then 4
    else if remote && !side then 0
    else if off % size != 0 || 0x400000 < off + total || off / 0x20000 != (off + total - 1) / 0x20000
        || s.heldAll (Fin.ofNat 64 rcore) [(off, off + total)] != .owned then 5
    else 0

/-- The order of the first failing check of 09 R226 for a STAGE, 0 where all pass; the target bank is claimed later (12 R297). -/
def State.stageOrder (s : State) (n : PartId) (c : Command) : Nat :=
  let len := c.field 20 4
  let src := c.field 24 8
  let sp := spaceOf src
  if (sp != 1 && sp != 2) || unusedBits src then 3
  else if len == 0 || 131072 < len || spaceSize sp < offsetOf src + len then 5
  else if sp == 1 && !s.hostInside n (offsetOf src) len false then 8
  else if sp == 2 && !s.hbmInside n (offsetOf src) len then 9
  else 0

/-- A local Canopy context number is held (12 R302). -/
def Partition.holdsCtx (p : Partition) (k : Nat) : Bool := p.canopy.any fun e => e.1 == k

/-- The camp's context, which CTX_REL cannot release (12 R305). -/
def State.campCtx (s : State) (n : PartId) (k : Nat) : Bool :=
  (s.parts[n]).canopy.any fun e => e.1 == k && (s.canopy[e.2]).camp

/-- CTX_ACQ of a number held or beyond 7; CTX_REL of one not held, or of the camp's context (12 R297 order 8). -/
def State.ctxBad (s : State) (n : PartId) (c : Command) : Bool :=
  let k := c.field 16 1
  let held := (s.parts[n]).holdsCtx k
  if c.opc == 6 then held || 7 < k else !held || s.campCtx n k

/-- The cores a command needs are not in the state it needs (12 R297 order 4). A START waits for a core that is still CLEARING (16 R370). -/
def State.coreStateBad (s : State) (c : Command) : Bool :=
  (c.opc == 1 && c.named.any fun k => (s.core k).mode != .halted && (s.core k).mode != .clearing) || (c.opc == 2 && c.named.any fun k => (s.core k).mode == .off)

/-- The cause of the first failing check, 0 where all pass (12 R297). -/
def State.commandCause (s : State) (n : PartId) (c : Command) (byte1 : Nat) : Nat :=
  let foreign := c.mask == 0 || c.mask &&& s.coreMask n != c.mask
  if 7 < c.opc || byte1 != 0 || !c.reservedOk then 1
  else if (if c.opc == 1 then c.tok == 0 || objGet s (some n) 0x4010 5 < c.tok else c.tok != 0 || c.run != 0) then 2
  else if ((c.opc == 1 || c.opc == 2) && foreign) || (c.opc == 1 && 16383 < c.field 24 2)
      || (c.opc == 5 && !s.ownsCore n (c.field 16 1)) then 3
  else if s.coreStateBad c then 4
  else if c.opc == 1 && !s.withinShare n c.demand && (c.run == 0 || objGet s none 0x4000 5 < c.run) then 5
  else if c.opc == 4 && s.openOrder n c != 0 then 0x10 + s.openOrder n c
  else if c.opc == 5 && s.stageOrder n c != 0 then 0x20 + s.stageOrder n c
  else if (c.opc == 6 || c.opc == 7) && s.ctxBad n c then 0x30
  else 0

/-! ## The end of a fetch, and admission (12 R297–R299) -/

/-- A fetched command is checked, and refused or handed to admission; a fetch that brought no 64 bytes is tried again. -/
def State.fetchDone (s : State) (n : PartId) (bytes : List Byte) : State :=
  if !(s.parts[n]).fetching then s
  else
    let s := { s with attach := { s.attach with reads := s.attach.reads.filter fun r => r.use != ReadUse.fetch || r.part != n } }
    let s := s.modPart n fun p => { p with fetching := false }
    if bytes.length != 64 then s
    else
      let nx := objGet s (some n) 0x4010 0xE
      let c := commandOf bytes nx (objGet s (some n) 0x4010 0x10) s.arrivals s.tick
      let s := objSet s (some n) 0x4010 0xE ((nx + 1) % max 1 (objGet s (some n) 0x4010 0xB))
      let s := objBump { s with arrivals := s.arrivals + 1 } (some n) 0x4020 7
      match s.commandCause n c (leNat ((bytes.drop 1).take 1)) with
      | 0 => s.meetAdmission n c
      | cause => s.finish n c 3 cause 0 0

/-- COMMAND_FETCH_COMPLETE. -/
def execCommandFetchComplete (n : PartId) (bytes : List Byte) (s : State) : Host.Outcome State Fault Refusal :=
  .next (s.fetchDone n bytes)

/-- ADMISSION_TIMEOUT: the waiting command of a partition completes REFUSED_CAPACITY with WAIT = TMO (12 R299). -/
def execAdmissionTimeout (n : PartId) (s : State) : Host.Outcome State Fault Refusal :=
  match (s.parts[n]).commands.find? fun c => c.stage == .waiting with
  | none => .next s
  | some c => .next (((objBump s (some n) 0x4020 9 c.tmo).finish n { c with waited := c.tmo } 2 1 0 0))

/-! ## Starting commands (12 R296) -/

/-- A core command: START, CORE_RESET, PRESET (12 R295). -/
def Command.isCore (c : Command) : Bool := c.opc == 1 || c.opc == 2 || c.opc == 3

/-- The command of a partition that may start next with an opcode: the first admitted of its kind. A core command starts once it is the
oldest left; a service command once every earlier one has started, while fewer than 8 run (12 R296). -/
def Partition.nextStart (p : Partition) (opc : Nat) : Option Command :=
  let core := opc == 1 || opc == 2 || opc == 3
  match p.commands.find? fun c => c.stage == .admitted && c.isCore == core && c.opc != 0 with
  | some c =>
    if c.opc == opc && (if core then (match p.commands with | d :: _ => d.arrival == c.arrival | [] => false)
      else (p.commands.filter fun d => d.stage == .running && !d.isCore).length < 8) then some c else none
  | none => none

/-- Runs a body on the command that is next to start, where it has the opcode and may start. -/
def State.startNext (s : State) (n : PartId) (opc : Nat) (body : Command → State) : Host.Outcome State Fault Refusal :=
  match (s.parts[n]).nextStart opc with
  | some c => .next (body c)
  | none => .next s

/-- The command runs from now on. -/
def State.nowRuns (s : State) (n : PartId) (c : Command) : State := s.modCommand n c.arrival fun c => { c with stage := .running }

/-! ## The commands (12 R302) -/

/-- CMD_NOP completes at admission. -/
def execCmdNop (n : PartId) (s : State) : Host.Outcome State Fault Refusal :=
  match (s.parts[n]).commands.find? fun c => c.opc == 0 && c.stage == .admitted with
  | some c => .next (s.finish n c c.outcome 0 0 0)
  | none => .next s

/-- A Porter channel of the partition writes the program memory of a core a START names (09 R227). -/
def State.progBusy (s : State) (n : PartId) (c : Command) : Bool :=
  (s.coresOf n).any fun k => (s.core k).chans.toList.any fun ch =>
    ch.state.isActive && spaceOf ch.regs.dstAddr == 3 && bitOf c.mask (bits ch.regs.dstAddr 37 32)

/-- A core leaves HALTED with PC = entry and s0–s3 = the arguments (06 R143). -/
def Core.started (k : Core) (c : Command) : Core :=
  let arg (i : Nat) : W64 := BitVec.ofNat 64 (c.field (32 + 8 * i) 8)
  { k with
    mode := .running, pc := c.field 24 2 % 16384
    sreg := (((k.sreg.set (0 : Fin 32) (arg 0)).set (1 : Fin 32) (arg 1)).set (2 : Fin 32) (arg 2)).set (3 : Fin 32) (arg 3)
    power := { k.power with state := 0 } }

/-- A named core still clears after it powered up, or a bank of the partition clears after its reset: the START waits (08 R217; 16 R370). -/
def State.startWaits (s : State) (n : PartId) (c : Command) : Bool :=
  (c.named.any fun k => (s.core k).mode == .clearing) ||
    (s.coresOf n).any fun m => (List.finRange 32).any fun b => match s.bank m b with | .clearing (.core _) => true | _ => false

/-- START: the named cores leave HALTED (12 R302; 06 R143). -/
def execStart (n : PartId) (s : State) : Host.Outcome State Fault Refusal :=
  s.startNext n 1 fun c =>
    if s.progBusy n c || s.startWaits n c then s
    else if s.coreStateBad c then s.finish n c 3 4 0 0
    else c.named.foldl (fun (s : State) (k : CoreId) => s.modCore k fun q => q.started c) (s.nowRuns n c)

/-- START_COMPLETE: every named core is HALTED, or the START has ended otherwise, and no Porter channel of the partition is active
(12 R302, 09 R246). -/
def execStartComplete (n : PartId) (s : State) : Host.Outcome State Fault Refusal :=
  match (s.parts[n]).runningStart with
  | none => .next s
  | some c =>
    if s.channelsRun n then .next s
    else match c.ended with
      | some (outcome, cause, detail) => .next (s.finish n c outcome cause detail (s.startResult c))
      | none => .next (if c.named.all fun k => (s.core k).mode == .halted then s.endStart n c.outcome 0 0 else s)

/-- RUN_BOUND_EXPIRY: the named cores stop, the START ends ABORTED with RUN_LIMIT (12 R300). -/
def execRunBoundExpiry (n : PartId) (s : State) : Host.Outcome State Fault Refusal :=
  match (s.parts[n]).runningStart with
  | none => .next s
  | some c =>
    if c.run == 0 || c.ended.isSome then .next s
    else
      let s := c.named.foldl (fun (s : State) (k : CoreId) => let (s, ev) := s.stopCore k; s.nanReport k ev) s
      let s := s.retryAll
      .next (postEvent (s.endStart n 5 2 0) 3 (some n) none c.cid)

/-- CORE_RESET: the core reset of 06 R163 on each named core. -/
def execCoreReset (n : PartId) (s : State) : Host.Outcome State Fault Refusal :=
  s.startNext n 2 fun c =>
    if s.coreStateBad c then s.finish n c 3 4 0 0
    else ((c.named.foldl (fun (s : State) (k : CoreId) => s.resetCore k) s).retryAll).finish n c c.outcome 0 0 0

/-- PRESET: the partition reset, whose record is the reset record. -/
def execPreset (n : PartId) (s : State) : Host.Outcome State Fault Refusal :=
  s.startNext n 3 fun _ => s.partitionReset n true

/-- The context a STREAM_OPEN opens (10 R248, R251). -/
def openedCtx (n : PartId) (c : Command) : Ctx :=
  let kind := c.field 23 1
  let remote := bitOf kind 0
  let side := bitOf kind 1
  let geom := c.field 22 1
  let far := c.field 26 2
  { Ctx.reset with
    state := 1, remote := remote, side := side, part := n.val, score := c.field 20 1, rcore := c.field 21 1
    ring := if remote && !side then 0 else c.field 24 2, far := far
    slotExp := bits geom 2 0, depthExp := bits geom 6 4
    cred := if remote && side then BitVec.ofNat 16 far else BitVec.ofNat 16 (2 ^ bits geom 6 4)
    clearing := true }

/-- STREAM_OPEN: the context opens; VALID clears in every slot header (10 R251). -/
def execStreamOpen (n : PartId) (s : State) : Host.Outcome State Fault Refusal :=
  s.startNext n 4 fun c =>
    match s.openOrder n c with
    | 0 =>
      match s.ctxOf n (c.field 16 4) with
      | some (key, _) =>
        let x := openedCtx n c
        let s := ((s.nowRuns n c).dropTraffic n (c.field 16 4)).setCtx key x
        if x.remote && !x.side then s else s.clearRing x
      | none => s
    | o => s.finish n c 3 (0x10 + o) 0 0

/-- STREAM_OPEN_CLEAR_DONE: the ring headers are clear and the oldest running STREAM_OPEN completes (12 R302). -/
def execStreamOpenClearDone (n : PartId) (s : State) : Host.Outcome State Fault Refusal :=
  match (s.parts[n]).commands.find? fun c => c.opc == 4 && c.stage == .running with
  | none => .next s
  | some c =>
    match s.ctxOf n (c.field 16 4) with
    | some (key, x) => .next ((s.setCtx key { x with clearing := false }).finish n c c.outcome 0 0 0)
    | none => .next s

/-- STAGE: the ring engine claims a bank for the target core (12 R302; 08 R204). -/
def execStage (n : PartId) (s : State) : Host.Outcome State Fault Refusal :=
  s.startNext n 5 fun c => (s.nowRuns n c).ringNext n

/-- The reads of the ring engine's STAGE are over. -/
def State.endStageReads (s : State) (n : PartId) : State :=
  { s with attach := { s.attach with reads := s.attach.reads.filter fun r => !(r.use == .stage && r.part == n) } }

/-- A STAGE whose copy meets a bus error ends FAULTED and returns its bank, and the ring engine goes on (12 R302, R304; 09 R239). -/
def State.stageFails (s : State) (n : PartId) (c : Command) (m : CoreId) (b : BankIx) (kind addr : Nat) : State :=
  let src := c.field 24 8
  let s := (s.noteReadError (some n) kind).recordBusError c.target (spaceOf src) kind addr
  let s := postEvent s 0x10 (some n) (some c.target) (addr % 2 ^ 60 + kind * 2 ^ 60)
  let s := (s.abandonReads fun r => r.use == .stage && r.part == n).clearBank m b .pool
  (s.finish n c 4 0 (0x10 * 2 ^ 8 + kind % 256 * 2 ^ 16) 0).stageAsk n 1024

/-- The bytes of SRC stand in the STAGED bank: its handover begins (08 R207). -/
def State.stageFilled (s : State) (n : PartId) (c : Command) (m : CoreId) (b : BankIx) : State :=
  ({ (s.endStageReads n).wakeCore m with handovers := s.handovers ++ [Handover.mk m b none c.target (.ring n) false false 0 0 []] }).stageAsk n 1024

/-- STAGE_COPY_COMPLETE: the bytes of SRC stand in the STAGED bank and its handover begins; a bus error ends the STAGE FAULTED and
returns the bank (12 R302, R304; 08 R207; 09 R239). HBM bytes come from the HBM3E, HOST bytes with the answer, or on UCIe with the
completions of the reads (11 R280). -/
def execStageCopyComplete (n : PartId) (answer : ReadAnswer) (s : State) : Host.Outcome State Fault Refusal :=
  match s.filling n with
  | none => .next s
  | some (c, m, b) =>
    let len := c.field 20 4
    let src := c.field 24 8
    match answer with
    | .error kind => .next (s.stageFails n c m b kind (offsetOf src))
    | .data bytes =>
      if spaceOf src == 2 then
        if !s.hbmReady n (offsetOf src) len then .next s
        else if s.hbmPoisoned n (offsetOf src) len then .next (s.stageFails n c m b 6 (offsetOf src))
        else .next ((s.write (bankBase m b) (s.hbmRead n (offsetOf src) len)).stageFilled n c m b)
      else if c.asked < len then .next (s.stageAsk n 1024)
      else if s.delivery == .kv2c then
        .next (if s.attach.reads.any fun r => r.use == .stage && r.part == n then s else s.stageFilled n c m b)
      else .next (if bytes.length == len then (s.write (bankBase m b) bytes).stageFilled n c m b else s)

/-- CTX_ACQ: one of the die's 8 Canopy contexts under the local number (12 R302). -/
def execCtxAcq (n : PartId) (s : State) : Host.Outcome State Fault Refusal :=
  s.startNext n 6 fun c =>
    if s.ctxBad n c then s.finish n c 3 0x30 0 0
    else match s.freeCanopy with
      | none => s.finish n c 2 5 0 0
      | some i => (s.takeCanopy n (c.field 16 1) false i).finish n c c.outcome 0 0 i.val

/-- CTX_REL: the context returns. -/
def execCtxRel (n : PartId) (s : State) : Host.Outcome State Fault Refusal :=
  s.startNext n 7 fun c =>
    if s.ctxBad n c then s.finish n c 3 0x30 0 0
    else (s.dropCanopy n (c.field 16 1)).finish n c c.outcome 0 0 0

end Sys2Proof.Machine
end

