-- ==== Sys2Proof/Machine/ControlRegs.lean ====
section
/-!
DEFINITION. The control registers of a core, read by CRR and written by CRW and by the rows that name one register (07 R178).
-/
namespace Sys2Proof.Machine

/-- A control register number that holds a register (07 R178). -/
def csrDefined (r : Nat) : Bool :=
  r ≤ 0x00E || (0x010 ≤ r && r ≤ 0x02D) || (0x040 ≤ r && r ≤ 0x08F) || (0x100 ≤ r && r ≤ 0x17F && r % 8 != 7)
    || (0x180 ≤ r && r ≤ 0x19F)

/-- Registers that earlier operations in flight may still change. -/
def csrLate (r : Nat) : Bool :=
  r == 1 || r == 2 || r == 4 || r == 6 || (0x018 ≤ r && r ≤ 0x027) || (0x040 ≤ r && r ≤ 0x07F)

/-- EPOCH_CTL (06 R155). -/
def Epoch.word (e : Epoch) : Nat :=
  e.restart % 16384 * 2 ^ 34 + b2n e.discarding * 2 ^ 33 + b2n e.opened * 2 ^ 32 + e.id.toNat

/-- AMXn (05 R122). -/
def Amx.word (x : Amx) : Nat := b2n x.nf * 2 ^ 31 + x.amax % 65536

/-- The value a control register reads (07 R178). -/
def State.csrRead (s : State) (c : CoreId) (r : Nat) : Nat :=
  let k := s.core c
  if 0x180 ≤ r then s.bankOwnWord c (Fin.ofNat 32 r)
  else if 0x100 ≤ r then (k.chans[Fin.ofNat 16 (r / 8)]).read (r % 8)
  else if 0x080 ≤ r then (k.ltd[Fin.ofNat 16 r]).toNat
  else if 0x040 ≤ r then (k.slots[Fin.ofNat 64 r]).word
  else if 0x028 ≤ r then (k.scoutCounts[Fin.ofNat 6 (r - 0x028)]).toNat
  else if 0x020 ≤ r then (k.amx[Fin.ofNat 8 r]).word
  else if 0x018 ≤ r then k.groupStat (Fin.ofNat 8 r)
  else if 0x010 ≤ r then (k.groups[Fin.ofNat 8 r]).cfg
  else match r with
    | 0x0 => k.coreStat (s.oldest c).2
    | 0x1 => k.cvt
    | 0x2 => k.drnSlot % 64 * 2 ^ 11 + b2n k.drnNf * 2 ^ 10 + k.drnPos % 1024
    | 0x3 => b2n k.lntKv1 * 2 ^ 16 + unsigned 16 k.lntFtz
    | 0x4 => k.lntStat.toNat
    | 0x5 => k.ieeeRnd
    | 0x6 => k.ieeeStat
    | 0x7 => k.scoutDepth * 2 + b2n k.scoutEn
    | 0x8 => k.shdirCount * 2 ^ 22 + k.shdirBase * 2 ^ 7
    | 0x9 => k.epoch.word
    | 0xA => k.epoch.banks.toNat
    | 0xB => k.epoch.slots.toNat
    | 0xC => k.stepno.toNat
    | 0xD => k.tag.toNat
    | _ => k.frec.toNat

/-- LNT_STAT with the written bits cleared; NF takes NF_POS with it (04 R120). -/
def lntCleared (n v : Nat) : Nat := clearBits n ((v &&& 0x1FE400) + if bitOf v 10 then 0x3FF else 0)

/-- A write of AGn_STAT, HSLOT_STAT[h] or another register of W1C bits (03 R81, R87, R91; 04 R120; 06 R144, R160). -/
def Core.clearStatus (k : Core) (r v : Nat) : Core :=
  if 0x040 ≤ r then k.modSlot (Fin.ofNat 64 r) fun h =>
    { h with sat := h.sat && !bitOf v 11, nf := h.nf && !bitOf v 10, nfPos := if bitOf v 10 then 0 else h.nfPos }
  else if 0x018 ≤ r then
    let n : Fin 8 := Fin.ofNat 8 r
    let g := k.groups[n]
    { k with groups := k.groups.set n { g with badcfg := g.badcfg && !bitOf v 5, overlap := g.overlap && !bitOf v 4, wrIgn := g.wrIgn && !bitOf v 3 } }
  else match r with
    | 0x0 => { k with epseq := k.epseq && !bitOf v 21, maskIgn := k.maskIgn && !bitOf v 20, ecc1 := k.ecc1 && !bitOf v 19 }
    | 0x1 => { k with cvt := clearBits k.cvt v }
    | 0x2 => if bitOf v 10 then { k with drnNf := false, drnSlot := 0, drnPos := 0 } else k
    | 0x4 => { k with lntStat := BitVec.ofNat 32 (lntCleared k.lntStat.toNat v) }
    | _ => { k with ieeeStat := clearBits k.ieeeStat v }

/-- A control register whose fields are all RO or RC (07 R178, 13 R311). -/
def csrReadOnly (r : Nat) : Bool := r == 0x9 || r == 0xE || (0x020 ≤ r && r ≤ 0x02D)

/-- A status register of W1C bits. -/
def csrStatus (r : Nat) : Bool := r == 0 || r == 1 || r == 2 || r == 4 || r == 6 || (0x018 ≤ r && r ≤ 0x01F) || (0x040 ≤ r && r ≤ 0x07F)

/-- A write of a control register by the core's program (07 R178). -/
def State.csrWrite (s : State) (c : CoreId) (r v : Nat) : Act :=
  let k := s.core c
  let ignored (s : State) : Act := .done (countIgnored s c r v)
  if csrReadOnly r then ignored s
  else if csrStatus r then .done (s.modCore c fun k => k.clearStatus r v)
  else if 0x180 ≤ r then s.bankOwnWrite c (Fin.ofNat 32 r) v
  else if 0x100 ≤ r then s.chanWrite c (Fin.ofNat 16 (r / 8)) (r % 8) v
  else if 0x080 ≤ r then
    if k.epoch.opened then .stall else .done (s.modCore c fun k => { k with ltd := k.ltd.set (Fin.ofNat 16 r) (BitVec.ofNat 64 v) })
  else if 0x010 ≤ r then s.groupWrite c (Fin.ofNat 8 r) v (bitOf v 31) false
  else match r with
    | 0x3 =>
      let f := signed 16 v
      if f < -16384 || -1024 < f then
        .done (countIgnored (s.modCore c fun k => { k with lntStat := k.lntStat ||| 0x2000 }) c r v)
      else .done (s.modCore c fun k => { k with lntFtz := f, lntKv1 := bitOf v 16 })
    | 0x5 => if 4 < v % 8 then ignored s else .done (s.modCore c fun k => { k with ieeeRnd := v % 8 })
    | 0x7 =>
      let d := bits v 7 1
      if d == 0 || 64 < d then ignored s
      else .done ((s.scoutCancel c).modCore c fun k => { k with scoutDepth := d, scoutEn := bitOf v 0 })
    | 0x8 => if 64 < bits v 28 22 then ignored s else .done (s.modCore c fun k => { k with shdirCount := bits v 28 22, shdirBase := bits v 21 7 })
    | 0xA =>
      if k.epoch.opened then ignored (s.modCore c fun k => { k with maskIgn := true })
      else .done (s.modCore c fun k => { k with epoch := { k.epoch with banks := BitVec.ofNat 32 v } })
    | 0xB =>
      if k.epoch.opened then ignored (s.modCore c fun k => { k with maskIgn := true })
      else .done (s.modCore c fun k => { k with epoch := { k.epoch with slots := BitVec.ofNat 64 v } })
    | 0xC =>
      let s := s.modCore c fun k => { k with stepno := BitVec.ofNat 32 v }
      .done (match k.part with | some n => s.stepBoundary n | none => s)
    | _ => .done (s.modCore c fun k => { k with tag := BitVec.ofNat 16 v })

def fCSR (w : Nat) : Nat := bits w 39 28

/-- An operation in flight may still change this register. -/
def Core.csrBusy (k : Core) (r : Nat) : Bool := csrLate r && (k.inflight != [] || k.creds.any fun q => q.mode == 0 || q.mode == 1)

/-- CRR (07 R178): the value before it clears an RC register. -/
def execCrr (x : Issue) (s : State) : Host.Outcome State Fault Refusal :=
  issue x s 0x2B (fun _ w => require [isReg (fD w), fA w == 0, csrDefined (fCSR w), bits w 27 0 == 0]) fun c w s =>
    let r := fCSR w
    if s.unready c [fD w] || (s.core c).csrBusy r then .stall
    else
      let v := s.csrRead c r
      .done (s.modCore c fun k =>
        let k := if 0x028 ≤ r && r ≤ 0x02D then { k with scoutCounts := k.scoutCounts.set (Fin.ofNat 6 (r - 0x028)) 0 } else k
        k.setReg (fD w) (BitVec.ofNat 64 v))

/-- A CRW whose register is among those of its row (07 R178; log 23). -/
def crw (x : Issue) (s : State) (row : Nat → Bool) : Host.Outcome State Fault Refusal :=
  issue x s 0x2C (fun _ w => require [fD w == 0, isReg (fA w), csrDefined (fCSR w), row (fCSR w), bits w 27 0 == 0]) fun c w s =>
    let r := fCSR w
    if s.unready c [fA w] || (s.core c).csrBusy r then .stall
    else s.csrWrite c r ((s.core c).regNat (fA w))

def execCrw (x : Issue) (s : State) : Host.Outcome State Fault Refusal := crw x s fun _ => true
def execAgnCfgWrite (x : Issue) (s : State) : Host.Outcome State Fault Refusal := crw x s fun r => 0x010 ≤ r && r ≤ 0x017
def execLntCfgWrite (x : Issue) (s : State) : Host.Outcome State Fault Refusal := crw x s fun r => r == 0x003
def execShdirWrite (x : Issue) (s : State) : Host.Outcome State Fault Refusal := crw x s fun r => r == 0x008
def execBankOwnGo (x : Issue) (s : State) : Host.Outcome State Fault Refusal := crw x s fun r => 0x180 ≤ r
def execPchGo (x : Issue) (s : State) : Host.Outcome State Fault Refusal := crw x s fun r => 0x100 ≤ r && r < 0x180 && r % 8 == 3
def execPchResume (x : Issue) (s : State) : Host.Outcome State Fault Refusal := crw x s fun r => 0x100 ≤ r && r < 0x180 && r % 8 == 3
def execPchAbort (x : Issue) (s : State) : Host.Outcome State Fault Refusal := crw x s fun r => 0x100 ≤ r && r < 0x180 && r % 8 == 3
def execEpochMaskWrite (x : Issue) (s : State) : Host.Outcome State Fault Refusal := crw x s fun r => r == 0x00A || r == 0x00B
def execScoutCtlWrite (x : Issue) (s : State) : Host.Outcome State Fault Refusal := crw x s fun r => r == 0x007
def execStepnoWrite (x : Issue) (s : State) : Host.Outcome State Fault Refusal := crw x s fun r => r == 0x00C
def execW1cStatusClear (x : Issue) (s : State) : Host.Outcome State Fault Refusal :=
  crw x s fun r => csrStatus r || (0x100 ≤ r && r < 0x180 && r % 8 == 4) || 0x180 ≤ r

end Sys2Proof.Machine
end

