-- ==== Sys2Proof/Machine/Descriptor.lean ====
section
/-!
DEFINITION. Scalar memory and descriptor instructions: LD, ST, TLD, TST, TSET and TGET (07 R176, R177).
-/
namespace Sys2Proof.Machine

/-- The address A + a signed offset, as a 64-bit sum. -/
def effAddr (k : Core) (w : Nat) (off : Int) : Nat := (k.reg (fA w) + BitVec.ofInt 64 off).toNat

/-- An access of n bytes at an offset: aligned to its width, inside the scratchpad, in owned banks (07 R176). -/
def State.scalarAccess (s : State) (c : CoreId) (a n : Nat) (wr : Bool) (go : Unit → Act) : Act :=
  match s.checkOperands c [] [⟨a, a + n, n, wr⟩] with
  | .wait => .stall
  | .fault f => .fault f
  | .ok =>
    if (s.core c).blocked [(a, a + n)] (if wr then [(a, a + n)] else []) then .stall else go ()

def memWidth (w : Nat) : Nat := 2 ^ bits w 39 38
def memOffset (w : Nat) : Int := signed 37 w

def execLd (x : Issue) (s : State) : Host.Outcome State Fault Refusal :=
  issue x s 0x29 (fun _ w => require [isReg (fD w), isReg (fA w)]) fun c w s =>
    if s.unready c [fD w, fA w] then .stall
    else
      let k := s.core c
      let a := effAddr k w (memOffset w)
      let n := memWidth w
      s.scalarAccess c a n false fun _ =>
        let v := scratchNat s.mem k a n
        let v : W64 := if bitOf w 37 then BitVec.ofInt 64 (signed (8 * n) v) else BitVec.ofNat 64 v
        .done (s.modCore c fun k => k.setReg (fD w) v)

def execSt (x : Issue) (s : State) : Host.Outcome State Fault Refusal :=
  issue x s 0x2A (fun _ w => require [isReg (fD w), isReg (fA w), !bitOf w 37]) fun c w s =>
    if s.unready c [fD w, fA w] then .stall
    else
      let k := s.core c
      let a := effAddr k w (memOffset w)
      let n := memWidth w
      s.scalarAccess c a n true fun _ =>
        .done { s with mem := scratchWrite s.mem k a (leBytes n (k.regNat (fD w))) }

def execTld (x : Issue) (s : State) : Host.Outcome State Fault Refusal :=
  issue x s 0x30 (fun _ w => require [bits w 51 50 == 0, isReg (fA w)]) fun c w s =>
    if s.unready c [fA w] then .stall
    else
      let k := s.core c
      let a := effAddr k w (imm40 w)
      s.scalarAccess c a 32 false fun _ =>
        .done (s.setCore c { k with treg := k.treg.set (Fin.ofNat 16 (fD w)) (BitVec.ofNat 256 (scratchNat s.mem k a 32)) })

def execTst (x : Issue) (s : State) : Host.Outcome State Fault Refusal :=
  issue x s 0x31 (fun _ w => require [bits w 51 50 == 0, isReg (fA w)]) fun c w s =>
    if s.unready c [fA w] then .stall
    else
      let k := s.core c
      let a := effAddr k w (imm40 w)
      s.scalarAccess c a 32 true fun _ =>
        .done { s with mem := scratchWrite s.mem k a (leBytes 32 (k.treg[Fin.ofNat 16 (fD w)]).toNat) }

/-- Low bit and width of the descriptor field a code names, and the bits TSET writes of it (07 R177). -/
def descField (f : Nat) : Nat × Nat × Nat :=
  match f with
  | 0 => (0, 32, 22)
  | 1 => (32, 16, 16)
  | 2 => (48, 16, 16)
  | 3 => (64, 32, 22)
  | 4 => (96, 8, 4)
  | 5 => (112, 16, 16)
  | 6 => (128, 32, 22)
  | 7 => (160, 32, 22)
  | _ => (192, 32, 22)

/-- A descriptor with one field written: only the field's own bits, its reserved bits 0 (07 R177). -/
def setDescField (d f v : Nat) : Nat :=
  let (lo, width, keep) := descField f
  d - bits d (lo + width - 1) lo * 2 ^ lo + v % 2 ^ keep * 2 ^ lo

def execTset (x : Issue) (s : State) : Host.Outcome State Fault Refusal :=
  issue x s 0x32 (fun _ w => require [bits w 51 50 == 0, isReg (fA w), fB w == 0, bits w 33 30 < 9, bits w 29 0 == 0]) fun c w s =>
    if s.unready c [fA w] then .stall
    else
      let k := s.core c
      let i := Fin.ofNat 16 (fD w)
      .done (s.setCore c { k with treg := k.treg.set i (BitVec.ofNat 256 (setDescField (k.treg[i]).toNat (bits w 33 30) (k.regNat (fA w)))) })

def execTget (x : Issue) (s : State) : Host.Outcome State Fault Refusal :=
  issue x s 0x33 (fun _ w => require [isReg (fD w), bits w 45 44 == 0, fB w == 0, bits w 33 30 < 9, bits w 29 0 == 0]) fun c w s =>
    if s.unready c [fD w] then .stall
    else
      let (lo, width, _) := descField (bits w 33 30)
      .done (s.modCore c fun k =>
        k.setReg (fD w) (BitVec.ofNat 64 (bits (k.treg[Fin.ofNat 16 (fA w)]).toNat (lo + width - 1) lo)))

end Sys2Proof.Machine
end

