-- ==== Sys2Proof/Machine/Elementwise.lean ====
section
/-!
DEFINITION. The simple elementwise unit: EW MUL, DIV, NEG, ABS, MAX, MIN, CMPLT, CMPEQ, CVT and their retirement
(02 R41, R42, R55; 07 R187, R188).
-/
namespace Sys2Proof.Machine

/-- Product of two magnitudes held as rationals times powers of two. -/
def Mag.mul : Mag → Mag → Mag
  | .lin n d _ q, .lin n' d' _ q' => .lin (n * n') (d * d') 1 (q + q')
  | a, _ => a

def Mag.div : Mag → Mag → Mag
  | .lin n d _ q, .lin n' d' _ q' => .lin (n * d') (d * n') 1 (q - q')
  | a, _ => a

/-- a ≤ b for two such magnitudes, exactly. -/
def Mag.le : Mag → Mag → Bool
  | .lin n d _ q, .lin n' d' _ q' =>
    let e := q - q'
    let l := n ^ 128 * d' ^ 128
    let r := n' ^ 128 * d ^ 128
    if 0 ≤ e then l * 2 ^ e.toNat ≤ r else l ≤ r * 2 ^ (-e).toNat
  | _, _ => true

/-- The product of two values (03 R64, 07 R188). -/
def valMul : Val → Val → Val
  | .nan, _ => .nan
  | _, .nan => .nan
  | .inf _, .zero => .nan
  | .zero, .inf _ => .nan
  | .inf s, .inf t => .inf (s != t)
  | .inf s, .fin t _ => .inf (s != t)
  | .fin s _, .inf t => .inf (s != t)
  | .zero, _ => .zero
  | _, .zero => .zero
  | .fin s a, .fin t b => .fin (s != t) (a.mul b)

/-- The quotient of two values; `sa` and `sb` are the signs of the operands (07 R188). A zero is positive. -/
def valDiv : Val → Val → Val
  | .nan, _ => .nan
  | _, .nan => .nan
  | .zero, .zero => .nan
  | .inf _, .inf _ => .nan
  | .inf s, .zero => .inf s
  | .fin s _, .zero => .inf s
  | .zero, _ => .zero
  | .fin _ _, .inf _ => .zero
  | .inf s, .fin t _ => .inf (s != t)
  | .fin s a, .fin t b => .fin (s != t) (a.div b)

/-- Negation: zero and NaN stay (02 R41). -/
def valNeg : Val → Val
  | .inf s => .inf (!s)
  | .fin s a => .fin (!s) a
  | v => v

/-- Absolute value: NaN stays (02 R41). -/
def valAbs : Val → Val
  | .inf _ => .inf false
  | .fin _ a => .fin false a
  | v => v

/-- a ≤ b by value; NaN is handled before (02 R40). -/
def valLe : Val → Val → Bool
  | .inf true, _ => true
  | _, .inf false => true
  | .inf false, _ => false
  | _, .inf true => false
  | .zero, .zero => true
  | .zero, .fin s _ => !s
  | .fin s _, .zero => s
  | .fin s a, .fin t b => if s && !t then true else if !s && t then false else if s then b.le a else a.le b
  | _, _ => false

/-- Maximum and minimum (02 R42). -/
def valMax (a b : Val) : Val := if a == .nan then b else if b == .nan then a else if valLe a b then b else a
def valMin (a b : Val) : Val := if a == .nan then b else if b == .nan then a else if valLe a b then a else b

def valOne : Val := .fin false (.lin 1 1 1 0)

/-- A compare gives 1.0 or zero, and zero when an operand is NaN (07 R187). -/
def valCmp (p : Val → Val → Bool) (a b : Val) : Val := if a == .nan || b == .nan then .zero else if p a b then valOne else .zero

def valLt (a b : Val) : Bool := valLe a b && !valLe b a
def valEq (a b : Val) : Bool := valLe a b && valLe b a

/-- An operand element: its format, its code and its value. -/
structure EwIn where
  fmt : Nat
  code : Nat
  val : Val
  deriving DecidableEq, Repr

/-- The code of zero in Poxel16, Poxel8 and the IEEE formats (02 R37, R39). -/
def zeroCode (fmt : Nat) : Nat := if fmt == 0 then 0x4000 else if fmt == 1 then 0x40 else 0

/-- A logical element of a tensor; one outside it enters as zero (07 R181). -/
def ewRead (m : Memory) (k : Core) (d : Desc) (row col : Nat) : EwIn :=
  if d.inside row col then ⟨d.fmt, scratchNat m k (d.addr row col) (fmtBytes d.fmt), readVal m k d row col⟩ else ⟨d.fmt, zeroCode d.fmt, .zero⟩

/-- An operation on the values of its operands. -/
def onVals (g : Val → Val → Val) (a b : EwIn) : Val := g a.val b.val

/-- Equal codes of one format, equal values across formats (07 R187; log 122). -/
def sameElem (a b : EwIn) : Bool := if a.fmt == b.fmt then a.code == b.code else valEq a.val b.val

/-- CMPEQ (07 R187). -/
def ewCmpeq (a b : EwIn) : Val := if a.val == .nan || b.val == .nan then .zero else if sameElem a b then valOne else .zero

/-- One elementwise operation: its code, whether it has operand b, takes smoothing, which formats it accepts, what it computes. -/
structure EwOp where
  op : Nat
  binary : Bool
  smoothed : Bool
  srcFmts : List Nat
  dstFmts : List Nat
  /-- Sets no status bit between tiles of one format (02 R41; log 114). -/
  quiet : Bool
  deriving DecidableEq, Repr

/-- The field checks of EW (07 R187, R169). -/
def ewIllegal (o : EwOp) (w : Nat) : Option CoreFault :=
  require [fH w == 0, isS (fP w), bits w 27 24 == o.op, rmOk (bits w 23 22), axOk (bits w 21 18), bits w 1 0 == 0,
    o.binary || (fTB w == 0 && !bitOf w 7), o.smoothed || !bitOf w 6, bitOf w 6 || bits w 5 2 == 0]

/-- The operands of an EW instruction, its place and its smoothing vector (07 R180, R187). -/
structure EwJob where
  place : Place
  rows : Nat
  cols : Nat
  td : Operand
  ta : Operand
  tb : Operand
  ops : List Operand
  /-- The columns of the tile inside the destination. -/
  inside : Nat
  /-- The address of the smoothing vector. -/
  smoothAt : Nat
  areas : List Area

def ewJob (k : Core) (w : Nat) (o : EwOp) : EwJob :=
  let p := Place.of (k.regNat (fP w))
  let rows := bits w 17 13 + 1
  let cols := bits w 12 8 + 1
  let td := tileOperand k (fTD w) o.dstFmts p.row0 p.col0 rows cols true
  let ta := tileOperand k (fTA w) o.srcFmts p.row0 p.col0 rows cols false
  let ieee (f : Nat) : Bool := f == 2 || f == 3
  let td := if ieee td.desc.fmt && ieee ta.desc.fmt then { td with accepted := false } else td
  let tb := if bitOf w 7 then tileOperand k (fTB w) o.srcFmts 0 p.col0 1 cols false
    else tileOperand k (fTB w) o.srcFmts p.row0 p.col0 rows cols false
  let sv := (k.areg[Fin.ofNat 16 (bits w 5 2)]).toNat
  let n := td.desc.colsInside p.col0 cols
  { place := p, rows := rows, cols := cols, td := td, ta := ta, tb := tb
    ops := if o.binary then [td, ta, tb] else [td, ta]
    inside := n, smoothAt := sv
    areas := if bitOf w 6 then [⟨sv + 2 * p.col0, sv + 2 * (p.col0 + n), 2, false⟩] else [] }

/-- The tile an EW instruction makes of the operands as they stand: `f` of the elements, smoothed, rounded (05 R133; 07 R187). -/
def State.ewTile (s : State) (c : CoreId) (w : Nat) (o : EwOp) (f : EwIn → EwIn → Val) : TileOut :=
  let k := s.core c
  let q := ewJob k w o
  let p := q.place
  writeTile q.td.desc p.row0 p.col0 q.rows q.cols
    (fun r j =>
      let a := ewRead s.mem k q.ta.desc (p.row0 + r) (p.col0 + j)
      let b := if o.binary then ewRead s.mem k q.tb.desc (if bitOf w 7 then 0 else p.row0 + r) (p.col0 + j) else ⟨0, 0, .zero⟩
      (f a b).shift (if bitOf w 6 then -(smooth s.mem k q.smoothAt (p.col0 + j)) else 0))
    fun r j => s.roundingOf c (bits w 23 22) p.stream q.td.desc (p.row0 + r) (p.col0 + j)

/-- The operation that an EW instruction puts into its unit (06 R146). -/
def State.ewOperation (s : State) (c : CoreId) (w : Nat) (o : EwOp) (f : EwIn → EwIn → Val) : InFlight :=
  let k := s.core c
  let q := ewJob k w o
  let t := s.ewTile c w o f
  { unit := .elementwise, pc := k.pc, tag := k.tag, pass := none
    effects := t.stores k ++ [.cvt (if o.quiet && q.td.desc.fmt == q.ta.desc.fmt then 0 else t.cvt)] ++ t.fold (bits w 21 18)
    ranges := writtenRanges q.ops q.areas, slots := [], readSlots := [], regs := [], sets := [], table := false
    reads := allRanges q.ops q.areas }

/-- An EW instruction (07 R187): checks, operands read at issue, the tile written when it retires. -/
def elementwise (x : Issue) (s : State) (o : EwOp) (f : EwIn → EwIn → Val) : Host.Outcome State Fault Refusal :=
  issue x s 0x50 (fun _ w => ewIllegal o w) fun c w s =>
    let k := s.core c
    if s.unready c (fP w :: if bitOf w 6 then [32 + bits w 5 2] else []) then .stall
    else
      let q := ewJob k w o
      match s.checkOperands c q.ops q.areas q.place.ok with
      | .wait => .stall
      | .fault f => .fault f
      | .ok =>
        if k.blocked (allRanges q.ops q.areas) (writtenRanges q.ops q.areas) || k.unitFull .elementwise then .stall
        else match scaleFault q.ops with
        | some f => .fault f
        | none =>
        if bitOf w 6 && smoothFault s.mem k q.smoothAt q.place.col0 q.inside then .fault (descFault 6 0 0xF)
        else .done (s.launch c (s.ewOperation c w o f))

def ewMulOp : EwOp := ⟨0, true, true, [0, 1], [0, 1], false⟩
def ewDivOp : EwOp := ⟨1, true, true, [0, 1], [0, 1], false⟩
def ewNegOp : EwOp := ⟨2, false, false, [0, 1], [0, 1], true⟩
def ewAbsOp : EwOp := ⟨3, false, false, [0, 1], [0, 1], true⟩
def ewMaxOp : EwOp := ⟨4, true, false, [0, 1], [0, 1], false⟩
def ewMinOp : EwOp := ⟨5, true, false, [0, 1], [0, 1], false⟩
def ewCmpltOp : EwOp := ⟨6, true, false, [0, 1], [0], false⟩
def ewCmpeqOp : EwOp := ⟨7, true, false, [0, 1], [0], false⟩
def ewCvtOp : EwOp := ⟨8, false, true, [0, 1, 2, 3], [0, 1, 2, 3], false⟩

def execEwMul (x : Issue) (s : State) : Host.Outcome State Fault Refusal := elementwise x s ewMulOp (onVals valMul)
def execEwDiv (x : Issue) (s : State) : Host.Outcome State Fault Refusal := elementwise x s ewDivOp (onVals valDiv)
def execEwNeg (x : Issue) (s : State) : Host.Outcome State Fault Refusal := elementwise x s ewNegOp fun a _ => valNeg a.val
def execEwAbs (x : Issue) (s : State) : Host.Outcome State Fault Refusal := elementwise x s ewAbsOp fun a _ => valAbs a.val
def execEwMax (x : Issue) (s : State) : Host.Outcome State Fault Refusal := elementwise x s ewMaxOp (onVals valMax)
def execEwMin (x : Issue) (s : State) : Host.Outcome State Fault Refusal := elementwise x s ewMinOp (onVals valMin)
def execEwCmplt (x : Issue) (s : State) : Host.Outcome State Fault Refusal := elementwise x s ewCmpltOp (onVals (valCmp valLt))
def execEwCmpeq (x : Issue) (s : State) : Host.Outcome State Fault Refusal := elementwise x s ewCmpeqOp ewCmpeq
def execEwCvt (x : Issue) (s : State) : Host.Outcome State Fault Refusal := elementwise x s ewCvtOp fun a _ => a.val

/-- EW_RETIRE (06 R146). -/
def execEwRetire (c : CoreId) (s : State) : Host.Outcome State Fault Refusal := .next (s.retireUnit c .elementwise)

end Sys2Proof.Machine
end

