-- ==== Sys2Proof/Machine/Fuse.lean ====
section
/-!
DEFINITION. The fuse array (17 R385–R389): two reads of three copies of every word, the vote, the effective value, the latch
and what a later read compares against it.
-/
namespace Sys2Proof.Machine

/-- The two reads of a physical word: low margin, high margin (17 R386). -/
structure FuseReads where
  low : List W32
  high : List W32
  deriving DecidableEq, Repr

def FuseReads.lowOf (f : FuseReads) (p : Nat) : Nat := (f.low.getD p 0).toNat

/-- The value of a copy is its high-margin read. -/
def FuseReads.copy (f : FuseReads) (w c : Nat) : Nat := (f.high.getD (w + 256 * c) 0).toNat

/-- A copy whose two reads differ (17 R386). -/
def FuseReads.weak (f : FuseReads) (w c : Nat) : Bool := f.lowOf (w + 256 * c) != f.copy w c

/-- The weight a value has in the vote over a word (17 R387). -/
def FuseReads.weight (f : FuseReads) (w v : Nat) : Nat :=
  ([0, 1, 2].filter fun c => f.copy w c == v).foldl (fun a c => a + (if f.weak w c then 1 else 2)) 0

/-- The value with the largest total weight, none where the word is unresolved (17 R387). -/
def FuseReads.winner (f : FuseReads) (w : Nat) : Option Nat :=
  let v (c : Nat) : Nat := f.copy w c
  [v 0, v 1, v 2].find? fun x => [v 0, v 1, v 2].all fun y => y == x || f.weight w y < f.weight w x

/-- The voted value (17 R387). -/
def FuseReads.voted (f : FuseReads) (w : Nat) : Nat :=
  match f.winner w with
  | some v => v
  | none =>
    match [0, 1, 2].find? fun c => !f.weak w c with
    | some c => f.copy w c
    | none => f.copy w 0

/-- Some copy of the word is marginal (17 R387). -/
def FuseReads.marginal (f : FuseReads) (w : Nat) : Bool := [0, 1, 2].any fun c => f.weak w c

/-- SECCFG, KEYREV, SVN: the words whose unsettled bits take 1 (17 R388). -/
def restrictWord (w : Nat) : Bool := w == 2 || w == 4 || w == 5

/-- The effective value of a word (17 R388): a bit of a marginal restrictive word is 0 only where all six reads are 0. -/
def FuseReads.effective (f : FuseReads) (w : Nat) : Nat :=
  if restrictWord w && f.marginal w then
    [0, 1, 2].foldl (fun a c => a ||| f.lowOf (w + 256 * c) ||| f.copy w c) 0
  else f.voted w

/-- Some KEYHASH word of a key slot is marginal (17 R388). -/
def FuseReads.hashWeak (f : FuseReads) (slot : Nat) : Bool := (List.range 12).any fun i => f.marginal (6 + 12 * slot + i)

/-- The effective values of every word. -/
def FuseReads.array (f : FuseReads) : Tab Nat := (List.range 256).foldl (fun t w => tabSet 0 t w (f.effective w)) []

/-- The floor of an SVN word: its highest set bit plus 1 (17 R385). -/
def svnFloor (v : Nat) : Nat := if v == 0 then 0 else Nat.log2 v + 1

/-- A word of the Ember latch. -/
def State.fuse (s : State) (w : Nat) : Nat := tabGet 0 s.boot.fuses w

/-- A bit mask over words. -/
def wordMask (p : Nat → Bool) : Nat := (List.range 256).foldl (fun a w => if p w then a + 2 ^ w else a) 0

/-- A read after the latch: every word that differs sets its bit, counts and is told of (17 R389). -/
def State.compareFuses (s : State) (array : Tab Nat) : State :=
  (List.range 256).foldl (fun (s : State) (w : Nat) =>
    if tabGet 0 array w == s.fuse w then s
    else
      let s := objSet s none 0x3010 4 (objGet s none 0x3010 4 ||| 2 ^ w)
      (objBump s none 0x3010 5).noteChange none 0x3010 4) s

/-- The latch takes the values of a cold start's read (17 R389). -/
def State.latchFuses (s : State) (array : Tab Nat) : State :=
  { s with boot := { s.boot with fuses := array, latched := true } }

end Sys2Proof.Machine
end

