-- ==== Sys2Proof/Machine/Stash.lean ====
section
/-!
DEFINITION. The buddy stash (20 R460–R465): what a stash holds, its packets to the buddy and its writes to the host, the slots a
buddy keeps, and the commands of both sides.
-/
namespace Sys2Proof.Machine

/-! ## Packets of a camp (18 R415) -/

/-- A packet reaches this die as a packet of its row: it is this die's, one its camp's partition acts on, or transit that goes
on; a camp without a partition here drops it, counted (18 R414, R415). A KV2-C has no fabric (R402). -/
def campPacket (kind : Nat) (k : Packet) (s : State) (f : PartId → State) : Host.Outcome State Fault Refusal :=
  if s.delivery == .kv2c || k.kind != kind then .next s
  else if s.seatOf k.dst != s.mySeat then .next (s.sendPacket k)
  else match s.campPart k.camp with
    | some n => .next (f n)
    | none => .next (objBump s none 0x7000 9)

/-- A packet from this die to a rank of a partition's camp. -/
def State.sendRank (s : State) (n : PartId) (rank kind arg : Nat) (body : List Byte) : State :=
  s.sendPacket ⟨s.rankCoord rank, s.myCoord, kind, s.campOf n, arg, body⟩

/-! ## Buddies (20 R460) -/

def State.rankOf (s : State) (n : PartId) : Nat := objGet s (some n) 0x7100 6

def State.members (s : State) (n : PartId) : Nat := objGet s (some n) 0x7100 7

/-- The buddy of a rank among m. -/
def buddyOf (r m : Nat) : Nat := (r + (m + 1) / 2) % m

/-- The rank of this die's buddy, where it has one (20 R460). -/
def State.buddyRank (s : State) (n : PartId) : Option Nat :=
  let r := s.rankOf n
  let m := s.members n
  if s.delivery == .kv2c || s.campOf n == 0 || m < 2 || m ≤ r then none else some (buddyOf r m)

/-! ## The stash of a step (20 R461, R462, R464) -/

/-- Items 1 to 3 of a stash of step N. -/
def State.metaBytes (s : State) (n : PartId) (step : Nat) : List Byte :=
  let hist := s.captureHistories n (step + 1)
  leBytes 64 (s.block n) ++ leBytes 4 (hist.length / 96) ++ hist

/-- Item 4: the listed ranges of the committed buffer. -/
def State.stashRanges (s : State) (n : PartId) : List Byte :=
  (s.stashList n).flatMap fun e => s.hbmRead n (if blkMbuf (s.block n) == 0 then e.1 else e.2.1) e.2.2

/-- The norm partials that waited for the stash go on (20 R463). -/
def State.releaseNorms (s : State) (n : PartId) : State :=
  (s.parts[n]).canopy.foldl (fun (s : State) (e : Nat × Fin 8) =>
    (s.canopy[e.2]).reds.foldl (fun (s : State) (r : Reduction) => s.growReduction n e.2 r) s) s

/-- The stash in progress ends. -/
def State.stashEnds (s : State) (n : PartId) : State :=
  let s := s.modPart n fun p => { p with train := { p.train with stash := none, stashOver := true } }
  (s.stashState n 0).releaseNorms n

/-- A stash is abandoned: counted, posted, and what it held back is released (20 R465). -/
def State.stashAbandoned (s : State) (n : PartId) : State :=
  match (s.parts[n]).train.stash with
  | none => s
  | some q => postEvent (objBump (s.stashEnds n) (some n) 0x8200 9) 0x13 (some n) none q.step

/-- A stash is sealed, by the buddy or by the host's KEPT (20 R462, R465). -/
def State.stashSealed (s : State) (n : PartId) : State :=
  match (s.parts[n]).train.stash with
  | none => s
  | some q =>
    let old := objGet s (some n) 0x8200 6 % 2 ^ 32
    let s := objBump (objSet s (some n) 0x8200 6 (q.step + old * 2 ^ 32)) (some n) 0x8200 8
    let s := match q.host with
      | some h => s.modPart n fun p => { p with train := { p.train with hostHalf := some h } }
      | none => s
    s.stashEnds n

/-- The half of the host region a stash uses, its HOST offset, and the bytes it may take (20 R465). -/
def State.hostHalf (s : State) (n : PartId) : Nat × Nat × Nat :=
  let v := objGet s (some n) 0x8200 0xC
  let size := v / 2 ^ 64 / 2
  let h := if (s.parts[n]).train.hostHalf == some 0 then 1 else 0
  (h, offsetOf (v % 2 ^ 64) + h * size, size)

/-- The stash of a committed step begins (20 R462, R464, R465). -/
def State.startStash (s : State) (n : PartId) (step : Nat) : State :=
  if s.delivery == .kv2c then s
  else
    let s := s.stashAbandoned n
    let info := s.metaBytes n step
    let s := (s.modPart n fun p => { p with train := { p.train with metaPrev := p.train.metaNow, metaNow := some (step, info) } }).setPrevOk n true
    let start (s : State) (host : Option Nat) : State :=
      (s.modPart n fun p => { p with train := { p.train with stash := some ⟨step, info ++ s.stashRanges n, false, host⟩ } }).stashState n 1
    if s.marionette (some n) 3 then
      let (h, at_, room) := s.hostHalf n
      let s := start s (some h)
      let content := info ++ s.stashRanges n
      if room < content.length || !s.hostInside n at_ content.length true then s.stashAbandoned n
      else (s.hostPost n at_ content false).postCall (some n) 3
        (leBytes 4 step ++ leBytes 8 (2 ^ 60 + at_) ++ leBytes 8 content.length ++ leBytes 4 0)
    else match s.buddyRank n with
      | none => s
      | some b =>
        let s := start s none
        if !s.reachable (s.rankCoord b) then s.stashAbandoned n
        else s.sendRank n b 0x20 step (leBytes 8 (info.length + (s.stashRanges n).length) ++ leBytes 48 (objGet s (some n) 0x8100 3))

/-- The STASH_DATA packets and the STASH_SEAL of a stash (20 R462). -/
def State.sendStash (s : State) (n : PartId) (b : Nat) (q : Stash) : State :=
  let ps := pieces 8192 (q.content.length + 1) q.content
  let s := ps.zipIdx.foldl (fun (s : State) (e : List Byte × Nat) => s.sendRank n b 0x21 q.step (leBytes 8 (e.2 * 8192) ++ e.1)) s
  let s := s.modPart n fun p => { p with train := { p.train with stash := some { q with sealing := true } } }
  s.sendRank n b 0x22 q.step (leBytes 4 (crc32 q.content))

/-- STASH_ACK: the die goes on to its next stash step, or abandons the stash (20 R462, R465). -/
def execStashAck (k : Packet) (s : State) : Host.Outcome State Fault Refusal :=
  campPacket 0x23 k s fun n =>
    match (s.parts[n]).train.stash, s.buddyRank n with
    | some q, some b =>
      if q.host.isSome || q.step != k.arg || k.src != s.rankCoord b then s
      else if leNat (k.body.take 1) != 0 then s.stashAbandoned n
      else if q.sealing then s.stashSealed n
      else s.sendStash n b q
    | _, _ => s

/-- STASH_ACK_TIMEOUT (20 R465). -/
def execStashAckTimeout (n : PartId) (s : State) : Host.Outcome State Fault Refusal :=
  match (s.parts[n]).train.stash with
  | some q => .next (if q.host.isSome then s else s.stashAbandoned n)
  | none => .next s

/-! ## The buddy's side (20 R461, R462) -/

/-- Half the incoming region, and where a slot begins in the partition's HBM space. -/
def State.slotSize (s : State) (n : PartId) : Nat := objGet s (some n) 0x8200 4 / 2

def State.slotBase (s : State) (n : PartId) (slot : Nat) : Nat := objGet s (some n) 0x8200 3 + slot * s.slotSize n

/-- A slot header. -/
def stashHeader (step camp ward state len crc digest : Nat) : List Byte :=
  leBytes 4 0x5332564B ++ leBytes 4 step ++ leBytes 4 camp ++ leBytes 2 ward ++ leBytes 1 state ++ leBytes 1 0 ++ leBytes 8 len
    ++ leBytes 4 crc ++ leBytes 48 digest ++ leBytes 180 0

def State.modCamp (s : State) (n : PartId) (f : Camp → Camp) : State := s.modPart n fun p => { p with camp := f p.camp }

/-- obj 8200.0A shows the sealed steps held for the ward. -/
def State.showWard (s : State) (n : PartId) : State :=
  let l := (s.parts[n]).camp.wardSealed
  let at_ (i : Nat) : Nat := match l[i]? with | some e => e.2 | none => noStep
  objSet s (some n) 0x8200 0xA (at_ 0 + at_ 1 * 2 ^ 32)

/-- The slot that does not hold the newest sealed stash. -/
def Camp.freeSlot (c : Camp) : Nat := match c.wardSealed with | (0, _) :: _ => 1 | _ => 0

/-- The answer of a buddy to a STASH_OPEN: 0, or the status that rejects it. -/
def State.openStatus (s : State) (n : PartId) (len digest : Nat) : Nat :=
  if s.slotSize n == 0 || !s.hbmInside n (s.slotBase n 0) (2 * s.slotSize n) then 3
  else if digest != objGet s (some n) 0x8100 3 then 4
  else if s.slotSize n < len + 256 then 1 else 0

/-- An acknowledgement to the ward. -/
def State.sendAck (s : State) (k : Packet) (status : Nat) : State :=
  s.sendPacket ⟨k.src, s.myCoord, 0x23, k.camp, k.arg, leBytes 1 status⟩

/-- STASH_OPEN: the slot that does not hold the newest sealed stash takes a header with STATE 1 (20 R462). -/
def execStashOpen (k : Packet) (s : State) : Host.Outcome State Fault Refusal :=
  campPacket 0x20 k s fun n =>
    let len := leNat (k.body.take 8)
    let digest := leNat ((k.body.drop 8).take 48)
    match s.openStatus n len digest with
    | 0 =>
      let slot := (s.parts[n]).camp.freeSlot
      let s := s.hbmWrite n (s.slotBase n slot) (stashHeader k.arg k.camp k.src 1 len 0 digest)
      let s := s.modCamp n fun c => { c with wardSealed := c.wardSealed.filter (fun e => e.1 != slot), wardFill := some (slot, k.arg, len) }
      (s.showWard n).sendAck k 0
    | st => s.sendAck k st

/-- STASH_DATA: content enters the slot (20 R462). -/
def execStashData (k : Packet) (s : State) : Host.Outcome State Fault Refusal :=
  campPacket 0x21 k s fun n =>
    match (s.parts[n]).camp.wardFill with
    | some (slot, step, len) =>
      let off := leNat (k.body.take 8)
      let data := k.body.drop 8
      if step != k.arg || len < off + data.length then s
      else s.hbmWrite n (s.slotBase n slot + 256 + off) data
    | none => s

/-- STASH_SEAL: the buddy checks the content's CRC and seals the slot (20 R462). -/
def execStashSeal (k : Packet) (s : State) : Host.Outcome State Fault Refusal :=
  campPacket 0x22 k s fun n =>
    match (s.parts[n]).camp.wardFill with
    | some (slot, step, len) =>
      if step != k.arg then s
      else
        let base := s.slotBase n slot
        let crc := leNat (k.body.take 4)
        if crc32 (s.hbmRead n (base + 256) len) != crc then s.sendAck k 2
        else
          let s := (s.hbmWrite n (base + 24) (leBytes 4 crc)).hbmWrite n (base + 14) (leBytes 1 2)
          let s := s.modCamp n fun c => { c with wardSealed := (slot, step) :: c.wardSealed, wardFill := none }
          (s.showWard n).sendAck k 0
    | none => s

/-- PULL_REQ: the buddy answers with bytes of the sealed slot of the step, from its header on; a step that is not sealed has an
answer without bytes (20 R462). -/
def execPullReq (k : Packet) (s : State) : Host.Outcome State Fault Refusal :=
  campPacket 0x24 k s fun n =>
    let off := leNat (k.body.take 8)
    let len := min (leNat ((k.body.drop 8).take 4)) 8192
    let answer (bs : List Byte) : State := s.sendPacket ⟨k.src, s.myCoord, 0x25, k.camp, k.arg, leBytes 8 off ++ bs⟩
    match (s.parts[n]).camp.wardSealed.find? fun e => e.2 == k.arg with
    | some (slot, _) => answer (s.hbmRead n (s.slotBase n slot + off) (min len (s.slotSize n - off)))
    | none => answer []

end Sys2Proof.Machine
end

