-- ==== Sys2Proof/Machine/Verdict.lean ====
section
/-!
DEFINITION. Step control (19 R428–R447): the norm, the SKIP round, the commit, skip and unresolved points; and the delivery of
Canopy reductions to the cores that issued them (18 R420–R423).
-/
namespace Sys2Proof.Machine

/-! ## The norm (19 R439) -/

/-- 2^e as an FP64 word, for e of −1,022 to 1,023. -/
def fp64Pow2 (e : Int) : Nat := (e + 1023).toNat * 2 ^ 52

/-- An FP64 word is NaN or an infinity. -/
def fp64Bad (x : Nat) : Bool := bits x 62 52 == 2047

/-- NORM and CLIP of S under exponent g and threshold T (19 R439). -/
def normClip (sum : Nat) (g : Int) (t : Nat) : Nat × Nat :=
  if fp64Bad sum then (sum, 0)
  else
    let u := (fmt64.mulFp 0 (fmt64.unpack sum) (fmt64.unpack (fp64Pow2 (-2 * g)))).word
    let norm := (fmt64.sqrtFp 0 (fmt64.unpack u)).word
    let clips := t != 0 && !(bits norm 62 52 == 2047 && bits norm 51 0 != 0) && (fmt64.unpack t).lt (fmt64.unpack norm)
    let c := if clips then (fmt64.divFp 0 (fmt64.unpack t) (fmt64.unpack norm)).word else 0x3FF0000000000000
    (norm, (fmt64.mulFp 0 (fmt64.unpack c) (fmt64.unpack (fp64Pow2 (-g)))).word)

/-- An S8 value as a byte of the step block. -/
def s8 (x : Int) : Nat := unsigned 8 x

/-- The norm reduction of step N delivers S: the step block's norm fields, written to the cores (19 R432, R439). -/
def State.normDelivered (s : State) (n : PartId) (step sum : Nat) : State :=
  let t := (s.parts[n]).train
  let v := s.block n
  let g := blkGexp v
  let (norm, clip) := normClip sum g t.clip
  let gspec := if t.growth != 0 && t.growth ≤ blkGrow v + 1 then min (g + 1) (signed 8 t.ceiling) else g
  let v := withField (withField (withField v 20 4 step) 24 8 sum) 32 8 norm
  let v := withField (withField v 40 8 clip) 11 1 (s8 gspec)
  let s := s.modPart n fun p => { p with train := { p.train with normBad := fp64Bad sum } }
  (s.setBlock n v).writeStepBlock n

/-- S of step N was not finite (19 R439). -/
def State.normWasBad (s : State) (n : PartId) (step : Nat) : Bool := (s.parts[n]).train.normBad && blkNstep (s.block n) == step

/-- SSUM of step N, +0.0 where none was delivered (20 R454). -/
def State.sumOf (s : State) (n : PartId) (step : Nat) : Nat := if blkNstep (s.block n) == step then blkSsum (s.block n) else 0

/-! ## Actions of the commit and skip points (19 R441, R443, R445, R446) -/

/-- The walk on every core of the partition (19 R445, R446 action 2). -/
def State.walkAll (s : State) (n : PartId) (step : Nat) (commit : Bool) : State :=
  (s.coresOf n).foldl (fun (s : State) (c : CoreId) => s.shWalk c step commit) s

/-- The switch points of STEP and of STASH at a step boundary: the verdict of the step has been applied; no stash goes on (15 R352). -/
def State.controlBoundary (s : State) (n : PartId) : State :=
  let s := s.dutySwitch (some n) 2
  if (s.parts[n]).train.stash.isNone then s.dutySwitch (some n) 3 else s

/-- STEPNO becomes N + 1 on every core whose STEPNO is below it (19 R429). -/
def State.raiseStepno (s : State) (n : PartId) (next : Nat) : State :=
  (s.coresOf n).foldl (fun (s : State) (c : CoreId) =>
    s.modCore c fun k => if k.stepno.toNat < next then { k with stepno := BitVec.ofNat 32 next } else k) s

/-- A core has the epoch e open. -/
def Core.inEpoch (k : Core) (e : W32) : Bool := k.epoch.opened && k.epoch.id == e

def Core.halts (k : Core) : Bool := k.mode == .faulted || k.mode == .stopped

/-- The epoch of a faulted or stopped core ends as at core reset (19 R447; 06 R163 step 6). -/
def Core.epochEnds (k : Core) : Core := { k with epoch := k.epoch.shut, creds := k.creds.map fun (q : CredWait) => { q with outer := false } }

/-- Epochs e commit on every core of the partition, and on its streams (19 R443). -/
def State.epochsCommit (s : State) (n : PartId) (e : W32) : State :=
  let s := (s.coresOf n).foldl (fun (s : State) (c : CoreId) =>
    s.modCore c fun k => if !k.inEpoch e then k else if k.halts then k.epochEnds else k.commitEpoch) s
  s.streamsCommit n none e

/-- The cores whose epoch e a discard restarts. -/
def State.epochCores (s : State) (n : PartId) (e : W32) : List CoreId :=
  (s.coresOf n).filter fun c => (s.core c).inEpoch e && !(s.core c).halts

/-- Epochs e are discarded on every core of the partition, and on its streams (19 R443). -/
def State.epochsDiscard (s : State) (n : PartId) (e : W32) : State :=
  let cs := s.epochCores n e
  let s := s.streamsDiscard n none e
  let s := cs.foldl (fun (s : State) (c : CoreId) => let (s, ev) := s.discardCore c true; s.nanReport c ev) s
  ((s.coresOf n).foldl (fun (s : State) (c : CoreId) =>
    s.modCore c fun k => if k.inEpoch e && k.halts then k.epochEnds else k) s).retryAll

/-! ## CREDs retire (18 R421, R423) -/

/-- An element of the root's value as the destination slot takes it (03 R72, R73). -/
def deliverElem (e : Int × Nat) : HElem :=
  if e.2 < 2 then let v := clampInt (-maxV) maxV e.1; ⟨v, if v != e.1 then 1 else e.2⟩ else ⟨e.1, e.2⟩

/-- A tile is delivered into a slot: its elements, the reduction's anchor, SAT, NF and NF_POS (18 R421; 03 R73, R87). -/
def State.deliverTile (s : State) (c : CoreId) (dest : SlotIx) (anchor : Int) (vals : List (Int × Nat)) : State :=
  let es := vals.zipIdx.map fun e => (e.2, deliverElem e.1)
  let m := es.foldl (fun (m : Memory) (e : Nat × HElem) => hearthSet m c dest e.1 e.2) s.mem
  ({ s with mem := m }).modCore c fun k => k.modSlot dest fun h =>
    { es.foldl (fun (h : HSlot) (e : Nat × HElem) => h.mark ⟨e.2.st == 1, decide (2 ≤ e.2.st), false⟩ e.1) h with anchor := anchor }

/-- The AMX register of a delivered maximum, live and in the snapshot of an epoch opened after the CRED; NF is kept (19 R444). -/
def Core.credAmx (k : Core) (w : CredWait) (v : Nat) : Core :=
  let n : Fin 8 := Fin.ofNat 8 w.axn
  let put (a : Vector Amx 8) : Vector Amx 8 := a.set n { a[n] with amax := v }
  let k := { k with amx := put k.amx }
  match w.outer, k.epoch.snapshot with
  | true, some q => { k with epoch := { k.epoch with snapshot := some { q with amx := put q.amx } } }
  | _, _ => k

/-- A CRED takes the root's value and OREG = DONE; a NaN in a tile raises the first-NaN event (18 R421). -/
def State.credDone (s : State) (c : CoreId) (w : CredWait) (anchor : Int) (v : CVal) : State :=
  let s := match v with
    | .tile vals => s.deliverTile c (Fin.ofNat 64 w.dest) anchor vals
    | .word x => s.modCore c fun k => if w.mode == 1 then k.credAmx w x else k.credWrite w w.sreg (BitVec.ofNat 64 x)
    | .vote b => s.modCore c fun k => k.credWrite w (48 + w.sreg % 8) (if b then 1 else 0)
    | .nothing => s
  let s := s.modCore c fun k => { k.credWrite w w.oreg 0 with creds := k.creds.filter fun q => q != w }
  match v with
  | .tile vals =>
    match vals.findIdx? fun e => e.2 == 3 with
    | some el => s.nanReport c [(w.pc, w.tag, 4, w.dest, el)]
    | none => s
  | _ => s

/-- A CRED ends with an outcome; unequal anchors are the Hearth fault of its own PC on a core that ran (18 R423, 03 R73). -/
def State.credEnds (s : State) (c : CoreId) (w : CredWait) (code : Nat) (ran : Bool) : State :=
  if code == anchorFail then
    let s := s.modCore c fun k => { k with creds := k.creds.filter fun q => q != w }
    if ran then s.takeFaultAt c (hearthFault 2 w.slot) w.pc w.tag else s
  else s.modCore c fun k => k.credsEnd (fun q => q == w) code

/-- Every CRED of a reduction on this die retires, the lowest core first (a Canopy result wakes a napping core, 16 R363): the fault of one core stops no other that faults with it
(06 R159, R161). -/
def State.credsRetire (s : State) (i : Fin 8) (r : Reduction) (code : Nat) (v : CVal) : State :=
  let ran (c : CoreId) : Bool := (s.core c).mode == .running || (s.core c).mode == .waiting
  ((List.finRange 64).filter fun c => r.issued.any fun e => e.1 == c).foldl (fun (t : State) (c : CoreId) =>
    let t := t.wakeCore c
    match (t.core c).creds.find? fun w => w.ctx == i.val && w.rseq == r.rseq with
    | some w => if code == 0 then t.credDone c w r.anchor v else t.credEnds c w code (ran c)
    | none => t) s

/-! ## Unresolved steps, commit points, skip points (19 R441, R445, R446) -/

/-- Step N is unresolved (19 R441); while a step is unresolved a further failure adds nothing. -/
def State.stepUnresolved (s : State) (n : PartId) (step : Nat) : State :=
  if (s.parts[n]).train.unresolved then s
  else
    let e : W32 := BitVec.ofNat 32 (step + 1)
    let s := s.modPart n fun p => { p with train := { p.train with unresolved := true } }
    let sum := s.sumOf n step
    let s := (s.setBlock n (withField (withField (s.block n) 0 4 step) 8 1 4)).writeStepBlock n
    let s := ((s.walkAll n step false).closeRecord n step 4 sum).stepBoundary n
    let s := s.epochsDiscard n e
    let s := (objBump s (some n) 0x8010 8).noteChange (some n) 0x8010 3
    s.controlBoundary n

/-- A COMMIT verdict of step N, its six actions (19 R445). -/
def State.stepCommitted (s : State) (n : PartId) (i : Fin 8) (r : Reduction) (step : Nat) : State :=
  let v := s.block n
  let grow := if blkGspec v != blkGexp v then 0 else blkGrow v + 1
  let sum := s.sumOf n step
  let b := withField (withField (withField (withField v 0 4 step) 4 4 step) 8 1 1) 9 1 (1 - blkMbuf v)
  let b := withField (withField b 12 4 grow) 10 1 (s8 (blkGspec v))
  let s := (s.setBlock n b).writeStepBlock n
  let s := s.walkAll n step true
  let s := ((s.closeRecord n step 1 sum).openRecord n ((step + 1) % 2 ^ 32)).stepBoundary n
  let s := s.raiseStepno n ((step + 1) % 2 ^ 32)
  let s := (s.epochsCommit n (BitVec.ofNat 32 (step + 1))).credsRetire i r 0 (.vote false)
  let s := (objBump s (some n) 0x8010 6).dutySwitch (some n) 2
  let s := if (s.parts[n]).train.stashOver then s.dutySwitch (some n) 3 else s
  let s := s.startStash n step
  if (s.parts[n]).train.stash.isNone then s.dutySwitch (some n) 3 else s

/-- A SKIP verdict of step N with its code, its five actions (19 R446). -/
def State.stepSkipped (s : State) (n : PartId) (i : Fin 8) (r : Reduction) (step code : Nat) : State :=
  let v := s.block n
  let g := s8 (max (blkGexp v - 1) (signed 8 (s.parts[n]).train.floor))
  let sum := s.sumOf n step
  let b := withField (withField (withField v 0 4 step) 8 1 code) 16 4 (blkSkips v + 1)
  let b := withField (withField (withField b 10 1 g) 11 1 g) 12 4 0
  let s := (s.setBlock n b).writeStepBlock n
  let s := s.walkAll n step false
  let s := ((s.closeRecord n step code sum).openRecord n ((step + 1) % 2 ^ 32)).stepBoundary n
  let s := s.raiseStepno n ((step + 1) % 2 ^ 32)
  let e : W32 := BitVec.ofNat 32 (step + 1)
  let hit := (s.epochCores n e).length
  let s := (s.credsRetire i r 0 (.vote true)).epochsDiscard n e
  let s := objBump (objBump s (some n) 0x8010 7) (some n) 0x8010 9 hit
  let s := if code == 3 then objBump s (some n) 0x5200 9 else s
  s.controlBoundary n

/-- The verdict of a step is applied (19 R440 stage 4): the objects written during the step come into force first (19 R447). -/
def State.applyVerdict (s : State) (n : PartId) (i : Fin 8) (r : Reduction) (step : Nat) (v1 v2 : Bool) : State :=
  let s := s.latchStepConfig n
  if !v1 && !v2 then s.stepCommitted n i r step
  else s.stepSkipped n i r step (if v1 || s.normWasBad n step then 2 else 3)

/-! ## The end of a reduction on this die (18 R420, R423) -/

/-- The root's outcome goes down to every die a child came from; MEMBER_LOST is each die's own (18 R420, R423). -/
def State.passDown (s : State) (n : PartId) (ranks : List Nat) (r : Reduction) (level code : Nat) (v : CVal) : State :=
  if code == 4 then s
  else ranks.foldl (fun (s : State) (k : Nat) => s.sendCanopy n 0x11 k (r.body level 0 code (if code == 0 then v else .nothing))) s

/-- A reduction leaves its context and counts (18 R427). -/
def State.reductionOver (s : State) (n : PartId) (i : Fin 8) (r : Reduction) (code : Nat) : State :=
  let x := s.canopy[i]
  let s := s.setCanopy i { x with
    reds := x.reds.filter fun q => q.rseq != r.rseq
    settled := max x.settled (r.rseq + 1)
    ended := if code == 0 then x.ended else (r.rseq, code) :: x.ended }
  objBump s (some n) 0x7100 (if code == 0 then 2 else 3)

/-- A camp vote's latency is recorded: a free value (log 41). -/
def State.voteTimed (s : State) (n : PartId) (i : Fin 8) (r : Reduction) : State :=
  if (s.canopy[i]).camp && r.mode == 3 then
    let (k, s) := s.drawFree
    objSet s (some n) 0x7100 4 (Config.voteLatency k).toNat
  else s

/-- A reduction ends with an outcome other than DONE: its CREDs, then what it does to its step (18 R423; 19 R441). -/
def State.reductionFails (s : State) (n : PartId) (i : Fin 8) (r : Reduction) (code : Nat) : State :=
  let step := s.isStep n i r
  let s := s.passDown n r.children r (rootLevel r.nchunk) code .nothing
  let s := s.passDown n r.skipChildren r 0x80 code .nothing
  let s := (s.reductionOver n i r code).credsRetire i r code .nothing
  match step, r.step with
  | true, some k => s.stepUnresolved n k
  | _, _ => s

/-! ## The SKIP round (19 R440 stages 2 and 3) -/

/-- A node of the SKIP round's tree over the ranks. -/
def Reduction.skipNode (r : Reduction) (l m : Nat) : Option Bool :=
  (r.skipNodes.find? fun e => e.1 == l && e.2.1 == m).map fun e => e.2.2

/-- The nodes of the SKIP round a rank can evaluate by now. -/
def Reduction.skipGrow (rank m : Nat) (r : Reduction) : Reduction :=
  (List.range (rootLevel m)).foldl (fun (r : Reduction) (l0 : Nat) =>
    let l := l0 + 1
    let j := rank / 2 ^ l
    if rank % 2 ^ l != 0 || (r.skipNode l j).isSome then r
    else match r.skipNode l0 (2 * j), r.skipNode l0 (2 * j + 1) with
      | some x, some y => { r with skipNodes := r.skipNodes ++ [(l, j, x || y)] }
      | some x, none => if m ≤ (2 * j + 1) * 2 ^ l0 then { r with skipNodes := r.skipNodes ++ [(l, j, x)] } else r
      | none, _ => r) r

/-- The node this rank sends up, once it has it. -/
def Reduction.skipToSend (rank m : Nat) (r : Reduction) : Option (Nat × Nat × Bool) :=
  r.skipNodes.find? fun e => e.2.1 % 2 == 1 && e.2.1 * 2 ^ e.1 == rank && e.1 < rootLevel m && !r.skipSent.contains (e.1, e.2.1)

/-- The verdict reduction ends with its verdict: it leaves its context, its outcome counts, the verdict is applied. -/
def State.verdictReached (s : State) (n : PartId) (i : Fin 8) (r : Reduction) (v2 : Bool) : State :=
  let s := s.passDown n r.skipChildren r (0x80 + rootLevel (s.ctxMembers n i)) 0 (.vote v2)
  let s := (s.reductionOver n i r 0).voteTimed n i r
  match r.verdict, r.step with
  | some v1, some step => s.applyVerdict n i r step v1 v2
  | _, _ => s.credsRetire i r 0 (.vote v2)

/-- The SKIP round goes on: what this rank can evaluate, what it sends up; at rank 0 its root is the verdict's second half. -/
def State.skipGoesOn (s : State) (n : PartId) (i : Fin 8) (r : Reduction) : State :=
  let rank := s.ctxRank n i
  let m := s.ctxMembers n i
  let r := r.skipGrow rank m
  match r.skipToSend rank m with
  | some (l, j, b) =>
    let home := j / 2 * 2 ^ (l + 1)
    let s := s.putReduction i { r with skipSent := r.skipSent ++ [(l, j)] }
    if s.reachable (s.rankCoord home) then s.sendCanopy n 0x10 home (r.body (0x80 + l) j 0 (.vote b))
    else s.putReduction i { r with fail := some 4 }
  | none =>
    match rank, r.skipNode (rootLevel m) 0 with
    | 0, some v2 => s.verdictReached n i r v2
    | _, _ => s.putReduction i r

/-- This die's SKIP bit enters the round: the host's, ORed with the bit a norm that was not finite set (19 R440 stage 2). -/
def State.skipBit (s : State) (n : PartId) (i : Fin 8) (r : Reduction) (host : Bool) : State :=
  let nf := match r.step with | some k => s.normWasBad n k | none => false
  s.skipGoesOn n i { r with skipNodes := r.skipNodes ++ [(0, s.ctxRank n i, host || nf)] }

/-- The vote V1 has been delivered: the STEP call is posted, or the SKIP bit goes out at once (19 R440; 15 R349, R351). -/
def State.voteDelivered (s : State) (n : PartId) (i : Fin 8) (r : Reduction) (v1 : Bool) : State :=
  let r := { r with verdict := some v1 }
  let s := s.passDown n r.children r (rootLevel r.nchunk) 0 (.vote v1)
  if s.marionette (some n) 2 then
    (s.putReduction i r).postCall (some n) 2
      (leBytes 4 (r.step.getD 0) ++ leBytes 4 (b2n v1) ++ leBytes 8 (blkNorm (s.block n)) ++ leBytes 8 0)
  else (s.putReduction i r).skipBit n i r false

/-- The verdict reduction of a partition that waits for its host (15 R351). -/
def State.waitingVerdict (s : State) (n : PartId) : Option (Fin 8 × Reduction) :=
  (s.parts[n]).canopy.findSome? fun e =>
    if !s.verdictCtx n e.2 then none
    else ((s.canopy[e.2]).reds.find? fun r => r.verdict.isSome && (r.skipNode 0 (s.ctxRank n e.2)).isNone).map fun r => (e.2, r)

/-! ## Delivery (18 R419, R420) -/

/-- The oldest reduction of a context is delivered where its root's outcome is known here (18 R419); a verdict then has its SKIP round. -/
def State.deliverOldest (s : State) (n : PartId) (i : Fin 8) : State × Bool :=
  match (s.canopy[i]).reds with
  | [] => (s, false)
  | r :: _ =>
    match r.root with
    | none => (s, false)
    | some (code, v) =>
      if r.verdict.isSome then (s, false)
      else if s.isStep n i r && (s.parts[n]).train.unresolved && code == 0 then (s.reductionFails n i r 2, true)
      else if code != 0 then (s.reductionFails n i r code, true)
      else if s.isStep n i r && r.mode == 3 then
        (s.voteDelivered n i r (match v with | .vote b => b | _ => false), true)
      else
        let s := s.passDown n r.children r (rootLevel r.nchunk) 0 v
        let s := (s.reductionOver n i r 0).voteTimed n i r
        let s := match s.isStep n i r, r.step, v with
          | true, some step, .word sum => s.normDelivered n step sum
          | _, _, _ => s
        (s.credsRetire i r 0 v, true)

/-- Reductions are delivered in issue order as far as their roots are known here; the count bounds them. -/
def State.deliverReady (s : State) (n : PartId) (i : Fin 8) : Nat → State
  | 0 => s
  | f + 1 => let (s, more) := s.deliverOldest n i; if more then s.deliverReady n i f else s

/-- The host's SKIP bit, or the 0 that a late host contributes (15 R348, R351). Where the step is unresolved by then, the switch
that the call held follows (15 R353). -/
def State.hostSkips (s : State) (n : PartId) (bit : Bool) : State :=
  match s.waitingVerdict n with
  | some (i, r) => (s.skipBit n i r bit).deliverReady n i 8
  | none => s.dutySwitch (some n) 2

/-- The number of a reduction, from its low 16 bits in a packet: above the ones that are over, or one of those. -/
def fullRseq (settled low : Nat) : Nat :=
  let d := (low + 65536 - settled % 65536) % 65536
  if d < 32768 then settled + d else settled + d - 65536

/-- The rank a Canopy packet comes from. -/
def State.packetRank (s : State) (k : Packet) : Nat := s.coordRank k.src

/-- A child's partial joins a reduction; children that disagree end it (18 R420, R423). -/
def Reduction.child (r : Reduction) (b : CanopyBody) (rank : Nat) : Reduction :=
  let r := { r with children := if r.children.contains rank then r.children else r.children ++ [rank] }
  if r.fail.isSome then r
  else if r.mode != b.mode || r.nchunk != b.nchunk || r.q != b.q then { r with fail := some 2 }
  else if r.mode == 0 && r.anchor != b.anchor then { r with fail := some anchorFail }
  else { r with nodes := r.nodes ++ [(b.level, b.node, b.value)] }

/-- CANOPY_UP: a child partial, or a child's SKIP bits, arrive (18 R420; 19 R440). A child of a reduction that is over learns its outcome. -/
def execCanopyUp (k : Packet) (s : State) : Host.Outcome State Fault Refusal :=
  campPacket 0x10 k s fun n =>
    match s.campCtxOf n with
    | none => s
    | some i =>
      let b := canopyBody k.body
      let x := s.canopy[i]
      let rseq := fullRseq x.settled b.rseq
      let rank := s.packetRank k
      if rseq < x.settled then
        match x.ended.find? fun e => e.1 == rseq with
        | some (_, code) => s.passDown n [rank] (newReduction rseq b.mode b.nchunk b.q b.anchor) b.level code .nothing
        | none => s
      else if 0x80 ≤ b.level then
        match x.reds.find? fun r => r.rseq == rseq with
        | some r =>
          let bit := match b.value with | .vote v => v | _ => false
          s.skipGoesOn n i { r with
            skipNodes := r.skipNodes ++ [(b.level - 0x80, b.node, bit)]
            skipChildren := r.skipChildren ++ [rank] }
            |>.deliverReady n i 8
        | none => s
      else
        let r := match x.reds.find? fun r => r.rseq == rseq with
          | some r => r
          | none => newReduction rseq b.mode b.nchunk b.q b.anchor
        s.growReduction n i (r.child b rank)

/-- CANOPY_DOWN: the root's value or outcome reaches the issuing cores and goes on down. Without a packet this die holds the
root, or found the failure, of its context's oldest reduction (18 R420, R423). -/
def execCanopyDown (n : PartId) (ctx : Fin 8) (k : Option Packet) (s : State) : Host.Outcome State Fault Refusal :=
  let down (m : PartId) (i : Fin 8) (b : CanopyBody) : State :=
    let x := s.canopy[i]
    match x.reds.find? fun r => r.rseq == fullRseq x.settled b.rseq with
    | none => s
    | some r =>
      if b.status != 0 && r.verdict.isSome then (s.reductionFails m i r b.status).deliverReady m i 8
      else if 0x80 ≤ b.level then
        if r.verdict.isNone then s
        else (s.verdictReached m i r (match b.value with | .vote v => v | _ => false)).deliverReady m i 8
      else (s.putReduction i { r with root := some (b.status, b.value) }).deliverReady m i 8
  match k with
  | some k => campPacket 0x11 k s fun m => match s.campCtxOf m with | some i => down m i (canopyBody k.body) | none => s
  | none =>
    if (s.canopy[ctx]).owner != some n then .next s
    else match (s.canopy[ctx]).reds with
      | [] => .next s
      | r :: _ =>
        match r.fail, r.rootValue (s.ctxRank n ctx) with
        | some code, _ =>
          .next (if r.verdict.isSome then (s.reductionFails n ctx r code).deliverReady n ctx 8
            else (s.putReduction ctx { r with root := some (code, .nothing) }).deliverReady n ctx 8)
        | none, some v => .next (if s.withheld n ctx r then s else (s.putReduction ctx { r with root := some (0, v) }).deliverReady n ctx 8)
        | none, none => .next s

/-- REDUCTION_TIMEOUT: the oldest reduction that a core of this die waits for ends TIMEOUT (18 R423). -/
def execReductionTimeout (n : PartId) (ctx : Fin 8) (s : State) : Host.Outcome State Fault Refusal :=
  if (s.canopy[ctx]).owner != some n then .next s
  else match (s.canopy[ctx]).reds.find? fun r => r.issued != [] with
    | some r => .next ((s.reductionFails n ctx r 3).deliverReady n ctx 8)
    | none => .next s

/-- Every reduction in flight on a context ends with MEMBER_LOST (18 R423). -/
def State.membersLost (s : State) (n : PartId) (i : Fin 8) : State :=
  (s.canopy[i]).reds.foldl (fun (s : State) (r : Reduction) =>
    if (s.canopy[i]).reds.any fun q => q.rseq == r.rseq then s.reductionFails n i r 4 else s) s

/-! ## The STEP and STASH calls (15 R348, R350) -/

/-- STEP_CALL_TIMEOUT: SKIP = 0 is contributed. -/
def execStepCallTimeout (n : PartId) (s : State) : Host.Outcome State Fault Refusal :=
  .next (if s.callOut (some n) 2 then (s.lateCall (some n) 2).hostSkips n false else s)

/-- STASH_CALL_TIMEOUT: the stash counts as abandoned (15 R348; 20 R465). -/
def execStashCallTimeout (n : PartId) (s : State) : Host.Outcome State Fault Refusal :=
  .next (if s.callOut (some n) 3 then (s.lateCall (some n) 3).stashAbandoned n else s)

end Sys2Proof.Machine
end

