-- ==== Sys2Proof/Machine/Recovery.lean ====
section
/-!
DEFINITION. Presence, notices and recovery of a camp (18 R417, R424, R426; 20 R466–R471), and the restore from a step record (20 R457).
-/
namespace Sys2Proof.Machine

/-! ## The failed set and its recovery (20 R466) -/

/-- obj 8400.01: 0 none, 1 settling, 2 remapping, 3 collecting, 4 restoring, 5 done, 6 unrecoverable. -/
def State.recoveryState (s : State) (n : PartId) : Nat := objGet s (some n) 0x8400 1

def State.setRecovery (s : State) (n : PartId) (v : Nat) : State := objSet s (some n) 0x8400 1 v

/-- The number of the recovery, the highest seen (20 R466). -/
def State.recoveryNo (s : State) (n : PartId) : Nat := objGet s (some n) 0x8400 3

/-- The coordinates of the ranked members. -/
def State.rankedCoords (s : State) (n : PartId) : List Nat := (List.range (s.members n)).map fun r => s.rankCoord r

/-- The rank that coordinates: the lowest one not known to have failed (20 R466). -/
def State.coordinatorRank (s : State) (n : PartId) : Option Nat :=
  (List.range (s.members n)).find? fun r => !((s.parts[n]).camp.failed.contains (s.rankCoord r))

/-- What a recovery has gathered is dropped; the pull stops. -/
def Camp.fresh (c : Camp) : Camp :=
  { c with coordinator := false, reports := [], done := [], proposals := [], called := false, decided := [], pull := none, pulled := [] }

/-- Some camp's remap is in progress on this die. -/
def State.remaps (s : State) : Bool := (List.finRange 64).any fun n => s.recoveryState n == 2

/-- A remap that ends lets the REMAP duty switch, once no other is in progress (15 R352). -/
def State.remapOver (s : State) : State := if s.remaps then s else s.dutySwitch none 4

/-- The settle time begins (20 R466, R471). A call that the recovery it ends had posted stays out until it is answered or late, and
decides nothing any more (15 R353; log 133). -/
def State.settle (s : State) (n : PartId) : State := ((s.modCamp n Camp.fresh).setRecovery n 1).remapOver

/-- A member is learned to have failed: a ranked one starts recovery, the buddy's stash in progress is abandoned (20 R465, R466). -/
def State.memberFailed (s : State) (n : PartId) (coord : Nat) : State :=
  let c := (s.parts[n]).camp
  if c.failed.contains coord || !((s.rankedCoords n).contains coord) || s.campOf n == 0 then
    s.modCamp n fun c => { c with present := c.present.filter fun x => x != coord }
  else
    let s := s.modCamp n fun c => { c with failed := c.failed ++ [coord], present := c.present.filter fun x => x != coord }
    let s := match s.buddyRank n with
      | some b => if s.rankCoord b == coord && (s.parts[n]).train.stash.any (fun (q : Stash) => q.host.isNone) then s.stashAbandoned n else s
      | none => s
    s.settle n

/-- A camp is DEGRADED and told of it (12 R305). -/
def State.degrade (s : State) (n : PartId) : State :=
  if s.campOf n == 0 then s else (objSet s (some n) 0x4010 9 3).noteChange (some n) 0x4010 9

/-- The reductions on the camp's context end with MEMBER_LOST (18 R417, R426). -/
def State.campLost (s : State) (n : PartId) : State :=
  match s.campCtxOf n with
  | some i => s.membersLost n i
  | none => s

/-- Remote contexts of a partition that meet a condition break (10 R258). -/
def State.breakRemote (s : State) (n : PartId) (cause : Nat) (p : Ctx → Bool) : State :=
  (s.ctxs.foldl (fun (s : State) (e : Nat × Ctx) =>
    if e.2.remote && e.2.part == n.val && p e.2 then s.breakCtx e.1 cause else s) s).retryAll

/-! ## Notices (18 R417, R424, R426; 20 R467) -/

/-- A notice reaches this die: the first copy is forwarded on every other UP port and acted on, later copies are dropped (18 R424). -/
def noticeArrives (kind : Nat) (k : Packet) (from_ : Option PortIx) (s : State) (f : State → State) : Host.Outcome State Fault Refusal :=
  if s.delivery == .kv2c || k.kind != kind then .next s
  else if s.fabric.seen.any fun e => e.1 == k.src && e.2.2 == k.arg then .next s
  else
    let s := { s with fabric := { s.fabric with seen := (k.src, kind, k.arg) :: s.fabric.seen } }
    .next (f (s.forwardNotice k from_))

/-- The field of a body: `len` bytes at byte `off`. -/
def bodyField (k : Packet) (off len : Nat) : Nat := leNat ((k.body.drop off).take len)

/-- A member fault notice acts on its camp (18 R426). -/
def State.faultNotice (s : State) (k : Packet) : State :=
  let coord := bodyField k 0 2
  match s.campPart k.camp with
  | none => s
  | some n => ((s.degrade n).campLost n |>.breakRemote n 2 fun x => x.far == coord % 2 ^ 13).memberFailed n coord

/-- FAULT. -/
def execFault (k : Packet) (s : State) : Host.Outcome State Fault Refusal := noticeArrives 0x1A k none s fun s => s.faultNotice k

/-- Every wired port of a seat is a lost link (18 R417). -/
def State.seatCut (s : State) (seat : Nat) : Bool :=
  (List.range 6).all fun p => s.nextSeat seat p == seat || s.linkLost seat p

/-- A link is lost: the lists, and every partition's streams, reductions and camp (18 R417); a seat lost with it fails its member (20 R466). -/
def State.linkGone (s : State) (seat port : Nat) : State :=
  let s := if s.linkLost seat port then s
    else { s with fabric := { s.fabric with lostLinks := s.fabric.lostLinks ++ [(seat, port)] } }
  let cut := [seat, s.nextSeat seat port].filter fun x => s.seatCut x && !(s.fabric.lostSeats.contains x) && x != s.mySeat
  let s := { s with fabric := { s.fabric with lostSeats := s.fabric.lostSeats ++ cut } }
  let s := objSet s none 0x7000 7 (s.fabric.lostSeats.length + s.fabric.lostLinks.length)
  s.formedParts.foldl (fun (s : State) (n : PartId) =>
    let s := ((s.breakRemote n 4 fun _ => true).campLost n).degrade n
    let failed := (s.rankedCoords n).filter fun c => cut.contains (s.seatOf c)
    failed.foldl (fun (s : State) (c : Nat) => s.memberFailed n c) s) s

/-- TOPO (18 R417): the seat and port of a lost link. -/
def execTopo (k : Packet) (s : State) : Host.Outcome State Fault Refusal :=
  noticeArrives 0x1B k none s fun s => s.linkGone (bodyField k 0 2) (bodyField k 2 1 % 6)

/-- An entry enters the remap table; the spare it names takes the coordinate, with its rank, in the camp's partition (18 R414, 20 R467). -/
def State.installRemap (s : State) (camp coord seat : Nat) : State :=
  let table := s.fabric.remap.filter fun e => e.1 != coord
  let s := { s with fabric := { s.fabric with remap := (table ++ [(coord, seat)]).take 256 } }
  let s := objSet s none 0x7020 1 s.fabric.remap.length
  let mine := seat == s.mySeat && s.myCoord == 0x8000
  let s := if mine then objSet s none 0x7000 2 coord else s
  match s.campPart camp with
  | none => s
  | some n =>
    let s := s.modCamp n fun c => { c with
      failed := c.failed.filter fun x => x != coord
      present := (c.present.filter fun x => x != seat)
      understudy := c.understudy || mine }
    if mine then objSet s (some n) 0x7100 6 (s.coordRank coord) else s

/-- REMAP. -/
def execRemap (k : Packet) (s : State) : Host.Outcome State Fault Refusal :=
  noticeArrives 0x1C k none s fun s => s.installRemap k.camp (bodyField k 0 2) (bodyField k 2 2)

/-! ## Presence (18 R426) -/

/-- The camp becomes ACTIVE; a recovery that restored it is done (18 R426, 20 R470). -/
def State.campActive (s : State) (n : PartId) : State :=
  let s := objSet s (some n) 0x4010 9 2
  let s := s.modCamp n fun c => { c.fresh with understudy := false }
  if s.recoveryState n == 4 then (objBump (s.setRecovery n 5) (some n) 0x8400 5).noteChange (some n) 0x8400 1 else s

/-- ACTIVE goes to every other member: the ranked ones and the spares that are present. -/
def State.sendActive (s : State) (n : PartId) : State :=
  let spares := (s.parts[n]).camp.present.filter fun c => !((s.rankedCoords n).contains c)
  let dests := ((s.rankedCoords n).filter fun c => c != s.myCoord) ++ spares
  dests.foldl (fun (s : State) (c : Nat) => s.sendPacket ⟨c, s.myCoord, 0x19, s.campOf n, (s.parts[n]).camp.members, []⟩) s

/-- PRESENT: rank 0 counts a member, and starts the camp once all are there. -/
def execPresent (k : Packet) (s : State) : Host.Outcome State Fault Refusal :=
  campPacket 0x18 k s fun n =>
    if s.rankOf n != 0 then s
    else
      let s := s.modCamp n fun c => { c with present := if c.present.contains k.src then c.present else c.present ++ [k.src] }
      let c := (s.parts[n]).camp
      let s := objSet s (some n) 0x7100 8 c.present.length
      if c.present.length == c.members && objGet s (some n) 0x4010 9 == 1 then (s.sendActive n).campActive n else s

/-- ACTIVE. -/
def execActive (k : Packet) (s : State) : Host.Outcome State Fault Refusal := campPacket 0x19 k s fun n => s.campActive n

/-! ## Restoring (20 R457, R469) -/

/-- History records enter the listed scratchpad records, bytes 0–95; none where their number or a bank disagrees (20 R457). -/
def State.restoreHistories (s : State) (n : PartId) (hist : List Byte) : Option State :=
  let l := s.historyList n
  if hist.length != 96 * l.length || !(l.all fun e => s.historyHeld e) then none
  else some ((l.zipIdx.foldl (fun (s : State) (e : (CoreId × Nat) × Nat) =>
    { s with mem := scratchWrite s.mem (s.core e.1.1) e.1.2 ((hist.drop (96 * e.2)).take 96) }) s).wakeHistories n)

/-- A step state is written that the next START admission takes, with VERDICT 0; a gate of unresolved steps lifts; the next
opening is due and marked (20 R457, R469; 19 R441, R448). -/
def State.restoreBlock (s : State) (n : PartId) (v : Nat) (resumed : Bool) : State :=
  s.modPart n fun p => { p with train := { p.train with
    nextBlock := some (withField v 8 1 0), unresolved := false, openDue := true
    replay := if resumed then p.train.replay else true, resumed := resumed || p.train.resumed } }

/-- Steps 4 and 5 of R469 from items 1 to 3 of a stash of step S; none where the histories cannot be written. Where S is not the
step the meta area holds as CSTEP, it is from now on, and no P is left (20 R464). -/
def State.restoreMeta (s : State) (n : PartId) (step : Nat) (info : List Byte) : Option State :=
  let count := leNat ((info.drop 64).take 4)
  match s.restoreHistories n ((info.drop 68).take (96 * count)) with
  | none => none
  | some s =>
    let s := s.restoreBlock n (leNat (info.take 64)) true
    let kept : Bool := (s.parts[n]).train.metaNow.any fun (e : Nat × List Byte) => e.1 == step
    let s := if kept then s else (s.modPart n fun p => { p with train := { p.train with
      metaNow := some (step, info.take (68 + 96 * count)), metaPrev := none } }).setPrevOk n false
    some ((s.historyList n).foldl (fun (s : State) (e : CoreId × Nat) => s.shDiscard e.1 e.2 (step + 1)) s)

/-- Item 4 of a stash enters the buffer its step block names (20 R469 step 3). -/
def State.restoreRanges (s : State) (n : PartId) (mbuf : Nat) (bytes : List Byte) : State :=
  ((s.stashList n).foldl (fun (acc : State × List Byte) (e : Nat × Nat × Nat) =>
    (acc.1.hbmWrite n (if mbuf == 0 then e.1 else e.2.1) (acc.2.take e.2.2), acc.2.drop e.2.2)) (s, bytes)).1

/-! ## Recovery of a camp (20 R466–R470) -/

/-- A recovery ends without a step to resume from: DEGRADED stays, obj 8400.01 is 6, counted, notified (20 R470). -/
def State.unrecoverable (s : State) (n : PartId) : State :=
  let s := (s.modCamp n Camp.fresh).setRecovery n 6
  ((objBump s (some n) 0x8400 6).noteChange (some n) 0x8400 1).remapOver

/-- A packet to every other ranked member. -/
def State.sendRanked (s : State) (n : PartId) (kind arg : Nat) (body : List Byte) : State :=
  (List.range (s.members n)).foldl (fun (s : State) (r : Nat) => if r == s.rankOf n then s else s.sendRank n r kind arg body) s

/-- The coordinator ends the recovery as unrecoverable and tells the members. -/
def State.giveUp (s : State) (n : PartId) : State :=
  (s.sendRanked n 0x28 (s.recoveryNo n) (leBytes 4 noStep)).unrecoverable n

/-- Hops from a failed seat to a spare, the failed seat and its links counted as whole (20 R467). -/
def State.spareHops (s : State) (failed spare : Nat) : Option Nat :=
  let t := { s with fabric := { s.fabric with
    lostSeats := s.fabric.lostSeats.filter fun x => x != failed
    lostLinks := s.fabric.lostLinks.filter fun e => e.1 != failed && s.nextSeat e.1 e.2 != failed } }
  t.hopsTo spare 64 failed

/-- The spare of fewest hops, among equals the lowest seat (20 R467). -/
def State.bestSpare (s : State) (failed : Nat) (spares : List Nat) : Option Nat :=
  (spares.foldl (fun (best : Option (Nat × Nat)) (x : Nat) =>
    match s.spareHops failed x, best with
    | none, b => b
    | some h, none => some (h, x)
    | some h, some (g, y) => if h < g || (h == g && x < y) then some (h, x) else some (g, y)) none).map (·.2)

/-- A seat for each failed member, or none where the spares run out. -/
def State.proposals (s : State) : List Nat → List Nat → Option (List (Nat × Nat))
  | [], _ => some []
  | c :: cs, spares =>
    match s.bestSpare (s.seatOf c) spares with
    | none => none
    | some x => (s.proposals cs (spares.filter fun y => y != x)).map fun l => (c, x) :: l

/-- The spares of a camp that are present and idle: members without a ranked coordinate. -/
def State.spares (s : State) (n : PartId) : List Nat :=
  (s.parts[n]).camp.present.filter fun c => !((s.rankedCoords n).contains c)

/-- The report of this die (20 R468). -/
def State.reportBytes (s : State) (n : PartId) : List Byte :=
  let c := (s.parts[n]).camp
  let prev := match (s.parts[n]).train.metaPrev with | some (p, _) => if s.prevOk n then p else noStep | none => noStep
  leBytes 4 (if c.understudy then noStep else blkCstep (s.block n)) ++ leBytes 4 (if c.understudy then noStep else prev)
    ++ leBytes 8 (objGet s (some n) 0x8200 6) ++ leBytes 8 (objGet s (some n) 0x8200 0xA) ++ leBytes 1 (b2n c.understudy)

/-- Steps named in a report at a byte: `count` U32. -/
def reportSteps (body : List Byte) (off count : Nat) : List Nat :=
  ((List.range count).map fun i => leNat ((body.drop (off + 4 * i)).take 4)).filter fun x => x != noStep

/-- Every ranked member can restore step s (20 R468). -/
def canRestore (reports : List (Nat × List Byte)) (m s : Nat) : Bool :=
  (List.range m).all fun r =>
    let body (x : Nat) : List Byte := match reports.find? fun e => e.1 == x with | some e => e.2 | none => []
    (reportSteps (body r) 0 2).contains s || (2 ≤ m && (reportSteps (body (buddyOf r m)) 16 2).contains s)

/-- The recovery step S, none where there is none (20 R468). -/
def recoveryStep (reports : List (Nat × List Byte)) (m : Nat) : Option Nat :=
  let all := reports.flatMap fun e => reportSteps e.2 0 2 ++ reportSteps e.2 16 2
  (all.filter fun s => canRestore reports m s).foldl (fun (b : Option Nat) (x : Nat) =>
    match b with | none => some x | some y => some (max x y)) none

/-- Step 1 of R469: the cores stop, channels stop, epochs end, and the START that runs ends FAULTED as R159 has it (log 42). -/
def State.stopForResume (s : State) (n : PartId) : State :=
  let s := (s.coresOf n).foldl (fun (s : State) (c : CoreId) =>
    let (s, ev) := s.stopCore c
    let s := s.countNan n ev.length
    let s := (List.finRange 16).foldl (fun (s : State) (i : ChanIx) =>
      if ((s.core c).chans[i]).state.isActive then s.stopChan c i .aborted 0x11 else s) s
    s.modCore c Core.epochEnds) s
  s.endStart n 4 0 0

/-- Step 2 of R469: reductions end with MEMBER_LOST, numbering starts again (log 43), BROKEN contexts become CLOSED. -/
def State.clearForResume (s : State) (n : PartId) : State :=
  let s := (s.parts[n]).canopy.foldl (fun (s : State) (e : Nat × Fin 8) =>
    let s := s.membersLost n e.2
    s.setCanopy e.2 { s.canopy[e.2] with counts := [], settled := 0, ended := [] }) s
  { s with ctxs := s.ctxs.map fun (e : Nat × Ctx) => (e.1, if e.2.part == n.val && e.2.state == 5 then { e.2 with state := 4 } else e.2) }

/-- The coordinator takes a RESUME_DONE (20 R469, R470). -/
def State.resumeAnswered (s : State) (n : PartId) (rank status : Nat) : State :=
  let c := (s.parts[n]).camp
  if !c.coordinator || s.recoveryState n != 4 then s
  else if status != 0 then s.giveUp n
  else
    let done := if c.done.contains rank then c.done else c.done ++ [rank]
    let s := s.modCamp n fun c => { c with done := done }
    if s.members n ≤ done.length then (s.sendActive n).campActive n else s

/-- This die's RESUME_DONE, to the coordinator or to itself. -/
def State.sendDone (s : State) (n : PartId) (status : Nat) : State :=
  if (s.parts[n]).camp.coordinator then s.resumeAnswered n (s.rankOf n) status
  else match s.coordinatorRank n with
    | some r => s.sendRank n r 0x29 (s.recoveryNo n) (leBytes 1 status)
    | none => s

/-- The next PULL_REQ of a pull: the slot header and content up to the bytes still missing (20 R462, R469). -/
def State.pullMore (s : State) (n : PartId) (step : Nat) : State :=
  match s.buddyRank n with
  | some b =>
    let c := (s.parts[n]).camp
    let whole := match c.pull with | some (_, len) => 256 + len | none => 256
    let off := c.pulled.length
    s.sendRank n b 0x24 step (leBytes 8 off ++ leBytes 4 (min 8192 (if off == 0 then 256 else whole - off)))
  | none => s

/-- The restore of step S by the first means that applies, and the answer where it ends at once (20 R469 steps 3 to 6). -/
def State.restoreStep (s : State) (n : PartId) (step : Nat) : State :=
  let t := (s.parts[n]).train
  let own (info : List Byte) : State :=
    match s.restoreMeta n step info with
    | some s' => s'.sendDone n 0
    | none => s.sendDone n 1
  let here (q : Option (Nat × List Byte)) : Option (List Byte) := match q with | some (k, info) => if k == step then some info else none | none => none
  let c := (s.parts[n]).camp
  match (if c.understudy then none else here t.metaNow), (if c.understudy || !s.prevOk n then none else here t.metaPrev) with
  | some info, _ => own info
  | none, some info => own info
  | none, none =>
    if (s.buddyRank n).isNone then s.sendDone n 1
    else (s.modCamp n fun c => { c with pull := some (step, 0), pulled := [] }).pullMore n step

/-- RESUME(S) acts on this die (20 R469). -/
def State.resumeAt (s : State) (n : PartId) (step : Nat) : State :=
  if step == noStep then s.unrecoverable n
  else
    let s := objSet (s.setRecovery n 4) (some n) 0x8400 4 step
    ((s.stopForResume n).clearForResume n).restoreStep n step

/-- The coordinator holds every report: it chooses S and sends RESUME (20 R468). -/
def State.sendResume (s : State) (n : PartId) : State :=
  match recoveryStep (s.parts[n]).camp.reports (s.members n) with
  | none => s.giveUp n
  | some step =>
    let entries := s.fabric.remap.flatMap fun e => leBytes 2 e.1 ++ leBytes 2 e.2
    (s.sendRanked n 0x28 (s.recoveryNo n) (leBytes 4 step ++ entries)).resumeAt n step

/-- A report enters the collection (20 R468). -/
def State.takeReport (s : State) (n : PartId) (rank : Nat) (body : List Byte) : State :=
  let c := (s.parts[n]).camp
  if !c.coordinator || s.recoveryState n != 3 || c.reports.any (fun e => e.1 == rank) then s
  else
    let s := s.modCamp n fun c => { c with reports := c.reports ++ [(rank, body)] }
    if s.members n ≤ (s.parts[n]).camp.reports.length then s.sendResume n else s

/-- The seats are decided: REMAP notices are flooded and installed, then every member is queried (20 R467, R468). -/
def State.seatsDecided (s : State) (n : PartId) : State :=
  let c := (s.parts[n]).camp
  let known := (c.decided.map (·.1)).take 32
  let s := c.decided.foldl (fun (s : State) (e : Nat × Nat) =>
    (s.flood 0x1C (s.campOf n) (leBytes 2 e.1 ++ leBytes 2 e.2)).installRemap (s.campOf n) e.1 e.2) s
  let s := ((s.modCamp n fun c => { c with decided := [] }).setRecovery n 3).remapOver
  let s := s.sendRanked n 0x26 (s.recoveryNo n) (known.flatMap fun x => leBytes 2 x)
  s.takeReport n (s.rankOf n) (s.reportBytes n)

/-- The first coordinator with a proposal to decide posts its REMAP call where none is out (15 R349, 20 R467). -/
def State.postRemap (s : State) : State :=
  if s.callOut none 4 then s
  else match (List.finRange 64).findSome? fun n => ((s.parts[n]).camp.proposals.head?).map fun e => (n, e) with
    | some (n, coord, seat) =>
      (s.modCamp n fun c => { c with called := true }).postCall none 4 (leBytes 2 coord ++ leBytes 2 seat ++ leBytes 20 0)
    | none => s

/-- The partition whose proposal the outstanding REMAP call is about; none once its recovery has started again. -/
def State.remapping (s : State) : Option PartId := (List.finRange 64).find? fun n => (s.parts[n]).camp.called

/-- The head proposal is decided with a seat (20 R467). -/
def State.seatChosen (s : State) (n : PartId) (seat : Nat) : State :=
  match (s.parts[n]).camp.proposals with
  | [] => s
  | (coord, _) :: rest =>
    let s := s.modCamp n fun c => { c with proposals := rest, called := false, decided := c.decided ++ [(coord, seat)] }
    (if rest == [] then s.seatsDecided n else s).postRemap

/-- A DEFER stops the recovery; the camp stays DEGRADED (15 R349, 20 R467). -/
def State.remapDeferred (s : State) (n : PartId) : State := (((s.modCamp n Camp.fresh).setRecovery n 0).remapOver).postRemap

/-- A REMAP call ends whose recovery has started again: a switch that it held follows, the next call is posted (15 R353). -/
def State.callDecidesNothing (s : State) : State := s.remapOver.postRemap

/-- REMAP_CALL_TIMEOUT: the proposed seat is used (15 R348). -/
def execRemapCallTimeout (s : State) : Host.Outcome State Fault Refusal :=
  if !s.callOut none 4 then .next s
  else
    let s := s.lateCall none 4
    match s.remapping with
    | some n => .next (s.seatChosen n (match (s.parts[n]).camp.proposals with | (_, x) :: _ => x | [] => 0))
    | none => .next s.callDecidesNothing

/-- SETTLE_TIMEOUT: the coordinator takes a recovery number and proposes seats (20 R466, R467). -/
def execSettleTimeout (n : PartId) (s : State) : Host.Outcome State Fault Refusal :=
  if s.recoveryState n != 1 || s.coordinatorRank n != some (s.rankOf n) then .next s
  else
    let s := (objSet s (some n) 0x8400 3 (s.recoveryNo n + 1)).setRecovery n 2
    let s := s.modCamp n fun c => { c.fresh with coordinator := true }
    match s.proposals (s.parts[n]).camp.failed (s.spares n) with
    | none => .next (s.giveUp n)
    | some l =>
      if l == [] then .next (s.seatsDecided n)
      else if s.marionette none 4 then .next (s.modCamp n fun c => { c with proposals := l }).postRemap
      else .next ((s.modCamp n fun c => { c with decided := l }).seatsDecided n)

/-- A packet of a recovery is heard: one of a lower number is ignored, a higher one is the recovery from now on (20 R466). -/
def State.hears (s : State) (n : PartId) (number : Nat) : Option State :=
  if number < s.recoveryNo n then none else some (objSet s (some n) 0x8400 3 number)

/-- RECOVER_QUERY: a member answers with its report (20 R468); of two coordinators with one number the lower rank wins (R471). -/
def execRecoverQuery (k : Packet) (s : State) : Host.Outcome State Fault Refusal :=
  campPacket 0x26 k s fun n =>
    let rival := (s.parts[n]).camp.coordinator && k.arg == s.recoveryNo n && s.rankOf n < s.packetRank k
    match s.hears n k.arg with
    | none => s
    | some s =>
      if rival then s
      else
        let named := ((List.range (k.body.length / 2)).map fun i => bodyField k (2 * i) 2).filter fun x =>
          !(s.fabric.remap.any fun e => e.1 == x) && !((s.parts[n]).camp.failed.contains x)
        let s := s.modCamp n fun c => { c.fresh with failed := c.failed ++ named }
        (s.setRecovery n 3).sendRank n (s.packetRank k) 0x27 k.arg (s.reportBytes n)

/-- RECOVER_REPORT (20 R468). -/
def execRecoverReport (k : Packet) (s : State) : Host.Outcome State Fault Refusal :=
  campPacket 0x27 k s fun n => if k.arg != s.recoveryNo n then s else s.takeReport n (s.packetRank k) k.body

/-- REPORT_TIMEOUT: members without a report count as failed, and recovery restarts (20 R468). -/
def execReportTimeout (n : PartId) (s : State) : Host.Outcome State Fault Refusal :=
  let c := (s.parts[n]).camp
  if !c.coordinator || s.recoveryState n != 3 then .next s
  else
    let missing := (List.range (s.members n)).filter fun r => !(c.reports.any fun e => e.1 == r)
    .next (missing.foldl (fun (s : State) (r : Nat) => s.memberFailed n (s.rankCoord r)) s)

/-- RESUME (20 R469); its remap entries are installed where the notice has not come. -/
def execResume (k : Packet) (s : State) : Host.Outcome State Fault Refusal :=
  campPacket 0x28 k s fun n =>
    match s.hears n k.arg with
    | none => s
    | some s =>
      let s := (List.range ((k.body.length - 4) / 4)).foldl (fun (s : State) (i : Nat) =>
        let e := (bodyField k (4 + 4 * i) 2, bodyField k (6 + 4 * i) 2)
        if s.fabric.remap.contains e then s else s.installRemap k.camp e.1 e.2) s
      s.resumeAt n (bodyField k 0 4)

/-- RESUME_DONE (20 R470). -/
def execResumeDone (k : Packet) (s : State) : Host.Outcome State Fault Refusal :=
  campPacket 0x29 k s fun n => if k.arg != s.recoveryNo n then s else s.resumeAnswered n (s.packetRank k) (bodyField k 0 1)

/-- A pulled slot is whole: its CRC and state are checked, its ranges and its meta restored (20 R469). -/
def State.finishPull (s : State) (n : PartId) (step : Nat) : State :=
  let bs := (s.parts[n]).camp.pulled
  let f (o l : Nat) : Nat := leNat ((bs.drop o).take l)
  let content := bs.drop 256
  let s := s.modCamp n fun c => { c with pull := none, pulled := [] }
  if f 0 4 != 0x5332564B || f 4 4 != step || f 14 1 != 2 || crc32 content != f 24 4 then s.sendDone n 1
  else
    let skip := 68 + 96 * leNat ((content.drop 64).take 4)
    match s.restoreMeta n step content with
    | none => s.sendDone n 1
    | some s => (s.restoreRanges n (blkMbuf (leNat (content.take 64))) (content.drop skip)).sendDone n 0

/-- PULL_DATA: pulled bytes arrive, in order, until the slot is whole; an answer without bytes says the step is not sealed (20 R462, R469). -/
def execPullData (k : Packet) (s : State) : Host.Outcome State Fault Refusal :=
  campPacket 0x25 k s fun n =>
    match (s.parts[n]).camp.pull with
    | none => s
    | some (step, _) =>
      let data := k.body.drop 8
      if step != k.arg || bodyField k 0 8 != (s.parts[n]).camp.pulled.length then s
      else if data == [] then (s.modCamp n fun c => { c with pull := none, pulled := [] }).sendDone n 1
      else
        let s := s.modCamp n fun c =>
          let all := c.pulled ++ data
          { c with pulled := all, pull := some (step, leNat ((all.drop 16).take 8)) }
        let c := (s.parts[n]).camp
        let len := match c.pull with | some (_, l) => l | none => 0
        if 256 ≤ c.pulled.length && 256 + len ≤ c.pulled.length then s.finishPull n step else s.pullMore n step

end Sys2Proof.Machine
end

