-- ==== Sys2Proof/Machine/RingPage.lean ====
section
/-!
DEFINITION. The ring pages (11 R264–R268) and the fence (R282, R283): doorbells and their checks, PRST, the vector table,
INT_MOD and the status bits, and what a read of a page returns.
-/
namespace Sys2Proof.Machine

/-- Runs a register access that must be an aligned 32-bit one; any other sets SIZE_BAD and is ignored (11 R265). -/
def State.sized (s : State) (n : PartId) (a : RegAccess) (body : State) : State :=
  if a.aligned then body else s.modPart n fun p => { p with sizeBad := true }

/-- A doorbell to a page whose partition is not formed, or resets: counted and notified (01 R25, 11 R265 order 1). -/
def State.doorbellLost (s : State) : State := (objBump s none 0xC020 1).noteChange none 0xC020 1

/-- A refused doorbell value: DB_BAD, counted and notified (11 R265 orders 2–5). -/
def State.doorbellBad (s : State) (n : PartId) : State :=
  (objBump (s.modPart n fun p => { p with dbBad := true }) (some n) 0xC020 2).noteChange (some n) 0xC020 2

/-- Fence q covers a doorbell with FSEQ f (11 R283). -/
def fenceCovers (q f : Nat) : Bool := (q + 65536 - f) % 65536 < 32768

/-- A CMD_DB value passes orders 2 to 4 of 11 R265. -/
def State.cmdDbOk (s : State) (n : PartId) (v : Nat) : Bool :=
  let entries := objGet s (some n) 0x4010 0xB
  let nx := objGet s (some n) 0x4010 0xE
  let pidx := bits v 15 0
  let announced := (bits (s.parts[n]).cmdDb.toNat 15 0 + entries - nx) % max 1 entries
  (if s.delivery == .kv2c then bits v 31 16 != 0 else bits v 31 16 == 0) && pidx < entries
    && announced ≤ (pidx + entries - nx) % max 1 entries

/-- An accepted CMD_DB is observed at once, or held for its fence (11 R266, R283). -/
def State.cmdDbAccept (s : State) (n : PartId) (v : W32) : State :=
  let f := bits v.toNat 31 16
  let seen := s.delivery == .kv2p || (s.attach.fenced && fenceCovers (objGet s none 0xC010 6) f)
  s.modPart n fun p => { p with
    cmdDb := v, observed := if seen then bits v.toNat 15 0 else p.observed, fenceWait := !seen }

/-- A doorbell that arrives while an entry into Nap or Ember is under way is held until after exit (16 R368). -/
def State.holdDoorbell (s : State) (cpl : Bool) (n : PartId) (a : RegAccess) : State :=
  { s with power := { s.power with doorbells := s.power.doorbells ++ [(cpl, n, a)] } }

/-- A write of CMD_DB takes effect (11 R265, R266). -/
def State.cmdDbWritten (s : State) (n : PartId) (a : RegAccess) : State :=
  s.sized n a
    (if s.partState n != 2 then s.doorbellLost
     else if s.cmdDbOk n a.value.toNat then s.cmdDbAccept n a.value else s.doorbellBad n)

/-- A write of CPL_DB takes effect: completion entries become free (11 R265, 12 R293). -/
def State.cplDbWritten (s : State) (n : PartId) (a : RegAccess) : State :=
  let v := a.value.toNat
  let entries := objGet s (some n) 0x4010 0xD
  let p := s.parts[n]
  let read := (bits v 15 0 + entries - bits p.cplDb.toNat 15 0) % max 1 entries
  s.sized n a
    (if s.partState n != 2 then s.doorbellLost
     else if bits v 31 16 != 0 || entries ≤ bits v 15 0 || p.unread < read then s.doorbellBad n
     else s.modPart n fun p => { p with cplDb := a.value, unread := p.unread - read })

/-- CMD_DB_WRITE. -/
def execCmdDbWrite (n : PartId) (a : RegAccess) (s : State) : Host.Outcome State Fault Refusal :=
  .next (if s.power.entering == .nothing then s.cmdDbWritten n a else s.holdDoorbell false n a)

/-- CPL_DB_WRITE. -/
def execCplDbWrite (n : PartId) (a : RegAccess) (s : State) : Host.Outcome State Fault Refusal :=
  .next (if s.power.entering == .nothing then s.cplDbWritten n a else s.holdDoorbell true n a)

/-- The device is in Run; the doorbells held during the entry take effect in the order they arrived (11 R265; 16 R368). -/
def State.backInRun (s : State) : State :=
  let held := s.power.doorbells
  let s := { s with power := { s.power with doorbells := [] } }
  held.foldl (fun (s : State) (e : Bool × PartId × RegAccess) => if e.1 then s.cplDbWritten e.2.1 e.2.2 else s.cmdDbWritten e.2.1 e.2.2)
    (s.setDevState 4)

/-- PRST_GO: a partition reset, where none runs (11 R264, 12 R294). -/
def execPrstGo (n : PartId) (a : RegAccess) (s : State) : Host.Outcome State Fault Refusal :=
  .next (s.sized n a (if bitOf a.value.toNat 0 && s.partState n == 2 then s.partitionReset n true else s))

/-- A vector table entry with one of its four words written (11 R264). -/
def VecEntry.put (e : VecEntry) (word : Nat) (v : W32) : VecEntry :=
  match word with
  | 0 => { e with addrLo := v }
  | 1 => { e with addrHi := v }
  | 2 => { e with data := v }
  | _ => { e with ctl := v &&& 1 }

/-- VECTOR_CONTROL_WRITE: an entry's word changes; a pending vector that is unmasked is sent (11 R267). -/
def execVectorControlWrite (n : PartId) (offset : Nat) (a : RegAccess) (s : State) : Host.Outcome State Fault Refusal :=
  if offset < 0x1000 || 0x1080 ≤ offset then .next s
  else .next (s.sized n { a with aligned := a.aligned && offset % 4 == 0 }
    (let v : Fin 8 := Fin.ofNat 8 ((offset - 0x1000) / 16)
     let e := (s.parts[n]).vectors[v]
     let e' := e.put (offset % 16 / 4) a.value
     let s := s.modPart n fun p => { p with vectors := p.vectors.set v e' }
     if bitOf e.ctl.toNat 0 && !bitOf e'.ctl.toNat 0 && bitOf (s.parts[n]).vecPending v.val then s.raiseVector n v else s))

/-- A write of RING_STAT's W1C bits or of INT_MOD; every other offset ignores the write (11 R264). -/
def State.ringRegWrite (s : State) (n : PartId) (offset : Nat) (value : W32) : State :=
  let v := value.toNat
  if offset == 0x10 then
    s.modPart n fun p => { p with
      fenceTmo := p.fenceTmo && !bitOf v 5, dbBad := p.dbBad && !bitOf v 3, sizeBad := p.sizeBad && !bitOf v 2 }
  else if offset == 0x18 then
    let s := s.modPart n fun p => { p with intMod := value &&& 0xFFFFFF }
    if (s.parts[n]).unsignalled == 0 then s else s.moderate n
  else s

/-- INTERRUPT_HOLDOFF_EXPIRY: HOLD has passed since the first unsignalled record (11 R268). -/
def execInterruptHoldoffExpiry (n : PartId) (s : State) : Host.Outcome State Fault Refusal :=
  let p := s.parts[n]
  if bits p.intMod.toNat 23 8 == 0 || p.unsignalled == 0 then .next s
  else .next ((s.modPart n fun p => { p with unsignalled := 0 }).raiseVector n 0)

/-- RING_STAT as it reads (11 R264). -/
def State.ringStat (s : State) (n : PartId) : Nat :=
  let p := s.parts[n]
  let st := s.partState n
  32 * b2n p.fenceTmo + 16 * b2n p.fenceWait + 8 * b2n p.dbBad + 4 * b2n p.sizeBad + 2 * b2n (st == 3)
    + b2n (st == 2 || st == 3)

/-- The word a read of a ring page returns, the mailbox apart (11 R264). -/
def State.pageWord (s : State) (n : PartId) (offset : Nat) : Nat :=
  let p := s.parts[n]
  if offset == 0 then p.cmdDb.toNat
  else if offset == 8 then p.cplDb.toNat
  else if offset == 0x10 then s.ringStat n
  else if offset == 0x18 then p.intMod.toNat
  else if offset == 0x20 then 2 * b2n (s.partState n == 3)
  else if 0x1000 ≤ offset && offset < 0x1080 then
    let e := p.vectors[(Fin.ofNat 8 ((offset - 0x1000) / 16) : Fin 8)]
    match offset % 16 / 4 with
    | 0 => e.addrLo.toNat
    | 1 => e.addrHi.toNat
    | 2 => e.data.toNat
    | _ => e.ctl.toNat
  else if offset == 0x1800 then p.vecPending
  else 0

/-! ## The fence (11 R282, R283) -/

/-- VD_FENCE(q): recorded, acknowledged; held doorbells it covers are observed. A sequence of 0 is no fence. -/
def execVdFence (q : W16) (s : State) : Host.Outcome State Fault Refusal :=
  if s.delivery == .kv2p then .next s
  else if q == 0 then .next (objBump s none 0xC010 7)
  else
    let s := objSet { s with attach := { s.attach with fenced := true } } none 0xC010 6 q.toNat
    let s := { s with parts := s.parts.map fun (p : Partition) =>
      if p.fenceWait && fenceCovers q.toNat (bits p.cmdDb.toNat 31 16) then
        { p with fenceWait := false, observed := bits p.cmdDb.toNat 15 0 } else p }
    .next (s.emit (.fenceAck q.toNat))

/-- FENCE_TIMEOUT: the held doorbell is dropped (11 R283). -/
def execFenceTimeout (n : PartId) (s : State) : Host.Outcome State Fault Refusal :=
  if (s.parts[n]).fenceWait then
    let s := s.modPart n fun p => { p with fenceWait := false, fenceTmo := true }
    .next ((objBump s (some n) 0xC020 3).noteChange (some n) 0xC020 3)
  else .next s

end Sys2Proof.Machine
end

