-- ==== Sys2Proof/Machine/Sha.lean ====
section
/-!
DEFINITION. SHA-384 (FIPS 180-4) and the verification of an ECDSA P-384 signature (FIPS 186-5), which authenticate a firmware
image (17 R391, R392).
-/
namespace Sys2Proof.Machine

/-! ## SHA-384 -/

def shaK0 : List W64 :=
  [0x428A2F98D728AE22, 0x7137449123EF65CD, 0xB5C0FBCFEC4D3B2F, 0xE9B5DBA58189DBBC,
   0x3956C25BF348B538, 0x59F111F1B605D019, 0x923F82A4AF194F9B, 0xAB1C5ED5DA6D8118,
   0xD807AA98A3030242, 0x12835B0145706FBE, 0x243185BE4EE4B28C, 0x550C7DC3D5FFB4E2,
   0x72BE5D74F27B896F, 0x80DEB1FE3B1696B1, 0x9BDC06A725C71235, 0xC19BF174CF692694,
   0xE49B69C19EF14AD2, 0xEFBE4786384F25E3, 0x0FC19DC68B8CD5B5, 0x240CA1CC77AC9C65]

def shaK1 : List W64 :=
  [0x2DE92C6F592B0275, 0x4A7484AA6EA6E483, 0x5CB0A9DCBD41FBD4, 0x76F988DA831153B5,
   0x983E5152EE66DFAB, 0xA831C66D2DB43210, 0xB00327C898FB213F, 0xBF597FC7BEEF0EE4,
   0xC6E00BF33DA88FC2, 0xD5A79147930AA725, 0x06CA6351E003826F, 0x142929670A0E6E70,
   0x27B70A8546D22FFC, 0x2E1B21385C26C926, 0x4D2C6DFC5AC42AED, 0x53380D139D95B3DF,
   0x650A73548BAF63DE, 0x766A0ABB3C77B2A8, 0x81C2C92E47EDAEE6, 0x92722C851482353B]

def shaK2 : List W64 :=
  [0xA2BFE8A14CF10364, 0xA81A664BBC423001, 0xC24B8B70D0F89791, 0xC76C51A30654BE30,
   0xD192E819D6EF5218, 0xD69906245565A910, 0xF40E35855771202A, 0x106AA07032BBD1B8,
   0x19A4C116B8D2D0C8, 0x1E376C085141AB53, 0x2748774CDF8EEB99, 0x34B0BCB5E19B48A8,
   0x391C0CB3C5C95A63, 0x4ED8AA4AE3418ACB, 0x5B9CCA4F7763E373, 0x682E6FF3D6B2B8A3,
   0x748F82EE5DEFB2FC, 0x78A5636F43172F60, 0x84C87814A1F0AB72, 0x8CC702081A6439EC]

def shaK3 : List W64 :=
  [0x90BEFFFA23631E28, 0xA4506CEBDE82BDE9, 0xBEF9A3F7B2C67915, 0xC67178F2E372532B,
   0xCA273ECEEA26619C, 0xD186B8C721C0C207, 0xEADA7DD6CDE0EB1E, 0xF57D4F7FEE6ED178,
   0x06F067AA72176FBA, 0x0A637DC5A2C898A6, 0x113F9804BEF90DAE, 0x1B710B35131C471B,
   0x28DB77F523047D84, 0x32CAAB7B40C72493, 0x3C9EBE0A15C9BEBC, 0x431D67C49C100D4C,
   0x4CC5D4BECB3E42B6, 0x597F299CFC657E2A, 0x5FCB6FAB3AD6FAEC, 0x6C44198C4A475817]

def shaK : List W64 := shaK0 ++ shaK1 ++ shaK2 ++ shaK3

/-- The eight working words. -/
structure ShaState where
  a : W64
  b : W64
  c : W64
  d : W64
  e : W64
  f : W64
  g : W64
  h : W64
  deriving DecidableEq, Repr

def sha384Init : ShaState :=
  ⟨0xCBBB9D5DC1059ED8, 0x629A292A367CD507, 0x9159015A3070DD17, 0x152FECD8F70E5939,
   0x67332667FFC00B31, 0x8EB44A8768581511, 0xDB0C2E0D64F98FA7, 0x47B5481DBEFA4FA4⟩

def shaRound (x : ShaState) (k w : W64) : ShaState :=
  let s1 := x.e.rotateRight 14 ^^^ x.e.rotateRight 18 ^^^ x.e.rotateRight 41
  let ch := (x.e &&& x.f) ^^^ (~~~x.e &&& x.g)
  let t1 := x.h + s1 + ch + k + w
  let s0 := x.a.rotateRight 28 ^^^ x.a.rotateRight 34 ^^^ x.a.rotateRight 39
  let maj := (x.a &&& x.b) ^^^ (x.a &&& x.c) ^^^ (x.b &&& x.c)
  ⟨t1 + (s0 + maj), x.a, x.b, x.c, x.d + t1, x.e, x.f, x.g⟩

/-- The next word of a message schedule from its last sixteen, oldest first. -/
def shaNextWord (ws : List W64) : W64 :=
  let w2 := ws.getD 14 0
  let w15 := ws.getD 1 0
  (w2.rotateRight 19 ^^^ w2.rotateRight 61 ^^^ (w2 >>> 6)) + ws.getD 9 0
    + (w15.rotateRight 1 ^^^ w15.rotateRight 8 ^^^ (w15 >>> 7)) + ws.getD 0 0

/-- The rounds over the constants, the schedule sliding along. -/
def shaRounds : List W64 → ShaState → List W64 → ShaState
  | [], x, _ => x
  | k :: ks, x, ws => shaRounds ks (shaRound x k (ws.headD 0)) (ws.tail ++ [shaNextWord ws])

/-- One 128-byte block, as sixteen words. -/
def shaBlock (x : ShaState) (ws : List W64) : ShaState :=
  let y := shaRounds shaK x ws
  ⟨x.a + y.a, x.b + y.b, x.c + y.c, x.d + y.d, x.e + y.e, x.f + y.f, x.g + y.g, x.h + y.h⟩

/-- The number of a big-endian byte string. -/
def beNat (bs : List Byte) : Nat := bs.foldl (fun a b => a * 256 + b.toNat) 0

/-- A number as n big-endian bytes. -/
def beBytes (n v : Nat) : List Byte := (leBytes n v).reverse

/-- The blocks of a padded message, one after another; the count bounds them. -/
def shaBlocks : Nat → ShaState → List Byte → ShaState
  | 0, x, _ => x
  | n + 1, x, bs =>
    shaBlocks n (shaBlock x ((List.range 16).map fun i => BitVec.ofNat 64 (beNat ((bs.drop (8 * i)).take 8)))) (bs.drop 128)

/-- The SHA-384 digest of a message, 48 bytes. -/
def sha384 (msg : List Byte) : List Byte :=
  let n := msg.length
  let zeros := (239 - n % 128) % 128
  let padded := msg ++ [0x80] ++ List.replicate zeros 0 ++ beBytes 16 (8 * n)
  let x := shaBlocks (padded.length / 128) sha384Init padded
  [x.a, x.b, x.c, x.d, x.e, x.f].flatMap fun w => beBytes 8 w.toNat

/-! ## The curve P-384 -/

def p384P : Nat := 2 ^ 384 - 2 ^ 128 - 2 ^ 96 + 2 ^ 32 - 1

/-- The order of the base point. -/
def p384N : Nat :=
  0xFFFFFFFFFFFFFFFFFFFFFFFFFFFFFFFFFFFFFFFFFFFFFFFFC7634D81F4372DDF581A0DB248B0A77AECEC196ACCC52973

/-- The curve's constant b. -/
def p384B : Nat :=
  0xB3312FA7E23EE7E4988E056BE3F82D19181D9C6EFE8141120314088F5013875AC656398D8A2ED19D2A85C8EDD3EC2AEF

/-- A point in Jacobian coordinates: (X / Z², Y / Z³), the neutral point with Z = 0. -/
structure Jac where
  x : Nat
  y : Nat
  z : Nat
  deriving DecidableEq, Repr

def p384Zero : Jac := ⟨1, 1, 0⟩

def p384Base : Jac :=
  ⟨0xAA87CA22BE8B05378EB1C71EF320AD746E1D3B628BA79B9859F741E082542A385502F25DBF55296C3A545E3872760AB7,
   0x3617DE4A96262C6F5D9E98BF9292DC29F8F41DBD289A147CE9DA3113B5F0B8C00A60B1CE1D7E819D7A431D7C90EA0E5F, 1⟩

/-- a − b mod p. -/
def subP (a b : Nat) : Nat := (a + p384P - b % p384P) % p384P

/-- Twice a point; the curve's a is −3. -/
def Jac.double (q : Jac) : Jac :=
  let p := p384P
  if q.z == 0 || q.y == 0 then p384Zero
  else
    let yy := q.y * q.y % p
    let s := 4 * q.x * yy % p
    let zz := q.z * q.z % p
    let m := 3 * subP q.x zz * (q.x + zz) % p
    let x := subP (m * m) (2 * s)
    ⟨x, subP (m * subP s x) (8 * yy * yy), 2 * q.y * q.z % p⟩

/-- The sum of two points. -/
def Jac.add (a b : Jac) : Jac :=
  let p := p384P
  if a.z == 0 then b
  else if b.z == 0 then a
  else
    let za := a.z * a.z % p
    let zb := b.z * b.z % p
    let u1 := a.x * zb % p
    let u2 := b.x * za % p
    let s1 := a.y * b.z * zb % p
    let s2 := b.y * a.z * za % p
    if u1 == u2 then (if s1 == s2 then a.double else p384Zero)
    else
      let h := subP u2 u1
      let r := subP s2 s1
      let hh := h * h % p
      let hhh := h * hh % p
      let v := u1 * hh % p
      let x := subP (subP (r * r) hhh) (2 * v)
      ⟨x, subP (r * subP v x) (s1 * hhh), h * a.z * b.z % p⟩

/-- k times a point, over the low n bits of k. -/
def Jac.times : Nat → Nat → Jac → Jac
  | 0, _, _ => p384Zero
  | n + 1, k, q =>
    let rest := Jac.times n (k / 2) q.double
    if k % 2 == 1 then q.add rest else rest

/-- The pair is a valid public key: on the curve, inside the field (FIPS 186-5). -/
def onCurve (x y : Nat) : Bool :=
  x < p384P && y < p384P && y * y % p384P == ((x * x + p384P - 3) * x + p384B) % p384P

/-- ECDSA P-384 with SHA-384: the signature (r, s) of a message under a public key verifies (FIPS 186-5; 17 R392). -/
def ecdsaVerify (msg : List Byte) (x y r s : Nat) : Bool :=
  let n := p384N
  if !onCurve x y || r == 0 || s == 0 || n ≤ r || n ≤ s then false
  else
    let e := beNat (sha384 msg)
    let w := powMod n 384 s (n - 2)
    let q := (Jac.times 384 (e * w % n) p384Base).add (Jac.times 384 (r * w % n) ⟨x, y, 1⟩)
    if q.z == 0 then false
    else
      let zi := powMod p384P 384 (q.z * q.z % p384P) (p384P - 2)
      q.x * zi % p384P % n == r

end Sys2Proof.Machine
end

