-- ==== Sys2Proof/Machine/Warden.lean ====
section
/-!
DEFINITION. The ports of the management networks (14): PDUs as bytes, the filters of each port, its queue, rate limit and
remembered answers, notifications pushed to the listener, I3C's common command codes, the mailbox, and relays.
-/
namespace Sys2Proof.Machine

/-! ## PDUs (14 R329–R331) -/

/-- The PDU a byte string of at least 16 bytes spells; `padded` cuts the data at LEN (14 R329, R342). -/
def pduOf (bs : List Byte) (padded : Bool) : Pdu :=
  let f (o n : Nat) : Nat := leNat ((bs.drop o).take n)
  let len := f 12 2
  let data := bs.drop 16
  ⟨f 0 1, f 1 1, f 2 2, f 4 1, f 5 1, f 6 2, f 8 2, f 10 1, f 11 1, len, f 14 2, if padded then data.take len else data⟩

/-- The CRC of a received PDU passes (14 R330). -/
def pduCrcOk (p : Pdu) : Bool := p.crc == crc16 (pduHead p ++ p.data.take p.len)

/-- An operation code that is not reserved (14 R331). -/
def opKnown (op : Nat) : Bool := 1 ≤ op && op ≤ 0x0B

/-- BAD_VERSION, BAD_OP and FRAME (14 R333), 0 where the PDU is a request in form. -/
def formAbort (p : Pdu) : Nat :=
  if p.ver != 2 then 0x10
  else if !opKnown p.op || p.op == 0x0A || bitOf p.flags 0 then 0x11
  else if 1024 < p.len || p.len != p.data.length || p.status != 0 || 4 ≤ p.flags then 0x12
  else if (if bitOf p.die 15 then p.die != 0x8000 else bits p.die 14 13 != 0) then 0x12
  else if (p.op == 9 || p.op == 0x0B) && (p.index != 0 || p.sub != 0 || bits p.view 5 0 != 0) then 0x12
  else 0

/-- The answer to a request: RESP set, the request's fields, and data only on success (14 R331). -/
def answerPdu (q : Pdu) (status : Nat) (data : List Byte) : Pdu :=
  let data := if status == 0 then data else []
  pduSealed { q with ver := 2, flags := 1, status := status, len := data.length, crc := 0, data := data }

/-! ## The ports (14 R334–R340) -/

/-- The place of a port in the rotation; a relayed request stands in the far die's 10BASE-T1S queue (13 R318, 14 R345). -/
def portGroup : Port → Nat
  | .mailbox => 0
  | .i3c => 1
  | .t1s | .relay => 2

/-- The index of a port's counters: obj D011, D021, D031 (14 R346). -/
def portCounters (p : Port) : Nat :=
  match portGroup p with
  | 0 => 0xD031
  | 1 => 0xD021
  | _ => 0xD011

def State.countPort (s : State) (p : Port) (sub : Nat) : State := objBump s none (portCounters p) sub

def State.modWarden (s : State) (f : Warden → Warden) : State := { s with warden := f s.warden }

/-- An answer leaves on the port its request came in on (14 R342–R345). -/
def State.transmitAnswer (s : State) (r : Request) (a : Pdu) : State :=
  match r.port with
  | .t1s => s.emit (s.frameTo r.source a)
  | .i3c =>
    let s := s.modWarden fun w => { w with i3cAnswers := w.i3cAnswers ++ [a] }
    if s.warden.ibiEnabled then s.emit (.ibi 1) else s
  | .mailbox =>
    (s.modWarden fun w => { w with
      mbAnswer := pduBytes a, mbRsp := true, mbReq := w.mbReq && w.queue.any fun q => q.port == .mailbox }).raiseVector 0 2
  | .relay =>
    let a := pduSealed { a with flags := 3, crc := 0 }
    s.sendPacket ⟨r.source, s.dieCoord, 9, 0, r.tag, pduBytes a⟩

/-- Each port remembers the last answer for up to 16 sources; the one served least recently gives way (14 R335). -/
def remember (port : Port) (source : Nat) (e : Served) (es : List Served) : List Served :=
  let rest := es.filter fun x => !(x.port == port && x.source == source)
  let mine := rest.filter fun x => x.port == port
  let rest := match mine with
    | x :: _ => if 16 ≤ mine.length then rest.filter fun y => y != x else rest
    | [] => rest
  rest ++ [e]

/-- A request has been served: its answer leaves and is remembered (14 R335). -/
def State.sendAnswer (s : State) (r : Request) (status : Nat) (data : List Byte) : State :=
  let a := answerPdu r.pdu status data
  let s := s.modWarden fun w => { w with served := remember r.port r.source ⟨r.port, r.source, r.pdu.seq, r.pdu.crc, a⟩ w.served }
  s.transmitAnswer r a

/-- The remembered answer to a request that is repeated (14 R335). -/
def State.remembered (s : State) (r : Request) : Option Pdu :=
  (s.warden.served.find? fun e => e.port == r.port && e.source == r.source && e.seq == r.pdu.seq && e.crc == r.pdu.crc).map (·.answer)

/-- BUSY_PORT, answered at once (14 R334, R340). -/
def State.busyPort (s : State) (r : Request) : State := (s.countPort r.port 4).transmitAnswer r (answerPdu r.pdu 0x1A [])

/-- Requests of a port accepted within the last 32 tick edges (14 R340). -/
def State.acceptedLately (s : State) (p : Port) : Nat :=
  (s.warden.accepted.filter fun e => portGroup e.1 == portGroup p && s.tick < e.2 + 32).length

/-- A PDU has passed its port's filter (14 R333–R335, R340): it is answered from memory, turned away, answered where it is no
request in form, or queued. -/
def State.arrive (s : State) (r : Request) : State :=
  match s.remembered r with
  | some a => (s.countPort r.port 5).transmitAnswer r a
  | none =>
    if objGet s none 0xD000 7 ≤ s.acceptedLately r.port
        || 8 ≤ (s.warden.queue.filter fun q => portGroup q.port == portGroup r.port).length then s.busyPort r
    else
      let s := (s.countPort r.port 1).modWarden fun w => { w with
        accepted := (w.accepted.filter fun e => s.tick < e.2 + 32) ++ [(r.port, s.tick)] }
      match formAbort r.pdu with
      | 0 => s.modWarden fun w => { w with queue := w.queue ++ [r] }
      | k => s.sendAnswer r k []

/-- The request the warden serves next: the ports in rotation after the one served last, each in arrival order (13 R318); none
while it restarts or while a request is in execution (14 R338). A mailbox request waits until the answer buffer is free (14 R344). -/
def State.nextRequest (s : State) : Option Request :=
  if s.warden.restarting || s.warden.current.isSome then none
  else
    let g := portGroup s.warden.lastPort
    [1, 2, 3].findSome? fun d => s.warden.queue.find? fun r =>
      portGroup r.port == (g + d) % 3 && !(r.port == .mailbox && s.warden.mbRsp)

/-! ## Notifications (14 R341) -/

/-- The listener's acknowledgement removes the notification it names, where that is still the oldest; the next one leaves. -/
def State.notifyAck (s : State) (seq : Nat) : State :=
  match s.warden.notifyOut with
  | some (k, q, x) =>
    if k != seq then s
    else
      let s := s.modWarden fun w => { w with notifyOut := none }
      let s := if (s.noteQueue q).items.head? == some x then (s.noteTake q).2 else s
      s.pushNotify
  | none => s

/-- NOTIFY_RETRY_TIMEOUT: the same PDU again while a listener is named; the next notification where a reader has taken this one or its
queue is pushed no longer. -/
def execNotifyRetryTimeout (s : State) : Host.Outcome State Fault Refusal :=
  match s.warden.notifyOut with
  | some (k, q, x) =>
    let node := objGet s none 0xD010 5
    if !(s.noteQueue q).items.contains x || !s.pushed q then .next (s.modWarden fun w => { w with notifyOut := none }).pushNotify
    else if node == 255 then .next s
    else .next (s.emit (s.frameTo (s.macOf node) (notifyPdu k q x)))
  | none => .next s

/-- NOTIFY: an acknowledgement on 10BASE-T1S; a NOTIFY that is no answer is BAD_OP (14 R333, R341). A PDU whose CRC fails is dropped
and counted on every port (14 R330, R339). -/
def execNotify (r : Request) (s : State) : Host.Outcome State Fault Refusal :=
  if r.pdu.op != 0x0A then .next s
  else if !pduCrcOk r.pdu then .next (s.countPort r.port 3)
  else if bitOf r.pdu.flags 0 && r.port == .t1s then .next (s.notifyAck r.pdu.seq)
  else .next (s.arrive r)

/-! ## 10BASE-T1S (14 R339, R342) -/

def broadcastMac : Nat := 2 ^ 48 - 1

/-- T1S_FRAME_RECEIVE: the filters in their order, then the queue; a frame that comes in shows PLCA active (log 44). -/
def execT1sFrameReceive (f : T1sFrame) (s : State) : Host.Outcome State Fault Refusal :=
  let s := objSet s none 0xD010 6 1
  let drop := s.countPort .t1s 2
  let p := pduOf f.payload true
  .next (if !f.fcsOk || f.payload.length < 46 || 1500 < f.payload.length then drop
    else if (f.dst != s.mac && f.dst != broadcastMac) || f.etherType != objGet s none 0xD010 4 then drop
    else if !pduCrcOk p then s.countPort .t1s 3
    else if f.dst == broadcastMac && p.op != 9 then drop
    else if p.op == 0x0A && bitOf p.flags 0 then s.notifyAck p.seq
    else s.arrive ⟨.t1s, f.src, 0, p⟩)

/-! ## I3C Basic (14 R339, R343) -/

def State.i3cAddress (s : State) : Nat := objGet s none 0xD020 1

/-- A new request discards the answers that have not been read, each counted in obj D021.02 (14 R343). -/
def State.discardI3c (s : State) : State :=
  (objBump s none 0xD021 2 s.warden.i3cAnswers.length).modWarden fun w => { w with i3cAnswers := [] }

/-- I3C_PRIVATE_WRITE: the filters in their order; a request that passes discards the answers not read, and is queued. -/
def execI3cPrivateWrite (t : I3cTransfer) (s : State) : Host.Outcome State Fault Refusal :=
  let drop := s.countPort .i3c 2
  let n := t.bytes.length
  let own := s.i3cAddress != 0 && t.address.toNat == s.i3cAddress
  .next (if !t.ok || (!own && t.address.toNat != 0x7E) || n < 16 || 1040 < n then drop
    else
      let p := pduOf t.bytes false
      if !pduCrcOk p then s.countPort .i3c 3
      else if !own then drop
      else s.discardI3c.arrive ⟨.i3c, 0, 0, p⟩)

/-- I3C_PRIVATE_READ: the oldest answer that is ready, read in full, or a NACK. -/
def execI3cPrivateRead (s : State) : Host.Outcome State Fault Refusal :=
  match s.warden.i3cAnswers with
  | a :: rest =>
    if s.i3cAddress == 0 then .next (s.emit .i3cNack)
    else .next ((s.modWarden fun w => { w with i3cAnswers := rest }).emit (.i3c (pduBytes a)))
  | [] => .next (s.emit .i3cNack)

/-- ENEC: bit 0 enables In-Band Interrupts. -/
def execEnec (events : Byte) (s : State) : Host.Outcome State Fault Refusal :=
  .next (s.modWarden fun w => { w with ibiEnabled := w.ibiEnabled || bitOf events.toNat 0 })

/-- DISEC: bit 0 disables In-Band Interrupts. -/
def execDisec (events : Byte) (s : State) : Host.Outcome State Fault Refusal :=
  .next (s.modWarden fun w => { w with ibiEnabled := w.ibiEnabled && !bitOf events.toNat 0 })

/-- RSTDAA: no dynamic address. -/
def execRstdaa (s : State) : Host.Outcome State Fault Refusal := .next (objSet s none 0xD020 1 0)

/-- MADDR as the straps gave it: the static address is 0x30 + MADDR (14 R343, R346). -/
def State.maddr (s : State) : Nat := objGet s none 0xD020 3 - 0x30

/-- The provisioned ID, 48 bits (14 R343). -/
def State.i3cPid (s : State) : Nat :=
  objGet s none 0xD020 2 * 2 ^ 33 + 0x4B32 * 2 ^ 16 + s.maddr * 2 ^ 12 + 0x0B0

/-- An address a controller may assign (14 R346). -/
def i3cAssignable (a : Nat) : Bool := 8 ≤ a && a ≤ 0x7D

/-- ENTDAA: a target without a dynamic address sends its ID, BCR and DCR and takes the one assigned. -/
def execEntdaa (address : BitVec 7) (s : State) : Host.Outcome State Fault Refusal :=
  if s.i3cAddress == 0 && i3cAssignable address.toNat then
    .next ((objSet s none 0xD020 1 address.toNat).emit (.i3c (beBytes 6 s.i3cPid ++ leBytes 1 6 ++ leBytes 1 0)))
  else .next (s.emit .i3cNack)

/-- SETDASA: the static address's target, while it has no dynamic address, takes the one assigned. -/
def execSetdasa (static address : BitVec 7) (s : State) : Host.Outcome State Fault Refusal :=
  if static.toNat == objGet s none 0xD020 3 && s.i3cAddress == 0 && i3cAssignable address.toNat then
    .next (objSet s none 0xD020 1 address.toNat)
  else .next (s.emit .i3cNack)

/-- SETMWL: below 1,040 it is NACKed. -/
def execSetmwl (len : W16) (s : State) : Host.Outcome State Fault Refusal :=
  if len.toNat < 1040 then .next (s.emit .i3cNack) else .next (s.modWarden fun w => { w with mwl := len.toNat })

/-- SETMRL: below 1,040 it is NACKed. -/
def execSetmrl (len : W16) (s : State) : Host.Outcome State Fault Refusal :=
  if len.toNat < 1040 then .next (s.emit .i3cNack) else .next (s.modWarden fun w => { w with mrl := len.toNat })

/-- A common command code that reads the target: answered under its dynamic address, else NACKed. -/
def State.i3cGet (s : State) (bs : List Byte) : State := s.emit (if s.i3cAddress == 0 then .i3cNack else .i3c bs)

def execGetmwl (s : State) : Host.Outcome State Fault Refusal := .next (s.i3cGet (beBytes 2 s.warden.mwl))
def execGetmrl (s : State) : Host.Outcome State Fault Refusal := .next (s.i3cGet (beBytes 2 s.warden.mrl))
def execGetpid (s : State) : Host.Outcome State Fault Refusal := .next (s.i3cGet (beBytes 6 s.i3cPid))
def execGetbcr (s : State) : Host.Outcome State Fault Refusal := .next (s.i3cGet (leBytes 1 6))
def execGetdcr (s : State) : Host.Outcome State Fault Refusal := .next (s.i3cGet (leBytes 1 0))

/-- GETSTATUS: two bytes whose content the spec does not give (log 45). -/
def execGetstatus (s : State) : Host.Outcome State Fault Refusal :=
  let (k, s) := s.drawFree
  .next (s.i3cGet (beBytes 2 (Config.i3cStatus k).toNat))

/-! ## The mailbox (14 R339, R344) -/

/-- Runs a mailbox register access; one that is no aligned 32-bit access is dropped and counted (11 R265, 14 R339). -/
def State.mailboxSized (s : State) (a : RegAccess) (body : State) : State :=
  if a.aligned then body else (s.sized 0 a s).countPort .mailbox 2

/-- The PDU in the request buffer, taken by the Vorum: filtered and queued. A dropped one leaves REQ clear. -/
def State.takeMailbox (s : State) : State :=
  let bs := (List.range 1040).map fun i => tabGet 0 s.warden.mbRequest i
  let p := pduOf bs true
  let dropped := s.modWarden fun w => { w with mbReq := false }
  if 1024 < p.len then dropped.countPort .mailbox 2
  else if !pduCrcOk p then dropped.countPort .mailbox 3
  else s.arrive ⟨.mailbox, 0, 0, p⟩

/-- A write of MB_CTL: REQ submits the buffer unless RSP or REQ is set, RSP releases the answer. -/
def State.mbCtlWrite (s : State) (v : Nat) : State :=
  let busy := s.warden.mbRsp || s.warden.mbReq
  let s := if bitOf v 1 then s.modWarden fun w => { w with mbRsp := false } else s
  if !bitOf v 0 then s
  else if busy then s.modWarden fun w => { w with mbReqIgn := true }
  else (s.modWarden fun w => { w with mbReq := true }).takeMailbox

/-- MB_REQ. -/
def execMbReq (a : RegAccess) (s : State) : Host.Outcome State Fault Refusal :=
  if bitOf a.value.toNat 0 then .next (s.mailboxSized a (s.mbCtlWrite a.value.toNat)) else .next s

/-- MB_RSP_RELEASE. -/
def execMbRspRelease (a : RegAccess) (s : State) : Host.Outcome State Fault Refusal :=
  if bitOf a.value.toNat 1 then .next (s.mailboxSized a (s.mbCtlWrite a.value.toNat)) else .next s

/-- A write of the request buffer at an offset of ring page 0. -/
def State.mbBufferWrite (s : State) (offset v : Nat) : State :=
  if offset < 0x2100 || 0x2510 ≤ offset then s
  else if s.warden.mbReq then s.modWarden fun w => { w with mbBufIgn := true }
  else s.modWarden fun w => { w with
    mbRequest := (leBytes 4 v).zipIdx.foldl (fun (t : Tab Byte) (e : Byte × Nat) => tabSet 0 t (offset - 0x2100 + e.2) e.1) w.mbRequest }

/-- MAILBOX_BUFFER_WRITE. -/
def execMailboxBufferWrite (offset : Nat) (a : RegAccess) (s : State) : Host.Outcome State Fault Refusal :=
  .next (s.mailboxSized { a with aligned := a.aligned && offset % 4 == 0 } (s.mbBufferWrite offset a.value.toNat))

/-- A write of MB_STAT: writing 1 clears. -/
def State.mbStatWrite (s : State) (v : Nat) : State :=
  s.modWarden fun w => { w with mbReqIgn := w.mbReqIgn && !bitOf v 0, mbBufIgn := w.mbBufIgn && !bitOf v 1 }

/-- The word a read of the mailbox returns (14 R344). -/
def State.mailboxWord (s : State) (offset : Nat) : Nat :=
  let w := s.warden
  if offset == 0x2000 then 2 * b2n w.mbRsp + b2n w.mbReq
  else if offset == 0x2004 then 2 * b2n w.mbBufIgn + b2n w.mbReqIgn
  else if 0x2100 ≤ offset && offset < 0x2510 then
    leNat ((List.range 4).map fun i => tabGet 0 w.mbRequest (offset - 0x2100 + i))
  else if 0x2800 ≤ offset && offset < 0x2C10 then leNat ((w.mbAnswer.drop (offset - 0x2800)).take 4)
  else 0

/-- The word a read of a page returns, the mailbox of page 0 among it (11 R264, 14 R344). -/
def State.pageRead (s : State) (n : PartId) (offset : Nat) : Nat :=
  if n == 0 && 0x2000 ≤ offset && offset < 0x3000 then s.mailboxWord offset else s.pageWord n offset

/-- REGISTER_WRITE: the registers of a ring page that no row of its own covers, MB_STAT of page 0 among them (11 R264, 14 R344); and the
read of any register of a page, which has no row of its own on PCIe (11 R265, R276; log 132). -/
def execRegisterWrite (n : PartId) (offset : Nat) (a : PageAccess) (s : State) : Host.Outcome State Fault Refusal :=
  let mailbox := n == 0 && offset == 0x2004
  match a with
  | .write a =>
    let s' := s.sized n { a with aligned := a.aligned && offset % 4 == 0 }
      (if mailbox then s.mbStatWrite a.value.toNat else s.ringRegWrite n offset a.value)
    .next (if mailbox && !a.aligned then s'.countPort .mailbox 2 else s')
  | .read aligned =>
    let a : RegAccess := ⟨0, aligned && offset % 4 == 0⟩
    .next ((s.sized n a s).emit (.regValue (if a.aligned then s.pageRead n offset else 0)))

/-! ## Relays (14 R345) -/

/-- A seat lies in the torus or its spare plane (18 R413). -/
def State.seatInside (s : State) (seat : Nat) : Bool :=
  let t := objGet s none 0x7000 1
  bits seat 3 0 ≤ bits t 3 0 && bits seat 7 4 ≤ bits t 7 4
    && (bits seat 12 8 ≤ bits t 11 8 || (bits seat 12 8 == 16 && bitOf t 12))

/-- A die can be reached by relay: it lies in the fabric, a spare seat is an idle spare's, and its route is open. -/
def State.relayReach (s : State) (die : Nat) : Bool :=
  s.delivery == .kv2p && !s.inBivouac && s.seatInside die
    && !(bits die 12 8 == 16 && s.fabric.remap.any fun e => e.2 == die) && s.reachable die

/-- A request for another die (14 R345): refused, or sent over the management channel under a tag of its own. -/
def State.relay (s : State) (r : Request) : State :=
  if !s.relayReach r.pdu.die || r.port == .relay then (objBump s none 0xD000 8).sendAnswer r 0x18 []
  else if 8 ≤ s.warden.relays.length then s.busyPort r
  else
    let t := s.warden.nextTag
    let s := s.modWarden fun w => { w with nextTag := (t + 1) % 2 ^ 32, relays := w.relays ++ [⟨t, r⟩] }
    s.sendPacket ⟨r.pdu.die, s.dieCoord, 8, 0, t, pduBytes r.pdu⟩

/-- MGMT_REQ: the far die queues the request as one of its own 10BASE-T1S port; in Bivouac it cannot be reached. -/
def State.mgmtReq (s : State) (k : Packet) : State :=
  if k.body.length < 16 then s.countPort .relay 2
  else
    let p := pduOf k.body false
    if !pduCrcOk p then s.countPort .relay 3
    else
      let r : Request := ⟨.relay, k.src, k.arg, p⟩
      if s.inBivouac then s.sendAnswer r 0x18 [] else s.arrive r

def execMgmtReq (k : Packet) (s : State) : Host.Outcome State Fault Refusal :=
  .next (if k.kind == 8 then s.mgmtReq k else s)

/-- MGMT_ANS: the answer is forwarded on the port of arrival; one that comes after RELAY_TMO is dropped, and one whose CRC fails is
dropped and counted (14 R330). -/
def State.mgmtAns (s : State) (k : Packet) : State :=
  match s.warden.relays.find? fun e => e.tag == k.arg with
  | none => s
  | some e =>
    let a := pduOf k.body false
    if k.body.length < 16 then s.countPort .relay 2
    else if !pduCrcOk a then s.countPort .relay 3
    else
    let r := e.request
    let s := s.modWarden fun w => { w with
      relays := w.relays.filter fun x => x.tag != k.arg
      served := remember r.port r.source ⟨r.port, r.source, r.pdu.seq, r.pdu.crc, a⟩ w.served }
    s.transmitAnswer r a

def execMgmtAns (k : Packet) (s : State) : Host.Outcome State Fault Refusal :=
  .next (if k.kind == 9 then s.mgmtAns k else s)

/-- RELAY_TIMEOUT. -/
def execRelayTimeout (tag : W32) (s : State) : Host.Outcome State Fault Refusal :=
  match s.warden.relays.find? fun e => e.tag == tag.toNat with
  | none => .next s
  | some e =>
    let s := s.modWarden fun w => { w with relays := w.relays.filter fun x => x.tag != tag.toNat }
    .next ((objBump s none 0xD000 8).sendAnswer e.request 0x19 [])

/-! ## Blocks and the warden's reset (14 R337, R338) -/

/-- BLOCK_IDLE_TIMEOUT: the block is closed, and its next PDU learns so. -/
def execBlockIdleTimeout (p : Port) (source : Nat) (s : State) : Host.Outcome State Fault Refusal :=
  .next (s.modWarden fun w => { w with blocks := w.blocks.map fun (b : Block) =>
    if b.port == p && b.source == source && !b.closed then { b with closed := true, data := [] } else b })

/-- A warden reset (13 R316, 14 R338): the request in progress is answered WARDEN_RESET, every block closes, the notification
queues are empty; the ports keep their queues and remembered answers. -/
def State.wardenReset (s : State) : State :=
  let s := match s.warden.current with
    | some r => s.sendAnswer r 0x1B []
    | none => s
  let s := { s with notes := .reset, parts := s.parts.map fun (p : Partition) => { p with notes := .reset } }
  s.modWarden fun w => { w with restarting := true, current := none, blocks := [], notifySeq := 1, notifyOut := none }

def execWardenReset (s : State) : Host.Outcome State Fault Refusal := .next s.wardenReset

/-- WARDEN_RESTART: the warden serves its port queues again. -/
def execWardenRestart (s : State) : Host.Outcome State Fault Refusal :=
  if s.warden.restarting then .next (s.modWarden fun w => { w with restarting := false }).pushNotify else .next s

end Sys2Proof.Machine
end

