-- ==== Sys2Proof/Machine/Links.lean ====
section
/-!
DEFINITION. Ridgeline ports (18 R403–R417): training, lane codewords, flits with their acknowledgements and resends, credits,
the choice of a flit for each slot, packets in reception and where they go, and links that go down.
-/
namespace Sys2Proof.Machine

/-! ## Ports going down and coming up (18 R404, R416, R417) -/

/-- The body of a TOPO notice: the seat and the port of a lost link. -/
def topoBody (seat port : Nat) : List Byte := leBytes 2 seat ++ leBytes 1 port

/-- A port goes down (18 R416): its cause, its count and an event; an UP link is lost, and every die hears of it (R417). -/
def State.linkDown (s : State) (p : PortIx) (cause : Nat) : State :=
  let up := s.portState p == 3
  let s := objSet (objSet (objSet s none (portIndex p) 1 0) none (portIndex p) 2 0) none (portIndex p) 9 cause
  let s := objBump s none (portIndex p) 6
  let s := s.modLink p fun l => { Link.reset with wasUp := l.wasUp }
  let s := postEvent s 0x22 none none (cause * 256 + p.val)
  if up then (s.flood 0x1B 0 (topoBody s.mySeat p.val)).linkGone s.mySeat p.val else s

/-- The buffers of every class in the order of an LCTL's returns: VC by VC, DL 0 and DL 1 (18 R408, R409). -/
def fullBuffers : Vector Nat 16 := Vector.ofFn fun i => vcBuffer (i.val / 2)

/-- An LCTL's payload: 16 credit returns, then INIT (18 R409). -/
def lctlBytes (returns : Vector Nat 16) (init : Bool) : List Byte :=
  returns.toList.flatMap (fun n => leBytes 2 n) ++ leBytes 1 (b2n init)

/-- The acknowledgement every flit carries (18 R406, R407). -/
def Link.stamp (l : Link) (f : Flit) : Flit := { f with ackSeq := (l.expected + 4095) % 4096, ackV := true, nak := l.nak }

/-- A sequenced flit leaves: it takes the next FSEQ and stays until it is acknowledged (18 R407). -/
def State.sendSequenced (s : State) (p : PortIx) (f : Flit) : State :=
  let l := s.link p
  let f := l.stamp { f with fseq := l.fseq }
  (s.modLink p fun l => { l with fseq := (l.fseq + 1) % 4096, unacked := l.unacked ++ [f] }).emit (.flit p f)

/-- The LCTL flit of a port. -/
def lctlFlit (returns : Vector Nat 16) (init : Bool) : Flit :=
  ⟨2, 0, 0, false, false, 0, lctlBytes returns init, 0, false, false, true⟩

/-- What a training finds makes the cause of R416 that keeps the port DOWN, 0 where it succeeds (18 R404, R413). -/
def State.trainCause (s : State) (p : PortIx) (t : PortTraining) : Nat :=
  if s.mySeat == 0x8000 then 5
  else if t.lanes != 4 || !(t.rate == 1 || t.rate == 2) then 4
  else if t.seat != s.nextSeat s.mySeat p.val then 5
  else if !t.credits then 4 else 0

/-- A DOWN port trains: it becomes UP, or STANDBY where it has been UP before, or stays DOWN with a cause (18 R404). The initial
credits have been exchanged with it: each side's first LCTL, with FSEQ 0, gave its full buffers (log 46). -/
def State.trainPort (s : State) (p : PortIx) (t : PortTraining) : State :=
  match s.trainCause p t with
  | 0 =>
    let l := s.link p
    let s := objSet (objSet s none (portIndex p) 2 t.rate) none (portIndex p) 7 t.seat
    let s := objSet s none (portIndex p) 1 (if l.wasUp then 2 else 3)
    let s := s.modLink p fun _ => { Link.reset with
      wasUp := true, lanes := .replicate 4 ⟨4, 0, true⟩, credits := fullBuffers }
    (s.sendSequenced p (lctlFlit fullBuffers true)).modLink p fun l => { l with expected := 1 }
  | c => objSet s none (portIndex p) 9 c

/-- PORT_RETRAIN. -/
def execPortRetrain (p : PortIx) (t : PortTraining) (s : State) : Host.Outcome State Fault Refusal :=
  if s.delivery == .kv2p && s.booted && s.portState p == 0 then .next (s.trainPort p t) else .next s

/-- A STANDBY port is put in use: its link is no longer lost (18 R404). -/
def State.putInUse (s : State) (p : PortIx) : State :=
  let far := (s.nextSeat s.mySeat p.val, if p.val % 2 == 0 then p.val + 1 else p.val - 1)
  let s := objSet s none (portIndex p) 1 3
  let s := { s with fabric := { s.fabric with lostLinks := s.fabric.lostLinks.filter fun e => e != (s.mySeat, p.val) && e != far } }
  objSet s none 0x7000 7 (s.fabric.lostSeats.length + s.fabric.lostLinks.length)

/-! ## Stream packets (10 R262, 18 R415) -/

/-- STREAM_MSG. -/
def execStreamMsg (k : Packet) (s : State) : Host.Outcome State Fault Refusal :=
  campPacket 1 k s fun n => s.remoteMessage n k.arg k.body

/-- STREAM_CRED. -/
def execStreamCred (k : Packet) (s : State) : Host.Outcome State Fault Refusal :=
  campPacket 2 k s fun n => s.remoteCredit n k.arg (bodyField k 0 2)

/-- STREAM_CLOSE. -/
def execStreamClose (k : Packet) (s : State) : Host.Outcome State Fault Refusal :=
  campPacket 3 k s fun n => s.closeArrives n k.arg

/-! ## Packets in reception (18 R409, R414, R415) -/

/-- A packet that a router drops (18 R415). -/
def State.dropPacket (s : State) : State := objBump s none 0x7000 9

/-- A packet for this die goes to what its KIND names. -/
def deliverPacket (k : Packet) (from_ : PortIx) (s : State) : Host.Outcome State Fault Refusal :=
  match k.kind with
  | 0x01 => execStreamMsg k s
  | 0x02 => execStreamCred k s
  | 0x03 => execStreamClose k s
  | 0x08 => execMgmtReq k s
  | 0x09 => execMgmtAns k s
  | 0x10 => execCanopyUp k s
  | 0x11 =>
    match s.campPart k.camp with
    | some n => execCanopyDown n ((s.campCtxOf n).getD 0) (some k) s
    | none => .next s.dropPacket
  | 0x18 => execPresent k s
  | 0x19 => execActive k s
  | 0x1A => noticeArrives 0x1A k (some from_) s fun s => s.faultNotice k
  | 0x1B => noticeArrives 0x1B k (some from_) s fun s => s.linkGone (bodyField k 0 2) (bodyField k 2 1 % 6)
  | 0x1C => noticeArrives 0x1C k (some from_) s fun s => s.installRemap k.camp (bodyField k 0 2) (bodyField k 2 2)
  | 0x20 => execStashOpen k s
  | 0x21 => execStashData k s
  | 0x22 => execStashSeal k s
  | 0x23 => execStashAck k s
  | 0x24 => execPullReq k s
  | 0x25 => execPullData k s
  | 0x26 => execRecoverQuery k s
  | 0x27 => execRecoverReport k s
  | 0x28 => execResume k s
  | 0x29 => execResumeDone k s
  | _ => .next s.dropPacket

/-- A packet on its way to another die leaves on the port of its route, in its class: DL stays 1 within a dimension once it has
crossed the dateline (18 R414). -/
def State.forwardPacket (s : State) (k : Packet) (from_ : PortIx) (dl : Nat) : State :=
  match s.nextHop s.mySeat (s.seatOf k.dst) with
  | some (p, dateline) =>
    let dl := if p / 2 == from_.val / 2 && dl == 1 then 1 else b2n dateline
    s.queueOn (Fin.ofNat 6 p) dl 0 k
  | none => s

/-- A whole packet has been received in a class (18 R414, R415). -/
def receivePacket (bs : List Byte) (from_ : PortIx) (dl : Nat) (s : State) : Host.Outcome State Fault Refusal :=
  let (k, len) := packetOf bs
  let notice := k.dst == 0xFFFF
  if bs.length < 16 || len != k.body.length || !kindKnown k.kind then .next s.dropPacket
  else if notice then (if 0x1A ≤ k.kind && k.kind ≤ 0x1C then deliverPacket k from_ s else .next s.dropPacket)
  else if 0x1A ≤ k.kind && k.kind ≤ 0x1C || bitOf k.dst 15 || !s.seatInside (s.seatOf k.dst) then .next s.dropPacket
  else if s.seatOf k.dst == s.mySeat then deliverPacket k from_ s
  else .next (s.forwardPacket k from_ dl)

/-- Credits of a class wait to be returned; an LCTL is due from 8 on (18 R409). -/
def Link.owe (l : Link) (cls : Nat) (n : Nat) : Link :=
  let v := l.owed[(Fin.ofNat 16 cls : Fin 16)] + n
  { l with owed := l.owed.set (Fin.ofNat 16 cls : Fin 16) v, lctlDue := l.lctlDue || 8 ≤ v }

/-- The class of a flit. -/
def flitClass (f : Flit) : Nat := 2 * f.vc.val + f.dl.val

/-- A DATA flit in its class's buffer: a packet grows; whole, it leaves the buffer, and its flits' credits return (18 R410, R415). -/
def receiveData (p : PortIx) (f : Flit) (s : State) : Host.Outcome State Fault Refusal :=
  let cls := flitClass f
  let old := (s.link p).asm.find? fun e => e.1 == cls
  let s := s.modLink p fun l => { l with asm := l.asm.filter fun e => e.1 != cls }
  let back (s : State) (n : Nat) : State := s.modLink p fun l => l.owe cls n
  match old with
  | some (_, bs, n) =>
    let s := if f.sop then (back s n).dropPacket else s
    let bs := if f.sop then f.payload else bs ++ f.payload
    let n := if f.sop then 1 else n + 1
    if f.eop then receivePacket bs p f.dl.val (back s n)
    else .next (s.modLink p fun l => { l with asm := l.asm ++ [(cls, bs, n)] })
  | none =>
    if !f.sop then .next (if f.eop then (back s 1).dropPacket else back s 1)
    else if f.eop then receivePacket f.payload p f.dl.val (back s 1)
    else .next (s.modLink p fun l => { l with asm := l.asm ++ [(cls, f.payload, 1)] })

/-! ## Flits (18 R407–R410) -/

/-- Every unacknowledged flit is sent again; once sixteen resends in a row have brought no progress the link goes down instead (18 R407). -/
def State.resendAll (s : State) (p : PortIx) : State :=
  let l := s.link p
  if l.unacked == [] then s
  else if 16 ≤ l.resends then s.linkDown p 2
  else (objBump s none (portIndex p) 5).modLink p fun l => { l with resend := l.unacked, resends := l.resends + 1 }

/-- The flits after the one an ACKSEQ names, and whether it names one that was unacknowledged. -/
def afterAck (seq : Nat) : List Flit → Option (List Flit)
  | [] => none
  | f :: fs => if f.fseq == seq then some fs else afterAck seq fs

/-- The acknowledgement of a flit (18 R407): a NAK while the resend it asks for is under way starts no other (log 46). -/
def State.takeAck (s : State) (p : PortIx) (f : Flit) : State :=
  if !f.ackV then s
  else
    let s := match afterAck f.ackSeq (s.link p).unacked with
      | some left => s.modLink p fun l => { l with
          unacked := left, resends := 0, resend := l.resend.filter fun g => left.any fun h => h.fseq == g.fseq }
      | none => s
    if f.nak && (s.link p).resend == [] then s.resendAll p else s

/-- Credits come back: the oldest a camp spent are no longer held by it (18 R411). -/
def Link.gain (l : Link) (cls n : Nat) : Link :=
  let rec drop_ : Nat → List (Nat × Nat) → List (Nat × Nat)
    | _, [] => []
    | k, e :: es => if e.1 == cls && 0 < k then drop_ (k - 1) es else e :: drop_ k es
  { l with
    credits := l.credits.set (Fin.ofNat 16 cls : Fin 16) (l.credits[(Fin.ofNat 16 cls : Fin 16)] + n)
    held := drop_ n l.held }

/-- An accepted LCTL: it returns credits, or with INIT gives the initial ones (18 R409). -/
def Link.lctl (l : Link) (payload : List Byte) : Link :=
  let ret (i : Nat) : Nat := leNat ((payload.drop (2 * i)).take 2)
  if bitOf (payload.getD 32 0).toNat 0 then { l with credits := Vector.ofFn fun i => ret i.val }
  else (List.range 16).foldl (fun (l : Link) (i : Nat) => l.gain i (ret i)) l

/-- A flit is received (18 R407): its acknowledgement counts where its CRC passes; a sequenced one is accepted in its turn, else
NAK stands until the expected one comes. A STANDBY port takes no DATA. -/
def flitIn (p : PortIx) (f : Flit) (s : State) : Host.Outcome State Fault Refusal :=
  if s.portState p < 2 then .next s
  else
    let s := if f.crcOk then s.takeAck p f else s
    if s.portState p < 2 || f.typ == 0 || 3 ≤ f.typ then .next s
    else if !f.crcOk || f.fseq != (s.link p).expected || (f.typ == 1 && s.portState p != 3) then
      .next (s.modLink p fun l => { l with nak := true })
    else
      let s := s.modLink p fun l => { l with expected := (l.expected + 1) % 4096, nak := false }
      if f.typ == 2 then .next (s.modLink p fun l => l.lctl f.payload) else receiveData p f s

/-- FLIT_RECEIVE. -/
def execFlitReceive (p : PortIx) (f : Flit) (s : State) : Host.Outcome State Fault Refusal := flitIn p f s

/-- LCTL: a flit of that type. -/
def execLctl (p : PortIx) (f : Flit) (s : State) : Host.Outcome State Fault Refusal :=
  if f.typ == 2 then flitIn p f s else .next s

/-- FLIT_RESEND_TIMEOUT. -/
def execFlitResendTimeout (p : PortIx) (s : State) : Host.Outcome State Fault Refusal :=
  if s.portState p < 2 then .next s else .next (s.resendAll p)

/-- LCTL_DUE. -/
def execLctlDue (p : PortIx) (s : State) : Host.Outcome State Fault Refusal :=
  if (s.link p).owed.toList.any fun n => n != 0 then .next (s.modLink p fun l => { l with lctlDue := true }) else .next s

/-! ## Codewords (18 R405) -/

/-- A lane's lock after one more codeword. -/
def Lane.next (l : Lane) (ok : Bool) : Lane :=
  if ok then ⟨min 4 (l.good + 1), 0, l.locked || 4 ≤ l.good + 1⟩ else ⟨0, min 4 (l.bad + 1), l.locked && l.bad + 1 < 4⟩

/-- Flits of a block in their order, until the port stops taking them. -/
def flitsIn (p : PortIx) : List Flit → State → Host.Outcome State Fault Refusal
  | [], s => .next s
  | f :: fs, s =>
    match flitIn p f s with
    | .next t => flitsIn p fs t
    | o => o

/-- CODEWORD_RECEIVE: symbols and codewords are counted, the lane's lock moves, and the flits of a block go on once its four
codewords are in; an uncorrectable codeword, or one without SYNC, brings none. -/
def execCodewordReceive (p : PortIx) (lane : Fin 4) (w : Codeword) (s : State) : Host.Outcome State Fault Refusal :=
  if s.portState p == 0 then .next s
  else
    let ok := w.decodes && w.sync
    let s := objBump s none (portIndex p) 3 (if w.decodes then w.corrected else 0)
    let s := if w.decodes then s else objBump s none (portIndex p) 4
    let q := w.cwseq % 64
    let s := s.modLink p fun l =>
      let x := (l.lanes[lane]).next ok
      { l with
        lanes := l.lanes.set lane x
        deskew := (l.deskew.filter fun e => (q + 64 - e.1) % 64 ≤ 16 || (e.1 + 64 - q) % 64 ≤ 16)
          ++ (if x.locked then [(q, lane.val, if ok then w.flits.take 5 else [])] else []) }
    let block := (s.link p).deskew.filter fun e => e.1 == q
    let parts := [0, 1, 2, 3].map fun i => (block.find? fun e => e.2.1 == i).map fun e => e.2.2
    if parts.all Option.isSome then
      flitsIn p (parts.flatMap fun o => o.getD []) (s.modLink p fun l => { l with deskew := l.deskew.filter fun e => e.1 != q })
    else .next s

/-! ## Sending (18 R409–R411) -/

/-- Camps with a partition on the die (18 R411). -/
def State.campsHere (s : State) : Nat := ((s.formedParts.map s.campOf).filter fun c => c != 0).eraseDups.length

/-- A flit of a camp may spend a credit of its class: it has one, and on DATA and STASH the camp stays within its share. -/
def State.maySpend (s : State) (p : PortIx) (cls camp : Nat) : Bool :=
  let l := s.link p
  0 < l.credits[(Fin.ofNat 16 cls : Fin 16)] && (camp == 0 || !(cls / 2 == 3 || cls / 2 == 4)
    || (l.held.filter fun e => e == (cls, camp)).length < vcBuffer (cls / 2) / max 1 s.campsHere)

/-- The flits of a packet at the head of a class's queue: up to its EOP. -/
def packetHead : List (Nat × Flit) → List (Nat × Flit)
  | [] => []
  | e :: es => if e.2.eop then [e] else e :: packetHead es

/-- The packets of a class's queue; the count bounds them. -/
def packetsOf : Nat → List (Nat × Flit) → List (List (Nat × Flit))
  | 0, _ => []
  | f + 1, es => if es == [] then [] else packetHead es :: packetsOf f (es.drop (packetHead es).length)

/-- The packet of a class whose next flit is ready: the one being sent, else the oldest whose camp may spend (18 R409, R411). -/
def State.readyPacket (s : State) (p : PortIx) (cls : Nat) : Option (List (Nat × Flit)) :=
  let mine := (s.link p).queue.filter fun e => flitClass e.2 == cls
  let may (k : List (Nat × Flit)) : Bool := k.head?.any fun e => s.maySpend p cls e.1
  match packetsOf mine.length mine with
  | [] => none
  | k :: ks => if k.head?.any fun e => !e.2.sop then (if may k then some k else none) else (k :: ks).find? may

/-- The ready class of a VC: DL 0 before DL 1 (log 46). -/
def State.readyClass (s : State) (p : PortIx) (vc : Nat) : Option (Nat × List (Nat × Flit)) :=
  match s.readyPacket p (2 * vc) with
  | some k => some (2 * vc, k)
  | none => (s.readyPacket p (2 * vc + 1)).map fun k => (2 * vc + 1, k)

/-- The flits left in the round for a VC of the weighted rotation: CANOPY 4, DATA 3, STASH 1 (18 R409). -/
def roundOf (r : Nat × Nat × Nat) (vc : Nat) : Nat := if vc == 1 then r.1 else if vc == 3 then r.2.1 else r.2.2

def roundSpend (r : Nat × Nat × Nat) (vc : Nat) : Nat × Nat × Nat :=
  if vc == 1 then (r.1 - 1, r.2.1, r.2.2) else if vc == 3 then (r.1, r.2.1 - 1, r.2.2) else (r.1, r.2.1, r.2.2 - 1)

/-- The VC whose flit is sent, and the round it leaves (18 R409). -/
def State.pickVc (s : State) (p : PortIx) : Option (Nat × (Nat × Nat × Nat)) :=
  let l := s.link p
  let ready (vc : Nat) : Bool := (s.readyClass p vc).isSome
  let turn (r : Nat × Nat × Nat) : Option Nat := [1, 3, 4].find? fun vc => ready vc && 0 < roundOf r vc
  if 63 ≤ l.passed && ready 5 then some (5, l.round)
  else if ready 0 then some (0, l.round)
  else if ready 2 then some (2, l.round)
  else match turn l.round with
    | some vc => some (vc, roundSpend l.round vc)
    | none => match turn (4, 3, 1) with
      | some vc => some (vc, roundSpend (4, 3, 1) vc)
      | none => if ready 5 then some (5, l.round) else none

/-- A DATA flit of a class leaves and spends a credit; the rest of its packet goes on ahead of its class's other packets. -/
def State.sendData (s : State) (p : PortIx) (cls : Nat) (k : List (Nat × Flit)) : State :=
  match k with
  | [] => s
  | e :: rest =>
    let s := s.modLink p fun l =>
      let others := l.queue.filter fun x => !(flitClass x.2 == cls)
      let mine := (packetsOf l.queue.length (l.queue.filter fun x => flitClass x.2 == cls)).erase k
      { l with
        queue := others ++ rest ++ mine.flatten
        credits := l.credits.set (Fin.ofNat 16 cls : Fin 16) (l.credits[(Fin.ofNat 16 cls : Fin 16)] - 1)
        held := if e.1 == 0 then l.held else l.held ++ [(cls, e.1)] }
    s.sendSequenced p e.2

/-- A slot goes to something else than MGMT: a ready MGMT flit has been passed over once more (18 R409). -/
def Link.passOver (l : Link) (waits : Bool) : Link := { l with passed := if waits then l.passed + 1 else 0 }

/-- FLIT_SLOT_SEND: a flit being sent again first, since the receiver takes no later one before it; then R409's order. -/
def execFlitSlotSend (p : PortIx) (s : State) : Host.Outcome State Fault Refusal :=
  let l := s.link p
  let st := s.portState p
  let waits := (s.readyClass p 5).isSome
  let idle := (s.modLink p fun l => l.passOver waits).emit (.flit p (l.stamp ⟨0, 0, 0, false, false, 0, [], 0, false, false, true⟩))
  if st < 2 then .next s
  else match l.resend with
    | f :: fs => .next ((s.modLink p fun l => { l.passOver waits with resend := fs }).emit (.flit p (l.stamp f)))
    | [] =>
      if 1024 ≤ l.unacked.length then .next idle
      else if l.lctlDue then
        .next ((s.modLink p fun l => { l.passOver waits with owed := .replicate 16 0, lctlDue := false }).sendSequenced p (lctlFlit l.owed false))
      else if st == 2 then .next idle
      else match s.pickVc p with
        | none => .next idle
        | some (vc, round) =>
          let s := s.modLink p fun l => { l.passOver (vc != 5 && waits) with round := round }
          match s.readyClass p vc with
          | some (cls, k) => .next (s.sendData p cls k)
          | none => .next s

/-- LINK_STALL: while the link is UP, a flit has waited its time for a credit (18 R412). -/
def execLinkStall (p : PortIx) (s : State) : Host.Outcome State Fault Refusal :=
  if s.portState p == 3 && ((s.link p).queue.any fun e => (s.link p).credits[(Fin.ofNat 16 (flitClass e.2) : Fin 16)] == 0) then
    .next (s.linkDown p 3)
  else .next s

/-- LOCK_LOST (18 R416). -/
def execLockLost (p : PortIx) (s : State) : Host.Outcome State Fault Refusal :=
  if s.portState p < 2 then .next s else .next (s.linkDown p 1)

end Sys2Proof.Machine
end

