-- ==== Sys2Proof/Machine/Power.lean ====
section
/-!
DEFINITION. Power states (16): core levels, operating points, gated bank units, Doze, Nap and Ember, wakes, the power cap and
its POWER calls, the limiter, the thermal sensors.
-/
namespace Sys2Proof.Machine

/-! ## Cores (16 R359–R364) -/

/-- The model power of an operating point in mW (16 R359). -/
def modelPower (op : Nat) : Nat := [171, 408, 718, 1110, 1593, 2175, 3289, 4600].getD op 0

/-- The level of a core (16 R363): 0 ACTIVE, 1 DOZE, 2 NAP, 3 GATED. A powered core dozes while it is HALTED or WAITING or the
cap holds it; a core lent to Patrol is ACTIVE. -/
def Core.level (k : Core) : Nat :=
  if k.power.state == 3 then 3
  else if k.power.state == 2 then 2
  else if k.mode == .halted || k.mode == .waiting || k.power.held then 1 else 0

/-- A byte of obj 2020.02. -/
def Core.levelByte (k : Core) : Nat := k.power.op % 8 + k.level * 16

/-- The four cores of a sensor. -/
def sensorCores (q : Nat) : List CoreId := (List.finRange 64).filter fun c => sensorOf c == q

def Core.modPower (k : Core) (f : CorePower → CorePower) : Core := { k with power := f k.power }

/-- OP_CHANGE: one step toward the target (16 R361). -/
def execOpChange (c : CoreId) (s : State) : Host.Outcome State Fault Refusal :=
  let t := s.targetOp c
  .next (if (s.core c).level == 3 || (s.partOf c).isNone then s
    else s.modCore c fun k => k.modPower fun p =>
      { p with op := if p.op < t then p.op + 1 else if t < p.op then p.op - 1 else p.op })

/-- CORE_ENTER_NAP: only a HALTED core naps by itself (16 R363). -/
def execCoreEnterNap (c : CoreId) (s : State) : Host.Outcome State Fault Refusal :=
  .next (if (s.core c).mode == .halted && (s.core c).power.state == 0 then
    s.modCore c fun k => k.modPower fun p => { p with state := 2 } else s)

/-- CORE_WAKE: a wake event, or an access that stalls, returns a napping core to ACTIVE; LOGIC and STORE leave retention, and waits
that its banks held are tried again. A dozing core's clock runs again by its mode (16 R363; log 77). -/
def execCoreWake (c : CoreId) (s : State) : Host.Outcome State Fault Refusal :=
  .next (if s.naps c then (s.wakeCore c).retryAll else s)

/-- BANK_UNIT_GATE: all four banks FREE or LENT, none in a Patrol test (16 R364). -/
def execBankUnitGate (c : CoreId) (u : Fin 8) (s : State) : Host.Outcome State Fault Refusal :=
  let idle := [0, 1, 2, 3].all fun i => match s.bank c (Fin.ofNat 32 (4 * u.val + i)) with
    | .free | .lent => true
    | _ => false
  .next (if idle && !bitOf (s.core c).power.gated u.val then
    s.modCore c fun k => k.modPower fun p => { p with gated := p.gated + 2 ^ u.val } else s)

/-! ## Device states (16 R365–R370) -/

/-- Some Porter channel is active. -/
def State.anyChannel (s : State) : Bool := s.cores.toList.any fun (k : Core) => k.chans.toList.any fun (ch : Channel) => ch.state.isActive

/-- Some command has been fetched and has no record yet. -/
def State.anyCommand (s : State) : Bool := s.parts.toList.any fun (p : Partition) => p.commands != []

/-- Every unit in test goes back (22 R507). -/
def State.patrolStop (s : State) : State := s.patrolYieldTo (fun _ _ => true) .pool

/-- DEVICE_ENTER_DOZE: nothing runs, no channel, no command, no traffic (16 R366). -/
def execDeviceEnterDoze (s : State) : Host.Outcome State Fault Refusal :=
  let idle := s.cores.toList.all fun (k : Core) => 1 ≤ k.level || k.part.isNone
  .next (if s.booted && objGet s none 0x2000 1 == 4 && s.devState == 4 && s.power.entering == .nothing && idle
      && !s.anyChannel && !s.anyCommand && s.traffic == [] && s.claims == [] && s.handovers == [] then
    s.patrolStop.setDevState 3 else s)

/-- Some partition belongs to a camp. -/
def State.anyCamp (s : State) : Bool := (List.finRange 64).any fun n => s.partExists n && s.campOf n != 0

/-- DEVICE_ENTER_NAP: from Doze, with no partition in a camp; the entry commits later (16 R366, R368). -/
def execDeviceEnterNap (s : State) : Host.Outcome State Fault Refusal :=
  .next (if s.booted && objGet s none 0x2000 1 == 4 && s.devState == 3 && s.power.entering == .nothing && !s.anyCamp then
    { s.patrolStop with power := { s.patrolStop.power with entering := .nap } } else s)

/-- Every UP port goes down; its neighbours see the lanes stop (16 R365, 18 R416). -/
def State.linksDown (s : State) : State :=
  (List.finRange 6).foldl (fun (s : State) (p : PortIx) => if s.portState p == 3 then s.linkDown p 1 else s) s

/-- NAP_ENTRY_COMMIT: the powered cores nap and the Ridgeline ports are down (16 R365, R368). -/
def execNapEntryCommit (s : State) : Host.Outcome State Fault Refusal :=
  if s.power.entering != .nap then .next s
  else
    let s := { s with
      power := { s.power with entering := .nothing }
      cores := s.cores.map fun (k : Core) => if k.power.state == 0 && k.mode != CoreMode.off then k.modPower fun p => { p with state := 2 } else k }
    .next (s.linksDown.setDevState 2)

/-- The wake events of a state (16 R367): Doze, Nap, Ember. -/
def wakesFrom (d : Delivery) (state source : Nat) : Bool :=
  if state == 3 then source == 1 || source == 3 || source == 4 || source == 6 || (source == 5 && d == .kv2p)
  else if state == 2 then source == 1 || source == 3 || source == 4 || source == 6
  else if state == 1 then source == 2 && d == .kv2c
  else false

/-- A wake counts and records its source (16 R367). -/
def State.countWake (s : State) (source : Nat) : State := objSet (objBump s none 0x2000 7) none 0x2000 8 source

/-- The state an entry leads to. -/
def Entering.target : Entering → Nat
  | .nothing => 4
  | .nap => 2
  | .ember => 1

/-- The power-up at the end of Ember (16 R369, R370; 17 R389): cores of formed partitions clear, HBM3E clears, the fuses are
read again, the device is in Run and says so. -/
def State.emberWake (s : State) : State :=
  let s := (List.finRange 64).foldl (fun (s : State) (c : CoreId) =>
    match s.partOf c with
    | some n => s.giveCore n .clearing c
    | none => s) s
  let s := (List.finRange 64).foldl (fun (s : State) (n : PartId) =>
    (s.parts[n]).hbmUnits.foldl (fun (s : State) (u : Nat) => s.clearUnit u (some n)) s) s
  let s := (s.compareFuses s.boot.array).backInRun
  ({ s with power := { s.power with exitWait := false } }).noteChange none 0x2000 2

/-- Leaving Ember: EMBER_STATE goes low; with the main rails absent the exit waits for them and counts (23 R515). -/
def State.emberExit (s : State) : State :=
  if s.pins.mainPg then s.emberWake
  else objBump { s with power := { s.power with exitWait := true } } none 0x2040 2

/-- A wake event (16 R367, R368): it abandons an entry that has not committed, or the device leaves its state. -/
def State.wake (s : State) (source : Nat) : State :=
  if s.power.entering != .nothing then
    (objBump { s with power := { s.power with entering := .nothing } } none 0x2000 0xB).countWake source |>.backInRun
  else if s.devState == 3 || s.devState == 2 then (s.countWake source).backInRun
  else if s.devState == 1 && s.booted && !s.power.exitWait then (s.countWake source).emberExit
  else s

/-- DEVICE_WAKE: a wake event of the state the device is in or is entering. -/
def execDeviceWake (source : BitVec 8) (s : State) : Host.Outcome State Fault Refusal :=
  let w := source.toNat
  .next (if wakesFrom s.delivery s.devState w || (s.power.entering != .nothing && wakesFrom s.delivery s.power.entering.target w)
    then s.wake w else s)

/-- UCIE_L2_EXIT_REQUEST: wake code 2 of a KV2-C (16 R367). -/
def execUcieL2ExitRequest (s : State) : Host.Outcome State Fault Refusal :=
  .next (if s.delivery == .kv2c && (s.devState == 1 || s.power.entering == .ember) then s.wake 2 else s)

/-! ## Ember requests (16 R366, R377) -/

/-- The code that refuses a request for Ember, 0 where it is accepted (16 R366). -/
def State.emberRefusal (s : State) : Nat :=
  if s.anyCommand || s.anyChannel || (s.ctxs.any fun e => 1 ≤ e.2.state && e.2.state ≤ 3) then 1
  else if s.anyCamp then 2
  else if s.delivery == .kv2p && !s.pins.perst then 3
  else 0

/-- The filtered value of a sensor with at least one valid reading (16 R376). -/
def Sensor.filtered (q : Sensor) : Int :=
  if q.valid.length < 5 then (Config.temperatureOfFew q.valid).toInt
  else (q.valid.mergeSort (fun a b => a ≤ b)).getD 2 0

/-- Three of the last five readings were invalid (16 R376). -/
def Sensor.failed (q : Sensor) : Bool := 3 ≤ (q.recent.filter fun b => !b).length

/-- An S16 object as a number. -/
def State.celsius (s : State) (sub : Nat) : Int := signed 16 (objGet s none 0x2030 sub)

/-- The filtered values that count: those of sensors that are not failed and have been read. -/
def State.temperatures (s : State) : List Int :=
  (s.power.sensors.toList.filter fun (q : Sensor) => !q.failed && q.valid != []).map Sensor.filtered

/-- A write of obj 2000.01 that has passed the checks before check 12: its abort, 0 for none, and the state (16 R366, R377). -/
def State.emberWrite (s : State) (v : Nat) : Nat × State :=
  if v == 1 then
    match s.emberRefusal with
    | 0 =>
      let s := (objSet (objSet s none 0x2000 3 0) none 0x2000 1 1).patrolStop
      (0, if s.devState == 1 then s else { s with power := { s.power with entering := .ember } })
    | k => (0x0D, objSet s none 0x2000 3 k)
  else if s.power.tripped then
    if s.temperatures.any fun t => s.celsius 2 ≤ t then (0x0D, objSet s none 0x2000 3 1)
    else
      let s := objSet (objSet s none 0x2000 3 0) none 0x2000 1 4
      let s := (s.countWake 3)
      let s := if s.pins.mainPg then s else objBump s none 0x2040 2
      (0, { s with power := { s.power with tripped := false }, pins := { s.pins with thermTripN := true } })
  else (0, (objSet s none 0x2000 1 4).wake 3)

/-- EMBER_ENTRY_COMMIT: the uncore rail is off (16 R365, R368, R369). -/
def execEmberEntryCommit (s : State) : Host.Outcome State Fault Refusal :=
  if s.power.entering != .ember then .next s
  else
    let s := s.linksDown
    let s := { s with
      power := { s.power with entering := .nothing }
      cores := s.cores.map fun (k : Core) => { Core.gated with part := k.part }
      ctxs := []
      traffic := []
      claims := []
      handovers := []
      attach := { Attach.reset with cfg := s.attach.cfg } }
    .next ((objSet (objSet s none 0xC010 1 0) none 0xC010 2 0).setDevState 1)

/-! ## The power cap (16 R371–R373) -/

/-- The filtered power of the valid readings (16 R371). -/
def powerMedian (rs : List Int) : Nat :=
  if rs.length < 5 then (Config.powerOfFew rs).toNat else ((rs.mergeSort (fun a b => a ≤ b)).getD 2 0).toNat

/-- The running cores: the partitions' cores that are ACTIVE or held (16 R372). -/
def State.runningCores (s : State) : List CoreId :=
  (List.finRange 64).filter fun c => (s.partOf c).isSome && ((s.core c).level == 0 || (s.core c).power.held)

def State.heldCores (s : State) : List CoreId := (List.finRange 64).filter fun c => (s.core c).power.held

/-- The held set becomes a list, and obj 2010.04 shows it. -/
def State.setHeld (s : State) (held : List CoreId) : State :=
  let s := { s with cores := Vector.ofFn fun (c : Fin 64) => (s.core c).modPower fun p => { p with held := held.contains c } }
  objSet s none 0x2010 4 (held.foldl (fun a c => a ||| 2 ^ c.val) 0)

/-- The ceilings of the cap change core by core. -/
def State.setCeilings (s : State) (f : CoreId → Nat → Nat) : State :=
  { s with cores := Vector.ofFn fun (c : Fin 64) => (s.core c).modPower fun p => { p with capCeiling := f c p.capCeiling } }

/-- Every restriction of the cap lifts (16 R372, R373). -/
def State.liftCap (s : State) : State :=
  let s := (s.setHeld []).setCeilings fun _ _ => 7
  { s with power := { s.power with answer := none, calm := 0 } }

/-- The next running core after one, in ascending number and around (16 R372). -/
def nextRunning (running : List CoreId) (c : CoreId) : CoreId :=
  match running.find? fun d => c < d with
  | some d => d
  | none => running.headD c

/-- The held cores move on by one running core (16 R372). -/
def State.rotateHeld (s : State) : State :=
  let run := s.runningCores
  s.setHeld ((s.heldCores.map (nextRunning run)).eraseDups)

/-- H: the hysteresis in mW (16 R372). -/
def State.capHysteresis (s : State) : Nat := objGet s none 0x2010 1 * objGet s none 0x2010 3 / 100

/-- The rule of R372 that a decision carries out: its number, 0 for none. -/
def State.capRule (s : State) (pm : Nat) : Nat :=
  let cap := objGet s none 0x2010 1
  let low := cap - s.capHysteresis
  let run := s.runningCores
  if cap < pm then
    if run.any fun c => 0 < (s.core c).power.op then 1
    else if run.any fun c => !(s.core c).power.held then 2 else 0
  else if low < pm then 0
  else if s.heldCores != [] && pm + 171 ≤ low then 3
  else 4

/-- The core that rule 4 raises: below its requested OP, the lowest OP in force, then the lowest number (16 R372). -/
def State.coreToRaise (s : State) : Option CoreId :=
  ((List.finRange 64).filter fun c => (s.partOf c).isSome && (s.core c).level != 3 && (s.core c).power.op < s.requestedOp c).foldl
    (fun (best : Option CoreId) (c : CoreId) => match best with
      | some b => if (s.core c).power.op < (s.core b).power.op then some c else some b
      | none => some c) none

def State.capChanged (s : State) : State := { s with power := { s.power with sinceChange := 0 } }

/-- One decision of R372 in Autonomous enforcement. -/
def State.capDecide (s : State) (pm : Nat) : State :=
  match s.capRule pm with
  | 1 =>
    let run := s.runningCores
    let top := run.foldl (fun m c => max m (s.core c).power.op) 0
    (s.setCeilings fun c x => if run.contains c && (s.core c).power.op == top then top - 1 else x).capChanged
  | 2 =>
    match s.runningCores.find? fun c => !(s.core c).power.held with
    | some c => (s.setHeld (c :: s.heldCores)).capChanged
    | none => s
  | 3 => (s.setHeld s.heldCores.tail).capChanged
  | 4 =>
    match s.coreToRaise with
    | some c =>
      let op := (s.core c).power.op
      if pm + (modelPower (op + 1) - modelPower op) ≤ objGet s none 0x2010 1 - s.capHysteresis then
        (s.setCeilings fun d x => if d == c then max x (op + 1) else x).capChanged
      else s
    | none => s
  | _ => s

/-- The mask of the running cores. -/
def State.runningMask (s : State) : Nat := s.runningCores.foldl (fun a c => a ||| 2 ^ c.val) 0

/-- An excess call of the POWER duty (15 R349). -/
def State.powerCall (s : State) (pm : Nat) : State :=
  s.postCall none 6 (leBytes 4 pm ++ leBytes 4 (objGet s none 0x2010 1) ++ leBytes 8 s.runningMask ++ leBytes 8 0)

/-- The answer in force acts: cores outside its mask are held, the others' cap ceiling is its OP (16 R373). -/
def State.applyAnswer (s : State) (mask op : Nat) : State :=
  let s := s.setHeld ((List.finRange 64).filter fun c => (s.partOf c).isSome && (s.core c).level != 3 && !bitOf mask c.val)
  s.setCeilings fun c x => if bitOf mask c.val then op else x

/-- A tick edge with the POWER duty in Marionette mode (16 R373): the answer in force acts or has been calm long enough; an
excess posts a call; after a late answer Autonomous enforcement runs. -/
def State.capMarionette (s : State) (pm : Nat) (due : Bool) : State :=
  let low := objGet s none 0x2010 1 - s.capHysteresis
  let s := match s.power.answer with
    | none => s
    | some (mask, op) =>
      let calm := if pm ≤ low then s.power.calm + 1 else 0
      if 32 ≤ calm then s.liftCap
      else ({ s with power := { s.power with calm := calm } }).applyAnswer mask op
  let s := if s.power.late then (if s.power.answer.isNone then s.rotateHeld else s) else s
  let rule := s.capRule pm
  let s' := if due && (rule == 1 || rule == 2) && !s.callOut none 6 then s.powerCall pm else s
  if due && s.power.late then s'.capDecide pm else s'

/-- The switch point of the POWER duty, a tick edge; an outstanding call holds the switch (15 R352, R353). -/
def State.powerEdge (s : State) : State :=
  if objGet s none 0x5600 3 == 1 && s.callOut none 6 then { s with power := { s.power with edgeHeld := true } } else s.dutySwitch none 6

/-- A POWER call has ended: a switch that it held at a tick edge follows at once (15 R353). -/
def State.powerCallOver (s : State) : State :=
  if s.power.edgeHeld then ({ s with power := { s.power with edgeHeld := false } }).dutySwitch none 6 else s

/-- POWER_CAP_DECISION: one reading at a tick edge, then at most one rule (16 R371–R373). A pending switch of the POWER duty takes
effect first (15 R352); an answer accepted before it still acts at this edge (15 R353; log 134). -/
def execPowerCapDecision (reading : Int) (s : State) : Host.Outcome State Fault Refusal :=
  let s := s.powerEdge
  let s := if reading < 0 || 500000 < reading then objBump s none 0x2030 7
    else
      let rs := (reading :: s.power.readings).take 5
      objSet { s with power := { s.power with readings := rs } } none 0x2010 2 (powerMedian rs)
  let s := { s with power := { s.power with sinceChange := min 3 (s.power.sinceChange + 1) } }
  let pm := objGet s none 0x2010 2
  let cap := objGet s none 0x2010 1
  let due := s.power.sinceChange == 3
  if cap == 0 then .next s.liftCap
  else
    let s := if cap < pm then objBump s none 0x2010 5 else s
    if s.marionette none 6 then .next (s.capMarionette pm due)
    else
      let s := match s.power.answer with
        | some (mask, op) => s.applyAnswer mask op
        | none => s.rotateHeld
      let s := { s with power := { s.power with answer := none, late := false } }
      .next (if due then s.capDecide pm else s)

/-- An accepted POWER answer: in force from the next tick edge (15 R350, 16 R373). -/
def State.powerAnswered (s : State) (mask op : Nat) : State :=
  let s := s.endCall none 6
  ({ s with power := { s.power with answer := some (mask, op), calm := 0, late := false } }).powerCallOver

/-- POWER_CALL_TIMEOUT: Autonomous enforcement runs until the next call is answered (15 R348, 16 R373). -/
def execPowerCallTimeout (s : State) : Host.Outcome State Fault Refusal :=
  if !s.callOut none 6 then .next s
  else
    let s := s.lateCall none 6
    .next ({ s with power := { s.power with late := true, answer := none } }).powerCallOver

/-- One Ember tick edge without any command (16 R356): the count rises, events of the edge before no longer coalesce (22 R498),
and a pending switch of the POWER duty takes effect (15 R352; log 1). -/
def State.emberTick (s : State) : State :=
  ({ s with tick := (s.tick + 1) % 2 ^ 64, faults := { s.faults with now := [] } }).powerEdge

/-! ## The limiter and the sensors (16 R374–R377) -/

/-- The limiter starts to act, and the engagement counts (16 R374). -/
def State.countLimiter (s : State) : State :=
  if s.power.limiter || s.power.thermalLimiter then s else objBump s none 0x2010 6

def execLimiterEngage (s : State) : Host.Outcome State Fault Refusal :=
  let s := s.countLimiter
  .next { s with power := { s.power with limiter := true } }

def execLimiterRelease (s : State) : Host.Outcome State Fault Refusal :=
  .next { s with power := { s.power with limiter := false } }

/-- A temperature reading is valid (16 R376). -/
def validCelsius (t : Int) : Bool := -40 ≤ t && t ≤ 150

def Sensor.take (q : Sensor) (t : Int) : Sensor :=
  ⟨(validCelsius t :: q.recent).take 5, if validCelsius t then (t :: q.valid).take 5 else q.valid⟩

/-- One sensor takes its reading: the invalid one counts, a sensor that fails says so (16 R376). -/
def State.readSensor (s : State) (i : Fin 16) (t : Int) : State :=
  let old := s.power.sensors[i]
  let q := old.take t
  let s := { s with power := { s.power with sensors := s.power.sensors.set i q } }
  let s := if validCelsius t then s else objBump s none 0x2030 7
  let flags := objGet s none 0x2030 6
  let s := objSet s none 0x2030 6 (if q.failed then flags ||| 2 ^ i.val else flags - flags / 2 ^ i.val % 2 * 2 ^ i.val)
  if q.failed && !old.failed then postEvent s 0x21 none none i.val else s

/-- Warn: at every third edge the cores of a warm sensor lower their thermal ceiling, those of a cool one raise it (16 R377). -/
def State.warnSensor (s : State) (i : Fin 16) : State :=
  let q := s.power.sensors[i]
  if q.failed || q.valid == [] then s
  else
    let t := q.filtered
    let warn := s.celsius 2
    (sensorCores i.val).foldl (fun (s : State) (c : CoreId) => s.modCore c fun k => k.modPower fun p =>
      { p with thermalCeiling :=
          if warn ≤ t then p.thermalCeiling - 1
          else if t ≤ warn - 5 then min 7 (p.thermalCeiling + 1) else p.thermalCeiling }) s

/-- The first sensor whose last two readings were valid and at or above trip (16 R377). -/
def State.tripping (s : State) : Option (Fin 16 × Int) :=
  (List.finRange 16).findSome? fun i =>
    let q := s.power.sensors[i]
    match q.recent, q.valid with
    | true :: true :: _, a :: b :: _ => if !q.failed && s.celsius 4 ≤ a && s.celsius 4 ≤ b then some (i, a) else none
    | _, _ => none

/-- The trip (16 R377, 23 R517): the fatal event, the device reset, THERM_TRIP, Ember. -/
def State.thermalTrip (s : State) (i : Fin 16) (t : Int) : State :=
  let s := objBump s none 0x2030 8
  let s := { s with power := { s.power with tripped := true }, pins := { s.pins with thermTripN := false } }
  (postEvent s 0x42 none none (i.val + unsigned 16 t * 2 ^ 16)).setDevState 1

/-- THERMAL_SAMPLE: the sixteen sensors at a tick edge (16 R376, R377). -/
def execThermalSample (readings : List Int) (s : State) : Host.Outcome State Fault Refusal :=
  let s := (List.finRange 16).foldl (fun (s : State) (i : Fin 16) =>
    match readings[i.val]? with
    | some t => s.readSensor i t
    | none => s) s
  let s := { s with power := { s.power with edges := s.power.edges + 1 } }
  let ts := s.temperatures
  let s := match ts with
    | [] => s
    | t :: r => objSet s none 0x2030 1 (unsigned 16 (r.foldl max t))
  let s := if s.power.edges % 3 == 0 then (List.finRange 16).foldl (fun (s : State) (i : Fin 16) => s.warnSensor i) s else s
  let hot := ts.any fun t => s.celsius 3 ≤ t
  let s := if hot then s.countLimiter else s
  let s := { s with power := { s.power with thermalLimiter := hot } }
  match s.tripping with
  | some (i, t) => .next (if s.power.tripped then s else s.thermalTrip i t)
  | none => .next s

end Sys2Proof.Machine
end

