-- ==== Sys2Proof/Machine/Patrol.lean ====
section
/-!
DEFINITION. Audits of the books and the Patrol test (22 R501–R508; 15 R348–R350).
-/
namespace Sys2Proof.Machine

/-! ## Audits (22 R501–R503) -/

/-- What an audit finds: its condition is false, the invariant holds, or it is off by so much. -/
inductive Audit where
  | deferred
  | passes
  | fails (by_ : Int)
  deriving DecidableEq, Repr

def auditOf (diff : Int) : Audit := if diff == 0 then .passes else .fails diff

/-- A book instance: the book of R501 (1 banks, 2 Porter, 3 streams, 4 tokens, 5 links) and its partition, context, or port × 16 + class. -/
abbrev Book := Nat × Nat

/-- Holders and totals of R218: banks counted in states against 32 a core, then OWNED banks against windows, core by core. -/
def State.bankBalance (s : State) (n : PartId) : Int :=
  let cs := s.coresOf n
  let banks := cs.flatMap fun m => (List.finRange 32).map fun b => (m, b)
  let counted := (banks.filter fun e => s.bank e.1 e.2 != .lent).length
  let total : Int := (counted : Int) - (32 * cs.length : Nat)
  if total != 0 then total
  else cs.foldl (fun (d : Int) (c : CoreId) =>
    if d != 0 then d
    else ((banks.filter fun e => s.bank e.1 e.2 == .owned c).length : Int)
      - (((s.core c).windows.toList.filter fun w => w.isSome).length : Nat)) 0

/-- A bank instruction or a ring's claim of the partition is in flight (22 R501). -/
def State.bankTraffic (s : State) (n : PartId) : Bool :=
  (s.claims.any fun q => s.partOf q.target == some n) ||
    (s.handovers.any fun h => s.partOf h.target == some n || s.partOf h.home == some n)

/-- Traffic for a context is in the mesh. -/
def State.ctxTraffic (s : State) (key : Nat) : Bool :=
  s.traffic.any fun t => match t with
    | .msg n i _ _ _ _ _ | .credit n i _ _ _ | .close n i => (s.parts[n]).ctxBase + i == key

/-- The link has nothing under way that this die knows of (18 R410, 22 R501). -/
def Link.idle (l : Link) (cl : Fin 16) : Bool :=
  l.queue == [] && l.unacked == [] && l.resend == [] && l.asm == [] && !l.lctlDue && l.owed[cl] == 0
    && !(l.held.any fun e => e.1 == cl.val)

def partId (n : Nat) : PartId := Fin.ofNat 64 n

/-- One audit: quiescence, then the invariant (R218, R230, R259, R301, R410). -/
def State.audit (s : State) (b : Book) : Audit :=
  match b.1 with
  | 1 => if s.bankTraffic (partId b.2) then .deferred else auditOf (s.bankBalance (partId b.2))
  | 2 =>
    let n := partId b.2
    if (s.coresOf n).any fun c => (s.core c).chans.toList.any fun (ch : Channel) => ch.state.isActive then .deferred
    else
      let g (i : Nat) : Int := objGet s (some n) 0x4040 i
      auditOf (g 1 - g 3 - g 2)
  | 3 =>
    let x := tabGet .reset s.ctxs b.2
    if s.ctxTraffic b.2 || x.clearing then .deferred
    else auditOf ((x.cred.toNat : Int) + ((x.sent - x.rcvd).toNat : Nat) - (2 ^ x.depthExp : Nat))
  | 4 => auditOf (((List.finRange 64).foldl (fun a n => a + s.tokensHeld n) (s.tokensFree) : Nat) - (4096 : Int))
  | _ =>
    let cl := Fin.ofNat 16 b.2
    let l := s.link (Fin.ofNat 6 (b.2 / 16))
    if !l.idle cl then .deferred else auditOf ((l.credits[cl] : Nat) - (vcBuffer (cl.val / 2) : Int))

/-- The instances of the books, in the order of R501 and R502. -/
def State.books (s : State) : List Book :=
  let ps := (List.finRange 64).filter fun n => s.partState n == 2
  let open_ := s.ctxs.filter fun e => e.2.state == 1 && !(e.2.remote && e.2.side)
  let up := (List.finRange 6).filter fun p => s.portState p == 3
  (ps.map fun n => (1, n.val)) ++ (ps.map fun n => (2, n.val)) ++ (open_.map fun e => (3, e.1)) ++ [(4, 0)]
    ++ up.flatMap fun p => (List.range 12).map fun c => (5, p.val * 16 + c)

/-- The partition an audit's event names. -/
def State.bookPart (s : State) (b : Book) : Option PartId :=
  if b.1 == 1 || b.1 == 2 then some (partId b.2)
  else if b.1 == 3 then some (partId (tabGet .reset s.ctxs b.2).part) else none

def bookKey (b : Book) : Nat := b.1 * 2 ^ 17 + b.2

/-- The tick from which an instance counts as not audited, none where it is new. -/
def State.lastAudit (s : State) (b : Book) : Option Nat := (s.patrol.audits.find? fun e => e.1 == bookKey b).map (·.2)

def State.setAudit (s : State) (b : Book) (tick : Nat) : State :=
  { s with patrol := { s.patrol with audits := (bookKey b, tick) :: s.patrol.audits.filter fun e => e.1 != bookKey b } }

/-- A deferred audit counts, and once an interval as overdue (22 R502). -/
def State.auditDeferred (s : State) (b : Book) : State :=
  let s := objBump s none 0xB010 7
  let every := objGet s none 0xB000 7
  match s.lastAudit b with
  | none => s.setAudit b s.tick
  | some t => if t + every ≤ s.tick then (objBump s none 0xB010 8).setAudit b (t + every) else s

/-- The audits of a slice; one that fails is fatal and ends them (22 R502, R503). True where none failed. -/
def State.auditAll (s : State) : List Book → Bool × State
  | [] => (true, s)
  | b :: bs =>
    match s.audit b with
    | .deferred => (s.auditDeferred b).auditAll bs
    | .passes => ((objBump s none 0xB010 6).setAudit b s.tick).auditAll bs
    | .fails d =>
      let number := objGet s none 0xB010 6 + 1
      (false, postEvent s (0x42 + b.1) (s.bookPart b) none (b.2 % 2 ^ 16 + unsigned 32 d * 2 ^ 16 + number % 2 ^ 16 * 2 ^ 48))

/-! ## Slices (22 R504–R507) -/

/-- The core clock of an operating point in MHz (16 R359). -/
def clockMhz (op : Nat) : Nat := [200, 400, 600, 800, 1000, 1200, 1500, 1800].getD op 200

/-- The time of a bank's test in ns: 32 blocks of 64 cc (22 R504, case 22.1). -/
def State.bankTestTime (s : State) (m : CoreId) : Nat := 2048000 / clockMhz (s.core m).power.op

/-- A bank Patrol may take: FREE or LENT for obj B000.03 ticks, in a powered unit (22 R504). -/
def State.bankTestable (s : State) (m : CoreId) (b : BankIx) : Bool :=
  let powered := (s.core m).power.state == 0 && !bitOf (s.core m).power.gated (b.val / 4)
  powered && objGet s none 0xB000 3 ≤ s.idleTicks (bankKey m b) && match s.bank m b with
    | .free => (match s.partOf m with | some n => s.partState n == 2 | none => false)
    | .lent => (s.partOf m).isNone
    | _ => false

/-- A core Patrol may take: in the free pool and GATED for obj B000.02 ticks (22 R504). -/
def State.coreTestable (s : State) (c : CoreId) : Bool :=
  (s.partOf c).isNone && (s.core c).power.state == 3 && objGet s none 0xB000 2 ≤ s.idleTicks (2048 + c.val)

/-- The units a slice tests from a position of the sweep on, while its 200 µs last: banks, cores, the position after them. A core's
self-test takes a slice of its own (22 R505, R506). -/
def State.sliceUnits (s : State) (lent : CoreId → Bool) : Nat → Nat → Nat → List (CoreId × BankIx × Bool) → List (CoreId × BankIx × Bool) × List CoreId × Nat
  | 0, pos, _, banks => (banks, [], pos)
  | f + 1, pos, left, banks =>
    if pos < 2048 then
      let m : CoreId := Fin.ofNat 64 (pos / 32)
      let b : BankIx := Fin.ofNat 32 pos
      if !(s.bankTestable m b && lent m) then s.sliceUnits lent f (pos + 1) left banks
      else if left < s.bankTestTime m then (banks, [], pos)
      else s.sliceUnits lent f (pos + 1) (left - s.bankTestTime m) (banks ++ [(m, b, s.bank m b == .lent)])
    else
      let c : CoreId := Fin.ofNat 64 (pos - 2048)
      if pos < 2112 && !(s.coreTestable c && lent c) then s.sliceUnits lent f (pos + 1) left banks
      else if 2112 ≤ pos || banks != [] then (banks, [], pos)
      else (banks, [c], pos + 1)

/-- A sweep that has passed every unit is complete (22 R505). -/
def State.sweepDone (s : State) : State :=
  if s.patrol.nextUnit < 2112 then s
  else objBump { s with patrol := { s.patrol with nextUnit := 0, sweep := s.patrol.sweep + 1 } } none 0xB010 1

/-- Units are taken into test (22 R506): a bank reads PATROL, a core is powered at OP 2. -/
def State.takeUnits (s : State) (lent : CoreId → Bool) : State :=
  let (banks, cores, pos) := s.sliceUnits lent 2113 s.patrol.nextUnit 200000 []
  let s := banks.foldl (fun (s : State) (e : CoreId × BankIx × Bool) => s.setBank e.1 e.2.1 .patrol) s
  let s := cores.foldl (fun (s : State) (c : CoreId) => s.modCore c fun k => k.modPower fun p => { p with state := 0, op := 2 }) s
  { s with patrol := { s.patrol with running := banks != [] || cores != [], banks := banks, cores := cores, nextUnit := pos } }

/-- The home cores of the units a slice would test, as a mask (22 R506). -/
def State.sliceMask (s : State) : Nat :=
  let (banks, cores, _) := s.sliceUnits (fun _ => true) 2113 s.patrol.nextUnit 200000 []
  (banks.map (·.1) ++ cores).foldl (fun a c => a ||| 2 ^ c.val) 0

/-- PATROL_SLICE_START: the audits, then the units, or in Marionette mode the call for them. -/
def execPatrolSliceStart (s : State) : Host.Outcome State Fault Refusal :=
  if objGet s none 0xB000 1 != 1 || !s.booted || s.devState != 4 || s.patrol.running then .next s
  else
    let (sound, s) := s.auditAll s.books
    if !sound then .next s
    else
      let s := s.sweepDone
      if !s.marionette none 5 then .next (s.takeUnits fun _ => true)
      else if s.callOut none 5 || s.sliceMask == 0 then .next s
      else .next (s.postCall none 5 (leBytes 8 s.sliceMask ++ leBytes 16 0))

/-- A granted call starts the tests of the cores lent; a refused one ends it (15 R348–R350). -/
def State.patrolAnswered (s : State) (grant : Bool) (mask : Nat) : State :=
  let s := s.endCall none 5
  let s := if grant && s.devState == 4 && !s.patrol.running then s.takeUnits fun c => bitOf mask c.val else s
  if s.patrol.running then s else s.dutySwitch none 5

/-- PATROL_CALL_TIMEOUT: no slice runs (15 R348). -/
def execPatrolCallTimeout (s : State) : Host.Outcome State Fault Refusal :=
  .next (if s.callOut none 5 then (s.lateCall none 5).dutySwitch none 5 else s)

/-! ## Results (22 R506, R508) -/

/-- DETAIL of a failed unit (22 R508). -/
def unitDetail (u : UnitResult) : Nat :=
  (match u.bank with | some b => 1 + b.val * 2 ^ 16 + u.block % 256 * 2 ^ 24 | none => 2)
    + u.core.val * 2 ^ 8 + u.word.toNat * 2 ^ 32

/-- The unit is in test. -/
def State.inTest (s : State) (u : UnitResult) : Bool :=
  match u.bank with
  | some b => s.patrol.banks.any fun e => e.1 == u.core && e.2.1 == b
  | none => s.patrol.cores.contains u.core

/-- A unit has failed (22 R508). -/
def State.unitFails (s : State) (u : UnitResult) : State :=
  let s := postEvent s 0x23 none (some u.core) (unitDetail u)
  let s := objSet (objSet s none 0xB020 1 (unitDetail u % 2 ^ 32)) none 0xB020 2 s.patrol.sweep
  let s := objBump s none 0xB010 4
  match u.bank with
  | some b => objSet s none 0xB020 3 (objGet s none 0xB020 3 ||| 2 ^ (32 * u.core.val + b.val))
  | none => objSet s none 0xB020 4 (objGet s none 0xB020 4 ||| 2 ^ u.core.val)

/-- PATROL_SLICE_END: the failures found are recorded, the tested units count, are cleared and go back. -/
def execPatrolSliceEnd (found : List UnitResult) (s : State) : Host.Outcome State Fault Refusal :=
  if !s.patrol.running then .next s
  else
    let s := found.foldl (fun (s : State) (u : UnitResult) => if s.inTest u then s.unitFails u else s) s
    let q := s.patrol
    let s := objBump (objBump s none 0xB010 2 q.banks.length) none 0xB010 3 q.cores.length
    let s := q.banks.foldl (fun (s : State) (e : CoreId × BankIx × Bool) =>
      s.clearBank e.1 e.2.1 (if e.2.2 then .lent else .pool)) s
    let s := q.cores.foldl (fun (s : State) (c : CoreId) => s.freeCore c) s
    let s := { s with patrol := { s.patrol with running := false, banks := [], cores := [] } }
    .next (s.sweepDone.dutySwitch none 5)

end Sys2Proof.Machine
end

