-- ==== Sys2Proof/Machine/Start.lean ====
section
/-!
DEFINITION. Resets, starts and Bivouac (17), the power-good and reset inputs (23 R511–R517), the warden watchdog (22 R500).
-/
namespace Sys2Proof.Machine

/-! ## Boot records and failed starts (17 R382, R383) -/

def State.stage (s : State) : Nat := objGet s none 0x3000 2
def State.setStage (s : State) (v : Nat) : State := objSet s none 0x3000 2 v
def State.modBoot (s : State) (f : Boot → Boot) : State := { s with boot := f s.boot }

/-- VERSION of the image that runs, or 0. -/
def Boot.version (b : Boot) : Nat := match b.image with | some i => i.version | none => 0

/-- FLAGS of a boot record (17 R383). -/
def Boot.flags (b : Boot) (bivouac : Bool) : Nat := b2n b.cold + 2 * b2n bivouac + 4 * b2n b.forced + 8 * b.src

/-- A boot record enters obj 3020.01, the older ones move down (17 R383). -/
def State.bootRecord (s : State) (cause detail : Nat) (bivouac : Bool) : State :=
  let r := leBytes 1 (objGet s none 0x3000 1) ++ leBytes 1 s.stage ++ leBytes 1 cause ++ leBytes 1 (s.boot.flags bivouac)
    ++ leBytes 4 detail ++ leBytes 4 s.tick ++ leBytes 4 s.boot.version
  let s := [8, 7, 6, 5, 4, 3, 2].foldl (fun (s : State) (i : Nat) => objSet s none 0x3020 i (objGet s none 0x3020 (i - 1))) s
  objSet s none 0x3020 1 (leNat r)

/-- A start fails (17 R382): the record, the count, a device reset. -/
def State.startFails (s : State) (cause detail : Nat) : State :=
  (objBump (s.bootRecord cause detail false) none 0x3000 0xA).deviceReset

/-- DETAIL of the authentication causes: those at slot A, slot B and of the last Guyline image (17 R383). -/
def Boot.causes (b : Boot) : Nat := b.causeA + b.causeB * 2 ^ 8 + b.causeG * 2 ^ 16

/-! ## Resets (01 R29) -/

/-- POWER_ON_RESET: everything is cleared and the straps are sampled (01 R29; 23 R513; 14 R342, R343). -/
def execPowerOnReset (maddr : BitVec 3) (s : State) : Host.Outcome State Fault Refusal :=
  let s' := { State.reset with delivery := s.delivery, freeCount := s.freeCount, out := s.out, pending := s.pending }
  let m := maddr.toNat
  .next (objSet (objSet (objSet s' none 0x2040 3 m) none 0xD020 3 (0x30 + m)) none 0xD010 1 (1 + m))

def execDeviceReset (s : State) : Host.Outcome State Fault Refusal := .next s.deviceReset

/-- EMBER_CLOCK_FALLBACK: no edge has come since power-on reset (16 R356). -/
def execEmberClockFallback (s : State) : Host.Outcome State Fault Refusal :=
  .next (if s.stage == 1 && s.boot.cold && s.tick == 0 then objSet s none 0x2000 0xA 1 else s)

/-! ## The inputs of the Ember domain (23 R511–R517) -/

/-- PERST# holds a KV2-P in Ember (17 R380). -/
def State.inFundamentalReset (s : State) : Bool := s.delivery == .kv2p && s.pins.perst

/-- A start or an exit from Ember waits for MAIN_PG (23 R515). -/
def State.waitsForPower (s : State) : Bool :=
  s.power.exitWait || (s.boot.due && !s.pins.mainPg && !s.inFundamentalReset && !s.power.tripped)

/-- The EMBER_STATE output (23 R511). -/
def State.emberState (s : State) : Bool := s.devState == 1 && !s.waitsForPower

/-- MAIN_PG_RISE. -/
def execMainPgRise (s : State) : Host.Outcome State Fault Refusal :=
  let s := { s with pins := { s.pins with mainPg := true } }
  .next (if s.power.exitWait then s.emberWake else s)

/-- MAIN_PG_FALL: outside Ember it counts and resets the device (23 R516). -/
def execMainPgFall (s : State) : Host.Outcome State Fault Refusal :=
  if !s.pins.mainPg then .next s
  else
    let high := s.emberState
    let s := { s with pins := { s.pins with mainPg := false } }
    .next (if high then s else (objBump s none 0x2040 1).deviceReset)

/-- PERST_ASSERT: fundamental reset of a KV2-P (11 R275; 17 R380). -/
def execPerstAssert (s : State) : Host.Outcome State Fault Refusal :=
  if s.delivery != .kv2p || s.pins.perst then .next s
  else .next { s with pins := { s.pins with perst := true } }.deviceReset

/-- PERST_DEASSERT: a start is due (17 R380). -/
def execPerstDeassert (s : State) : Host.Outcome State Fault Refusal :=
  if s.delivery != .kv2p || !s.pins.perst then .next s
  else .next { s with pins := { s.pins with perst := false }, boot := { s.boot with due := true } }

/-- REFCLK_LOST: while a PLL runs (16 R358). -/
def execRefclkLost (s : State) : Host.Outcome State Fault Refusal :=
  .next (if s.pins.mainPg && (s.devState == 3 || s.devState == 4) && (s.boot.running || s.booted) then postEvent s 0x41 none none 0 else s)

/-- VFUSE_PRESENCE_CHANGE (23 R519). -/
def execVfusePresenceChange (present : Bool) (s : State) : Host.Outcome State Fault Refusal :=
  .next (objSet s none 0x2040 4 (b2n present))

/-! ## Start stages (17 R379–R381, R386–R395) -/

/-- DEVICE_START: stage 2 begins once MAIN_PG is high, and the counter decides between a start and Bivouac (17 R380, R381). -/
def execDeviceStart (s : State) : Host.Outcome State Fault Refusal :=
  if !s.boot.due || !s.pins.mainPg || s.inFundamentalReset || s.power.tripped then .next s
  else
    let n := objGet s none 0x3000 1
    let s := if 3 ≤ n then s else objSet s none 0x3000 1 (n + 1)
    let s := s.modBoot fun b => { b with
      due := false, running := true, bivouac := 3 ≤ n, forced := b.forceNext && n < 3, forceNext := b.forceNext && 3 ≤ n }
    .next ((s.setStage 2).setDevState 4).writePlca

/-- A latched security bit. -/
def State.fuseBit (s : State) (w i : Nat) : Bool := bitOf (s.fuse w) i

/-- BOOTSRC (17 R385, R390). -/
def State.bootSrc (s : State) : Nat := s.fuse 3 % 4

/-- The values a fuse read leaves: its reports, the latch or the comparison, the identity and the locks (17 R385–R389, R396). -/
def State.readFuses (s : State) (f : FuseReads) : State :=
  let a := f.array
  let s := objSet s none 0x3010 1 (wordMask f.marginal)
  let s := objSet s none 0x3010 2 (wordMask fun w => (f.winner w).isNone)
  let s := objSet s none 0x3010 3 ((List.range 256).foldl (fun k w => k + ([0, 1, 2].filter fun c => f.weak w c).length) 0)
  let s := if s.boot.latched then s.compareFuses a
    else
      let usable (i : Nat) : Bool := !f.hashWeak i && !bitOf (tabGet 0 a 4) i
      (s.latchFuses a).modBoot fun b => { b with keysUsable := b2n (usable 0) + 2 * b2n (usable 1) }
  let s := s.modBoot fun b => { b with array := a }
  let s := objSet (objSet s none 0x3010 6 s.boot.keysUsable) none 0x3010 7 (s.fuse 2 + s.fuse 3 * 2 ^ 32)
  let s := objSet (objSet s none 0x3010 8 (svnFloor (s.fuse 5))) none 0x1000 6 (s.fuse 0 + s.fuse 1 * 2 ^ 32)
  objSet (objSet s none 0x3000 7 (b2n (s.fuseBit 2 0))) none 0x3000 0xB (b2n (s.fuseBit 2 1))

/-- A start enters Bivouac (17 R398). -/
def State.enterBivouac (s : State) : State :=
  let s := s.bootRecord 4 (objGet s none 0x3000 0xA % 2 ^ 32) true
  let s := objBump (objSet s none 0x3000 4 1) none 0x3000 9
  (s.modBoot fun b => { b with running := false }).setDevState 1

/-- Stage 4 waits for an image on Guyline (17 R393). -/
def State.guylineWait (s : State) : State := s.modBoot fun b => { b with waiting := true, src := 3 }

/-- Stage 4 begins with the first source of BOOTSRC, or Guyline alone where it is forced (17 R390, R399). -/
def State.beginFetch (s : State) : State :=
  let s := s.setStage 4
  if s.boot.forced || s.bootSrc == 1 then s.guylineWait else s.modBoot fun b => { b with slot := 0, src := 1 }

/-- The highest HBM3E pin rate at which every pseudo-channel passes, in Mb/s (11 R285). -/
def trainedRate (w : StageWork) : Option Nat := [9200, 8000, 6400].find? fun r => w.hbmPass.contains r

/-- Stage 6 on a KV2-P: the HBM3E rate and the ports (17 R394). -/
def State.train (s : State) (w : StageWork) (rate : Nat) : State :=
  (List.finRange 6).foldl (fun (s : State) (p : PortIx) =>
    match w.ports[p.val]? with
    | some t => s.trainPort p t
    | none => s) (objSet s none 0xC110 1 rate)

/-- START_STAGE_ADVANCE: the work of the stage in progress has ended (17 R379). -/
def execStartStageAdvance (w : StageWork) (s : State) : Host.Outcome State Fault Refusal :=
  if !s.boot.running then .next s
  else match s.stage with
    | 2 => .next (if w.fail then s.startFails 1 w.part else s.setStage 3)
    | 3 =>
      if w.fail then .next (s.startFails 0x10 w.part)
      else
        let s := s.readFuses ⟨w.fuses, w.fusesAgain⟩
        .next (if s.boot.bivouac then s.enterBivouac else s.beginFetch)
    | 5 => .next (if w.fail then s.startFails 0x30 w.part else s.setStage 6)
    | 6 =>
      if s.delivery == .kv2c then .next (s.setStage 7)
      else match trainedRate w with
        | some r => .next ((s.train w r).setStage 7)
        | none => .next (s.startFails 0x40 w.part)
    | _ => .next s

/-! ## Images (17 R390–R393) -/

/-- The image fields at their header bytes (17 R391). -/
def imgField (bs : List Byte) (o n : Nat) : Nat := leNat ((bs.drop o).take n)

/-- The cause an image is rejected with, 0 where it passes (17 R392). The signature cannot be checked where the image ends short
of 512 + LEN bytes: READ_ERR. -/
def State.imageCause (s : State) (bs : List Byte) : Nat :=
  let f := imgField bs
  let len := f 16 4
  let entry := f 20 4
  let slot := f 6 1
  if f 0 4 != 0x4632564B || f 4 2 != 1 || f 7 1 / 2 != 0 || f 24 40 != 0 || f 256 256 != 0 || entry % 4 != 0 || len ≤ entry then 0x20
  else if len < 4096 || 523776 < len || len % 64 != 0 then 0x21
  else if 1 < slot || !bitOf s.boot.keysUsable slot then 0x22
  else if leNat (sha384 ((bs.drop 64).take 96))
      != (List.range 12).foldl (fun a i => a + s.fuse (6 + 12 * slot + i) * 2 ^ (32 * i)) 0 then 0x23
  else if f 12 4 < svnFloor (s.fuse 5) || 32 < f 12 4 then 0x24
  else if bs.length < 512 + len then 0x26
  else
    let be (o : Nat) : Nat := beNat ((bs.drop o).take 48)
    if ecdsaVerify (bs.take 160 ++ (bs.drop 512).take len) (be 64) (be 112) (be 160) (be 208) then 0 else 0x25

/-- An image has passed: stage 4 ends (17 R390, R391). -/
def State.acceptImage (s : State) (bs : List Byte) : State :=
  let f := imgField bs
  let digest := leNat (sha384 (bs.take 160 ++ (bs.drop 512).take (f 16 4)))
  let s := s.modBoot fun b => { b with waiting := false, image := some ⟨f 8 4, f 12 4, f 6 1, bitOf (f 7 1) 0, digest⟩ }
  (objSet s none 0x1000 9 digest).setStage 5

/-- The flash answered nothing: 0xFF in all of header bytes 0–3, or no data (17 R390). -/
def flashSilent (bs : List Byte) : Bool := bs == [] || (bs.take 4).all fun b => b == 0xFF

/-- A flash slot's image is rejected: the next source, or the start fails with the cause of the last slot (17 R390, R392). -/
def State.slotRejected (s : State) (cause : Nat) (silent : Bool) : State :=
  let silent := s.boot.silent && silent
  if s.boot.slot == 0 then s.modBoot fun b => { b with causeA := cause, silent := silent, slot := 1, src := 2 }
  else
    let s := s.modBoot fun b => { b with causeB := cause, silent := silent }
    if s.bootSrc == 0 then s.guylineWait
    else s.startFails (if silent then 0x29 else cause) s.boot.causes

/-- FLASH_IMAGE_LOADED: stage 4 authenticates the image of the slot it reads. -/
def execFlashImageLoaded (img : FlashImage) (s : State) : Host.Outcome State Fault Refusal :=
  if !s.boot.running || s.stage != 4 || s.boot.waiting || img.slot != s.boot.slot then .next s
  else match s.imageCause img.bytes with
    | 0 => .next (s.acceptImage img.bytes)
    | k => .next (s.slotRejected k (flashSilent img.bytes))

/-- A firmware image that a block write brings: its abort, 0 for none, and the state (17 R393). -/
def State.imageWrite (s : State) (bs : List Byte) : Nat × State :=
  if !s.boot.running || s.stage != 4 || !s.boot.waiting then (0x0D, objSet s none 0x3100 2 0x27)
  else match s.imageCause bs with
    | 0 => (0, (objSet s none 0x3100 2 0).acceptImage bs)
    | k => (0x0D, (objSet s none 0x3100 2 k).modBoot fun b => { b with causeG := k })

/-- STAGE_TIMEOUT: a stage with a bound has passed it; the wait for Guyline has its own (17 R379). -/
def execStageTimeout (s : State) : Host.Outcome State Fault Refusal :=
  let bounded := 2 ≤ s.stage && s.stage ≤ 6 && !(s.stage == 4 && s.boot.waiting)
  .next (if s.boot.running && bounded then s.startFails 3 s.stage else s)

/-- IMAGE_WAIT_TIMEOUT (17 R393). -/
def execImageWaitTimeout (s : State) : Host.Outcome State Fault Refusal :=
  .next (if s.boot.running && s.stage == 4 && s.boot.waiting then s.startFails 0x28 s.boot.causes else s)

/-- A fatal event that no boot complete has told of: one EVENT notification (22 R499). -/
def State.reportFatal (s : State) : State :=
  match s.faults.fatal with
  | e :: _ =>
    if e.seq == objGet s none 0xA000 7 then s
    else objSet (s.notePost none reasonEvent 0x00A02001 e.code) none 0xA000 7 e.seq
  | [] => s

/-- BOOT_COMPLETE (17 R395). -/
def execBootComplete (s : State) : Host.Outcome State Fault Refusal :=
  if !s.boot.running || s.stage != 7 then .next s
  else
    let s := s.bootRecord 0 0 false
    let s := objSet (objSet s none 0x3000 1 0) none 0x3000 6 (s.tick % 2 ^ 32)
    let upd := match s.boot.image with | some i => i.fuseUpd | none => false
    let s := objSet s none 0x3000 8 (b2n !upd)
    let s := (objSet s none 0x1000 8 s.boot.version).setDevState 4
    let s := s.modBoot fun b => { b with running := false, expiries := [] }
    .next (s.noteChange none 0x3000 2).reportFatal

/-! ## The warden watchdog (22 R500) -/

/-- WARDEN_WATCHDOG_EXPIRY: it fails a start; after boot complete it resets the warden, and the third within 32,768 ticks is fatal. -/
def execWardenWatchdogExpiry (s : State) : Host.Outcome State Fault Refusal :=
  if s.boot.running then .next ((postEvent s 0x30 none none s.stage).startFails 2 s.stage)
  else if !s.booted then .next (postEvent s 0x30 none none s.stage).wardenReset
  else
    let late := s.boot.expiries.filter fun t => s.tick < t + 32768
    let s := s.modBoot fun b => { b with expiries := s.tick :: late }
    if 2 ≤ late.length then .next (postEvent s 0x48 none none (late.length + 1 + late.getLastD 0 % 2 ^ 32 * 2 ^ 16))
    else .next (postEvent s 0x30 none none 0).wardenReset

/-! ## Bivouac's exit and fuse updates (17 R397, R399) -/

/-- A write of obj 3000.03 that has passed the checks before check 12 (17 R399). -/
def State.bivouacWrite (s : State) (v : Nat) : Nat × State :=
  if !s.inBivouac then (0x0D, objSet s none 0x3000 0xC 1)
  else
    let s := objSet (objSet s none 0x3000 0xC 0) none 0x3000 1 0
    (0, (s.modBoot fun b => { b with forceNext := v == 2 }).deviceReset)

/-- The result code of a fuse update request, 0 where it is accepted (17 R397). Without a running image its tests do not apply. -/
def State.fuseRefusal (s : State) (v : Nat) : Nat :=
  let kind := v % 256
  let value := v / 2 ^ 32
  if (kind != 1 && kind != 2) || bits v 31 8 != 0 then 1
  else if (if kind == 1 then value ≤ svnFloor (s.fuse 5) || 32 < value || (match s.boot.image with | some i => i.isvn < value | none => false)
      else 1 < value || (match s.boot.image with | some i => i.keySlot == value | none => false)) then 2
  else if objGet s none 0x2040 4 == 0 then 3
  else 0

/-- A write of obj 3030.01 that has passed the checks before check 12: refused, or programming begins and the answer waits for its
end (17 R397). -/
def State.fuseWrite (s : State) (r : Request) (v : Nat) : State :=
  match s.fuseRefusal v with
  | 0 =>
    let s := (objSet s none 0x3030 1 v).modBoot fun b => { b with programming := some (v % 256, v / 2 ^ 32) }
    s.modWarden fun w => { w with current := some r }
  | k => objSet s none 0x3030 2 k

/-- FUSE_PROGRAMMING_DONE: the array holds the new bits where they verified; the request is answered (17 R397). -/
def execFuseProgrammingDone (verified : Bool) (s : State) : Host.Outcome State Fault Refusal :=
  match s.boot.programming with
  | none => .next s
  | some (kind, value) =>
    let w := if kind == 1 then 5 else 4
    let mask := if kind == 1 then 2 ^ value - 1 else 2 ^ value
    let s := s.modBoot fun b => { b with
      programming := none
      array := if verified then tabSet 0 b.array w (tabGet 0 b.array w ||| mask) else b.array }
    let s := objSet s none 0x3030 2 (if verified then 0 else 4)
    match s.warden.current with
    | some r => .next ((s.modWarden fun x => { x with current := none }).sendAnswer r 0 [])
    | none => .next s

end Sys2Proof.Machine
end

