-- ==== Sys2Proof/Machine/Access.lean ====
section
/-!
DEFINITION. The checks of a request and the values objects read as (13 R312–R317, R324; 14 R332; 17 R400).
-/
namespace Sys2Proof.Machine

/-! ## What a request names -/

/-- The request asks for the management view (13 R312). -/
def mgmtView (p : Pdu) : Bool := bitOf p.view 7

/-- The partition in the VIEW byte. -/
def viewPart (p : Pdu) : PartId := Fin.ofNat 64 (p.view % 64)

/-- An object of the Bivouac subset (17 R400; 13 R327, R328; 14 R346; 22 R509). -/
def inSubset (index sub : Nat) : Bool :=
  index == 0x1000 || (index == 0x1100 && sub != 2) || index == 0x1111 || index == 0x1121
    || (index == 0x2000 && (sub == 0 || sub == 2 || sub == 9 || sub == 0xA))
    || (index == 0x2030 && (sub ≤ 1 || 5 ≤ sub)) || index == 0x2040
    || index / 4096 == 3 || index / 4096 == 0xD
    || index == 0xA000 || index == 0xA011 || index == 0xA020

/-- The warden serves the Bivouac subset alone (17 R380, R384, R398; 23 R515). The request that leaves Ember stays open while the
main rails are away and after a trip (16 R366, R377; log 58). -/
def State.outsideSubset (s : State) (index sub : Nat) : Bool :=
  let down := !s.pins.mainPg
  let closed := !s.booted || s.inBivouac || s.inFundamentalReset || down
  let leave := index == 0x2000 && sub == 1 && !s.inBivouac && !s.inFundamentalReset && (s.booted || s.power.tripped)
  closed && !inSubset index sub && !leave

/-- A global object that only the management view reaches: obj 1121 (13 R313). -/
def hiddenG (index : Nat) : Bool :=
  index == 0x1121 || !((0x1000 ≤ index && index ≤ 0x3FFF) || (0x6000 ≤ index && index ≤ 0x9FFF))

/-- A P object that only the management view writes (13 R313; 12 R306). -/
def mgmtOnlyP (index sub : Nat) : Bool :=
  index == 0x4010 || index == 0xC031 || (index == 0x1100 && sub == 2) || (index == 0x8010 && sub == 0xB)
    || (index == 0x8300 && sub == 1) || (index == 0x8400 && sub == 8)

/-- The view is one that the port grants (13 R312, R314). -/
def State.viewGranted (s : State) (r : Request) : Bool :=
  !bitOf r.pdu.view 6 && (!mgmtView r.pdu || r.port != .mailbox || objGet s none 0x1100 3 == 1)

/-- The view reaches the object (13 R312–R314). -/
def State.viewReaches (s : State) (r : Request) (row : ObjRow) : Bool :=
  s.viewGranted r && (mgmtView r.pdu || row.scopeP || !hiddenG row.index)

/-- The object's function is absent on this delivery (00_scope R2). -/
def State.absent (s : State) (row : ObjRow) : Bool :=
  match row.on with
  | .both => false
  | .kv2c => s.delivery != .kv2c
  | .kv2p => s.delivery != .kv2p

/-- The scope an object is addressed in. -/
def scopeOf (p : Pdu) (row : ObjRow) : Option PartId := if row.scopeP then some (viewPart p) else none

/-- Checks 1 to 6 of R317: the abort of the first that fails, or the object's row. -/
def State.checkAccessTo (s : State) (r : Request) (write : Bool) : Nat × ObjRow :=
  let p := r.pdu
  let none_ : ObjRow := ⟨p.index, p.sub, .uint, .ro, false, 0, 0, 0, 0, .both⟩
  if rowsAt p.index == [] then (1, none_)
  else match objRow p.index p.sub with
    | none => (2, none_)
    | some row =>
      if s.outsideSubset p.index p.sub then (0xE, row)
      else if !s.viewReaches r row then (4, row)
      else if write then
        if s.absent row then (3, row)
        else if row.access == .ro || row.access == .rc || (!mgmtView p && (!row.scopeP || mgmtOnlyP p.index p.sub)) then (5, row)
        else (0, row)
      else if row.access == .wo && !s.absent row then (6, row)
      else (0, row)

/-- The lock an RWL object names reads 1 (13 R324; 17 R401). -/
def State.locked (s : State) (q : Option PartId) (row : ObjRow) : Bool :=
  if row.access != .rwl then false
  else match row.index, row.sub with
    | 0x1100, 2 => objGet s q 0x1100 2 == 1
    | 0x3000, 7 => objGet s none 0x3000 7 == 1
    | 0x3000, 8 => objGet s none 0x3000 8 == 1
    | 0x3000, 0xB => objGet s none 0x3000 0xB == 1
    | 0x3030, 1 => objGet s none 0x3000 8 == 1
    | _, _ => if row.scopeP then objGet s q 0x1100 2 == 1 else objGet s none 0x1100 1 == 1

/-- Checks 7 and 8 of R317. -/
def State.checkWritable (s : State) (q : Option PartId) (row : ObjRow) : Nat :=
  if s.locked q row then 0xA
  else match q with
    | none => 0
    | some n =>
      match s.partState n with
      | 0 => if row.index == 0xC031 then 0 else 0xB
      | 2 => 0
      | _ => if row.index == 0xC031 || row.index == 0x1120 then 0 else 0xC

/-! ## What objects read as -/

/-- The bytes of a value as its object's type has them (13 R309). -/
def objBytes (row : ObjRow) (v : Nat) : List Byte := if row.len == 0 then natBlob v else leBytes row.len v

/-- The 16 bytes of a stream context (10 R248). -/
def Ctx.bytes (x : Ctx) : List Byte :=
  leBytes 1 (x.state % 16 + 16 * b2n x.remote + 32 * b2n x.side) ++ leBytes 1 x.part ++ leBytes 1 x.score ++ leBytes 1 x.rcore
    ++ leBytes 2 (if x.remote && !x.side then x.far else x.ring) ++ leBytes 1 (x.slotExp + 16 * x.depthExp) ++ leBytes 1 x.cause
    ++ leBytes 2 x.sent.toNat ++ leBytes 2 x.rcvd.toNat ++ leBytes 2 (if x.remote && x.side then x.far else x.cred.toNat)
    ++ leBytes 1 x.esent ++ leBytes 1 x.ercvd

/-- Entry i of a log, newest first, or zeros. -/
def logBytes (l : List EventRec) (i : Nat) : List Byte := match l[i]? with | some e => e.bytes | none => leBytes 24 0

/-- The banks of a partition's cores that read FREE (08 R201; 06 R152). -/
def State.freeBanks (s : State) (n : PartId) : Nat :=
  ((s.coresOf n).flatMap fun m => (List.finRange 32).filter fun b => match s.bank m b with
    | .free | .scoutHeld _ => true
    | _ => false).length

/-- The contexts of a partition that are not FREE (10 R263). -/
def State.usedCtxs (s : State) (n : PartId) : Nat :=
  let base := (s.parts[n]).ctxBase
  let quota := objGet s (some n) 0x4050 1
  (s.ctxs.filter fun e => base ≤ e.1 && e.1 < base + quota && e.2.state != 0).length

/-- The context window of a partition (10 R263). -/
def State.ctxWindow (s : State) (n : PartId) : List Byte :=
  let i := objGet s (some n) 0x4051 0
  if i < objGet s (some n) 0x4050 1 then (tabGet Ctx.reset s.ctxs ((s.parts[n]).ctxBase + i)).bytes else leBytes 16 0

/-- The values that stand elsewhere in the machine than in the store: global objects. -/
def State.shownG (s : State) (index sub : Nat) : Option (List Byte) :=
  match index, sub with
  | 0x1000, 4 => some (leBytes 1 (if s.delivery == .kv2p then 1 else 0))
  | 0x1121, 2 => some (leBytes 1 s.notes.items.length)
  | 0x2000, 9 => some (leBytes 8 s.tick)
  | 0x2020, 2 => some (s.cores.toList.flatMap fun (k : Core) => leBytes 1 k.levelByte)
  | 0x2030, 5 => some (s.power.sensors.toList.flatMap fun (q : Sensor) => leBytes 2 (if q.valid == [] then 0 else unsigned 16 q.filtered))
  | 0x4000, 6 => some (leBytes 1 s.gptr)
  | 0x7000, 8 => some (s.fabric.lostSeats.flatMap fun x => leBytes 2 x)
  | 0x7020, 2 => some (s.fabric.remap.flatMap fun (e : Nat × Nat) => leBytes 2 e.1 ++ leBytes 2 e.2)
  | 0xA011, i + 1 => some (logBytes s.faults.device i)
  | 0xA020, i + 1 => some (logBytes s.faults.fatal i)
  | _, _ => none

/-- The same for the objects of a formed partition. -/
def State.shownP (s : State) (n : PartId) (index sub : Nat) : Option (List Byte) :=
  match index, sub with
  | 0x1120, 2 => some (leBytes 1 (s.parts[n]).notes.items.length)
  | 0x4030, 7 => some (leBytes 2 (s.freeBanks n))
  | 0x4050, 2 => some (leBytes 4 (s.usedCtxs n))
  | 0x4051, 1 => some (s.ctxWindow n)
  | 0x8200, 1 => some (leBytes 2 (match s.buddyRank n with | some b => b | none => 0xFFFF))
  | 0xA100, i + 1 => some (logBytes (s.parts[n]).log i)
  | _, _ => none

/-- A read of the next notification removes and returns it (13 R326). -/
def State.readNote (s : State) (q : Option PartId) : List Byte × State :=
  let (x, s) := s.noteTake q
  ((match x with | some x => x.bytes | none => leBytes 16 0), s)

/-- A read of a stored value; an RC object is at its default afterwards (13 R310). -/
def State.readStored (s : State) (q : Option PartId) (row : ObjRow) : List Byte × State :=
  let v := objBytes row (objGet s q row.index row.sub)
  (v, if row.access == .rc then objSet s q row.index row.sub row.dflt else s)

/-- The value a read returns and what the read does to the object (13 R310, R315, R317). -/
def State.readObject (s : State) (q : Option PartId) (row : ObjRow) : List Byte × State :=
  if s.absent row then (leBytes row.len 0, s)
  else match q with
    | none =>
      if row.index == 0x1121 && row.sub == 1 then s.readNote none
      else match s.shownG row.index row.sub with
        | some bs => (bs, s)
        | none => s.readStored none row
    | some n =>
      if !s.partExists n && row.index != 0xC031 then (objBytes row (objDefault row.index row.sub), s)
      else if row.index == 0x1120 && row.sub == 1 then s.readNote (some n)
      else if row.index == 0x7100 && row.sub == 5 then
        let (k, s) := s.drawFree
        (leBytes 4 (Config.voteBound k).toNat, s)
      else match s.shownP n row.index row.sub with
        | some bs => (bs, s)
        | none => s.readStored (some n) row

/-! ## What a write may bring (13 R309, R317 checks 9 to 11) -/

/-- The data length fits the type (13 R309; 14 R337; 17 R401; 20 R473). -/
def lengthOk (row : ObjRow) (len : Nat) : Bool :=
  if row.len != 0 then len == row.len
  else if row.index == 0x3100 then 4608 ≤ len && len ≤ 524288
  else if row.index == 0x8200 then 1 ≤ len && len ≤ 1536
  else 1 ≤ len

/-- The range column of the object's row. -/
def inRange (row : ObjRow) (v : Nat) : Bool :=
  let x : Int := if row.type == .sint then signed (8 * row.len) v else v
  (row.lo == 0 && row.hi == 0) || (row.lo ≤ x && x ≤ row.hi)

/-- A Porter address in HOST or HBM space (09 R220, R221). -/
def hostOrHbm (a : Nat) : Bool := (spaceOf a == 1 && offsetOf a < 2 ^ 52) || (spaceOf a == 2 && offsetOf a < 2 ^ 35)

/-- An aperture value with no reserved bit, its size in whole pages, its end inside the host bus (11 R269, R290). -/
def apertureOk (v : Nat) : Bool :=
  let lo := v % 2 ^ 64
  let size := v / 2 ^ 64
  bits lo 11 2 == 0 && bits lo 63 52 == 0 && size % 4096 == 0 && bits lo 51 12 * 4096 + size ≤ 2 ^ 52

/-- Both rings of a formed partition lie inside its apertures (12 R291). -/
def State.ringsCovered (s : State) (n : PartId) : Bool :=
  let g (sub : Nat) : Nat := objGet s (some n) 0x4010 sub
  !s.partExists n || (s.inAperture n (g 0xA) (64 * g 0xB) false && s.inAperture n (g 0xC) (32 * g 0xD) true)

/-- An answer of a host fits the outstanding call (15 R349, R350). -/
def State.answerFits (s : State) (q : Option PartId) (k : Nat) (bs : List Byte) : Bool :=
  let f (o l : Nat) : Nat := leNat ((bs.drop o).take l)
  let call := s.callRecord q k
  let a := f 4 1
  s.callOut q k && f 0 4 == leNat (call.take 4) && f 5 3 == 0 &&
    (match k with
     | 2 => a ≤ 1 && f 8 24 == 0
     | 3 => a == 1 && f 8 24 == 0
     | 4 => ((a == 0 || a == 2) && f 8 24 == 0)
        || (a == 1 && f 10 22 == 0 && (match s.remapping with
            | some n => (s.spares n).contains (f 8 2) && !((s.parts[n]).camp.decided.any fun (e : Nat × Nat) => e.2 == f 8 2)
            | none => false))
     | 5 => (a == 0 && f 8 24 == 0) || (a == 1 && f 16 16 == 0 && f 8 8 &&& leNat ((call.drop 8).take 8) == f 8 8)
     | _ => a == 0 && f 16 1 ≤ 7 && f 17 15 == 0)

/-- The duty whose objects an index holds, 0 for none. -/
def dutyOf (index : Nat) : Nat := if 0x5100 ≤ index && index ≤ 0x57FF then index / 256 % 16 else 0

/-- The object's own rules for a value (checks 10 and 11). -/
def State.valueOk (s : State) (q : Option PartId) (index sub v : Nat) (bs : List Byte) : Bool :=
  let p (sub : Nat) : Int := signed 8 (objGet s q 0x8000 sub)
  let x := signed 8 v
  match index, sub with
  | 0x2000, 1 => v == 1 || v == 4
  | 0x2010, 1 => v == 0 || (100 ≤ v && v ≤ 400000)
  | 0x2030, 2 => signed 16 v < s.celsius 3
  | 0x2030, 3 => s.celsius 2 < signed 16 v && signed 16 v < s.celsius 4
  | 0x2030, 4 => s.celsius 3 < signed 16 v
  | 0x3000, 3 => v == 1 || v == 2
  | 0x4051, 0 => v < objGet s q 0x4050 1
  | 0x4100, 0xC => v < 2 ^ 48 && 1 ≤ v / 2 ^ 32 && v / 2 ^ 32 ≤ 4352
  | 0x4100, 0xD | 0x4100, 0xE | 0x4100, 0xF => v < 64
  | 0x7000, 1 => v < 2 ^ 13
  | 0x7000, 3 => v == 0x8000 || (v < 2 ^ 13 && bits v 12 8 ≤ 16)
  | 0x8000, 1 => match q with | some n => (s.parts[n]).canopy.any fun (e : Nat × Fin 8) => e.1 == v | none => false
  | 0x8000, 2 => v % 64 == 0
  | 0x8000, 4 => p 5 ≤ x && x ≤ p 6
  | 0x8000, 5 => x ≤ p 4 && x ≤ p 6
  | 0x8000, 6 => p 4 ≤ x && p 5 ≤ x
  | 0x8000, 8 => v < 2 ^ 63 && bits v 62 52 != 2047
  | 0x8010, 0xB => blkVerdict v ≤ 4 && blkMbuf v ≤ 1 && fieldOf v 48 16 == 0
  | 0x8100, 5 => v % 32 == 0
  | 0x8100, 6 => v == 0 || hostOrHbm v
  | 0x8100, 7 => v == 0 || (powerOfTwo v && 2 ≤ v && v ≤ 32768)
  | 0x8100, 8 => v % 4096 == 0
  | 0x8200, 2 => bs.length % 24 == 0
  | 0x8200, 3 => v % 0x200000 == 0
  | 0x8200, 4 => v % 0x400000 == 0
  | 0x8300, 1 => hostOrHbm v
  | 0x8400, 8 => v == 1
  | 0xC031, _ => match q with | some n => apertureOk v && (objSet s q 0xC031 sub v).ringsCovered n | none => false
  | _, _ =>
    if dutyOf index != 0 && index % 256 == 0 && sub == 1 then v ≤ 1
    else if dutyOf index != 0 && index % 256 == 0x10 && sub == 2 then s.answerFits q (dutyOf index) bs
    else if 0x7010 ≤ index && index ≤ 0x7015 && sub == 8 then v == 1 && s.portState (Fin.ofNat 6 (index % 16)) == 2
    else true

/-- Checks 9 to 11 of R317. -/
def State.checkValue (s : State) (q : Option PartId) (row : ObjRow) (bs : List Byte) : Nat :=
  let v := leNat bs
  if !lengthOk row bs.length then 7
  else if (row.index == 0x2010 && row.sub == 1) || inRange row v then
    if s.valueOk q row.index row.sub v bs then 0 else 8
  else 8

end Sys2Proof.Machine
end

