-- ==== Sys2Proof/Machine/Guyline.lean ====
section
/-!
DEFINITION. Guyline requests as the warden serves them (13 R317–R323, R526; 14 R331–R337, R343), and what writes of the objects
with effects of their own do.
-/
namespace Sys2Proof.Machine

/-! ## Refusals (13 R322, R323, R526) -/

/-- The partition whose counters and queue a request is booked in; none is the global set (13 R526). -/
def State.bookOfRequest (s : State) (p : Pdu) : Option PartId :=
  let n := viewPart p
  let isP : Bool := match objRow p.index p.sub with | some row => row.scopeP | none => false
  if s.partExists n && (!mgmtView p || isP) then some n else none

/-- A refusal is counted, and where it was an ignored write recorded and told of (13 R322, R323). -/
def State.bookRefusal (s : State) (p : Pdu) (abort : Nat) (value : List Byte) : State :=
  let q := s.bookOfRequest p
  let item := itemOf p.index p.sub
  let ignored (sub reason : Nat) : State :=
    (objSet (objBump s q (bookIndex q) sub) q (bookIndex q) 5 item).notePost q reason item (leNat (value.take 4))
  match abort with
  | 9 => ignored 1 reasonWritten
  | 0xA => ignored 2 reasonLocked
  | 8 => objBump s q (bookIndex q) 4
  | _ => if abort < 0x10 then objBump s q (bookIndex q) 6 else s

/-- A request is refused: booked, then answered with its abort. -/
def State.refuse (s : State) (r : Request) (abort : Nat) (value : List Byte) : State :=
  (s.bookRefusal r.pdu abort value).sendAnswer r abort []

/-! ## Writes with effects of their own -/

/-- A requested mode (15 R352): no effect, a pending switch replaced or cancelled, or one begun; REMAP and PATROL switch at
once where nothing runs. -/
def State.requestMode (s : State) (q : Option PartId) (k v : Nat) : State :=
  let ix := dutyIndex k
  let force := objGet s q ix 2
  if objGet s q ix 3 == 1 then
    let s := objSet s q ix 1 v
    if v == force then
      let s := objSet s q ix 3 0
      if k == 6 then { s with power := { s.power with edgeHeld := false } } else s
    else s
  else if v == force then s
  else
    let s := objSet (objSet s q ix 1 v) q ix 3 1
    if k == 4 && !s.remaps then s.dutySwitch q 4
    else if k == 5 && !s.patrol.running then s.dutySwitch q 5
    else match k, q with
      | 3, some n => s.modPart n fun p => { p with train := { p.train with stashOver := false } }
      | _, _ => s

/-- An accepted answer ends its call and is acted on (15 R350). -/
def State.answerActs (s : State) (q : Option PartId) (k : Nat) (bs : List Byte) : State :=
  let a := leNat ((bs.drop 4).take 1)
  let low := leNat ((bs.drop 8).take 8)
  match k, q with
  | 2, some n => (s.endCall q 2).hostSkips n (a == 1)
  | 3, some n => (s.endCall q 3).stashSealed n
  | 4, _ =>
    let s := s.endCall q 4
    match s.remapping with
    | some n =>
      let proposed := match (s.parts[n]).camp.proposals with | (_, x) :: _ => x | [] => 0
      if a == 2 then s.remapDeferred n else s.seatChosen n (if a == 1 then leNat ((bs.drop 8).take 2) else proposed)
    | none => s.callDecidesNothing
  | 5, _ => s.patrolAnswered (a == 1) low
  | _, _ => s.powerAnswered low (leNat ((bs.drop 16).take 1))

/-- An accepted seat (18 R413): the logical coordinate is the seat, but for a spare or no seat; without a seat every port is
DOWN with cause WIRING. -/
def State.seatWritten (s : State) (v : Nat) : State :=
  let old := s.mySeat
  let s := objSet s none 0x7000 3 v
  let s := if v == old then s else objSet s none 0x7000 2 (if v == 0x8000 || bits v 12 8 == 16 then 0x8000 else v)
  if v != 0x8000 then s
  else (List.finRange 6).foldl (fun (s : State) (p : PortIx) =>
    if s.portState p == 0 then objSet s none (portIndex p) 9 5 else s.linkDown p 5) s

/-- A step record read in full for a restore: its bytes, or those of its header alone, or none (20 R457). -/
def State.readRecord (s : State) (n : PartId) (a : Nat) (hostBytes : List Byte) : Option (List Byte × Bool) :=
  let get (len : Nat) : Option (List Byte) :=
    if !s.reaches n a len false then none
    else if spaceOf a == 1 then (if len ≤ hostBytes.length then some (hostBytes.take len) else none)
    else some (s.hbmRead n (offsetOf a) len)
  (get 256).map fun h =>
    match get (256 + 96 * leNat ((h.drop 6).take 2)) with
    | some bs => (bs, true)
    | none => (h, false)

/-- The code that refuses a restore, 0 where it is accepted (20 R457, R471). -/
def State.restoreRefusal (s : State) (n : PartId) (rec : List Byte × Bool) : Nat :=
  let f (o l : Nat) : Nat := leNat ((rec.1.drop o).take l)
  let busy := (1 ≤ s.recoveryState n && s.recoveryState n ≤ 4)
    || (s.coresOf n).any fun c => (s.core c).mode != .halted || (s.core c).chans.toList.any fun (ch : Channel) => ch.state.isActive
  if f 0 4 != 0x5232564B || f 4 2 != 1 || f 22 1 == 0 || (rec.2 && crc32 (rec.1.take 252 ++ rec.1.drop 256) != f 252 4) then 1
  else if f 12 4 != s.campOf n || f 144 48 != objGet s (some n) 0x8100 3 then 2
  else if f 6 2 != (s.historyList n).length || !((s.historyList n).all fun e => s.historyHeld e) then 3
  else if busy then 4
  else if !rec.2 then 5 else 0

/-- A restore from a step record (20 R457): its abort, and the state. -/
def State.restoreFrom (s : State) (n : PartId) (a : Nat) (hostBytes : List Byte) : Nat × State :=
  match s.readRecord n a hostBytes with
  | none => (0xD, objSet s (some n) 0x8300 2 5)
  | some rec =>
    match s.restoreRefusal n rec, s.restoreHistories n (rec.1.drop 256) with
    | 0, some s' =>
      let f (o l : Nat) : Nat := leNat ((rec.1.drop o).take l)
      let s' := s'.restoreBlock n (f 40 64) false
      (0, objSet (objSet (objSet s' (some n) 0x8100 1 (f 24 8)) (some n) 0x8100 2 (f 32 4)) (some n) 0x8300 2 0)
    | 0, none => (0xD, objSet s (some n) 0x8300 2 3)
    | k, _ => (0xD, objSet s (some n) 0x8300 2 k)

/-- Formation, reset and dissolution by their objects (12 R291, R292, R294). -/
def State.formationWrite (s : State) (sub : Nat) (n : PartId) : Nat × State :=
  let refused (k : Nat) : Nat × State := (0xD, objSet s none 0x4100 0x10 k)
  if sub == 0xD then
    match s.formCode n with
    | 0 => (0, s.form n)
    | k => refused k
  else if s.partState n == 0 then refused 9
  else if sub == 0xF then (0, s.dissolve n)
  else if s.partState n == 2 then (0, s.partitionReset n true)
  else (0, s)

/-- A write of 1 re-arms the first-NaN trap and clears its record (06 R161). -/
def State.armTrap (s : State) (n : PartId) (v : Nat) : State :=
  let s := objSet s (some n) 0x6020 1 v
  if v == 0 then s else [2, 3, 4, 5, 6, 7, 8].foldl (fun (s : State) (i : Nat) => objSet s (some n) 0x6020 i 0) s

/-- A step reduction of the partition is in flight (19 R430). -/
def State.stepInFlight (s : State) (n : PartId) : Bool :=
  (s.parts[n]).canopy.any fun (e : Nat × Fin 8) => (s.canopy[e.2]).reds.any fun (r : Reduction) => s.isStep n e.2 r

/-- A written step state waits for the next START admission; a gate of unresolved steps lifts (19 R441, R448). -/
def State.stepStateWritten (s : State) (n : PartId) (v : Nat) : State :=
  s.modPart n fun p => { p with train := { p.train with nextBlock := some v, unresolved := false, openDue := true } }

/-- A write that has passed checks 1 to 11 of R317: its abort, 0 for none, and the state. -/
def State.applyWrite (s : State) (r : Request) (q : Option PartId) (row : ObjRow) (bs hostBytes : List Byte) : Nat × State :=
  let v := leNat bs
  let stored := objSet s q row.index row.sub (if row.len == 0 then blobNat bs else v)
  match row.index, row.sub, q with
  | 0x2000, 1, _ => s.emberWrite v
  | 0x3000, 3, _ => s.bivouacWrite v
  | 0x3030, 1, _ => let s' := s.fuseWrite r v; (if s'.warden.current.isSome then 0 else 0xD, s')
  | 0x3100, 1, _ => s.imageWrite bs
  | 0x4100, 0xD, _ => s.formationWrite 0xD (Fin.ofNat 64 v)
  | 0x4100, 0xE, _ => s.formationWrite 0xE (Fin.ofNat 64 v)
  | 0x4100, 0xF, _ => s.formationWrite 0xF (Fin.ofNat 64 v)
  | 0x4010, 2, _ => (0, stored.recomputeShares)
  | 0x6020, 1, some n => (0, s.armTrap n v)
  | 0x7000, 3, _ => (0, s.seatWritten v)
  | 0xC031, sub, some n => (0, if s.hostActive n then s.modPart n fun p => { p with apertures := p.apertures ++ [(sub, v)] } else stored)
  | 0x8000, 1, some n => if s.stepInFlight n then (0xC, s) else (0, stored)
  | 0x8010, 0xB, some n => (0, s.stepStateWritten n v)
  | 0x8300, 1, some n => s.restoreFrom n v hostBytes
  | 0x8400, 8, some n => (0, if s.campOf n == 0 then s else s.settle n)
  | 0xB000, 1, _ => (0, if v == 0 then stored.patrolStop else stored)
  | 0xD000, 5, _ => (0, stored.pushNotify)
  | 0xD000, 6, _ => (0, stored.pushNotify)
  | 0xD010, 2, _ => (0, stored.writePlca)
  | 0xD010, 5, _ => (0, stored.pushNotify)
  | _, _, _ =>
    if dutyOf row.index != 0 && row.index % 256 == 0 && row.sub == 1 then (0, s.requestMode q (dutyOf row.index) v)
    else if dutyOf row.index != 0 && row.index % 256 == 0x10 && row.sub == 2 then (0, s.answerActs q (dutyOf row.index) bs)
    else if 0x7010 ≤ row.index && row.index ≤ 0x7015 && row.sub == 8 then (0, s.putInUse (Fin.ofNat 6 (row.index % 16)))
    else (0, stored)

/-- The addresses of the 10BASE-T1S port that change only after the answer has left (14 R342). -/
def afterAnswer (row : ObjRow) : Bool := row.index == 0xD010 && (row.sub == 1 || row.sub == 3 || row.sub == 4)

/-- Checks 7 to 12 of a write, its effect, and its answer (13 R317, R318). A refused answer to a call counts (15 R350). -/
def State.writeChecked (s : State) (r : Request) (row : ObjRow) (bs hostBytes : List Byte) : State :=
  let q := scopeOf r.pdu row
  match s.checkWritable q row with
  | 0 =>
    match s.checkValue q row bs with
    | 0 =>
      if afterAnswer row then
        let s' := objSet (s.sendAnswer r 0 []) none row.index row.sub (leNat bs)
        if row.sub == 1 then s'.writePlca else s'
      else
        let (abort, s') := s.applyWrite r q row bs hostBytes
        if s'.warden.current.isSome then s'
        else if abort == 0 then s'.sendAnswer r 0 []
        else s'.refuse r abort bs
    | abort =>
      let answer := dutyOf row.index != 0 && row.index % 256 == 0x10 && abort == 8
      (if answer then objBump s q row.index 3 else s).refuse r abort bs
  | abort => s.refuse r abort bs

/-! ## READ, WRITE, DISCOVER, ECHO (14 R331, R332, R343) -/

/-- The stated maximum of the object exceeds 1,024 bytes (14 R332). -/
def blockOnly (p : Pdu) : Bool := (p.index == 0x3100 && p.sub == 1) || (p.index == 0x8200 && p.sub == 2)

/-- A READ. -/
def State.serveRead (s : State) (r : Request) : State :=
  if blockOnly r.pdu then s.refuse r 0x13 []
  else if r.pdu.data != [] then s.refuse r 7 []
  else match s.checkAccessTo r false with
    | (0, row) =>
      let (bs, s) := s.readObject (scopeOf r.pdu row) row
      s.sendAnswer r 0 bs
    | (abort, _) => s.refuse r abort []

/-- A WRITE. -/
def State.serveWrite (s : State) (r : Request) (hostBytes : List Byte) : State :=
  if blockOnly r.pdu then s.refuse r 0x13 []
  else match s.checkAccessTo r true with
    | (0, row) => s.writeChecked r row r.pdu.data hostBytes
    | (abort, _) => s.refuse r abort r.pdu.data

/-- The 16 bytes of DISCOVER (14 R343). -/
def State.discoverBytes (s : State) : List Byte :=
  leBytes 8 (objGet s none 0x1000 6) ++ leBytes 2 s.myCoord ++ leBytes 2 s.mySeat ++ leBytes 1 (if s.delivery == .kv2p then 1 else 0)
    ++ leBytes 1 (objGet s none 0x1000 3) ++ leBytes 1 (objGet s none 0xD010 1) ++ leBytes 1 (b2n s.inBivouac)

/-! ## Blocks (14 R336, R337) -/

/-- The block of a request's port and source. -/
def State.blockOf (s : State) (r : Request) : Option Block :=
  s.warden.blocks.find? fun (b : Block) => b.port == r.port && b.source == r.source

/-- The block of a request's port and source leaves. -/
def State.dropBlock (s : State) (r : Request) : State :=
  s.modWarden fun w => { w with blocks := w.blocks.filter fun (b : Block) => !(b.port == r.port && b.source == r.source) }

def State.setBlockOf (s : State) (r : Request) (b : Block) : State :=
  (s.dropBlock r).modWarden fun w => { w with blocks := w.blocks ++ [b] }

/-- Blocks open on the die. -/
def State.openBlocks (s : State) : Nat := (s.warden.blocks.filter fun (b : Block) => !b.closed).length

/-- Block operations carry BLOB and TEXT objects alone (14 R332). -/
def blockType (row : ObjRow) : Bool := row.type == .blob || row.type == .text

/-- The block a PDU belongs to: the open one of its source and object. The abort otherwise: BLK_TMO once where it timed out,
BLK_STATE else. -/
def State.findBlock (s : State) (r : Request) (write : Bool) : Nat × Option Block :=
  match s.blockOf r with
  | some b =>
    if b.index != r.pdu.index || b.sub != r.pdu.sub || b.view != r.pdu.view || b.write != write then (0x14, none)
    else if b.closed then (0x16, none) else if !s.viewGranted r then (4, none) else (0, some b)
  | none => (0x14, none)

/-- A block PDU is refused; the mark of a block that timed out leaves with its first answer. -/
def State.refuseBlock (s : State) (r : Request) (abort : Nat) : State :=
  (if abort == 0x16 then s.dropBlock r else s).refuse r abort []

/-- BRINIT: the older block closes; a copy of the value is taken. -/
def State.serveBrinit (s : State) (r : Request) : State :=
  let s := s.dropBlock r
  let p := r.pdu
  if 4 ≤ s.openBlocks then s.refuse r 0x17 []
  else if p.data != [] then s.refuse r 7 []
  else match s.checkAccessTo r false with
    | (0, row) =>
      if !blockType row then s.refuse r 7 []
      else
        let (bs, s) := s.readObject (scopeOf p row) row
        let s := if bs == [] then s
          else s.setBlockOf r ⟨r.port, r.source, false, p.view, p.index, p.sub, bs.length, bs, (0, 0), false⟩
        s.sendAnswer r 0 (leBytes 4 bs.length)
    | (abort, _) => s.refuse r abort []

/-- BRSEG: the next segment, or the one served last again; the last segment ends the read. -/
def State.serveBrseg (s : State) (r : Request) : State :=
  let off := leNat r.pdu.data
  match s.findBlock r false with
    | (_, some b) =>
      let again := b.last.2 != 0 && off == b.last.1
      if r.pdu.data.length != 4 then s.refuse r 7 []
      else if !again && off != b.last.1 + b.last.2 then s.refuse r 0x14 []
      else
        let seg := (b.data.drop off).take 1020
        let s := if b.total ≤ off + seg.length then s.dropBlock r else s.setBlockOf r { b with last := (off, seg.length) }
        s.sendAnswer r 0 (leBytes 4 off ++ seg)
    | (abort, none) => s.refuseBlock r abort

/-- BWINIT: checks 1 to 8 and the length, before any byte moves. -/
def State.serveBwinit (s : State) (r : Request) : State :=
  let s := s.dropBlock r
  let p := r.pdu
  let total := leNat p.data
  if 4 ≤ s.openBlocks then s.refuse r 0x17 []
  else match s.checkAccessTo r true with
    | (0, row) =>
      match s.checkWritable (scopeOf p row) row with
      | 0 =>
        if p.data.length != 4 || !blockType row || !lengthOk row total then s.refuse r 7 []
        else (s.setBlockOf r ⟨r.port, r.source, true, p.view, p.index, p.sub, total, [], (0, 0), false⟩).sendAnswer r 0 []
      | abort => s.refuse r abort []
    | (abort, _) => s.refuse r abort []

/-- BWSEG: the next bytes in order, or the previous segment again. -/
def State.serveBwseg (s : State) (r : Request) : State :=
  let off := leNat (r.pdu.data.take 4)
  let seg := r.pdu.data.drop 4
  match s.findBlock r true with
    | (_, some b) =>
      let again := b.last.2 != 0 && off == b.last.1 && seg == b.data.drop off
      if seg == [] then s.refuse r 7 []
      else if again then s.sendAnswer r 0 []
      else if off != b.data.length || b.total < off + seg.length then s.refuse r 0x14 []
      else (s.setBlockOf r { b with data := b.data ++ seg, last := (off, seg.length) }).sendAnswer r 0 []
    | (abort, none) => s.refuseBlock r abort

/-- BWEND: the CRC of the whole value, checks 7 to 12, the effect; the block closes either way. -/
def State.serveBwend (s : State) (r : Request) : State :=
  match s.findBlock r true with
    | (_, some b) =>
      let s := s.dropBlock r
      if r.pdu.data.length != 4 then s.refuse r 7 []
      else if b.data.length != b.total then s.refuse r 0x14 []
      else if crc32 b.data != leNat r.pdu.data then s.refuse r 0x15 []
      else match s.checkAccessTo r true with
        | (0, row) => s.writeChecked r row b.data []
        | (abort, _) => s.refuse r abort b.data
    | (abort, none) => s.refuseBlock r abort

/-- BABORT: the block closes and nothing else changes. -/
def State.serveBabort (s : State) (r : Request) : State :=
  match s.blockOf r with
  | some b =>
    if b.index != r.pdu.index || b.sub != r.pdu.sub || b.view != r.pdu.view then s.refuse r 0x14 []
    else if b.closed then s.refuseBlock r 0x16
    else if !s.viewGranted r then s.refuse r 4 []
    else (s.dropBlock r).sendAnswer r 0 []
  | none => s.refuse r 0x14 []

/-! ## The warden serves a request (13 R318; 14 R334, R344, R345) -/

/-- The request names another die. -/
def State.elsewhere (s : State) (r : Request) : Bool :=
  r.pdu.die != 0x8000 && r.port != .relay && r.pdu.die != s.dieCoord

/-- The warden serves a request that has left its queue; `hostBytes` is host memory as a restore reads it. -/
def State.serve (s : State) (r : Request) (hostBytes : List Byte) : State :=
  let op := r.pdu.op
  if s.elsewhere r then
    if r.port == .mailbox then s.refuse r 4 []
    else if (op == 1 || op == 2) && blockOnly r.pdu then s.refuse r 0x13 []
    else if op == 1 || op == 2 || op == 0xB then s.relay r
    else (objBump s none 0xD000 8).refuse r 0x18 []
  else match op with
    | 1 => s.serveRead r
    | 2 => s.serveWrite r hostBytes
    | 3 => s.serveBrinit r
    | 4 => s.serveBrseg r
    | 5 => s.serveBwinit r
    | 6 => s.serveBwseg r
    | 7 => s.serveBwend r
    | 8 => s.serveBabort r
    | 9 => if s.viewGranted r then s.sendAnswer r 0 s.discoverBytes else s.refuse r 4 []
    | _ => if s.viewGranted r then s.sendAnswer r 0 r.pdu.data else s.refuse r 4 []

/-- The warden takes a request from its queue and serves it (13 R318); MB_CTL.REQ falls as it takes a mailbox request (14 R344; log 81). -/
def State.serveNow (s : State) (r : Request) (hostBytes : List Byte) : State :=
  (s.modWarden fun w => { w with
    queue := w.queue.erase r, lastPort := r.port, mbReq := w.mbReq && r.port != .mailbox }).serve r hostBytes

/-- A request comes in on its port: the port's own rule and its filter, then the queue (14 R339, R343, R344). -/
def State.comesIn (s : State) (r : Request) : State :=
  let drop := s.countPort r.port 3
  match r.port with
  | .mailbox =>
    if s.warden.mbReq || s.warden.mbRsp then s.modWarden fun w => { w with mbReqIgn := true }
    else if 1024 < r.pdu.len then s.countPort .mailbox 2
    else if !pduCrcOk r.pdu then drop
    else (s.modWarden fun w => { w with mbReq := true }).arrive r
  | .i3c => if !pduCrcOk r.pdu then drop else s.discardI3c.arrive r
  | .relay => if !pduCrcOk r.pdu then drop else if s.inBivouac then s.sendAnswer r 0x18 [] else s.arrive r
  | .t1s => if !pduCrcOk r.pdu then drop else s.arrive r

/-- A request command: the request is served where it is the next one; where it waits behind others it waits on; one that is not
queued comes in first (14 R334; log 59). -/
def State.request (s : State) (r : Request) (hostBytes : List Byte) : State :=
  if s.nextRequest == some r then s.serveNow r hostBytes
  else if s.warden.queue.contains r then s
  else
    let s' := s.comesIn r
    if s'.nextRequest == some r then s'.serveNow r hostBytes else s'

/-- A request whose operation and object a row names; a command with another request is none of the row's. -/
def requestOf (mine : Bool) (r : Request) (s : State) : Host.Outcome State Fault Refusal :=
  .next (if mine then s.request r [] else s)

/-- A WRITE of the object. -/
def isWrite (r : Request) (index sub : Nat) : Bool := r.pdu.op == 2 && r.pdu.index == index && r.pdu.sub == sub

/-! ## The rows -/

/-- READ. -/
def execRead (r : Request) (s : State) : Host.Outcome State Fault Refusal := requestOf (r.pdu.op == 1) r s
/-- WRITE; a restore has its own row, which brings the host's memory. -/
def execWrite (r : Request) (s : State) : Host.Outcome State Fault Refusal := requestOf (r.pdu.op == 2 && !isWrite r 0x8300 1) r s
/-- NOTIFICATION_READ (13 R326). -/
def execNotificationRead (r : Request) (s : State) : Host.Outcome State Fault Refusal :=
  requestOf (r.pdu.op == 1 && (r.pdu.index == 0x1120 || r.pdu.index == 0x1121) && r.pdu.sub == 1) r s
def execBrinit (r : Request) (s : State) : Host.Outcome State Fault Refusal := requestOf (r.pdu.op == 3) r s
def execBrseg (r : Request) (s : State) : Host.Outcome State Fault Refusal := requestOf (r.pdu.op == 4) r s
def execBwinit (r : Request) (s : State) : Host.Outcome State Fault Refusal := requestOf (r.pdu.op == 5) r s
def execBwseg (r : Request) (s : State) : Host.Outcome State Fault Refusal := requestOf (r.pdu.op == 6) r s
def execBwend (r : Request) (s : State) : Host.Outcome State Fault Refusal := requestOf (r.pdu.op == 7) r s
def execBabort (r : Request) (s : State) : Host.Outcome State Fault Refusal := requestOf (r.pdu.op == 8) r s
def execDiscover (r : Request) (s : State) : Host.Outcome State Fault Refusal := requestOf (r.pdu.op == 9) r s
def execEcho (r : Request) (s : State) : Host.Outcome State Fault Refusal := requestOf (r.pdu.op == 0xB) r s
/-- BIVOUAC_EXIT (17 R399). -/
def execBivouacExit (r : Request) (s : State) : Host.Outcome State Fault Refusal := requestOf (isWrite r 0x3000 3) r s
/-- FUSE_UPDATE_REQUEST (17 R397). -/
def execFuseUpdateRequest (r : Request) (s : State) : Host.Outcome State Fault Refusal := requestOf (isWrite r 0x3030 1) r s
/-- FORM (12 R291). -/
def execForm (r : Request) (s : State) : Host.Outcome State Fault Refusal := requestOf (isWrite r 0x4100 0xD) r s
/-- PARTITION_RESET_WRITE (12 R294). -/
def execPartitionResetWrite (r : Request) (s : State) : Host.Outcome State Fault Refusal := requestOf (isWrite r 0x4100 0xE) r s
/-- DISSOLVE (12 R292). -/
def execDissolve (r : Request) (s : State) : Host.Outcome State Fault Refusal := requestOf (isWrite r 0x4100 0xF) r s
/-- WEIGHT_WRITE (12 R298). -/
def execWeightWrite (r : Request) (s : State) : Host.Outcome State Fault Refusal := requestOf (isWrite r 0x4010 2) r s
/-- APERTURE_WRITE (11 R269; 12 R291). -/
def execApertureWrite (r : Request) (s : State) : Host.Outcome State Fault Refusal :=
  requestOf (r.pdu.op == 2 && r.pdu.index == 0xC031) r s
/-- NODE_ID_WRITE (14 R342). -/
def execNodeIdWrite (r : Request) (s : State) : Host.Outcome State Fault Refusal :=
  requestOf (isWrite r 0xD010 1 || isWrite r 0xD010 3 || isWrite r 0xD010 4) r s
/-- DUTY_MODE_REQUEST (15 R352). -/
def execDutyModeRequest (r : Request) (s : State) : Host.Outcome State Fault Refusal :=
  requestOf (r.pdu.op == 2 && dutyOf r.pdu.index != 0 && r.pdu.index % 256 == 0 && r.pdu.sub == 1) r s
/-- STEP_ANSWER (15 R350). -/
def execStepAnswer (r : Request) (s : State) : Host.Outcome State Fault Refusal := requestOf (isWrite r 0x5210 2) r s
/-- STASH_ANSWER (15 R350). -/
def execStashAnswer (r : Request) (s : State) : Host.Outcome State Fault Refusal := requestOf (isWrite r 0x5310 2) r s
/-- REMAP_ANSWER (15 R350). -/
def execRemapAnswer (r : Request) (s : State) : Host.Outcome State Fault Refusal := requestOf (isWrite r 0x5410 2) r s
/-- PATROL_ANSWER (15 R350). -/
def execPatrolAnswer (r : Request) (s : State) : Host.Outcome State Fault Refusal := requestOf (isWrite r 0x5510 2) r s
/-- POWER_ANSWER (15 R350; 16 R373). -/
def execPowerAnswer (r : Request) (s : State) : Host.Outcome State Fault Refusal := requestOf (isWrite r 0x5610 2) r s
/-- EMBER_REQUEST (16 R366). -/
def execEmberRequest (r : Request) (s : State) : Host.Outcome State Fault Refusal := requestOf (isWrite r 0x2000 1) r s
/-- POWER_CAP_WRITE (16 R372). -/
def execPowerCapWrite (r : Request) (s : State) : Host.Outcome State Fault Refusal := requestOf (isWrite r 0x2010 1) r s
/-- PUT_IN_USE (18 R404). -/
def execPutInUse (r : Request) (s : State) : Host.Outcome State Fault Refusal :=
  requestOf (r.pdu.op == 2 && 0x7010 ≤ r.pdu.index && r.pdu.index ≤ 0x7015 && r.pdu.sub == 8) r s
/-- START_RECOVERY (20 R466). -/
def execStartRecovery (r : Request) (s : State) : Host.Outcome State Fault Refusal := requestOf (isWrite r 0x8400 8) r s
/-- TRAP_ARM_WRITE (06 R161). -/
def execTrapArmWrite (r : Request) (s : State) : Host.Outcome State Fault Refusal := requestOf (isWrite r 0x6020 1) r s
/-- RESTORE_FROM_RECORD (20 R457); `hostBytes` is what host memory holds at the record's address. -/
def execRestoreFromRecord (r : Request) (hostBytes : List Byte) (s : State) : Host.Outcome State Fault Refusal :=
  .next (if isWrite r 0x8300 1 then s.request r hostBytes else s)
/-- FORMATION_COMPLETE (12 R291). -/
def execFormationComplete (n : PartId) (s : State) : Host.Outcome State Fault Refusal :=
  .next (if s.partState n == 1 && s.allClear n then s.formed n else s)

end Sys2Proof.Machine
end

