-- ==== Sys2Proof/Machine/HostLink.lean ====
section
/-!
DEFINITION. The host's link (11): PCIe functions, their configuration space and resets (R271–R276), the UCIe transaction layer
(R277–R284), and the HBM3E controller's events (R287–R289).
-/
namespace Sys2Proof.Machine

/-! ## Completions (11 R276, R280) -/

/-- Every byte of a read has come. -/
def HostRead.whole (r : HostRead) : Bool := r.data.length == r.len

/-- A read is no longer outstanding. -/
def State.endRead (s : State) (tag : Nat) : State :=
  { s with attach := { s.attach with reads := s.attach.reads.filter fun (q : HostRead) => q.tag != tag } }

/-- The channel of a core that waits for the read of a tag. -/
def State.chanOfTag (s : State) (c : CoreId) (tag : Nat) : Option ChanIx :=
  (List.finRange 16).find? fun i => ((s.core c).chans[i]).readsDue.any fun a => a.space == 1 && a.tag == tag

/-- The channel's next beats, while all their reads are whole, enter its read buffer; the count bounds them (09 R234). -/
def State.fillBuffer (s : State) (c : CoreId) (i : ChanIx) : Nat → State
  | 0 => s
  | f + 1 =>
    let ch := (s.core c).chans[i]
    let tags := (ch.asked.getD ch.buffer.length []).filter fun a => a.space == 1
    let reads := tags.filterMap fun t => s.attach.reads.find? fun (r : HostRead) => r.tag == t.tag
    if tags == [] || reads.length != tags.length || !(reads.all HostRead.whole) then s
    else (s.readArrives c i (reads.flatMap fun (r : HostRead) => r.data)).fillBuffer c i f

/-- A read has its complete answer (11 R280): a command fetch is checked, a channel's data and a STAGE's bytes move on, a SHDER has its
scale; the answer of a read that a stop overtook is dropped (09 R239). -/
def State.readWhole (s : State) (r : HostRead) : State :=
  match r.use with
  | .fetch => s.fetchDone r.part r.data
  | .shder c => s.shAnswered c (.data r.data)
  | .chan c =>
    match s.chanOfTag c r.tag with
    | some i => (s.fillBuffer c i 64).issueReads c
    | none => (s.endRead r.tag).modCore c fun k => { k with late := k.late.filter fun a => !(a.space == 1 && a.tag == r.tag) }
  | .stage =>
    let s := s.endRead r.tag
    match s.filling r.part with
    | some (c, m, b) => (s.write (bankBase m b + (r.addr - offsetOf (c.field 24 8))) r.data).stageAsk r.part 1024
    | none => s
  | .gone => s.endRead r.tag

/-- A read ends with an error: a bus error of its channel's core (09 R239); a failed command fetch is made again, a SHDER reads again, a
STAGE ends. -/
def State.readFails (s : State) (r : HostRead) (kind : Nat) : State :=
  match r.use with
  | .fetch => (s.noteReadError (some r.part) kind).fetchDone r.part []
  | .shder c => s.shAnswered c (.error kind)
  | .chan c => (s.endRead r.tag).busErrorOf c 1 kind r.addr fun a => a.space == 1 && a.tag == r.tag
  | .stage =>
    let s := s.endRead r.tag
    match s.filling r.part with
    | some (c, m, b) => s.stageFails r.part c m b kind r.addr
    | none => s
  | .gone => s.endRead r.tag

def State.readOf (s : State) (tag : Nat) : Option HostRead := s.attach.reads.find? fun (r : HostRead) => r.tag == tag

/-! ## PCIe functions (11 R271–R275) -/

/-- VF n answers while VF Enable is set and NumVFs covers it. -/
def State.functionThere (s : State) (f : PartId) : Bool :=
  f == 0 || (bitOf (s.cfgGet 0 8) 0 && f.val ≤ s.cfgGet 0 9)

/-- The registers of a function take their reset values. -/
def State.functionReset (s : State) (f : PartId) : State :=
  { s with attach := { s.attach with cfg := tabClear s.attach.cfg (f.val * 16) (f.val * 16 + 16) } }

/-- The partition reset that a function's reset runs (11 R275): a function-level reset drops the completions still owed and writes no
record, any other one writes the reset record (12 R294). -/
def State.functionPartReset (s : State) (f : PartId) (flr : Bool) : State :=
  let s := if flr then { s with attach := { s.attach with reads := s.attach.reads.filter fun (r : HostRead) => r.part != f } } else s
  if s.partState f == 2 then s.partitionReset f (!flr) else s

/-- VF Enable is cleared: the VFs and their registers are gone (11 R275). -/
def State.vfsGone (s : State) : State :=
  let s := s.cfgSet 0 8 (s.cfgGet 0 8 - s.cfgGet 0 8 % 2)
  (List.finRange 64).foldl (fun (s : State) (n : PartId) => if n == 0 then s else s.functionReset n) s

/-- Clearing VF Enable resets P1–P63 (11 R275); their reset records leave before the VFs are gone (log 55). -/
def State.vfsOff (s : State) : State :=
  ((List.finRange 64).foldl (fun (s : State) (n : PartId) => if n == 0 then s else s.functionPartReset n false) s).vfsGone

/-- FLR of PF 0: every partition, then VF Enable is cleared (11 R275). -/
def State.flrPf0 (s : State) : State :=
  (((List.finRange 64).foldl (fun (s : State) (n : PartId) => s.functionPartReset n true) s).vfsGone).functionReset 0

def State.flrVf (s : State) (n : PartId) : State := (s.functionPartReset n true).functionReset n

/-- D3hot to D0: the partition resets, its record leaves, and the function's registers reset (11 R275; log 55). -/
def State.backToD0 (s : State) (f : PartId) : State := (s.functionPartReset f false).functionReset f

/-- The endpoint answers: a KV2-P whose link is up, from stage 2 of its start on (17 R380). -/
def State.pcieUp (s : State) : Bool := s.delivery == .kv2p && s.linkUp && 2 ≤ objGet s none 0x3000 2

def execPcieFlrVf (n : PartId) (s : State) : Host.Outcome State Fault Refusal :=
  .next (if s.pcieUp && n != 0 && s.functionThere n then s.flrVf n else s)

def execPcieFlrPf0 (s : State) : Host.Outcome State Fault Refusal := .next (if s.pcieUp then s.flrPf0 else s)

def execPcieVfEnableClear (s : State) : Host.Outcome State Fault Refusal :=
  .next (if s.pcieUp && bitOf (s.cfgGet 0 8) 0 then s.vfsOff else s)

/-- D3hot to D0: the function and its partition reset (11 R275). -/
def execPcieD3hotToD0 (f : PartId) (s : State) : Host.Outcome State Fault Refusal :=
  .next (if s.pcieUp && s.functionThere f && s.cfgGet f 5 == 3 then s.backToD0 f else s)

/-- PCIE_HOT_RESET: the link goes down and the device resets (11 R275). -/
def execPcieHotReset (s : State) : Host.Outcome State Fault Refusal :=
  .next (if s.delivery == .kv2p && s.linkUp then objBump s.deviceReset none 0xC010 3 else s)

/-- The HOST address a channel is at. -/
def Channel.hostAt (ch : Channel) : Nat :=
  if spaceOf ch.regs.srcAddr == 1 && ch.regs.mode != 2 then offsetOf ch.srcRange.1 else offsetOf ch.dstRange.1

/-- Bus Master Enable is taken away: active HOST channels of the partition receive Unsupported Request (11 R272). -/
def State.masterLost (s : State) (f : PartId) : State :=
  (s.coresOf f).foldl (fun (s : State) (c : CoreId) =>
    let host (ch : Channel) : Bool := ch.state.isActive && ch.ends.any fun e => spaceOf e.1 == 1
    match (s.core c).chans.toList.find? host with
    | some ch => s.busStop c 1 1 ch.hostAt
    | none => s) s

/-- The code of a link speed in Link Status, from obj C010.01 in units of 0.1 GT/s (11 R271, R290). -/
def linkSpeedCode (v : Nat) : Nat := if v == 320 then 5 else if v == 160 then 4 else if v == 80 then 3 else if v == 50 then 2 else 1

/-- What a configuration register reads (11 R271, R273; the register layouts are those of PCIe, log 57). -/
def State.cfgRead (s : State) (f : PartId) : ConfigReg → Nat
  | .identity => if f == 0 then 0x4B324D44 else 0xFFFFFFFF
  | .classCode => 0x120000B0
  | .command => s.cfgGet f 1
  | .bar0 => if f == 0 then s.cfgGet 0 6 + 4 else 0
  | .bar1 => if f == 0 then s.cfgGet 0 7 else 0
  | .devCapabilities => 0x10008022
  | .devControl => s.cfgGet f 2 + b2n (s.attach.reads.any fun r => r.part == f) * 2 ^ 21
  | .devCapabilities2 => 0x3001F
  | .devControl2 => s.cfgGet f 3
  | .linkCapabilities => if f == 0 then 0x400885 else 0
  | .linkControl => if f == 0 then
      s.cfgGet 0 0 + linkSpeedCode (objGet s none 0xC010 1) * 2 ^ 16 + objGet s none 0xC010 2 % 64 * 2 ^ 20 else 0
  | .pmCapabilities => 0x30001
  | .ari => 0
  | .aerStatus => s.cfgGet f 12
  | .aerMask => s.cfgGet f 13
  | .aerSeverity => s.cfgGet f 14
  | .aerCorMask => s.cfgGet f 15
  | .msixControl => s.cfgGet f 4 + (if f == 0 then 3 else 1)
  | .msixTable => 0x1000
  | .msixPba => 0x1800
  | .pmCsr => s.cfgGet f 5
  | .sriovVfs => if f == 0 then 63 + 63 * 2 ^ 16 else 0
  | .sriovStride => if f == 0 then 1 + 2 ^ 16 else 0
  | .sriovVfDevice => if f == 0 then 0x4B33 * 2 ^ 16 else 0
  | .sriovPageSize => if f == 0 then 1 else 0
  | .sriovControl => if f == 0 then s.cfgGet 0 8 else 0
  | .sriovNumVfs => if f == 0 then s.cfgGet 0 9 else 0
  | .vfBar0 => if f == 0 then s.cfgGet 0 10 + 4 else 0
  | .vfBar1 => if f == 0 then s.cfgGet 0 11 else 0
  | .other _ => 0

/-- What a write of a configuration register does: Initiate FLR, the loss of bus mastering, D3hot to D0 and the clearing of VF
Enable act; every other writable bit is stored; of Max Payload Size a value above 512 bytes keeps the old one, and of ASPM only L1 is taken (11 R271,
R272, R275; log 57). -/
def State.cfgWrite (s : State) (f : PartId) (v : Nat) : ConfigReg → State
  | .command =>
    let s' := s.cfgSet f 1 (v &&& (if f == 0 then 0x146 else 4))
    if bitOf (s.cfgGet f 1) 2 && !bitOf v 2 then s'.masterLost f else s'
  | .devControl =>
    if bitOf v 15 then (if f == 0 then s.flrPf0 else s.flrVf f)
    else s.cfgSet f 2 ((if 2 < bits v 7 5 then v - bits v 7 5 * 2 ^ 5 + bits (s.cfgGet f 2) 7 5 * 2 ^ 5 else v) &&& 0x78EF)
  | .devControl2 => s.cfgSet f 3 (v &&& 0x101F)
  | .linkControl => if f == 0 then s.cfgSet 0 0 (v &&& 0xC2) else s
  | .aerStatus => s.cfgSet f 12 (clearBits (s.cfgGet f 12) (v % 2 ^ 32))
  | .aerMask => s.cfgSet f 13 (v &&& 0x57F030)
  | .aerSeverity => s.cfgSet f 14 (v &&& 0x57F030)
  | .aerCorMask => s.cfgSet f 15 (v &&& 0x71C1)
  | .msixControl => s.cfgSet f 4 (v &&& 0xC000)
  | .pmCsr =>
    if v % 4 == 0 && s.cfgGet f 5 == 3 then s.backToD0 f
    else if v % 4 == 0 || v % 4 == 3 then s.cfgSet f 5 (v % 4) else s
  | .bar0 => if f == 0 then s.cfgSet 0 6 (v / 65536 * 65536) else s
  | .bar1 => if f == 0 then s.cfgSet 0 7 v else s
  | .vfBar0 => if f == 0 then s.cfgSet 0 10 (v / 65536 * 65536) else s
  | .vfBar1 => if f == 0 then s.cfgSet 0 11 v else s
  | .sriovNumVfs => if f == 0 && v % 65536 ≤ 63 && !bitOf (s.cfgGet 0 8) 0 then s.cfgSet 0 9 (v % 65536) else s
  | .sriovControl =>
    if f != 0 then s
    else
      let s' := if bitOf (s.cfgGet 0 8) 0 && !bitOf v 0 then s.vfsOff else s
      s'.cfgSet 0 8 (v &&& 0x19)
  | .identity | .classCode | .devCapabilities | .devCapabilities2 | .linkCapabilities | .pmCapabilities | .ari | .msixTable | .msixPba | .sriovVfs | .sriovStride | .sriovVfDevice | .sriovPageSize | .other _ => s

/-- PCIE_CONFIG_REQUEST: a function that is not there answers nothing, which a read shows as all ones (11 R273, R274). -/
def execPcieConfigRequest (f : PartId) (q : ConfigRequest) (s : State) : Host.Outcome State Fault Refusal :=
  if !s.pcieUp then .next s
  else if !s.functionThere f then .next (if q.write then s else s.emit (.regValue 0xFFFFFFFF))
  else if q.write then .next (s.cfgWrite f q.value.toNat q.reg)
  else .next (s.emit (.regValue (s.cfgRead f q.reg)))

/-- A read of a partition that covers a HOST address and has no answer: one of the core itself first. -/
def State.readAt (s : State) (n : PartId) (c : CoreId) (a : Nat) : Option HostRead :=
  let mine (r : HostRead) : Bool := r.part == n && r.addr ≤ a && a < r.addr + r.len && r.use != .gone
  (s.attach.reads.find? fun r => mine r && (r.use == .chan c || r.use == .shder c)).or
    (s.attach.reads.find? fun r => mine r && (r.use == .fetch || r.use == .stage))

/-- PCIE_COMPLETION_TIMEOUT: a bus error of kind 3, unless the function has the timeout disabled (11 R271, R276). A read that a stop has
overtaken is out no longer, and its error is late (09 R239). -/
def execPcieCompletionTimeout (c : CoreId) (addr : W64) (s : State) : Host.Outcome State Fault Refusal :=
  match s.partOf c with
  | none => .next s
  | some n =>
    if s.delivery == .kv2c || bitOf (s.cfgGet n 3) 4 then .next s
    else match s.readAt n c addr.toNat with
      | some r => .next (s.readFails r 3)
      | none => .next (s.busError c 1 3 addr.toNat)

/-- PCIE_LINK_UP: width and rate are seen in obj C010.01 and .02 (11 R271, R290). -/
def execPcieLinkUp (width : BitVec 8) (rate : W16) (s : State) : Host.Outcome State Fault Refusal :=
  .next (if s.delivery == .kv2p && s.pins.mainPg && !s.pins.perst && !s.inBivouac && 2 ≤ objGet s none 0x3000 2 then
    objSet (objSet s none 0xC010 1 rate.toNat) none 0xC010 2 width.toNat else s)

/-! ## UCIe (11 R277–R284) -/

/-- The state of the UCIe link: 0 down, 1 Active, 2 L1, 3 L2 (11 R277, 16 R361). -/
def State.ucieState (s : State) : Nat :=
  if s.delivery == .kv2p || !s.linkUp then 0 else if s.devState == 1 then 3 else if s.devState == 2 then 2 else 1

/-- The UCIe link carries packets: it is up and not in L2. -/
def State.ucieUp (s : State) : Bool := s.ucieState == 1 || s.ucieState == 2

/-- A transaction-layer protocol error counts (11 R279–R281, R290). -/
def State.ucieError (s : State) : State := objBump s none 0xC010 7

/-- UCIE_LINK_UP: the initial credits are exchanged; the host's must be enough (11 R281). Fences count anew (R282). -/
def execUcieLinkUp (width : BitVec 8) (rate : W16) (cr : UcieCredits) (s : State) : Host.Outcome State Fault Refusal :=
  if s.delivery == .kv2p || !s.pins.mainPg || s.inBivouac then .next s
  else
    let enough := 16 ≤ cr.pHdr && 64 ≤ cr.pDat && 16 ≤ cr.npHdr
    let s := objSet (objSet s none 0xC010 1 rate.toNat) none 0xC010 2 width.toNat
    let s := { s with attach := { s.attach with
      txHdrReq := cr.pHdr, txDatReq := cr.pDat, txHdrNp := cr.npHdr, txDatC := cr.cDat
      owedHdrP := 0, owedDatP := 0, owedHdrNp := 0, enough := enough, fenced := false } }
    let s := s.emit (.ucieCrd 64 1024 64 0)
    .next (if enough then s.flushTx else s.ucieError)

/-- The page and offset a host packet addresses, where it passes the checks of R279. -/
def ucieTarget (h : UciePacket) : Option (PartId × Nat) :=
  if h.part != h.addr / 65536 || 63 < h.part || h.len != 4 || h.addr % 4 != 0 then none
  else some (Fin.ofNat 64 h.part, h.addr % 65536)

/-- UCIE_HOST_RD: the word of the page, or UR; the credit it used goes back (11 R279, R281). -/
def execUcieHostRd (h : UciePacket) (s : State) : Host.Outcome State Fault Refusal :=
  if !s.ucieUp then .next s
  else
    let s := s.owe 0 0 1
    match ucieTarget h with
    | none => .next (s.ucieError.transmit (.ucieCpl h.part h.addr h.tag 1 []))
    | some (n, off) => .next (s.transmit (.ucieCpl h.part h.addr h.tag 0 (leBytes 4 (s.pageRead n off))))

/-- A 32-bit write of a ring page (11 R264). -/
def State.pageWrite (s : State) (n : PartId) (off : Nat) (v : W32) : State :=
  let a : RegAccess := ⟨v, true⟩
  if off == 0 then nextOr s (execCmdDbWrite n a s)
  else if off == 8 then nextOr s (execCplDbWrite n a s)
  else if off == 0x20 then nextOr s (execPrstGo n a s)
  else if 0x1000 ≤ off && off < 0x1080 then nextOr s (execVectorControlWrite n off a s)
  else if n == 0 && off == 0x2000 then s.mbCtlWrite v.toNat
  else if n == 0 && 0x2100 ≤ off && off < 0x2510 then s.mbBufferWrite off v.toNat
  else nextOr s (execRegisterWrite n off (.write a) s)

/-- UCIE_HOST_WR: the register is written, or the packet counts as an error (11 R279). -/
def execUcieHostWr (h : UciePacket) (s : State) : Host.Outcome State Fault Refusal :=
  if !s.ucieUp then .next s
  else
    let s := s.owe 1 (payloadUnits h.len) 0
    match ucieTarget h with
    | none => .next s.ucieError
    | some (n, off) =>
      if h.payload.length != 4 then .next s.ucieError
      else .next (s.pageWrite n off (BitVec.ofNat 32 (leNat h.payload)))

/-- UCIE_CPLD: the next bytes of a read, in ascending address order, each packet ending on a 64-byte boundary or with the request;
poisoned data is a bus error of kind 4 (11 R280). -/
def execUcieCpld (h : UciePacket) (s : State) : Host.Outcome State Fault Refusal :=
  if !s.ucieUp then .next s
  else match s.readOf h.tag with
    | none => .next s.ucieError
    | some r =>
      let done := r.data.length + h.len
      if h.part != r.part.val || h.payload.length != h.len || h.len == 0 || h.addr != r.addr + r.data.length || r.len < done
          || (done != r.len && (r.addr + done) % 64 != 0) || 3 ≤ h.status then .next s.ucieError
      else if h.status != 0 then .next (s.readFails r 5)
      else if h.poison then .next (s.readFails r 4)
      else
        let r' : HostRead := { r with data := r.data ++ h.payload }
        let s := { s with attach := { s.attach with reads := s.attach.reads.map fun (q : HostRead) => if q.tag == r.tag then r' else q } }
        .next (if r'.whole then s.readWhole r' else s)

/-- UCIE_CPL: UR or CA ends the read with a bus error of kind 5 (11 R280). -/
def execUcieCpl (h : UciePacket) (s : State) : Host.Outcome State Fault Refusal :=
  if !s.ucieUp then .next s
  else match s.readOf h.tag with
    | none => .next s.ucieError
    | some r => .next (if h.part == r.part.val && (h.status == 1 || h.status == 2) then s.readFails r 5 else s.ucieError)

/-- UCIE_CRD: credits come back, the P header it took is owed, and what waited leaves (11 R281). -/
def execUcieCrd (cr : UcieCredits) (s : State) : Host.Outcome State Fault Refusal :=
  if !s.ucieUp then .next s
  else .next (({ s with attach := { s.attach with
    txHdrReq := s.attach.txHdrReq + cr.pHdr, txDatReq := s.attach.txDatReq + cr.pDat, txHdrNp := s.attach.txHdrNp + cr.npHdr
    txDatC := s.attach.txDatC + cr.cDat } }.owe 1 0 0).flushTx)

/-- UCIE_COMPLETION_TIMEOUT: kind 3 (11 R280). -/
def execUcieCompletionTimeout (tag : BitVec 10) (s : State) : Host.Outcome State Fault Refusal :=
  match s.readOf tag.toNat with
  | some r => .next (if s.ucieUp then s.readFails r 3 else s)
  | none => .next s

/-- UCIE_LINK_LOSS: a device reset (11 R284). -/
def execUcieLinkLoss (s : State) : Host.Outcome State Fault Refusal :=
  .next (if s.ucieUp then objBump s.deviceReset none 0xC010 3 else s)

/-! ## HBM3E (11 R287–R289) -/

/-- HBM_SCRUB: corrected words count, words that cannot be corrected count as uncorrectable reads; data is as it was (11 R287). -/
def execHbmScrub (found : List ScrubFind) (s : State) : Host.Outcome State Fault Refusal :=
  if s.delivery == .kv2c then .next s
  else
    let good := (found.filter fun (f : ScrubFind) => f.correctable).length
    .next (objBump (objBump s none 0xC110 2 good) none 0xC110 3 (found.length - good))

/-- HBM_UNIT_CLEAR_DONE: the unit is assigned to the partition that waits for it, or free (11 R289). -/
def execHbmUnitClearDone (unit : Nat) (s : State) : Host.Outcome State Fault Refusal :=
  match s.hbm.clearing.find? fun e => e.1 == unit with
  | none => .next s
  | some (u, next) =>
    .next { s with hbm := { s.hbm with
      owner := tabSet 0 s.hbm.owner u (match next with | some n => n.val + 1 | none => 0)
      clearing := s.hbm.clearing.filter fun e => e.1 != u } }

end Sys2Proof.Machine
end

