-- ==== Sys2Proof/Machine/Lantern.lean ====
section
/-!
DEFINITION. The Lantern: log-domain add, exponentials, logarithms, sine and cosine, GELU, roots, user tables, row
statistics, normalisation and table loads, with their checks, flush, status and retirement (04; 07 R189).
-/
namespace Sys2Proof.Machine

/-! LNT_STAT bits (04 R120). -/
def lnSeq : Nat := 2 ^ 20
def lnCntOvf : Nat := 2 ^ 19
def lnKv1Na : Nat := 2 ^ 18
def lnVarClamp : Nat := 2 ^ 17
def lnSat : Nat := 2 ^ 16
def lnDom : Nat := 2 ^ 15
def lnFlush : Nat := 2 ^ 14
def lnCfgRej : Nat := 2 ^ 13

/-- The exact internal result of one element, with the LNT_STAT and CVT_STAT bits it sets itself (04 R98). -/
structure LRes where
  val : Val
  lnt : Nat
  cvt : Nat
  deriving DecidableEq, Repr

def LRes.of (v : Val) : LRes := ⟨v, 0, 0⟩
def LRes.dom : LRes := ⟨.nan, lnDom, 0⟩

/-! ## Operands (04 R99) -/

def tail16 (w : Nat) : Bool := isTail16 w
def sign16 (w : Nat) : Bool := bitOf w 15
def isInf16 (w : Nat) : Bool := w % 32768 == 0x3FFF

/-- T[L & 0x7F] and k: the integer significand of lin(x). -/
def linSig (w : Nat) : Nat := if tail16 w then (pxL w + 16384).toNat else tabT.getD ((pxL w) % 128).toNat 0

/-- The binary exponent of that significand. -/
def linExp (w : Nat) : Int := if tail16 w then -134 else (pxL w) / 128 - 23

/-- Le (04 R99). -/
def effLog (w : Nat) : Int := if tail16 w then lint (pxL w + 16384).toNat - 17152 else pxL w

/-- n × 2^e truncated toward zero. -/
def scaleTrunc (n : Nat) (e : Int) : Nat := if 0 ≤ e then n * 2 ^ e.toNat else n / 2 ^ (-e).toNat

/-- xq(E) of a finite word (04 R99). -/
def xq (w : Nat) (e : Int) : Int :=
  if w == pxZero then 0
  else
    let a : Int := (scaleTrunc (linSig w) (linExp w + e) : Nat)
    if sign16 w then -a else a

/-- The value of a segment table at u, in units of 2^−s of its entries (04 R100). -/
def segment (entry : Nat → Int) (s u : Nat) : Int :=
  let j := u / 2 ^ s
  let f := u % 2 ^ s
  if f == 0 then entry j * (2 ^ s : Nat) else entry j * ((2 ^ s - f : Nat) : Int) + entry (j + 1) * (f : Nat)

/-- A log form ZL = z / 2^f with a sign. -/
def logVal (neg : Bool) (z : Int) (f : Nat) : Val := .fin neg (.log z f)

/-- A linear value n / d with the sign of n. -/
def ratVal (n : Int) (d : Nat) : Val := if n == 0 then .zero else .fin (n < 0) (.lin n.natAbs d 1 0)

/-! ## Functions of one or two operands -/

/-- The linear path of LADD (04 R102). -/
def laddLinear (a b : Nat) : Val :=
  let n := xq a 134 + xq b 134
  if n == 0 then .zero else .fin (n < 0) (.lin n.natAbs 1 1 (-134 * 128))

/-- The table path of LADD for normal a of larger magnitude (04 R102, R113; the KV1 tables' scale: log 119). -/
def laddTable (kv1 : Bool) (a b : Nat) : Val :=
  let d := (pxL a - pxL b).toNat
  let same := sign16 a == sign16 b
  if !same && d == 0 then .zero
  else if 1152 ≤ d then px16Val a
  else if kv1 then
    if same then logVal (sign16 a) (pxL a * 2 ^ 20 + segment Config.kv1Sb 4 d) 20
    else if d < 64 then logVal (sign16 a) (pxL a * 2 ^ 16 + Config.kv1Db d) 16
    else logVal (sign16 a) (pxL a * 2 ^ 20 + segment (fun j => Config.kv1Db (64 + j)) 4 (d - 64)) 20
  else if same then logVal (sign16 a) (pxL a * 2 ^ 19 + segment (fun j => tabSB.getD j 0) 3 d) 19
  else if d < 128 then logVal (sign16 a) (pxL a * 2 ^ 16 + tabDBF.getD (d - 1) 0) 16
  else logVal (sign16 a) (pxL a * 2 ^ 19 + segment (fun j => tabDB.getD j 0) 3 (d - 128)) 19

/-- LADD (04 R102). -/
def lnLadd (kv1 : Bool) (x y : Nat) : LRes :=
  if x == pxNan || y == pxNan || (isInf16 x && isInf16 y && x != y) then .of .nan
  else if isInf16 x then .of (px16Val x)
  else if isInf16 y then .of (px16Val y)
  else if x == pxZero then .of (px16Val y)
  else if y == pxZero then .of (px16Val x)
  else
    let (a, b) := if key16 (px16Abs x) < key16 (px16Abs y) then (y, x) else (x, y)
    if !tail16 a && -15104 < pxL a then
      .of (if tail16 b then px16Val a else laddTable kv1 a b)
    else .of (laddLinear a b)

def lnLsub (kv1 : Bool) (x y : Nat) : LRes := lnLadd kv1 x (px16Neg y)

/-- z(x) with constant C as an integer and its fraction bits (04 R103). -/
def expZ (c w : Nat) : Int × Nat :=
  if w == pxZero then (0, 0)
  else
    let e := linExp w - 16
    let n : Int := (linSig w * c * 2 ^ e.toNat : Nat)
    (if sign16 w then -n else n, (-e).toNat)

/-- EXP and EXP2 (04 R103, R109). -/
def lnExp (c : Nat) (w : Nat) : LRes :=
  if w == pxNan then .of .nan
  else if isInf16 w then .of (if sign16 w then .zero else .inf false)
  else let (z, f) := expZ c w; .of (logVal false z f)

def constCE : Nat := 12102203
def constCL : Nat := 23258160
def constCT : Nat := 174992710548

/-- EXPD (04 R104). -/
def lnExpd (x m : Nat) : LRes :=
  let big (w : Nat) : Bool := isInf16 w || (!tail16 w && w != pxZero && 20 ≤ (pxL w) / 128)
  if x == pxNan || m == pxNan then .of .nan
  else if big x || big m then .dom
  else
    let (zx, fx) := expZ constCE x
    let (zm, fm) := expZ constCE m
    let f := max fx fm
    .of (logVal false (zx * (2 ^ (f - fx) : Nat) - zm * (2 ^ (f - fm) : Nat)) f)

/-- LN and LOG2: a rational of Le (04 R105, R109). -/
def lnLog (num den : Nat) (w : Nat) : LRes :=
  if w == pxNan then .of .nan
  else if w == pxZero then .of (.inf true)
  else if sign16 w then .dom
  else if isInf16 w then .of (.inf false)
  else .of (ratVal (effLog w * num) den)

/-- S(r) of the sine table, in units of 2^−52 (04 R106). -/
def sinTable (r : Nat) : Int := segment (fun j => tabSN.getD j 0) 22 r

/-- The sine of an angle in turns of 2^−32 (04 R106). -/
def sinTurns (w : Nat) : Int :=
  let q := bits w 31 30
  let r := bits w 29 0
  let v := if q % 2 == 0 then sinTable r else sinTable (2 ^ 30 - r)
  if q < 2 then v else -v

/-- SIN and COS (04 R106, R109, R113). -/
def lnTrig (kv1 cosine : Bool) (w : Nat) : LRes :=
  let lim : Int := if kv1 then 12 else 20
  if w == pxNan then .of .nan
  else if isInf16 w then .dom
  else if w == pxZero then .of (if cosine then valOne else .zero)
  else if tail16 w || pxL w < -1536 then .of (if cosine then valOne else px16Val w)
  else if lim ≤ (pxL w) / 128 then .dom
  else
    let turns := scaleTrunc (linSig w * constCT) ((pxL w) / 128 - 31) % 2 ^ 32
    let v := sinTurns (if cosine then (turns + 2 ^ 30) % 2 ^ 32 else turns)
    .of (ratVal (if sign16 w && !cosine then -v else v) (2 ^ 52))

/-- GELU and GELUT from their table (04 R107, R113; log 119): entries, lowest x, and the shift of one step. -/
def lnGelu (entry : Nat → Int) (low : Nat) (s : Nat) (floorZero : Nat → Bool) (w : Nat) : LRes :=
  if w == pxNan then .of .nan
  else if w == pxZero then .of .zero
  else if isInf16 w then .of (if sign16 w then .zero else .inf false)
  else if !sign16 w && !tail16 w && 384 ≤ pxL w then .of (px16Val w)
  else if sign16 w && !tail16 w && floorZero w then ⟨.zero, 0, cvUfz⟩
  else
    let u := xq w 22
    if u == 0 then .of ((px16Val w).shift (-128))
    else
      let v := segment entry s (u + (low * 2 ^ 22 : Nat)).toNat
      .of (logVal (sign16 w) (pxL w * (2 ^ (16 + s) : Nat) + v) (16 + s))

/-- x ≤ −14 (04 R107). -/
def geluLow (w : Nat) : Bool := 488 ≤ pxL w

/-- x < −8 (04 R113). -/
def kv1GelutLow (w : Nat) : Bool := 384 < pxL w

/-- SQRT and RSQRT (04 R108, R109). -/
def lnRoot (recip : Bool) (w : Nat) : LRes :=
  if w == pxNan then .of .nan
  else if w == pxZero then .of (if recip then .inf false else .zero)
  else if sign16 w then .dom
  else if isInf16 w then .of (if recip then .zero else .inf false)
  else .of (logVal false (if recip then -effLog w else effLog w) 1)

/-! ## User tables (04 R110, R111) -/

/-- LTD[n], field by field (04 R110). -/
structure Ltd where
  base : Nat
  count : Nat
  step : Nat
  fb : Nat
  linear : Bool
  ix : Nat
  out : Nat
  sgn : Bool
  org : Int
  deriving DecidableEq, Repr

def Ltd.ofNat (v : Nat) : Ltd :=
  ⟨bits v 63 52, bits v 51 39, bits v 38 34, bits v 33 29, bitOf v 28, bits v 27 23, bits v 22 21, bitOf v 20, signed 20 v⟩

def Ltd.bad (d : Ltd) : Bool := 4096 < d.base + d.count || d.count < 2 || 22 < d.step || d.out == 3

/-- The position u of an operand before it is held in range; the ends stand for infinities (04 R111). -/
def Ltd.position (d : Ltd) (w : Nat) : Int :=
  let top : Int := ((d.count - 1) * 2 ^ d.step : Nat)
  if d.linear then
    if isInf16 w then (if sign16 w then 0 else top) else clampInt (-(2 ^ 40)) (2 ^ 40) (xq w d.ix) - d.org
  else if isInf16 w then top
  else if w == pxZero then 0
  else effLog w - d.org

/-- UTn (04 R111): `entry` reads the table RAM. -/
def lnUser (d : Ltd) (entry : Nat → Int) (w : Nat) : LRes :=
  if w == pxNan then .of .nan
  else
    let u := (clampInt 0 ((d.count - 1) * 2 ^ d.step : Nat) (d.position w)).toNat
    let v := segment (fun j => entry (d.base + j)) d.step u
    let f := d.fb + d.step
    let neg := d.sgn && sign16 w
    let r := if d.out == 0 then logVal neg v f
      else if d.out == 1 then
        (if w == pxZero then .zero else if isInf16 w then .inf neg else logVal neg (effLog w * (2 ^ f : Nat) + v) f)
      else if neg then valNeg (ratVal v (2 ^ f)) else ratVal v (2 ^ f)
    .of r

/-! ## Flush and the tile frame -/

/-- The magnitude lies below the value of the positive code with L = ftz (04 R101). -/
def belowFtz (a : Mag) (ftz : Int) : Bool :=
  if ftz == -16384 then false
  else if ftz < -16256 then a.floorL < -134 || (a.floorL < -127 && ((a.floorLin 134).1 : Int) < ftz + 16384)
  else a.floorT 0 < ftz

/-- The flush check (04 R101). -/
def LRes.flush (r : LRes) (ftz : Int) : LRes :=
  match r.val with
  | .fin _ a => if belowFtz a ftz then { r with val := .zero, lnt := r.lnt ||| lnFlush } else r
  | _ => r

/-- The flush threshold in force (04 R101, R113), for every function the check applies to (log 118). -/
def Core.ftz (k : Core) : Int := if k.lntKv1 then max k.lntFtz (-16256) else k.lntFtz

def lFN (w : Nat) : Nat := bits w 27 22
def lRows (w : Nat) : Nat := bits w 21 17 + 1
def lCols (w : Nat) : Nat := bits w 16 12 + 1
def lRM (w : Nat) : Nat := bits w 11 10
def lAX (w : Nat) : Nat := bits w 9 6
def lSRC (w : Nat) : Bool := bitOf w 5
def lSET (w : Nat) : Fin 2 := Fin.ofNat 2 (bits w 4 4)
def lAUX (w : Nat) : Nat := bits w 3 0

/-- The rounding of a Lantern output (04 R98, R113): in KV1 mode a function may round its own way, and RM = 1 is
absent for every function (log 118). -/
def State.lanternRounding (s : State) (c : CoreId) (w : Nat) (p : Place) (d : Desc) (own : Rounding) (r j : Nat) : Rounding :=
  if (s.core c).lntKv1 then own else s.roundingOf c (lRM w) p.stream d (p.row0 + r) (p.col0 + j)

/-- What a Lantern instruction that writes a tile launches (04 R98, R120; 05 R122). -/
def State.launchLantern (s : State) (c : CoreId) (w : Nat) (td : Operand) (p : Place) (own : Rounding) (na : Bool)
    (inCvt : Nat) (f : Nat → Nat → LRes) (readSlots : List Nat) (reads : List (Nat × Nat)) : State :=
  let k := s.core c
  let rows := lRows w
  let cols := lCols w
  let cells := (List.range rows).flatMap fun r => (List.range cols).filterMap fun j =>
    if td.desc.inside (p.row0 + r) (p.col0 + j) then some (32 * r + j, (f r j).flush k.ftz) else none
  let tab : Tab LRes := cells
  let val (r j : Nat) : Val := (tabGet (LRes.of .zero) tab (32 * r + j)).val
  let t := writeTile td.desc p.row0 p.col0 rows cols val fun r j => s.lanternRounding c w p td.desc own r j
  let lnt := cells.foldl (fun n e => n ||| e.2.lnt) (if k.lntKv1 && (na || lRM w == 1) then lnKv1Na else 0)
  let cvt := cells.foldl (fun n e => n ||| e.2.cvt) (t.cvt ||| inCvt)
  s.launch c {
    unit := .lantern, pc := k.pc, tag := k.tag, pass := none
    effects := t.stores k ++ [.cvt cvt, .lnt lnt]
      ++ (match firstPos t.nonFinite with | some q => [.lntNf q] | none => [])
      ++ t.fold (lAX w)
      ++ (match firstPos t.nans with | some q => [.nanEvent 3 0xFF q] | none => [])
    ranges := writtenRanges [td] [], slots := [], readSlots := readSlots, regs := [], sets := [], table := false, reads := reads }

/-- The field checks of a Lantern function that writes a tile from tile operands (07 R189). -/
def tileFnIllegal (okFn : Nat → Bool) (usesB usesAux : Bool) (w : Nat) : Option CoreFault :=
  require [isS (fP w), okFn (lFN w), rmOk (lRM w), axOk (lAX w), !lSRC w, bits w 4 4 == 0, fH w == 0,
    usesB || fTB w == 0, usesAux || lAUX w == 0]

/-- A Lantern function over tiles (04 R95–R109): `f` takes the words of a and b and the aux word of the row. -/
def lanternTile (x : Issue) (s : State) (okFn : Nat → Bool) (usesB usesAux : Bool) (own : Rounding) (na : Bool)
    (unit6 : Core → Nat → Option CoreFault) (table : Bool)
    (f : State → Core → Nat → Nat → Nat → Nat → LRes) : Host.Outcome State Fault Refusal :=
  issue x s 0x58 (fun _ w => tileFnIllegal okFn usesB usesAux w) fun c w s =>
    let k := s.core c
    if s.unready c (fP w :: if usesAux then [32 + lAUX w] else []) then .stall
    else
      let p := Place.of (k.regNat (fP w))
      let td := tileOperand k (fTD w) [0, 1] p.row0 p.col0 (lRows w) (lCols w) true
      let ta := tileOperand k (fTA w) [0, 1] p.row0 p.col0 (lRows w) (lCols w) false
      let tb := tileOperand k (fTB w) [0, 1] p.row0 p.col0 (lRows w) (lCols w) false
      let ops := if usesB then [td, ta, tb] else [td, ta]
      let aux := (k.areg[Fin.ofNat 16 (lAUX w)]).toNat
      let areas : List Area := if usesAux then [⟨aux, aux + 64, 1, false⟩] else []
      match s.checkOperands c ops areas p.ok with
      | .wait => .stall
      | .fault f => .fault f
      | .ok =>
        if k.blocked (allRanges ops areas) (writtenRanges ops areas) || k.unitFull .lantern
            || (table && k.inflight.any (·.table)) then .stall
        else match (scaleFault ops).or (unit6 k w) with
        | some f => .fault f
        | none =>
          let word (d : Desc) (r j : Nat) : Conv :=
            if d.inside (p.row0 + r) (p.col0 + j) then readWord s.mem k d (p.row0 + r) (p.col0 + j) else ⟨pxZero, 0⟩
          let inCvt := (List.range (lRows w)).foldl (fun n r => (List.range (lCols w)).foldl (fun n j =>
            n ||| (word ta.desc r j).st ||| (if usesB then (word tb.desc r j).st else 0)) n) 0
          .done (s.launchLantern c w td p own na inCvt (fun r j =>
            f s k w (word ta.desc r j).code (if usesB then (word tb.desc r j).code else pxZero)
              (if usesAux then scratchNat s.mem k (aux + 2 * r) 2 else pxZero)) [] (allRanges ops areas))

/-- A one-input built-in function. -/
def lanternOne (x : Issue) (s : State) (fn : Nat) (own : Rounding) (na : Bool) (f : Bool → Nat → LRes) :
    Host.Outcome State Fault Refusal :=
  lanternTile x s (· == fn) false false own na (fun _ _ => none) false fun _ k _ a _ _ => f k.lntKv1 a

def execLadd (x : Issue) (s : State) : Host.Outcome State Fault Refusal :=
  lanternTile x s (· == 0x00) true false .away false (fun _ _ => none) false fun _ k _ a b _ => lnLadd k.lntKv1 a b
def execLsub (x : Issue) (s : State) : Host.Outcome State Fault Refusal :=
  lanternTile x s (· == 0x01) true false .away false (fun _ _ => none) false fun _ k _ a b _ => lnLsub k.lntKv1 a b
def execExp (x : Issue) (s : State) : Host.Outcome State Fault Refusal := lanternOne x s 0x02 .toZero false fun _ a => lnExp constCE a
def execExp2 (x : Issue) (s : State) : Host.Outcome State Fault Refusal := lanternOne x s 0x03 .toZero false fun _ a => lnExp (2 ^ 23) a
def execExpd (x : Issue) (s : State) : Host.Outcome State Fault Refusal :=
  lanternTile x s (· == 0x04) false true .rne true (fun _ _ => none) false fun _ _ _ a _ m => lnExpd a m
def execLn (x : Issue) (s : State) : Host.Outcome State Fault Refusal := lanternOne x s 0x05 .rne false fun _ a => lnLog constCL (2 ^ 32) a
def execLog2 (x : Issue) (s : State) : Host.Outcome State Fault Refusal := lanternOne x s 0x06 .rne false fun _ a => lnLog 1 128 a
def execSin (x : Issue) (s : State) : Host.Outcome State Fault Refusal := lanternOne x s 0x07 .rne false fun kv a => lnTrig kv false a
def execCos (x : Issue) (s : State) : Host.Outcome State Fault Refusal := lanternOne x s 0x08 .rne false fun kv a => lnTrig kv true a
def execGelu (x : Issue) (s : State) : Host.Outcome State Fault Refusal :=
  lanternOne x s 0x09 .rne true fun _ a => lnGelu (fun j => tabPHI.getD j 0) 14 17 geluLow a
def execGelut (x : Issue) (s : State) : Host.Outcome State Fault Refusal :=
  lanternOne x s 0x0A .rne false fun kv a =>
    if kv then lnGelu Config.kv1Gelut 8 18 kv1GelutLow a else lnGelu (fun j => tabPHT.getD j 0) 14 17 geluLow a
def execSqrt (x : Issue) (s : State) : Host.Outcome State Fault Refusal := lanternOne x s 0x0B .tiesUp false fun _ a => lnRoot false a
def execRsqrt (x : Issue) (s : State) : Host.Outcome State Fault Refusal := lanternOne x s 0x0C .tiesUp false fun _ a => lnRoot true a

/-- The descriptor LTD[n] that FN 0x10 + n names. -/
def utDesc (k : Core) (w : Nat) : Ltd := .ofNat (k.ltd[Fin.ofNat 16 (lFN w)]).toNat

/-- Entry j of the table RAM of a core (04 R110). -/
def tableEntry (m : Memory) (c : CoreId) (j : Nat) : Int := signed 32 (memNat m (tableBase c + 4 * (j % 4096)) 4)

def execUtn (x : Issue) (s : State) : Host.Outcome State Fault Refusal :=
  lanternTile x s (fun f => 0x10 ≤ f && f < 0x20) false false .rne false
    (fun k w => if (utDesc k w).bad then some (descFault 7 0 0xF) else none) true
    fun s k w a _ _ => lnUser (utDesc k w) (tableEntry s.mem x.core) a

/-! ## Row statistics (04 R114–R119) -/

/-- An input element of a statistics instruction: its fixed-point value, its square, whether it is non-finite, whether a clamp occurred. -/
structure StatIn where
  q : Int
  sq : Nat
  bad : Bool
  sat : Bool
  sqSat : Bool
  deriving DecidableEq, Repr

/-- A Poxel16 word entering set anchors A and A2 (04 R114, R115). -/
def statWord (a a2 : Int) (w : Nat) : StatIn :=
  if !isFinite16 w then ⟨0, 0, true, false, false⟩
  else if w == pxZero then ⟨0, 0, false, false, false⟩
  else
    let q := xq w (23 - a)
    let r := clampInt (-maxV) maxV q
    let l2 := 2 * pxL w
    let sq := if tail16 w then scaleTrunc (linSig w ^ 2) (-245 - a2) else scaleTrunc (tabT.getD (l2 % 128).toNat 0) (l2 / 128 - a2)
    ⟨r, min sq (2 ^ 47 - 1), false, r != q, decide (2 ^ 47 - 1 < sq)⟩

/-- A Hearth element entering a set (04 R114, R115). -/
def statElem (a a2 : Int) (e : HElem) : StatIn :=
  if 2 ≤ e.st then ⟨0, 0, true, false, false⟩
  else
    let sq := scaleTrunc (e.v.natAbs ^ 2) (2 * a - 23 - a2)
    ⟨e.v, min sq (2 ^ 47 - 1), false, false, decide (2 ^ 47 - 1 < sq)⟩

/-- rnd(n / d, RNE) of an integer over a positive one (04 R115). -/
def rneDiv (n : Int) (d : Nat) : Int := roundHalf .rne (2 * n / (d : Int)) (2 * n % (d : Int) == 0)

def rowLimit : Nat := 65536

/-- S1 and S2 as sums of their formats; the spec states no sum that leaves them, which STATW alone can reach (04 R116, log 115). -/
def sumS1 (x : Int) : Int := if -2 ^ 63 ≤ x && x < 2 ^ 63 then x else (Config.statSum1 x).toInt
def sumS2 (x : Nat) : Nat := if x < 2 ^ 128 then x else (Config.statSum2 x).toNat

/-- An element beyond a row's limit: no sum and no count, the row's marks alone (04 R114, R115). -/
def StatRow.beyond (row : StatRow) (e : StatIn) : StatRow := { row with ovf := true, nf := row.nf || e.bad }

/-- The kinds of accumulating instruction (04 R115). -/
inductive StatKind where
  | stat1 | stat2 | statq
  deriving DecidableEq, Repr

/-- One element of an accumulating instruction into its row: the row and the LNT_STAT bits (04 R115). -/
def statStep (kind : StatKind) (mode : Nat) (row : StatRow) (e : StatIn) : StatRow × Nat :=
  let sat := if !e.bad && e.sat then lnSat else 0
  match kind with
  | .stat1 =>
    if mode != 0 || 0 < row.cnt2 then (row, lnSeq)
    else if rowLimit ≤ row.cnt1 then (row.beyond e, lnCntOvf ||| sat)
    else ({ row with s1 := sumS1 (row.s1 + e.q), cnt1 := row.cnt1 + 1, nf := row.nf || e.bad }, sat)
  | .stat2 =>
    if mode == 1 || (mode == 0 && row.cnt1 == 0 && !row.latched) then (row, lnSeq)
    else
      let row := if mode == 0 && !row.latched then { row with muq := rneDiv (row.s1 * 256) row.cnt1, latched := true } else row
      let d := e.q * 256 - (if mode == 0 then row.muq else 0)
      if rowLimit ≤ row.cnt2 then (row.beyond e, lnCntOvf ||| sat)
      else ({ row with s2 := sumS2 (row.s2 + (if e.bad then 0 else d.natAbs ^ 2)), cnt2 := row.cnt2 + 1, nf := row.nf || e.bad }, sat)
  | .statq =>
    if mode != 1 then (row, lnSeq)
    else
      let sat := sat ||| (if !e.bad && e.sqSat then lnSat else 0)
      if rowLimit ≤ row.cnt1 then (row.beyond e, lnCntOvf ||| sat)
      else ({ row with s1 := sumS1 (row.s1 + e.q), s2 := sumS2 (row.s2 + e.sq), cnt1 := row.cnt1 + 1, nf := row.nf || e.bad }, sat)

/-- The field checks of a statistics instruction that reads a tile or a slot (07 R189). -/
def statIllegal (fn : Nat) (w : Nat) : Option CoreFault :=
  require [isS (fP w), lFN w == fn, lRM w == 0, lAX w == 0, fTD w == 0, fTB w == 0, lAUX w == 0,
    if lSRC w then fTA w == 0 else fH w == 0]

/-- What reading the input of a statistics instruction finds: it waits, faults, or gives the elements by (row, column), what conversions lost, and the slot read. -/
inductive StatInput where
  | wait
  | fault (f : CoreFault)
  | ok (elem : Nat → Nat → Option StatIn) (cvt : Nat) (slots : List Nat) (reads : List (Nat × Nat))

/-- The input of a statistics instruction or NORMA (04 R114; 07 R189); `extra` are the other operands it names. -/
def State.statInput (s : State) (c : CoreId) (w : Nat) (extra : List Operand) : StatInput :=
  let k := s.core c
  let set := k.stats[lSET w]
  let p := Place.of (k.regNat (fP w))
  let ta := tileOperand k (fTA w) [0, 1] p.row0 p.col0 (lRows w) (lCols w) false
  let ops := if lSRC w then extra else extra ++ [ta]
  match s.checkOperands c ops [] p.ok with
  | .wait => .wait
  | .fault f => .fault f
  | .ok =>
    if k.blocked (allRanges ops []) (writtenRanges ops []) then .wait
    else match scaleFault ops with
    | some f => .fault f
    | none =>
      if lSRC w then
        let h := fH w
        let d := k.drainSlot h
        if k.isPairTop h then .fault (hearthFault 1 h)
        else if k.swapping h || k.slotBusy d then .wait
        else if (k.slots[Fin.ofNat 64 d]).anchor != set.a then .fault (hearthFault 2 h)
        else .ok (fun r j => some (statElem set.a set.a2 (hearthGet s.mem c d (32 * r + j)))) 0 [d] (allRanges ops [])
      else
        let word (r j : Nat) : Conv := readWord s.mem k ta.desc (p.row0 + r) (p.col0 + j)
        let inside (r j : Nat) : Bool := ta.desc.inside (p.row0 + r) (p.col0 + j)
        let cvt := (List.range (lRows w)).foldl (fun n r => (List.range (lCols w)).foldl (fun n j =>
          if inside r j then n ||| (word r j).st else n) n) 0
        .ok (fun r j => if inside r j then some (statWord set.a set.a2 (word r j).code) else none) cvt [] (allRanges ops [])

/-- A row after the elements of a tile row (04 R115). -/
def statRow (kind : StatKind) (mode : Nat) (es : List StatIn) (row : StatRow) : StatRow × Nat :=
  es.foldl (fun (r, n) e => let (r, m) := statStep kind mode r e; (r, n ||| m)) (row, 0)

/-- The set is being updated by an earlier Lantern instruction (04 R97). -/
def Core.setBusy (k : Core) (i : Fin 2) : Bool := k.inflight.any fun q => q.sets.contains i.val

def statLaunch (k : Core) (effects : List Effect) (ranges : List (Nat × Nat)) (readSlots : List Nat) (sets : List Nat) (table : Bool) (reads : List (Nat × Nat)) : InFlight :=
  { unit := .lantern, pc := k.pc, tag := k.tag, pass := none, effects := effects, ranges := ranges, slots := [],
    readSlots := readSlots, regs := [], sets := sets, table := table, reads := reads }

/-- STAT1, STAT2 and STATQ (04 R115). -/
def statAccumulate (x : Issue) (s : State) (fn : Nat) (kind : StatKind) : Host.Outcome State Fault Refusal :=
  issue x s 0x58 (fun _ w => statIllegal fn w) fun c w s =>
    let k := s.core c
    if s.unready c [fP w] || k.unitFull .lantern || k.setBusy (lSET w) then .stall
    else match s.statInput c w [] with
    | .wait => .stall
    | .fault f => .fault f
    | .ok elem cvt slots reads =>
      let set := k.stats[lSET w]
      let rows := (List.range (lRows w)).map fun r => statRow kind set.mode ((List.range (lCols w)).filterMap (elem r)) (set.rows[Fin.ofNat 32 r])
      let set' := { set with rows := Vector.ofFn fun (i : Fin 32) => match rows[i.val]? with | some r => r.1 | none => set.rows[i] }
      let lnt := rows.foldl (fun n r => n ||| r.2) 0
      .done (s.launch c (statLaunch k [.stats (lSET w) set', .lnt lnt, .cvt cvt] [] slots [(lSET w).val] false reads))

def execStat1 (x : Issue) (s : State) : Host.Outcome State Fault Refusal := statAccumulate x s 0x21 .stat1
def execStat2 (x : Issue) (s : State) : Host.Outcome State Fault Refusal := statAccumulate x s 0x22 .stat2
def execStatq (x : Issue) (s : State) : Host.Outcome State Fault Refusal := statAccumulate x s 0x23 .statq

/-- The field checks of a Lantern function that the operand table gives no tile (07 R189). -/
def plainIllegal (fn : Nat) (usesAux usesP usesSet : Bool) (w : Nat) : Option CoreFault :=
  require [lFN w == fn, bits w 51 40 == 0, fH w == 0, if usesP then isS (fP w) else fP w == 0, bits w 21 12 == 0, lRM w == 0, lAX w == 0,
    !lSRC w, usesAux || lAUX w == 0, usesSet || bits w 4 4 == 0]

/-- STATI (04 R114; 07 R189). -/
def execStati (x : Issue) (s : State) : Host.Outcome State Fault Refusal :=
  issue x s 0x58 (fun _ w => plainIllegal 0x20 false true true w) fun c w s =>
    let k := s.core c
    if s.unready c [fP w] || k.unitFull .lantern || k.setBusy (lSET w) then .stall
    else
      let p := k.regNat (fP w)
      let mode := bits p 1 0
      if mode == 3 then .done (s.launch c (statLaunch k [.lnt lnSeq] [] [] [] false []))
      else
        let set : StatSet := { StatSet.reset with mode := mode, a := signed 10 (bits p 25 16), a2 := signed 10 (bits p 41 32) }
        .done (s.launch c (statLaunch k [.stats (lSET w) set] [] [] [(lSET w).val] false []))

/-- μ, var and r of a row before rounding, with MUQ and the LNT_STAT bits (04 R117). -/
structure StatOut where
  mu : Val
  var : Val
  r : Val
  muq : Int
  lnt : Nat
  deriving DecidableEq, Repr

/-- A rational n × 2^e / d. -/
def scaledRat (n : Int) (d : Nat) (e : Int) : Val :=
  if n == 0 then .zero else .fin (n < 0) (.lin n.natAbs d 1 (128 * e))

/-- 1/√(var + ε), from an exact rational var = n × 2^e / d and the word ε (04 R117, log 25); exact where var is 0, and
just below 1/√ε where var is under 2^−400 of ε, so that it rounds as the exact value does. -/
def rsqrtSum (n d : Nat) (e : Int) (eps : Nat) : Val :=
  if n == 0 && eps != pxZero then logVal false (-(pxL eps)) 1
  else if eps != pxZero && 0 ≤ pxL eps / 128 - 400 - e && n < d * 2 ^ (pxL eps / 128 - 400 - e).toNat then
    logVal false (-(pxL eps) * 2 ^ 24 - 1) 25 else
  let (sn, se) : Int × Int := px16Scaled eps
  let m := min e se
  let num := n * 2 ^ (e - m).toNat + sn.toNat * 2 ^ (se - m).toNat * d
  if num == 0 then .inf false
  else .fin false (if 0 ≤ m then .lin d (num * 2 ^ m.toNat) 2 0 else .lin (d * 2 ^ (-m).toNat) num 2 0)

/-- One row of STATF (04 R117). A marked row is given NaN also where both counts are 0 (log 116). -/
def statfRow (set : StatSet) (eps : Nat) (row : StatRow) : StatOut :=
  let nan (b : Nat) : StatOut := ⟨.nan, .nan, .nan, row.muq, b⟩
  let n := if set.mode == 2 then row.cnt2 else row.cnt1
  if row.cnt1 == 0 && row.cnt2 == 0 && !row.ovf && !row.nf then ⟨.zero, .zero, .zero, row.muq, 0⟩
  else if set.mode == 0 && row.cnt1 != row.cnt2 then nan lnSeq
  else if row.nf || row.ovf then nan 0
  else if n == 0 then
    let v (o : Nat) : Val := px16Val (Config.statNoCount o row.s1 row.s2).toNat
    ⟨if set.mode == 2 then .zero else v 0, v 1, v 2, if set.mode == 1 then (Config.statNoMuq row.s1).toInt else row.muq, 0⟩
  else if set.mode == 1 then
    let mu := scaledRat row.s1 n (set.a - 23)
    -- var = S2 × 2^(A2−23) / N − S1² × 2^(2A−46) / N²
    let e := min (set.a2 - 23) (2 * set.a - 46)
    let v : Int := (row.s2 * n * 2 ^ (set.a2 - 23 - e).toNat : Nat) - (row.s1.natAbs ^ 2 * 2 ^ (2 * set.a - 46 - e).toNat : Nat)
    let c := if v < 0 then 0 else v.toNat
    ⟨mu, scaledRat c (n * n) e, rsqrtSum c (n * n) e eps, rneDiv (row.s1 * 256) n, if v < 0 then lnVarClamp else 0⟩
  else
    let e := 2 * set.a - 62
    ⟨if set.mode == 0 then scaledRat row.s1 n (set.a - 23) else .zero, scaledRat row.s2 n e, rsqrtSum row.s2 n e eps, row.muq, 0⟩

/-- STATF (04 R117, R120). A NaN that it writes sets no CVT_STAT bit: no NaN source was converted (02 R60, log 117). -/
def execStatf (x : Issue) (s : State) : Host.Outcome State Fault Refusal :=
  issue x s 0x58 (fun _ w => plainIllegal 0x24 true true true w) fun c w s =>
    let k := s.core c
    if s.unready c [fP w, 32 + lAUX w] || k.unitFull .lantern || k.setBusy (lSET w) then .stall
    else
      let a := (k.areg[Fin.ofNat 16 (lAUX w)]).toNat
      let areas : List Area := [⟨a, a + 192, 64, true⟩]
      let eps := bits (k.regNat (fP w)) 15 0
      match s.checkOperands c [] areas with
      | .wait => .stall
      | .fault f => .fault f
      | .ok =>
        if k.blocked (allRanges [] areas) (writtenRanges [] areas) then .stall
        else if eps != pxZero && !isScale eps then .fault (descFault 6 0 0xF)
        else
          let set := k.stats[lSET w]
          let outs := set.rows.toList.map (statfRow set eps)
          let conv (v : Val) : Conv := if v == .nan then ⟨pxNan, 0⟩ else toPx16 v .rne
          let words (f : StatOut → Val) : List Conv := outs.map fun o => conv (f o)
          let all := words (·.mu) ++ words (·.var) ++ words (·.r)
          let bad := (List.range 32).filter fun r => [(words (·.mu)), (words (·.var)), (words (·.r))].any fun l => !isFinite16 ((l.getD r ⟨0, 0⟩).code)
          let nans := (List.range 32).filter fun r => [(words (·.mu)), (words (·.var)), (words (·.r))].any fun l => (l.getD r ⟨0, 0⟩).code == pxNan
          let set' := { set with
            done := true
            r := Vector.ofFn fun (i : Fin 32) => ((words (·.r)).getD i.val ⟨pxZero, 0⟩).code
            rows := Vector.ofFn fun (i : Fin 32) => { set.rows[i] with muq := (outs.getD i.val ⟨.zero, .zero, .zero, 0, 0⟩).muq } }
          let t : TileOut := { TileOut.empty with writes := [(a, all.flatMap fun v => leBytes 2 v.code)] }
          .done (s.launch c (statLaunch k (t.stores k ++ [.stats (lSET w) set', .cvt (all.foldl (fun n v => n ||| v.st) 0),
              .lnt (outs.foldl (fun n o => n ||| o.lnt) 0)]
            ++ (match bad with | q :: _ => [.lntNf q] | [] => []) ++ (match nans with | q :: _ => [.nanEvent 3 0xFF q] | [] => []))
            (writtenRanges [] areas) [] [(lSET w).val] false []))

/-- One element of NORMA (04 R119). -/
def normaElem (set : StatSet) (r : Nat) (e : StatIn) : LRes :=
  let rw := set.r[Fin.ofNat 32 r]
  if e.bad || rw == pxNan then .of .nan
  else
    let d := e.q * 256 - (if set.mode == 2 then 0 else (set.rows[Fin.ofNat 32 r]).muq)
    let lnt := if e.sat then lnSat else 0
    if isInf16 rw then ⟨if d == 0 then .nan else .inf (d < 0), lnt, 0⟩
    else if d == 0 then ⟨.zero, lnt, 0⟩
    else match px16Val rw with
      | .fin _ (.lin n _ _ q) => ⟨.fin (d < 0) (.lin (d.natAbs * n) 1 1 (q + 128 * (set.a - 31))), lnt, 0⟩
      | _ => ⟨.zero, lnt, 0⟩

/-- NORMA (04 R119); an element outside its own tensor enters as zero (log 19). -/
def execNorma (x : Issue) (s : State) : Host.Outcome State Fault Refusal :=
  issue x s 0x58 (fun _ w => require [isS (fP w), lFN w == 0x25, rmOk (lRM w), axOk (lAX w), fTB w == 0, lAUX w == 0,
      if lSRC w then fTA w == 0 else fH w == 0]) fun c w s =>
    let k := s.core c
    if s.unready c [fP w] || k.unitFull .lantern || k.setBusy (lSET w) then .stall
    else
      let p := Place.of (k.regNat (fP w))
      let td := tileOperand k (fTD w) [0, 1] p.row0 p.col0 (lRows w) (lCols w) true
      match s.statInput c w [td] with
      | .wait => .stall
      | .fault f => .fault f
      | .ok elem cvt slots reads =>
        let set := k.stats[lSET w]
        if !set.done then .done (s.launch c (statLaunch k [.lnt lnSeq] [] [] [] false []))
        else .done (s.launchLantern c w td p .rne false cvt (fun r j =>
          normaElem set r ((elem r j).getD ⟨0, 0, false, false, false⟩)) slots reads)

/-- A row record as 32 bytes (04 R116). -/
def StatRow.bytes (r : StatRow) : List Byte :=
  leBytes 8 (unsigned 64 r.s1) ++ leBytes 16 r.s2 ++ leBytes 4 (r.cnt1 % 2 ^ 17 + b2n r.ovf * 2 ^ 30 + b2n r.nf * 2 ^ 31) ++ leBytes 4 r.cnt2

/-- A record in that format added into a row (04 R116). -/
def StatRow.addBytes (r : StatRow) (bs : List Byte) : StatRow × Nat :=
  let c := leNat ((bs.drop 24).take 4)
  let c1 := r.cnt1 + bits c 16 0
  let c2 := r.cnt2 + leNat ((bs.drop 28).take 4)
  let r := { r with ovf := r.ovf || bitOf c 30, nf := r.nf || bitOf c 31 }
  if rowLimit < c1 || rowLimit < c2 then ({ r with ovf := true }, lnCntOvf)
  else ({ r with
    s1 := sumS1 (r.s1 + signed 64 (leNat (bs.take 8))), s2 := sumS2 (r.s2 + leNat ((bs.drop 8).take 16)), cnt1 := c1, cnt2 := c2 }, 0)

/-- The address check of STATR, STATW and LTLOAD: then what they do. -/
def lanternArea (s : State) (c : CoreId) (area : Area) (go : Unit → Act) : Act :=
  match s.checkOperands c [] [area] with
  | .wait => .stall
  | .fault f => .fault f
  | .ok => if (s.core c).blocked (allRanges [] [area]) (writtenRanges [] [area]) then .stall else go ()

/-- STATR (04 R116). -/
def execStatr (x : Issue) (s : State) : Host.Outcome State Fault Refusal :=
  issue x s 0x58 (fun _ w => plainIllegal 0x26 true false true w) fun c w s =>
    let k := s.core c
    let a := (k.areg[Fin.ofNat 16 (lAUX w)]).toNat
    if s.unready c [32 + lAUX w] || k.unitFull .lantern || k.setBusy (lSET w) then .stall
    else lanternArea s c ⟨a, a + 1024, 32, true⟩ fun _ =>
      let t : TileOut := { TileOut.empty with writes := [(a, (k.stats[lSET w]).rows.toList.flatMap (·.bytes))] }
      .done (s.launch c (statLaunch k (t.stores k) [(a, a + 1024)] [] [] false []))

/-- STATW (04 R116). -/
def execStatw (x : Issue) (s : State) : Host.Outcome State Fault Refusal :=
  issue x s 0x58 (fun _ w => plainIllegal 0x27 true false true w) fun c w s =>
    let k := s.core c
    let a := (k.areg[Fin.ofNat 16 (lAUX w)]).toNat
    if s.unready c [32 + lAUX w] || k.unitFull .lantern || k.setBusy (lSET w) then .stall
    else lanternArea s c ⟨a, a + 1024, 32, false⟩ fun _ =>
      let set := k.stats[lSET w]
      let rows := (List.finRange 32).map fun r => (set.rows[r]).addBytes (scratchBytes s.mem k (a + 32 * r.val) 32)
      let set' := { set with rows := Vector.ofFn fun (i : Fin 32) => match rows[i.val]? with | some r => r.1 | none => set.rows[i] }
      .done (s.launch c (statLaunch k [.stats (lSET w) set', .lnt (rows.foldl (fun n r => n ||| r.2) 0)] [] [] [(lSET w).val] false [(a, a + 1024)]))

/-- LTLOAD (04 R112; 07 R189). -/
def execLtload (x : Issue) (s : State) : Host.Outcome State Fault Refusal :=
  issue x s 0x58 (fun _ w => plainIllegal 0x28 true true false w) fun c w s =>
    let k := s.core c
    if s.unready c [fP w, 32 + lAUX w] || k.unitFull .lantern || k.inflight.any (·.table) || k.epoch.opened then .stall
    else
      let a := (k.areg[Fin.ofNat 16 (lAUX w)]).toNat
      let p := k.regNat (fP w)
      let first := bits p 11 0
      let n := bits p 28 16
      lanternArea s c ⟨a, a + 4 * n, 1, false⟩ fun _ =>
        if n == 0 || 4096 < first + n then .fault (descFault 7 0 0xF)
        else .done (s.launch c (statLaunch k
          [.tableRam first ((List.range n).map fun j => BitVec.ofNat 32 (scratchNat s.mem k (a + 4 * j) 4))] [] [] [] true [(a, a + 4 * n)]))

/-- LANTERN_RETIRE (04 R97). -/
def execLanternRetire (c : CoreId) (s : State) : Host.Outcome State Fault Refusal := .next (s.retireUnit c .lantern)

end Sys2Proof.Machine
end

