-- ==== Sys2Proof/Machine/Pins.lean ====
section
/-!
DEFINITION. The test access port (23 R518): what each instruction selects, and what the locks refuse.
-/
namespace Sys2Proof.Machine

/-- IDCODE (23 R518). -/
def tapIdcode : Nat := 0xB4B32D6B

def State.tapSelect (s : State) (r : TapReg) : State := { s with pins := { s.pins with tap := r } }

/-- An instruction that a lock refuses selects the bypass register (23 R518). -/
def State.tapLocked (s : State) (locked : Bool) (r : TapReg) : State := s.tapSelect (if locked then .bypass else r)

/-- The scan lock, obj 3000.0B, and the debug lock, obj 3000.07 (17 R396). -/
def State.scanLocked (s : State) : Bool := objGet s none 0x3000 0xB == 1
def State.debugLocked (s : State) : Bool := objGet s none 0x3000 7 == 1

def execBypass (s : State) : Host.Outcome State Fault Refusal := .next (s.tapSelect .bypass)
def execIdcode (s : State) : Host.Outcome State Fault Refusal := .next (s.tapSelect .idcode)
def execSamplePreload (s : State) : Host.Outcome State Fault Refusal := .next (s.tapSelect .boundary)
def execExtest (s : State) : Host.Outcome State Fault Refusal := .next (s.tapLocked s.scanLocked .boundary)

/-- A test that drives the Ridgeline lanes of a running KV2-P: its UP ports lose lock (18 R416, 23 R518). -/
def State.drivesLanes (s : State) : State :=
  if s.scanLocked || s.delivery == .kv2c || !s.pins.mainPg then s else s.linksDown

def execExtestPulse (s : State) : Host.Outcome State Fault Refusal := .next (s.drivesLanes.tapLocked s.scanLocked .boundary)
def execExtestTrain (s : State) : Host.Outcome State Fault Refusal := .next (s.drivesLanes.tapLocked s.scanLocked .boundary)
def execDbgAccess (s : State) : Host.Outcome State Fault Refusal := .next (s.tapLocked s.debugLocked .debug)

end Sys2Proof.Machine
end

