-- ==== Sys2Proof/Machine/Scalar.lean ====
section
/-!
DEFINITION. The scalar instructions: 64-bit arithmetic, shifts, minimum and maximum, immediates, compares and predicate
logic (07 R175).
-/
namespace Sys2Proof.Machine

/-- A scalar instruction that reads registers and writes D with a value. -/
def scalarOp (x : Issue) (s : State) (opc : Nat) (illegal : Nat → Option CoreFault) (reads : Nat → List Nat)
    (value : Core → Nat → W64) : Host.Outcome State Fault Refusal :=
  issue x s opc (fun _ w => illegal w) fun c w s =>
    if s.unready c (fD w :: reads w) then .stall
    else .done (s.modCore c fun k => k.setReg (fD w) (value k w))

/-- The register checks of format S with D, A, B and no SUB (07 R171). -/
def formSDAB (w : Nat) : Option CoreFault := require [isReg (fD w), isReg (fA w), isReg (fB w), bits w 33 0 == 0]

/-- D ← A op B (07 R175). -/
def scalarAB (x : Issue) (s : State) (opc : Nat) (f : W64 → W64 → W64) : Host.Outcome State Fault Refusal :=
  scalarOp x s opc formSDAB (fun w => [fA w, fB w]) fun k w => f (k.reg (fA w)) (k.reg (fB w))

/-- D ← 1 or 0 (07 R175). -/
def scalarCmp (x : Issue) (s : State) (opc : Nat) (f : W64 → W64 → Bool) : Host.Outcome State Fault Refusal :=
  scalarAB x s opc fun a b => if f a b then 1 else 0

/-- Predicate logic: A, B and D name predicates (07 R175). -/
def scalarPred (x : Issue) (s : State) (opc : Nat) (f : W64 → W64 → W64) : Host.Outcome State Fault Refusal :=
  scalarOp x s opc (fun w => require [isPred (fD w), isPred (fA w), isPred (fB w), bits w 33 0 == 0])
    (fun w => [fA w, fB w]) fun k w => f (k.reg (fA w)) (k.reg (fB w))

/-- The shift count B[5:0]. -/
def shiftCount (b : W64) : Nat := b.toNat % 64

def execAdd (x : Issue) (s : State) : Host.Outcome State Fault Refusal := scalarAB x s 0x10 fun a b => a + b
def execSub (x : Issue) (s : State) : Host.Outcome State Fault Refusal := scalarAB x s 0x11 fun a b => a - b
def execMul (x : Issue) (s : State) : Host.Outcome State Fault Refusal := scalarAB x s 0x12 fun a b => a * b
def execAnd (x : Issue) (s : State) : Host.Outcome State Fault Refusal := scalarAB x s 0x13 fun a b => a &&& b
def execOr (x : Issue) (s : State) : Host.Outcome State Fault Refusal := scalarAB x s 0x14 fun a b => a ||| b
def execXor (x : Issue) (s : State) : Host.Outcome State Fault Refusal := scalarAB x s 0x15 fun a b => a ^^^ b
def execShl (x : Issue) (s : State) : Host.Outcome State Fault Refusal := scalarAB x s 0x16 fun a b => a <<< shiftCount b
def execShr (x : Issue) (s : State) : Host.Outcome State Fault Refusal := scalarAB x s 0x17 fun a b => a >>> shiftCount b
def execSar (x : Issue) (s : State) : Host.Outcome State Fault Refusal := scalarAB x s 0x18 fun a b => a.sshiftRight (shiftCount b)
def execMin (x : Issue) (s : State) : Host.Outcome State Fault Refusal := scalarAB x s 0x19 fun a b => if b.slt a then b else a
def execMax (x : Issue) (s : State) : Host.Outcome State Fault Refusal := scalarAB x s 0x1A fun a b => if a.slt b then b else a
def execMinu (x : Issue) (s : State) : Host.Outcome State Fault Refusal := scalarAB x s 0x1B fun a b => if b.ult a then b else a
def execMaxu (x : Issue) (s : State) : Host.Outcome State Fault Refusal := scalarAB x s 0x1C fun a b => if a.ult b then b else a

def execAddi (x : Issue) (s : State) : Host.Outcome State Fault Refusal :=
  scalarOp x s 0x1D (fun w => require [isReg (fD w), isReg (fA w)]) (fun w => [fA w])
    fun k w => k.reg (fA w) + BitVec.ofInt 64 (imm40 w)

def execMovi (x : Issue) (s : State) : Host.Outcome State Fault Refusal :=
  scalarOp x s 0x1E (fun w => require [isReg (fD w)]) (fun _ => []) fun _ w => BitVec.ofInt 64 (imm46 w)

def execMovhi (x : Issue) (s : State) : Host.Outcome State Fault Refusal :=
  scalarOp x s 0x1F (fun w => require [isReg (fD w), bits w 45 18 == 0]) (fun _ => [])
    fun k w => BitVec.ofNat 64 (bits w 17 0 * 2 ^ 46 + k.regNat (fD w) % 2 ^ 46)

def execCmpeq (x : Issue) (s : State) : Host.Outcome State Fault Refusal := scalarCmp x s 0x20 fun a b => a == b
def execCmpne (x : Issue) (s : State) : Host.Outcome State Fault Refusal := scalarCmp x s 0x21 fun a b => a != b
def execCmplt (x : Issue) (s : State) : Host.Outcome State Fault Refusal := scalarCmp x s 0x22 fun a b => a.slt b
def execCmpltu (x : Issue) (s : State) : Host.Outcome State Fault Refusal := scalarCmp x s 0x23 fun a b => a.ult b
def execCmple (x : Issue) (s : State) : Host.Outcome State Fault Refusal := scalarCmp x s 0x24 fun a b => a.sle b
def execCmpleu (x : Issue) (s : State) : Host.Outcome State Fault Refusal := scalarCmp x s 0x25 fun a b => a.ule b
def execPand (x : Issue) (s : State) : Host.Outcome State Fault Refusal := scalarPred x s 0x26 fun a b => a &&& b
def execPor (x : Issue) (s : State) : Host.Outcome State Fault Refusal := scalarPred x s 0x27 fun a b => a ||| b
def execPxor (x : Issue) (s : State) : Host.Outcome State Fault Refusal := scalarPred x s 0x28 fun a b => a ^^^ b

end Sys2Proof.Machine
end

