-- ==== Sys2Proof/Machine/Scout.lean ====
section
/-!
DEFINITION. The Scout: how it treats the next instruction of its window (06 R150–R154; 07 R173). Its shadow registers are those
of Scout; a specifier 64 + i stands for t-register i.
-/
namespace Sys2Proof.Machine

/-- The Scout column of 07 R172. -/
inductive ScoutEntry where
  | shadow | pass | prefetch | claim | read | follow | halt
  deriving DecidableEq, Repr

def scoutEntry (opc : Nat) : ScoutEntry :=
  match opc with
  | 0x00 | 0x08 | 0x32 | 0x33 => .shadow
  | 0x03 | 0x29 | 0x2A | 0x2B | 0x30 | 0x31 | 0x42 | 0x60 | 0x61 | 0x70 => .pass
  | 0x04 | 0x05 | 0x06 | 0x07 => .follow
  | 0x40 | 0x44 | 0x50 | 0x58 => .prefetch
  | 0x80 => .claim
  | 0x83 => .read
  | _ => if 0x10 ≤ opc && opc ≤ 0x28 then .shadow else .halt

/-- The core as its Scout computes in it: shadow registers in place of the sequencer's. -/
def Core.shadowed (k : Core) : Core :=
  let q := k.scout
  { k with sreg := q.sreg, areg := q.areg, preg := q.preg, lreg := q.lreg }

/-- A two-operand scalar operation by opcode (07 R175). -/
def scalarFn (opc : Nat) (a b : W64) : W64 :=
  let t (p : Bool) : W64 := if p then 1 else 0
  match opc with
  | 0x10 => a + b
  | 0x11 => a - b
  | 0x12 => a * b
  | 0x13 | 0x26 => a &&& b
  | 0x14 | 0x27 => a ||| b
  | 0x15 | 0x28 => a ^^^ b
  | 0x16 => a <<< shiftCount b
  | 0x17 => a >>> shiftCount b
  | 0x18 => a.sshiftRight (shiftCount b)
  | 0x19 => if b.slt a then b else a
  | 0x1A => if a.slt b then b else a
  | 0x1B => if b.ult a then b else a
  | 0x1C => if a.ult b then b else a
  | 0x20 => t (a == b)
  | 0x21 => t (a != b)
  | 0x22 => t (a.slt b)
  | 0x23 => t (a.ult b)
  | 0x24 => t (a.sle b)
  | _ => t (a.ule b)

/-- The sources a Shadow instruction reads. -/
def shadowSources (opc w : Nat) : List Nat :=
  match opc with
  | 0x00 | 0x1E => []
  | 0x08 | 0x1D | 0x32 => [fA w]
  | 0x1F => [fD w]
  | 0x33 => [64 + fA w % 16]
  | _ => [fA w, fB w]

/-- The value a Shadow instruction gives its destination. -/
def shadowValue (k : Core) (opc w : Nat) : W64 :=
  match opc with
  | 0x08 | 0x1D => k.reg (fA w) + BitVec.ofInt 64 (imm40 w)
  | 0x1E => BitVec.ofInt 64 (imm46 w)
  | 0x1F => BitVec.ofNat 64 (bits w 17 0 * 2 ^ 46 + k.regNat (fD w) % 2 ^ 46)
  | 0x33 => let (lo, width, _) := descField (bits w 33 30); BitVec.ofNat 64 (bits (k.treg[Fin.ofNat 16 (fA w)]).toNat (lo + width - 1) lo)
  | _ => scalarFn opc (k.reg (fA w)) (k.reg (fB w))

/-- Destinations that become unready when the Scout passes an instruction. -/
def passDests (opc w : Nat) : List Nat :=
  match opc with
  | 0x29 | 0x2B | 0x61 | 0x70 => [fD w]
  | 0x30 => [64 + fD w % 16]
  | 0x60 => if bits w 27 24 == 9 then [bits w 5 0] else []
  | _ => []

def Scout.isUnready (q : Scout) (specs : List Nat) : Bool := specs.any fun r => r != 48 && q.unready.contains r

/-- Writes a shadow register, and it is ready; p0 stays. -/
def Scout.put (q : Scout) (k : Core) (spec : Nat) (v : W64) : Scout :=
  let k' := k.setReg spec v
  { q with sreg := k'.sreg, areg := k'.areg, preg := k'.preg, lreg := k'.lreg, unready := q.unready.filter (· != spec) }

/-- The Scout has treated the instruction at its PC and goes on at another. -/
def Scout.step (q : Scout) (pc : Nat) : Scout := { q with window := q.window ++ [q.pc], pc := pc }

/-- The whole bytes of a tensor a t-register describes. -/
def Desc.extent (d : Desc) : Nat × Nat := (d.base, d.base + d.dim1 * d.stride + d.rowBytes)

/-- The t-registers of the tiles an instruction reads (07 R182, R187, R189, R190). -/
def tileReads (opc w : Nat) : List Nat :=
  match opc with
  | 0x40 => [fTA w, fTB w]
  | 0x50 => if [2, 3, 8].contains (bits w 27 24) then [fTA w] else [fTA w, fTB w]
  | 0x58 =>
    if lFN w < 2 then [fTA w, fTB w]
    else if [0x20, 0x24, 0x26, 0x27, 0x28].contains (lFN w) || lSRC w then []
    else [fTA w]
  | 0x60 => if [4, 8, 9].contains (fvOp w) then [fTA w] else if fvOp w == 5 then [fTA w, fTB w, fTD w] else [fTA w, fTB w]
  | _ => []

/-- The t-registers of the tiles it writes. -/
def tileWrites (opc w : Nat) : List Nat :=
  match opc with
  | 0x42 | 0x44 | 0x50 => [fTD w]
  | 0x58 => if lFN w < 0x20 || lFN w == 0x25 then [fTD w] else []
  | 0x60 => if fvOp w == 9 then [] else [fTD w]
  | _ => []

/-- The areas it writes beside its tiles: the register of each address, the offset from it and the length (07 R176, R179, R185, R189). -/
def areaWrites (opc w : Nat) : List (Nat × Int × Nat) :=
  match opc with
  | 0x2A => [(fA w, memOffset w, memWidth w)]
  | 0x31 => [(fA w, imm40 w, 32)]
  | 0x44 => [(32 + bits w 17 14, 0, b2n (bitOf w 20) * 64 + b2n (bitOf w 19) * 256)]
  | 0x58 => if lFN w == 0x24 then [(32 + lAUX w, 0, 192)] else if lFN w == 0x26 then [(32 + lAUX w, 0, 1024)] else []
  | _ => []

/-- The bank bytes a passed instruction writes; an unready address stands for all of the scratchpad, and so does an AB, whose
polynomials are described in banks (log 130). -/
def passWrites (k : Core) (q : Scout) (opc w : Nat) : List (Nat × Nat) :=
  let all : Nat × Nat := (0, 0x400000)
  if opc == 0x70 then [all]
  else
    (tileWrites opc w).map (fun t => if q.isUnready [64 + t] then all else (k.desc t).extent)
      ++ (areaWrites opc w).filterMap fun (r, off, n) =>
        if n == 0 then none
        else if q.isUnready [r] then some all
        else (let a := (k.reg r + BitVec.ofInt 64 off).toNat; some (a, a + n))

/-- AX of a Prefetch instruction: DRN, EW, LNT (05 R122). -/
def prefetchAx (opc w : Nat) : Nat :=
  match opc with
  | 0x44 => bits w 25 22
  | 0x50 => bits w 21 18
  | 0x58 => bits w 9 6
  | _ => 0

/-- The bank ranges whose operands are prefetched: owned banks, addresses ready, no region written by an instruction passed before;
none where nothing is prefetched (07 R173). -/
def State.prefetchRanges (s : State) (c : CoreId) (opc w : Nat) : List (Nat × Nat) :=
  let k := s.core c
  let q := k.scout
  let ts := tileReads opc w
  let rs := ts.map fun t => (k.desc t).extent
  if !q.isUnready (fP w :: ts.map (64 + ·)) && s.heldAll c rs == .owned && !overlaps q.passedWrites rs then rs else []

def State.setScout (s : State) (c : CoreId) (q : Scout) : State := s.modCore c fun k => { k with scout := q }

/-- The Scout passes an instruction: destinations unready, writes remembered. -/
def Scout.passed (q : Scout) (k : Core) (opc w : Nat) : Scout :=
  ({ q with unready := q.unready ++ passDests opc w, passedWrites := q.passedWrites ++ passWrites k q opc w }).step (q.pc + 1)

/-- The bank a speculative claim takes: a FREE one, without moving GPTR (06 R152). -/
def State.scoutFree (s : State) (c : CoreId) : Option (CoreId × BankIx) :=
  let q := (s.core c).scout
  (s.candidates c).find? fun e => s.bank e.1 e.2 == .free && !s.windowTaken c e.2 && !(q.claims.any fun x => x.2.1 == e.2)

/-- A speculative claim (06 R152, 07 R173); a bank whose unit is off powers up and clears first (16 R364). -/
def State.scoutClaim (s : State) (c : CoreId) (w : Nat) : State :=
  let k := s.core c
  if k.epoch.opened then s
  else match s.scoutFree c with
  | none => s
  | some (m, b) =>
    if s.unitGated m b then s.ungate m b else
    let q := { k.scout with claims := k.scout.claims ++ [(k.scout.pc, b, m)] }
    let q := (q.put k.shadowed (fD w) (BitVec.ofNat 64 b.val)).step (k.scout.pc + 1)
    ((s.setBank m b (.scoutHeld c)).setScout c q).modCore c fun k => k.scoutCount 0 1

/-- A speculative Porter read: memory outside the core into banks this Scout claimed (06 R150, 09 R242). -/
def State.scoutRead (s : State) (c : CoreId) (w : Nat) : State :=
  let k := s.core c
  let q := k.scout
  let i : ChanIx := Fin.ofNat 16 (bits w 27 24)
  let ch := k.chans[i]
  let sh := k.shadowed
  let ch' := ch.pgo (sh.regNat (fA w)) (sh.regNat (fB w)) (sh.regNat (fC w)) (sh.regNat (fD w))
  let ch' : Channel := { ch' with spec := true, saved := some ⟨ch.regs, ch.state, ch.cause, ch.wdone, ch.collide, ch.mismatch, ch.nf⟩ }
  let g := ch'.regs
  let a := offsetOf g.dstAddr
  let outside := spaceOf g.srcAddr == 1 || spaceOf g.srcAddr == 2
  let claimed := (windowsOf [(a, a + g.length)]).all fun b => q.claims.any fun e => e.2.1 == b
  if q.isUnready [fA w, fB w, fC w, fD w] || ch.state.isActive || k.epoch.opened || 2 ≤ g.mode || !outside || spaceOf g.dstAddr != 0
      || !claimed || ch'.checkStatic != 0 || s.checkAccess c i ch' != some 0 then s
  else
    ((s.setChan c i ch').setScout c (({ q with chans := q.chans ++ [(q.pc, i)] }).step (q.pc + 1))).modCore c fun k => k.scoutCount 0 1

/-- Where the Scout goes at a Follow instruction; none where it halts (06 R151). -/
def scoutFollowTo (k : Core) (opc w : Nat) (taken : Bool) : Option Scout :=
  let q := k.scout
  match opc with
  | 0x04 => some (q.step (if taken then bits w 13 0 else q.pc + 1))
  | 0x05 => some (if taken then (q.put k.shadowed (fD w) (BitVec.ofNat 64 (q.pc + 1))).step (bits w 13 0) else q.step (q.pc + 1))
  | 0x06 =>
    if !taken then some (q.step (q.pc + 1))
    else if q.isUnready [fA w] || 2 ^ 14 ≤ k.shadowed.regNat (fA w) then none
    else some (q.step (k.shadowed.regNat (fA w)))
  | _ =>
    let l := 56 + bits w 45 44
    if !taken then some (q.step (q.pc + 1))
    else if q.isUnready [l] then none
    else
      let v := k.shadowed.regNat l
      if v == 0 then some (q.step (q.pc + 1))
      else some ((q.put k.shadowed l (BitVec.ofNat 64 (v - 1))).step (if 1 < v then bits w 13 0 else q.pc + 1))

/-- A Shadow instruction executes in the shadow registers (07 R173). -/
def scoutShadow (k : Core) (opc w : Nat) : Scout :=
  let q := k.scout
  let src := shadowSources opc w
  let dest := if opc == 0x32 then 64 + fD w % 16 else fD w
  if opc == 0x00 then q.step (q.pc + 1)
  else if opc == 0x32 || q.isUnready src then ({ q with unready := q.unready ++ [dest] }).step (q.pc + 1)
  else (q.put k.shadowed dest (shadowValue k.shadowed opc w)).step (q.pc + 1)

/-- The Scout starts at the sequencer's PC, with copies of its registers (06 R150). -/
def State.scoutStart (s : State) (c : CoreId) : State :=
  let k := s.core c
  if k.scout.running then s
  else s.setScout c { Scout.reset with
    running := true, pc := k.pc, sreg := k.sreg, areg := k.areg, preg := k.preg, lreg := k.lreg, unready := k.pendingRegs ++ s.bankRegs c }

/-- The rows of an opcode that the Scout does not halt at. -/
def scoutRows (opc : Nat) : List (Issue → State → Host.Outcome State Fault Refusal) :=
  match opc with
  | 0x00 => [execNop] | 0x03 => [execTagi] | 0x04 => [execBr] | 0x05 => [execCall] | 0x06 => [execJr] | 0x07 => [execLoop] | 0x08 => [execLset]
  | 0x10 => [execAdd] | 0x11 => [execSub] | 0x12 => [execMul] | 0x13 => [execAnd] | 0x14 => [execOr] | 0x15 => [execXor]
  | 0x16 => [execShl] | 0x17 => [execShr] | 0x18 => [execSar] | 0x19 => [execMin] | 0x1A => [execMax] | 0x1B => [execMinu] | 0x1C => [execMaxu]
  | 0x1D => [execAddi] | 0x1E => [execMovi] | 0x1F => [execMovhi]
  | 0x20 => [execCmpeq] | 0x21 => [execCmpne] | 0x22 => [execCmplt] | 0x23 => [execCmpltu] | 0x24 => [execCmple] | 0x25 => [execCmpleu]
  | 0x26 => [execPand] | 0x27 => [execPor] | 0x28 => [execPxor]
  | 0x29 => [execLd] | 0x2A => [execSt] | 0x2B => [execCrr]
  | 0x30 => [execTld] | 0x31 => [execTst] | 0x32 => [execTset] | 0x33 => [execTget]
  | 0x40 => [execMma] | 0x42 => [execHld] | 0x44 => [execDrn]
  | 0x50 => [execEwMul, execEwDiv, execEwNeg, execEwAbs, execEwMax, execEwMin, execEwCmplt, execEwCmpeq, execEwCvt]
  | 0x58 => [execLadd, execLsub, execExp, execExp2, execExpd, execLn, execLog2, execSin, execCos, execGelu, execGelut, execSqrt, execRsqrt,
      execUtn, execStati, execStat1, execStat2, execStatq, execStatf, execNorma, execStatr, execStatw, execLtload]
  | 0x60 => [execFvAdd, execFvSub, execFvMul, execFvDiv, execFvSqrt, execFvFma, execFvMax, execFvMin, execFvCvt, execFvSsq]
  | 0x61 => [execFsAdd, execFsSub, execFsMul, execFsDiv, execFsSqrt, execFsFma, execFsMax, execFsMin, execFsCvt, execFsCmplt, execFsCmpeq,
      execCvti, execCvtf]
  | 0x70 => [execMadd, execNtt, execIntt, execAuto, execKgen]
  | 0x80 => [execClaim]
  | 0x83 => [execPgo]
  | _ => []

/-- The machine with core c as its Scout computes in it: at the Scout's PC, with its shadow registers and the banks it holds, every earlier
instruction retired but for the registers that are unready. -/
def State.asScout (s : State) (c : CoreId) : State :=
  let q := (s.core c).scout
  let s := q.claims.foldl (fun (s : State) e => s.setBank e.2.2 e.2.1 (.owned c)) s
  let ahead : InFlight := ⟨.ieee, q.pc, 0, none, [], [], [], [], q.unready.filter (· < 64), [], false, [], 0⟩
  { s with claims := s.claims.filter fun (e : Claim) => e.who != Requester.core c }.modCore c fun k =>
    { k.scoutView.shadowed with pc := q.pc, inflight := [ahead], creds := [], shder := none }

/-- The instruction at the Scout's PC would take an illegal-instruction or a descriptor fault in every row of its opcode: a check of
06 R149 fails (06 R150). What an unready register leaves open fails none. -/
def State.scoutFails (s : State) (c : CoreId) (x : Issue) : Bool :=
  let w := x.word.toNat
  let opc := opcOf w
  !(s.core c).scout.isUnready ((tileReads opc w ++ tileWrites opc w).map (64 + ·)) &&
    (scoutRows opc).all fun row => match row x (s.asScout c) with
      | .next t => (t.core c).mode == .faulted && (t.core c).frec.toNat % 256 ≤ 2
      | _ => false

/-- How far past the oldest unretired instruction the Scout's PC is (06 R150; log 120). -/
def State.scoutAhead (s : State) (c : CoreId) : Nat :=
  (s.core c).issued - (s.oldest c).1 + (s.core c).scout.window.length

/-- The Scout treats the instruction at its PC (07 R173). -/
def State.scoutTreat (s : State) (c : CoreId) (x : Issue) : State :=
  let w := x.word.toNat
  let k := s.core c
  let q := k.scout
  let opc := opcOf w
  let unpred := q.isUnready [48 + bits w 55 53]
  let runs := k.shadowed.executes w
  if k.scoutDepth < s.scoutAhead c || 16384 ≤ q.pc || s.scoutFails c x then s
  else match scoutEntry opc with
  | .halt => s
  | .follow =>
    let taken := if unpred then bitOf w 43 else runs
    if unpred && opc != 0x04 then s
    else match scoutFollowTo k opc w taken with
    | some q' => s.setScout c q'
    | none => s
  | .pass => s.setScout c (if !unpred && !runs then q.step (q.pc + 1) else q.passed k.shadowed opc w)
  | .prefetch =>
    if prefetchAx opc w != 0 then s
    else if !unpred && !runs then s.setScout c (q.step (q.pc + 1))
    else
      let q' := q.passed k.shadowed opc w
      match s.prefetchRanges c opc w with
      | [] => s.setScout c q'
      | rs => (s.setScout c { q' with prefetched := q'.prefetched ++ [(q.pc, rs)] }).modCore c fun k => k.scoutCount 0 1
  | .shadow => if unpred then s else s.setScout c (if runs then scoutShadow k opc w else q.step (q.pc + 1))
  | .claim => if unpred then s else if runs then s.scoutClaim c w else s.setScout c (q.step (q.pc + 1))
  | .read => if unpred then s else if runs then s.scoutRead c w else s.setScout c (q.step (q.pc + 1))

/-- SCOUT_ADVANCE: the word is the one at the Scout's PC (06 R150, R151). -/
def execScoutAdvance (x : Issue) (s : State) : Host.Outcome State Fault Refusal :=
  let c := x.core
  let k := s.core c
  if !k.scoutEn || k.mode != .running || k.epoch.discarding || x.ecc == .double then .next s
  else .next ((s.scoutStart c).scoutTreat c x)

end Sys2Proof.Machine
end

