-- ==== Sys2Proof/Machine/Dispatch.lean ====
section
/-!
DEFINITION. One arm for every command: a direct call of its meaning, or a refusal by name.
-/
namespace Sys2Proof.Machine

def exec (i : Instr) (s : State) : Host.Outcome State Fault Refusal :=
  match i with
  | .powerOnReset maddr => Sys2Proof.Machine.execPowerOnReset maddr s
  | .emberClockFallback => Sys2Proof.Machine.execEmberClockFallback s
  | .wardenReset => Sys2Proof.Machine.execWardenReset s
  | .wardenRestart => Sys2Proof.Machine.execWardenRestart s
  | .deviceReset => Sys2Proof.Machine.execDeviceReset s
  | .mainPgRise => Sys2Proof.Machine.execMainPgRise s
  | .mainPgFall => Sys2Proof.Machine.execMainPgFall s
  | .perstAssert => Sys2Proof.Machine.execPerstAssert s
  | .perstDeassert => Sys2Proof.Machine.execPerstDeassert s
  | .refclkLost => Sys2Proof.Machine.execRefclkLost s
  | .deviceStart => Sys2Proof.Machine.execDeviceStart s
  | .startStageAdvance w => Sys2Proof.Machine.execStartStageAdvance w s
  | .flashImageLoaded img => Sys2Proof.Machine.execFlashImageLoaded img s
  | .stageTimeout => Sys2Proof.Machine.execStageTimeout s
  | .imageWaitTimeout => Sys2Proof.Machine.execImageWaitTimeout s
  | .bootComplete => Sys2Proof.Machine.execBootComplete s
  | .wardenWatchdogExpiry => Sys2Proof.Machine.execWardenWatchdogExpiry s
  | .bivouacExit r => Sys2Proof.Machine.execBivouacExit r s
  | .fuseUpdateRequest r => Sys2Proof.Machine.execFuseUpdateRequest r s
  | .fuseProgrammingDone verified => Sys2Proof.Machine.execFuseProgrammingDone verified s
  | .nop x => Sys2Proof.Machine.execNop x s
  | .halt x => Sys2Proof.Machine.execHalt x s
  | .sync x => Sys2Proof.Machine.execSync x s
  | .tagi x => Sys2Proof.Machine.execTagi x s
  | .br x => Sys2Proof.Machine.execBr x s
  | .call x => Sys2Proof.Machine.execCall x s
  | .jr x => Sys2Proof.Machine.execJr x s
  | .loop x => Sys2Proof.Machine.execLoop x s
  | .lset x => Sys2Proof.Machine.execLset x s
  | .add x => Sys2Proof.Machine.execAdd x s
  | .sub x => Sys2Proof.Machine.execSub x s
  | .mul x => Sys2Proof.Machine.execMul x s
  | .and x => Sys2Proof.Machine.execAnd x s
  | .or x => Sys2Proof.Machine.execOr x s
  | .xor x => Sys2Proof.Machine.execXor x s
  | .shl x => Sys2Proof.Machine.execShl x s
  | .shr x => Sys2Proof.Machine.execShr x s
  | .sar x => Sys2Proof.Machine.execSar x s
  | .min x => Sys2Proof.Machine.execMin x s
  | .max x => Sys2Proof.Machine.execMax x s
  | .minu x => Sys2Proof.Machine.execMinu x s
  | .maxu x => Sys2Proof.Machine.execMaxu x s
  | .addi x => Sys2Proof.Machine.execAddi x s
  | .movi x => Sys2Proof.Machine.execMovi x s
  | .movhi x => Sys2Proof.Machine.execMovhi x s
  | .cmpeq x => Sys2Proof.Machine.execCmpeq x s
  | .cmpne x => Sys2Proof.Machine.execCmpne x s
  | .cmplt x => Sys2Proof.Machine.execCmplt x s
  | .cmpltu x => Sys2Proof.Machine.execCmpltu x s
  | .cmple x => Sys2Proof.Machine.execCmple x s
  | .cmpleu x => Sys2Proof.Machine.execCmpleu x s
  | .pand x => Sys2Proof.Machine.execPand x s
  | .por x => Sys2Proof.Machine.execPor x s
  | .pxor x => Sys2Proof.Machine.execPxor x s
  | .ld x => Sys2Proof.Machine.execLd x s
  | .st x => Sys2Proof.Machine.execSt x s
  | .crr x => Sys2Proof.Machine.execCrr x s
  | .crw x => Sys2Proof.Machine.execCrw x s
  | .tld x => Sys2Proof.Machine.execTld x s
  | .tst x => Sys2Proof.Machine.execTst x s
  | .tset x => Sys2Proof.Machine.execTset x s
  | .tget x => Sys2Proof.Machine.execTget x s
  | .mma x => Sys2Proof.Machine.execMma x s
  | .hclr x => Sys2Proof.Machine.execHclr x s
  | .hld x => Sys2Proof.Machine.execHld x s
  | .hst x => Sys2Proof.Machine.execHst x s
  | .drn x => Sys2Proof.Machine.execDrn x s
  | .swap x => Sys2Proof.Machine.execSwap x s
  | .swapComplete c base => Sys2Proof.Machine.execSwapComplete c base s
  | .fold x => Sys2Proof.Machine.execFold x s
  | .agopen x => Sys2Proof.Machine.execAgopen x s
  | .agclose x => Sys2Proof.Machine.execAgclose x s
  | .agnCfgWrite x => Sys2Proof.Machine.execAgnCfgWrite x s
  | .latticePassRetire c => Sys2Proof.Machine.execLatticePassRetire c s
  | .drainRetire c => Sys2Proof.Machine.execDrainRetire c s
  | .credHearthSum x => Sys2Proof.Machine.execCredHearthSum x s
  | .credMaximum x => Sys2Proof.Machine.execCredMaximum x s
  | .credFp64Sum x => Sys2Proof.Machine.execCredFp64Sum x s
  | .credVote x => Sys2Proof.Machine.execCredVote x s
  | .credBroadcast x => Sys2Proof.Machine.execCredBroadcast x s
  | .ewMul x => Sys2Proof.Machine.execEwMul x s
  | .ewDiv x => Sys2Proof.Machine.execEwDiv x s
  | .ewNeg x => Sys2Proof.Machine.execEwNeg x s
  | .ewAbs x => Sys2Proof.Machine.execEwAbs x s
  | .ewMax x => Sys2Proof.Machine.execEwMax x s
  | .ewMin x => Sys2Proof.Machine.execEwMin x s
  | .ewCmplt x => Sys2Proof.Machine.execEwCmplt x s
  | .ewCmpeq x => Sys2Proof.Machine.execEwCmpeq x s
  | .ewCvt x => Sys2Proof.Machine.execEwCvt x s
  | .ewRetire c => Sys2Proof.Machine.execEwRetire c s
  | .ladd x => Sys2Proof.Machine.execLadd x s
  | .lsub x => Sys2Proof.Machine.execLsub x s
  | .exp x => Sys2Proof.Machine.execExp x s
  | .exp2 x => Sys2Proof.Machine.execExp2 x s
  | .expd x => Sys2Proof.Machine.execExpd x s
  | .ln x => Sys2Proof.Machine.execLn x s
  | .log2 x => Sys2Proof.Machine.execLog2 x s
  | .sin x => Sys2Proof.Machine.execSin x s
  | .cos x => Sys2Proof.Machine.execCos x s
  | .gelu x => Sys2Proof.Machine.execGelu x s
  | .gelut x => Sys2Proof.Machine.execGelut x s
  | .sqrt x => Sys2Proof.Machine.execSqrt x s
  | .rsqrt x => Sys2Proof.Machine.execRsqrt x s
  | .utn x => Sys2Proof.Machine.execUtn x s
  | .stati x => Sys2Proof.Machine.execStati x s
  | .stat1 x => Sys2Proof.Machine.execStat1 x s
  | .stat2 x => Sys2Proof.Machine.execStat2 x s
  | .statq x => Sys2Proof.Machine.execStatq x s
  | .statf x => Sys2Proof.Machine.execStatf x s
  | .norma x => Sys2Proof.Machine.execNorma x s
  | .statr x => Sys2Proof.Machine.execStatr x s
  | .statw x => Sys2Proof.Machine.execStatw x s
  | .ltload x => Sys2Proof.Machine.execLtload x s
  | .lntCfgWrite x => Sys2Proof.Machine.execLntCfgWrite x s
  | .lanternRetire c => Sys2Proof.Machine.execLanternRetire c s
  | .fvAdd x => Sys2Proof.Machine.execFvAdd x s
  | .fvSub x => Sys2Proof.Machine.execFvSub x s
  | .fvMul x => Sys2Proof.Machine.execFvMul x s
  | .fvDiv x => Sys2Proof.Machine.execFvDiv x s
  | .fvSqrt x => Sys2Proof.Machine.execFvSqrt x s
  | .fvFma x => Sys2Proof.Machine.execFvFma x s
  | .fvMax x => Sys2Proof.Machine.execFvMax x s
  | .fvMin x => Sys2Proof.Machine.execFvMin x s
  | .fvCvt x => Sys2Proof.Machine.execFvCvt x s
  | .fvSsq x => Sys2Proof.Machine.execFvSsq x s
  | .fsAdd x => Sys2Proof.Machine.execFsAdd x s
  | .fsSub x => Sys2Proof.Machine.execFsSub x s
  | .fsMul x => Sys2Proof.Machine.execFsMul x s
  | .fsDiv x => Sys2Proof.Machine.execFsDiv x s
  | .fsSqrt x => Sys2Proof.Machine.execFsSqrt x s
  | .fsFma x => Sys2Proof.Machine.execFsFma x s
  | .fsMax x => Sys2Proof.Machine.execFsMax x s
  | .fsMin x => Sys2Proof.Machine.execFsMin x s
  | .fsCvt x => Sys2Proof.Machine.execFsCvt x s
  | .fsCmplt x => Sys2Proof.Machine.execFsCmplt x s
  | .fsCmpeq x => Sys2Proof.Machine.execFsCmpeq x s
  | .cvti x => Sys2Proof.Machine.execCvti x s
  | .cvtf x => Sys2Proof.Machine.execCvtf x s
  | .ieeeRetire c => Sys2Proof.Machine.execIeeeRetire c s
  | .shinit x => Sys2Proof.Machine.execShinit x s
  | .shobs x => Sys2Proof.Machine.execShobs x s
  | .shcmt x => Sys2Proof.Machine.execShcmt x s
  | .shdsc x => Sys2Proof.Machine.execShdsc x s
  | .shder x => Sys2Proof.Machine.execShder x s
  | .shderHostDataArrive c answer => Sys2Proof.Machine.execShderHostDataArrive c answer s
  | .shderHostRetry c => Sys2Proof.Machine.execShderHostRetry c s
  | .shderHostTimeout c => Sys2Proof.Machine.execShderHostTimeout c s
  | .shanc x => Sys2Proof.Machine.execShanc x s
  | .shdirWrite x => Sys2Proof.Machine.execShdirWrite x s
  | .madd x => Sys2Proof.Machine.execMadd x s
  | .ntt x => Sys2Proof.Machine.execNtt x s
  | .intt x => Sys2Proof.Machine.execIntt x s
  | .auto x => Sys2Proof.Machine.execAuto x s
  | .kgen x => Sys2Proof.Machine.execKgen x s
  | .abExecutionComplete c => Sys2Proof.Machine.execAbExecutionComplete c s
  | .send x => Sys2Proof.Machine.execSend x s
  | .recv x => Sys2Proof.Machine.execRecv x s
  | .sclose x => Sys2Proof.Machine.execSclose x s
  | .streamMessageArrive n m => Sys2Proof.Machine.execStreamMessageArrive n m s
  | .streamCreditArrive n ctx => Sys2Proof.Machine.execStreamCreditArrive n ctx s
  | .streamCloseNoticeArrive n ctx => Sys2Proof.Machine.execStreamCloseNoticeArrive n ctx s
  | .streamWaitTimeout c => Sys2Proof.Machine.execStreamWaitTimeout c s
  | .claim x => Sys2Proof.Machine.execClaim x s
  | .claimRequestArrive home b who => Sys2Proof.Machine.execClaimRequestArrive home b who s
  | .give x => Sys2Proof.Machine.execGive x s
  | .bankOwnGo x => Sys2Proof.Machine.execBankOwnGo x s
  | .handoverRequestArrive home b => Sys2Proof.Machine.execHandoverRequestArrive home b s
  | .handoverBankArrive home b => Sys2Proof.Machine.execHandoverBankArrive home b s
  | .handoverAckArrive home b => Sys2Proof.Machine.execHandoverAckArrive home b s
  | .handoverTimeout home b => Sys2Proof.Machine.execHandoverTimeout home b s
  | .free x => Sys2Proof.Machine.execFree x s
  | .bankClearDone home b => Sys2Proof.Machine.execBankClearDone home b s
  | .pgo x => Sys2Proof.Machine.execPgo x s
  | .pwait x => Sys2Proof.Machine.execPwait x s
  | .pchGo x => Sys2Proof.Machine.execPchGo x s
  | .pchResume x => Sys2Proof.Machine.execPchResume x s
  | .pchAbort x => Sys2Proof.Machine.execPchAbort x s
  | .porterChecksDone c ch => Sys2Proof.Machine.execPorterChecksDone c ch s
  | .porterReadDataArrive c ch r => Sys2Proof.Machine.execPorterReadDataArrive c ch r s
  | .porterBeat b => Sys2Proof.Machine.execPorterBeat b s
  | .porterBusError c err => Sys2Proof.Machine.execPorterBusError c err s
  | .epb x => Sys2Proof.Machine.execEpb x s
  | .epc x => Sys2Proof.Machine.execEpc x s
  | .epd x => Sys2Proof.Machine.execEpd x s
  | .epochMaskWrite x => Sys2Proof.Machine.execEpochMaskWrite x s
  | .scoutAdvance x => Sys2Proof.Machine.execScoutAdvance x s
  | .scoutCtlWrite x => Sys2Proof.Machine.execScoutCtlWrite x s
  | .stepnoWrite x => Sys2Proof.Machine.execStepnoWrite x s
  | .w1cStatusClear x => Sys2Proof.Machine.execW1cStatusClear x s
  | .coreClearingDone c => Sys2Proof.Machine.execCoreClearingDone c s
  | .cmdDbWrite n a => Sys2Proof.Machine.execCmdDbWrite n a s
  | .cplDbWrite n a => Sys2Proof.Machine.execCplDbWrite n a s
  | .prstGo n a => Sys2Proof.Machine.execPrstGo n a s
  | .vectorControlWrite n offset a => Sys2Proof.Machine.execVectorControlWrite n offset a s
  | .registerWrite n offset a => Sys2Proof.Machine.execRegisterWrite n offset a s
  | .interruptHoldoffExpiry n => Sys2Proof.Machine.execInterruptHoldoffExpiry n s
  | .commandFetch n => Sys2Proof.Machine.execCommandFetch n s
  | .commandFetchComplete n bytes => Sys2Proof.Machine.execCommandFetchComplete n bytes s
  | .admissionTimeout n => Sys2Proof.Machine.execAdmissionTimeout n s
  | .cmdNop n => Sys2Proof.Machine.execCmdNop n s
  | .start n => Sys2Proof.Machine.execStart n s
  | .startComplete n => Sys2Proof.Machine.execStartComplete n s
  | .runBoundExpiry n => Sys2Proof.Machine.execRunBoundExpiry n s
  | .coreReset n => Sys2Proof.Machine.execCoreReset n s
  | .preset n => Sys2Proof.Machine.execPreset n s
  | .streamOpen n => Sys2Proof.Machine.execStreamOpen n s
  | .streamOpenClearDone n => Sys2Proof.Machine.execStreamOpenClearDone n s
  | .stage n => Sys2Proof.Machine.execStage n s
  | .ctxAcq n => Sys2Proof.Machine.execCtxAcq n s
  | .ctxRel n => Sys2Proof.Machine.execCtxRel n s
  | .form r => Sys2Proof.Machine.execForm r s
  | .formationComplete n => Sys2Proof.Machine.execFormationComplete n s
  | .dissolve r => Sys2Proof.Machine.execDissolve r s
  | .partitionResetWrite r => Sys2Proof.Machine.execPartitionResetWrite r s
  | .weightWrite r => Sys2Proof.Machine.execWeightWrite r s
  | .apertureWrite r => Sys2Proof.Machine.execApertureWrite r s
  | .pcieFlrVf n => Sys2Proof.Machine.execPcieFlrVf n s
  | .pcieFlrPf0 => Sys2Proof.Machine.execPcieFlrPf0 s
  | .pcieVfEnableClear => Sys2Proof.Machine.execPcieVfEnableClear s
  | .pcieD3hotToD0 f => Sys2Proof.Machine.execPcieD3hotToD0 f s
  | .pcieHotReset => Sys2Proof.Machine.execPcieHotReset s
  | .pcieConfigRequest f q => Sys2Proof.Machine.execPcieConfigRequest f q s
  | .pcieCompletionTimeout c addr => Sys2Proof.Machine.execPcieCompletionTimeout c addr s
  | .ucieLinkUp width rate cr => Sys2Proof.Machine.execUcieLinkUp width rate cr s
  | .ucieHostRd h => Sys2Proof.Machine.execUcieHostRd h s
  | .ucieHostWr h => Sys2Proof.Machine.execUcieHostWr h s
  | .ucieCpld h => Sys2Proof.Machine.execUcieCpld h s
  | .ucieCpl h => Sys2Proof.Machine.execUcieCpl h s
  | .ucieCrd cr => Sys2Proof.Machine.execUcieCrd cr s
  | .ucieCompletionTimeout tag => Sys2Proof.Machine.execUcieCompletionTimeout tag s
  | .vdFence q => Sys2Proof.Machine.execVdFence q s
  | .fenceTimeout n => Sys2Proof.Machine.execFenceTimeout n s
  | .ucieLinkLoss => Sys2Proof.Machine.execUcieLinkLoss s
  | .ucieL2ExitRequest => Sys2Proof.Machine.execUcieL2ExitRequest s
  | .hbmScrub found => Sys2Proof.Machine.execHbmScrub found s
  | .hbmUnitClearDone unit => Sys2Proof.Machine.execHbmUnitClearDone unit s
  | .read r => Sys2Proof.Machine.execRead r s
  | .write r => Sys2Proof.Machine.execWrite r s
  | .notificationRead r => Sys2Proof.Machine.execNotificationRead r s
  | .brinit r => Sys2Proof.Machine.execBrinit r s
  | .brseg r => Sys2Proof.Machine.execBrseg r s
  | .bwinit r => Sys2Proof.Machine.execBwinit r s
  | .bwseg r => Sys2Proof.Machine.execBwseg r s
  | .bwend r => Sys2Proof.Machine.execBwend r s
  | .babort r => Sys2Proof.Machine.execBabort r s
  | .discover r => Sys2Proof.Machine.execDiscover r s
  | .echo r => Sys2Proof.Machine.execEcho r s
  | .notify r => Sys2Proof.Machine.execNotify r s
  | .notifyRetryTimeout => Sys2Proof.Machine.execNotifyRetryTimeout s
  | .blockIdleTimeout p source => Sys2Proof.Machine.execBlockIdleTimeout p source s
  | .t1sFrameReceive f => Sys2Proof.Machine.execT1sFrameReceive f s
  | .i3cPrivateWrite t => Sys2Proof.Machine.execI3cPrivateWrite t s
  | .i3cPrivateRead => Sys2Proof.Machine.execI3cPrivateRead s
  | .enec events => Sys2Proof.Machine.execEnec events s
  | .disec events => Sys2Proof.Machine.execDisec events s
  | .rstdaa => Sys2Proof.Machine.execRstdaa s
  | .entdaa address => Sys2Proof.Machine.execEntdaa address s
  | .setdasa static address => Sys2Proof.Machine.execSetdasa static address s
  | .setmwl len => Sys2Proof.Machine.execSetmwl len s
  | .setmrl len => Sys2Proof.Machine.execSetmrl len s
  | .getmwl => Sys2Proof.Machine.execGetmwl s
  | .getmrl => Sys2Proof.Machine.execGetmrl s
  | .getpid => Sys2Proof.Machine.execGetpid s
  | .getbcr => Sys2Proof.Machine.execGetbcr s
  | .getdcr => Sys2Proof.Machine.execGetdcr s
  | .getstatus => Sys2Proof.Machine.execGetstatus s
  | .mbReq a => Sys2Proof.Machine.execMbReq a s
  | .mbRspRelease a => Sys2Proof.Machine.execMbRspRelease a s
  | .mailboxBufferWrite offset a => Sys2Proof.Machine.execMailboxBufferWrite offset a s
  | .mgmtReq k => Sys2Proof.Machine.execMgmtReq k s
  | .mgmtAns k => Sys2Proof.Machine.execMgmtAns k s
  | .relayTimeout tag => Sys2Proof.Machine.execRelayTimeout tag s
  | .nodeIdWrite r => Sys2Proof.Machine.execNodeIdWrite r s
  | .dutyModeRequest r => Sys2Proof.Machine.execDutyModeRequest r s
  | .stepAnswer r => Sys2Proof.Machine.execStepAnswer r s
  | .stashAnswer r => Sys2Proof.Machine.execStashAnswer r s
  | .remapAnswer r => Sys2Proof.Machine.execRemapAnswer r s
  | .patrolAnswer r => Sys2Proof.Machine.execPatrolAnswer r s
  | .powerAnswer r => Sys2Proof.Machine.execPowerAnswer r s
  | .stepCallTimeout n => Sys2Proof.Machine.execStepCallTimeout n s
  | .stashCallTimeout n => Sys2Proof.Machine.execStashCallTimeout n s
  | .remapCallTimeout => Sys2Proof.Machine.execRemapCallTimeout s
  | .patrolCallTimeout => Sys2Proof.Machine.execPatrolCallTimeout s
  | .powerCallTimeout => Sys2Proof.Machine.execPowerCallTimeout s
  | .emberRequest r => Sys2Proof.Machine.execEmberRequest r s
  | .emberEntryCommit => Sys2Proof.Machine.execEmberEntryCommit s
  | .deviceEnterDoze => Sys2Proof.Machine.execDeviceEnterDoze s
  | .deviceEnterNap => Sys2Proof.Machine.execDeviceEnterNap s
  | .deviceWake source => Sys2Proof.Machine.execDeviceWake source s
  | .coreEnterNap c => Sys2Proof.Machine.execCoreEnterNap c s
  | .coreWake c => Sys2Proof.Machine.execCoreWake c s
  | .bankUnitGate c u => Sys2Proof.Machine.execBankUnitGate c u s
  | .powerCapDecision reading => Sys2Proof.Machine.execPowerCapDecision reading s
  | .powerCapWrite r => Sys2Proof.Machine.execPowerCapWrite r s
  | .opChange c => Sys2Proof.Machine.execOpChange c s
  | .limiterEngage => Sys2Proof.Machine.execLimiterEngage s
  | .limiterRelease => Sys2Proof.Machine.execLimiterRelease s
  | .thermalSample readings => Sys2Proof.Machine.execThermalSample readings s
  | .portRetrain p t => Sys2Proof.Machine.execPortRetrain p t s
  | .putInUse r => Sys2Proof.Machine.execPutInUse r s
  | .codewordReceive p lane w => Sys2Proof.Machine.execCodewordReceive p lane w s
  | .flitReceive p f => Sys2Proof.Machine.execFlitReceive p f s
  | .lctl p f => Sys2Proof.Machine.execLctl p f s
  | .flitSlotSend p => Sys2Proof.Machine.execFlitSlotSend p s
  | .flitResendTimeout p => Sys2Proof.Machine.execFlitResendTimeout p s
  | .lctlDue p => Sys2Proof.Machine.execLctlDue p s
  | .linkStall p => Sys2Proof.Machine.execLinkStall p s
  | .lockLost p => Sys2Proof.Machine.execLockLost p s
  | .streamMsg k => Sys2Proof.Machine.execStreamMsg k s
  | .streamCred k => Sys2Proof.Machine.execStreamCred k s
  | .streamClose k => Sys2Proof.Machine.execStreamClose k s
  | .canopyUp k => Sys2Proof.Machine.execCanopyUp k s
  | .canopyDown n ctx k => Sys2Proof.Machine.execCanopyDown n ctx k s
  | .reductionTimeout n ctx => Sys2Proof.Machine.execReductionTimeout n ctx s
  | .present k => Sys2Proof.Machine.execPresent k s
  | .active k => Sys2Proof.Machine.execActive k s
  | .fault k => Sys2Proof.Machine.execFault k s
  | .topo k => Sys2Proof.Machine.execTopo k s
  | .remap k => Sys2Proof.Machine.execRemap k s
  | .stashOpen k => Sys2Proof.Machine.execStashOpen k s
  | .stashData k => Sys2Proof.Machine.execStashData k s
  | .stashSeal k => Sys2Proof.Machine.execStashSeal k s
  | .stashAck k => Sys2Proof.Machine.execStashAck k s
  | .stashAckTimeout n => Sys2Proof.Machine.execStashAckTimeout n s
  | .pullReq k => Sys2Proof.Machine.execPullReq k s
  | .pullData k => Sys2Proof.Machine.execPullData k s
  | .startRecovery r => Sys2Proof.Machine.execStartRecovery r s
  | .settleTimeout n => Sys2Proof.Machine.execSettleTimeout n s
  | .recoverQuery k => Sys2Proof.Machine.execRecoverQuery k s
  | .recoverReport k => Sys2Proof.Machine.execRecoverReport k s
  | .reportTimeout n => Sys2Proof.Machine.execReportTimeout n s
  | .resume k => Sys2Proof.Machine.execResume k s
  | .resumeDone k => Sys2Proof.Machine.execResumeDone k s
  | .restoreFromRecord r hostBytes => Sys2Proof.Machine.execRestoreFromRecord r hostBytes s
  | .trapArmWrite r => Sys2Proof.Machine.execTrapArmWrite r s
  | .patrolSliceStart => Sys2Proof.Machine.execPatrolSliceStart s
  | .patrolSliceEnd found => Sys2Proof.Machine.execPatrolSliceEnd found s
  | .bypass => Sys2Proof.Machine.execBypass s
  | .idcode => Sys2Proof.Machine.execIdcode s
  | .samplePreload => Sys2Proof.Machine.execSamplePreload s
  | .extest => Sys2Proof.Machine.execExtest s
  | .extestPulse => Sys2Proof.Machine.execExtestPulse s
  | .extestTrain => Sys2Proof.Machine.execExtestTrain s
  | .dbgAccess => Sys2Proof.Machine.execDbgAccess s
  | .napEntryCommit => Sys2Proof.Machine.execNapEntryCommit s
  | .hearthClearDone c group => Sys2Proof.Machine.execHearthClearDone c group s
  | .stageCopyComplete n answer => Sys2Proof.Machine.execStageCopyComplete n answer s
  | .pcieLinkUp width rate => Sys2Proof.Machine.execPcieLinkUp width rate s
  | .vfusePresenceChange present => Sys2Proof.Machine.execVfusePresenceChange present s

end Sys2Proof.Machine
end

