-- ==== Sys2Proof/WellFormed.lean ====
section
/-!
DEFINITION. The commands that can occur: a core instruction's word is one of its row's, and a request, a packet, a flit, a
transaction carries fields of the widths its layout gives it. A meaning is total: it also says what an ill-formed command does.
-/
namespace Sys2Proof

/-- A field of an instruction word with the values that are its row's: bits [hi:lo] within [least, most]. -/
structure RowField where
  hi : Nat
  lo : Nat
  least : Nat
  most : Nat
  deriving DecidableEq, Repr

/-- The word of a core instruction is one of its row: the opcode (07 R165, R173) and the field that picks the operation or the
control register. -/
def wordFits (x : Issue) (opcode : Nat) (fields : List RowField) : Bool :=
  bits x.word.toNat 63 56 == opcode &&
    fields.all fun f => f.least ≤ bits x.word.toNat f.hi f.lo && bits x.word.toNat f.hi f.lo ≤ f.most

/-- The fields of a PDU (14 R329). -/
def Pdu.fits (p : Pdu) : Bool :=
  p.ver < 256 && p.op < 256 && p.seq < 65536 && p.view < 256 && p.flags < 256 && p.die < 65536 && p.index < 65536
    && p.sub < 256 && p.status < 256 && p.len < 65536 && p.crc < 65536 && p.data.length ≤ 1024

/-- The source of a request fits a MAC address, and a relay tag 32 bits (14 R335, R345). -/
def Request.fits (r : Request) : Bool := r.pdu.fits && r.source < 2 ^ 48 && r.tag < 2 ^ 32

/-- A WRITE of an object. -/
def Request.writes (r : Request) (index sub : Nat) : Bool := r.pdu.op == 2 && r.pdu.index == index && r.pdu.sub == sub

/-- The fields of a packet and the longest body (18 R415). -/
def Packet.fits (k : Packet) : Bool :=
  k.dst < 65536 && k.src < 65536 && k.kind < 256 && k.camp < 2 ^ 32 && k.arg < 2 ^ 32 && k.body.length ≤ 8464

/-- The fields of a flit (18 R406). -/
def Flit.fits (f : Flit) : Bool := f.typ < 4 && f.fseq < 4096 && f.ackSeq < 4096 && f.payload.length ≤ 116

/-- A lane codeword carries five flits, its count is modulo 64 (18 R405). -/
def Codeword.fits (w : Codeword) : Bool := w.cwseq < 64 && (!w.decodes || (w.flits.length == 5 && w.flits.all (·.fits)))

/-- What a training can find (18 R404). -/
def PortTraining.fits (t : PortTraining) : Bool := t.lanes ≤ 4 && (t.rate == 1 || t.rate == 2) && t.seat < 65536

/-- What a start stage can find: the fuse array holds 768 physical words, the die has six ports (17 R379, R385). -/
def StageWork.fits (w : StageWork) : Bool :=
  w.fuses.length ≤ 768 && w.fusesAgain.length ≤ 768 && w.hbmPass.all (fun r => [9200, 8000, 6400].contains r) && w.ports.length ≤ 6 && w.ports.all (·.fits)

/-- A 10BASE-T1S frame (14 R339). -/
def T1sFrame.fits (f : T1sFrame) : Bool := f.dst < 2 ^ 48 && f.src < 2 ^ 48 && f.etherType < 65536

/-- The fields of a UCIe packet (11 R278). -/
def UciePacket.fits (h : UciePacket) : Bool :=
  h.part < 64 && h.tag < 1024 && h.status < 8 && h.len < 512 && h.addr < 2 ^ 52 && h.payload.length ≤ 256

/-- The credits of a CRD packet (11 R278). -/
def UcieCredits.fits (c : UcieCredits) : Bool := c.pHdr < 65536 && c.pDat < 65536 && c.npHdr < 65536 && c.cDat < 65536

/-- A command that can occur. -/
def Instr.wf : Instr → Bool
  | .powerOnReset _ => true
  | .emberClockFallback => true
  | .wardenReset => true
  | .wardenRestart => true
  | .deviceReset => true
  | .mainPgRise => true
  | .mainPgFall => true
  | .perstAssert => true
  | .perstDeassert => true
  | .refclkLost => true
  | .deviceStart => true
  | .startStageAdvance w => w.fits
  | .flashImageLoaded img => img.slot < 2
  | .stageTimeout => true
  | .imageWaitTimeout => true
  | .bootComplete => true
  | .wardenWatchdogExpiry => true
  | .bivouacExit r => r.fits && r.writes 0x3000 3
  | .fuseUpdateRequest r => r.fits && r.writes 0x3030 1
  | .fuseProgrammingDone _ => true
  | .nop x => wordFits x 0x00 []
  | .halt x => wordFits x 0x01 []
  | .sync x => wordFits x 0x02 []
  | .tagi x => wordFits x 0x03 []
  | .br x => wordFits x 0x04 []
  | .call x => wordFits x 0x05 []
  | .jr x => wordFits x 0x06 []
  | .loop x => wordFits x 0x07 []
  | .lset x => wordFits x 0x08 []
  | .add x => wordFits x 0x10 []
  | .sub x => wordFits x 0x11 []
  | .mul x => wordFits x 0x12 []
  | .and x => wordFits x 0x13 []
  | .or x => wordFits x 0x14 []
  | .xor x => wordFits x 0x15 []
  | .shl x => wordFits x 0x16 []
  | .shr x => wordFits x 0x17 []
  | .sar x => wordFits x 0x18 []
  | .min x => wordFits x 0x19 []
  | .max x => wordFits x 0x1A []
  | .minu x => wordFits x 0x1B []
  | .maxu x => wordFits x 0x1C []
  | .addi x => wordFits x 0x1D []
  | .movi x => wordFits x 0x1E []
  | .movhi x => wordFits x 0x1F []
  | .cmpeq x => wordFits x 0x20 []
  | .cmpne x => wordFits x 0x21 []
  | .cmplt x => wordFits x 0x22 []
  | .cmpltu x => wordFits x 0x23 []
  | .cmple x => wordFits x 0x24 []
  | .cmpleu x => wordFits x 0x25 []
  | .pand x => wordFits x 0x26 []
  | .por x => wordFits x 0x27 []
  | .pxor x => wordFits x 0x28 []
  | .ld x => wordFits x 0x29 []
  | .st x => wordFits x 0x2A []
  | .crr x => wordFits x 0x2B []
  | .crw x => wordFits x 0x2C []
  | .tld x => wordFits x 0x30 []
  | .tst x => wordFits x 0x31 []
  | .tset x => wordFits x 0x32 []
  | .tget x => wordFits x 0x33 []
  | .mma x => wordFits x 0x40 []
  | .hclr x => wordFits x 0x41 []
  | .hld x => wordFits x 0x42 []
  | .hst x => wordFits x 0x43 []
  | .drn x => wordFits x 0x44 []
  | .swap x => wordFits x 0x45 []
  | .swapComplete _ _ => true
  | .fold x => wordFits x 0x46 []
  | .agopen x => wordFits x 0x47 []
  | .agclose x => wordFits x 0x48 []
  | .agnCfgWrite x => wordFits x 0x2C [⟨39, 28, 0x10, 0x17⟩]
  | .latticePassRetire _ => true
  | .drainRetire _ => true
  | .credHearthSum x => wordFits x 0x49 [⟨24, 22, 0, 0⟩]
  | .credMaximum x => wordFits x 0x49 [⟨24, 22, 1, 1⟩]
  | .credFp64Sum x => wordFits x 0x49 [⟨24, 22, 2, 2⟩]
  | .credVote x => wordFits x 0x49 [⟨24, 22, 3, 3⟩]
  | .credBroadcast x => wordFits x 0x49 [⟨24, 22, 4, 4⟩]
  | .ewMul x => wordFits x 0x50 [⟨27, 24, 0, 0⟩]
  | .ewDiv x => wordFits x 0x50 [⟨27, 24, 1, 1⟩]
  | .ewNeg x => wordFits x 0x50 [⟨27, 24, 2, 2⟩]
  | .ewAbs x => wordFits x 0x50 [⟨27, 24, 3, 3⟩]
  | .ewMax x => wordFits x 0x50 [⟨27, 24, 4, 4⟩]
  | .ewMin x => wordFits x 0x50 [⟨27, 24, 5, 5⟩]
  | .ewCmplt x => wordFits x 0x50 [⟨27, 24, 6, 6⟩]
  | .ewCmpeq x => wordFits x 0x50 [⟨27, 24, 7, 7⟩]
  | .ewCvt x => wordFits x 0x50 [⟨27, 24, 8, 8⟩]
  | .ewRetire _ => true
  | .ladd x => wordFits x 0x58 [⟨27, 22, 0, 0⟩]
  | .lsub x => wordFits x 0x58 [⟨27, 22, 1, 1⟩]
  | .exp x => wordFits x 0x58 [⟨27, 22, 2, 2⟩]
  | .exp2 x => wordFits x 0x58 [⟨27, 22, 3, 3⟩]
  | .expd x => wordFits x 0x58 [⟨27, 22, 4, 4⟩]
  | .ln x => wordFits x 0x58 [⟨27, 22, 5, 5⟩]
  | .log2 x => wordFits x 0x58 [⟨27, 22, 6, 6⟩]
  | .sin x => wordFits x 0x58 [⟨27, 22, 7, 7⟩]
  | .cos x => wordFits x 0x58 [⟨27, 22, 8, 8⟩]
  | .gelu x => wordFits x 0x58 [⟨27, 22, 9, 9⟩]
  | .gelut x => wordFits x 0x58 [⟨27, 22, 0xA, 0xA⟩]
  | .sqrt x => wordFits x 0x58 [⟨27, 22, 0xB, 0xB⟩]
  | .rsqrt x => wordFits x 0x58 [⟨27, 22, 0xC, 0xC⟩]
  | .utn x => wordFits x 0x58 [⟨27, 22, 0x10, 0x1F⟩]
  | .stati x => wordFits x 0x58 [⟨27, 22, 0x20, 0x20⟩]
  | .stat1 x => wordFits x 0x58 [⟨27, 22, 0x21, 0x21⟩]
  | .stat2 x => wordFits x 0x58 [⟨27, 22, 0x22, 0x22⟩]
  | .statq x => wordFits x 0x58 [⟨27, 22, 0x23, 0x23⟩]
  | .statf x => wordFits x 0x58 [⟨27, 22, 0x24, 0x24⟩]
  | .norma x => wordFits x 0x58 [⟨27, 22, 0x25, 0x25⟩]
  | .statr x => wordFits x 0x58 [⟨27, 22, 0x26, 0x26⟩]
  | .statw x => wordFits x 0x58 [⟨27, 22, 0x27, 0x27⟩]
  | .ltload x => wordFits x 0x58 [⟨27, 22, 0x28, 0x28⟩]
  | .lntCfgWrite x => wordFits x 0x2C [⟨39, 28, 3, 3⟩]
  | .lanternRetire _ => true
  | .fvAdd x => wordFits x 0x60 [⟨27, 24, 0, 0⟩]
  | .fvSub x => wordFits x 0x60 [⟨27, 24, 1, 1⟩]
  | .fvMul x => wordFits x 0x60 [⟨27, 24, 2, 2⟩]
  | .fvDiv x => wordFits x 0x60 [⟨27, 24, 3, 3⟩]
  | .fvSqrt x => wordFits x 0x60 [⟨27, 24, 4, 4⟩]
  | .fvFma x => wordFits x 0x60 [⟨27, 24, 5, 5⟩]
  | .fvMax x => wordFits x 0x60 [⟨27, 24, 6, 6⟩]
  | .fvMin x => wordFits x 0x60 [⟨27, 24, 7, 7⟩]
  | .fvCvt x => wordFits x 0x60 [⟨27, 24, 8, 8⟩]
  | .fvSsq x => wordFits x 0x60 [⟨27, 24, 9, 9⟩]
  | .fsAdd x => wordFits x 0x61 [⟨33, 30, 0, 0⟩]
  | .fsSub x => wordFits x 0x61 [⟨33, 30, 1, 1⟩]
  | .fsMul x => wordFits x 0x61 [⟨33, 30, 2, 2⟩]
  | .fsDiv x => wordFits x 0x61 [⟨33, 30, 3, 3⟩]
  | .fsSqrt x => wordFits x 0x61 [⟨33, 30, 4, 4⟩]
  | .fsFma x => wordFits x 0x61 [⟨33, 30, 5, 5⟩]
  | .fsMax x => wordFits x 0x61 [⟨33, 30, 6, 6⟩]
  | .fsMin x => wordFits x 0x61 [⟨33, 30, 7, 7⟩]
  | .fsCvt x => wordFits x 0x61 [⟨33, 30, 8, 8⟩]
  | .fsCmplt x => wordFits x 0x61 [⟨33, 30, 9, 9⟩]
  | .fsCmpeq x => wordFits x 0x61 [⟨33, 30, 0xA, 0xA⟩]
  | .cvti x => wordFits x 0x61 [⟨33, 30, 0xB, 0xB⟩]
  | .cvtf x => wordFits x 0x61 [⟨33, 30, 0xC, 0xC⟩]
  | .ieeeRetire _ => true
  | .shinit x => wordFits x 0x68 []
  | .shobs x => wordFits x 0x69 []
  | .shcmt x => wordFits x 0x6A []
  | .shdsc x => wordFits x 0x6B []
  | .shder x => wordFits x 0x6C []
  | .shderHostDataArrive _ _ => true
  | .shderHostRetry _ => true
  | .shderHostTimeout _ => true
  | .shanc x => wordFits x 0x6D []
  | .shdirWrite x => wordFits x 0x2C [⟨39, 28, 8, 8⟩]
  | .madd x => wordFits x 0x70 [⟨27, 24, 0, 0⟩]
  | .ntt x => wordFits x 0x70 [⟨27, 24, 1, 1⟩]
  | .intt x => wordFits x 0x70 [⟨27, 24, 2, 2⟩]
  | .auto x => wordFits x 0x70 [⟨27, 24, 3, 3⟩]
  | .kgen x => wordFits x 0x70 [⟨27, 24, 4, 4⟩]
  | .abExecutionComplete _ => true
  | .send x => wordFits x 0x78 []
  | .recv x => wordFits x 0x79 []
  | .sclose x => wordFits x 0x7A []
  | .streamMessageArrive _ m => m.ctx < 65536 && m.portA.all (· < 0x8000)
  | .streamCreditArrive _ ctx => ctx < 65536
  | .streamCloseNoticeArrive _ ctx => ctx < 65536
  | .streamWaitTimeout _ => true
  | .claim x => wordFits x 0x80 []
  | .claimRequestArrive _ _ who => who != []
  | .give x => wordFits x 0x81 []
  | .bankOwnGo x => wordFits x 0x2C [⟨39, 28, 0x180, 0x19F⟩]
  | .handoverRequestArrive _ _ => true
  | .handoverBankArrive _ _ => true
  | .handoverAckArrive _ _ => true
  | .handoverTimeout _ _ => true
  | .free x => wordFits x 0x82 []
  | .bankClearDone _ _ => true
  | .pgo x => wordFits x 0x83 []
  | .pwait x => wordFits x 0x84 []
  | .pchGo x => wordFits x 0x2C [⟨39, 28, 0x100, 0x17F⟩]
  | .pchResume x => wordFits x 0x2C [⟨39, 28, 0x100, 0x17F⟩]
  | .pchAbort x => wordFits x 0x2C [⟨39, 28, 0x100, 0x17F⟩]
  | .porterChecksDone _ _ => true
  | .porterReadDataArrive _ _ r => r.data.length ≤ 128 && r.corrected ≤ 4
  | .porterBeat b => b.report.portA.all (· < 0x8000) && b.report.poisoned.length ≤ 3
  | .porterBusError _ _ => true
  | .epb x => wordFits x 0x88 []
  | .epc x => wordFits x 0x89 []
  | .epd x => wordFits x 0x8A []
  | .epochMaskWrite x => wordFits x 0x2C [⟨39, 28, 0xA, 0xB⟩]
  | .scoutAdvance _ => true
  | .scoutCtlWrite x => wordFits x 0x2C [⟨39, 28, 7, 7⟩]
  | .stepnoWrite x => wordFits x 0x2C [⟨39, 28, 0xC, 0xC⟩]
  | .w1cStatusClear x => wordFits x 0x2C []
  | .coreClearingDone _ => true
  | .cmdDbWrite _ _ => true
  | .cplDbWrite _ _ => true
  | .prstGo _ _ => true
  | .vectorControlWrite _ offset _ => 0x1000 ≤ offset && offset < 0x1080
  | .registerWrite _ offset _ => offset < 0x10000
  | .interruptHoldoffExpiry _ => true
  | .commandFetch _ => true
  | .commandFetchComplete _ _ => true
  | .admissionTimeout _ => true
  | .cmdNop _ => true
  | .start _ => true
  | .startComplete _ => true
  | .runBoundExpiry _ => true
  | .coreReset _ => true
  | .preset _ => true
  | .streamOpen _ => true
  | .streamOpenClearDone _ => true
  | .stage _ => true
  | .ctxAcq _ => true
  | .ctxRel _ => true
  | .form r => r.fits && r.writes 0x4100 0xd
  | .formationComplete _ => true
  | .dissolve r => r.fits && r.writes 0x4100 0xf
  | .partitionResetWrite r => r.fits && r.writes 0x4100 0xe
  | .weightWrite r => r.fits && r.writes 0x4010 2
  | .apertureWrite r => r.fits && r.pdu.op == 2 && r.pdu.index == 0xC031
  | .pcieFlrVf _ => true
  | .pcieFlrPf0 => true
  | .pcieVfEnableClear => true
  | .pcieD3hotToD0 _ => true
  | .pcieHotReset => true
  | .pcieConfigRequest _ q => match q.reg with | .other o => o < 4096 && o % 4 == 0 | _ => true
  | .pcieCompletionTimeout _ _ => true
  | .ucieLinkUp width rate cr => cr.fits && (width == 16 || width == 8) && (rate == 4 || rate == 8 || rate == 12 || rate == 16)
  | .ucieHostRd h => h.fits
  | .ucieHostWr h => h.fits
  | .ucieCpld h => h.fits
  | .ucieCpl h => h.fits
  | .ucieCrd cr => cr.fits
  | .ucieCompletionTimeout _ => true
  | .vdFence _ => true
  | .fenceTimeout _ => true
  | .ucieLinkLoss => true
  | .ucieL2ExitRequest => true
  | .hbmScrub found => found.all fun f => f.addr % 8 == 0
  | .hbmUnitClearDone _ => true
  | .read r => r.fits && r.pdu.op == 1
  | .write r => r.fits && r.pdu.op == 2 && !r.writes 0x8300 1
  | .notificationRead r => r.fits && r.pdu.op == 1 && (r.pdu.index == 0x1120 || r.pdu.index == 0x1121) && r.pdu.sub == 1
  | .brinit r => r.fits && r.pdu.op == 3
  | .brseg r => r.fits && r.pdu.op == 4
  | .bwinit r => r.fits && r.pdu.op == 5
  | .bwseg r => r.fits && r.pdu.op == 6
  | .bwend r => r.fits && r.pdu.op == 7
  | .babort r => r.fits && r.pdu.op == 8
  | .discover r => r.fits && r.pdu.op == 9
  | .echo r => r.fits && r.pdu.op == 0xB
  | .notify r => r.fits && r.pdu.op == 0xA
  | .notifyRetryTimeout => true
  | .blockIdleTimeout _ _ => true
  | .t1sFrameReceive f => f.fits
  | .i3cPrivateWrite _ => true
  | .i3cPrivateRead => true
  | .enec _ => true
  | .disec _ => true
  | .rstdaa => true
  | .entdaa _ => true
  | .setdasa _ _ => true
  | .setmwl _ => true
  | .setmrl _ => true
  | .getmwl => true
  | .getmrl => true
  | .getpid => true
  | .getbcr => true
  | .getdcr => true
  | .getstatus => true
  | .mbReq _ => true
  | .mbRspRelease _ => true
  | .mailboxBufferWrite offset _ => 0x2100 ≤ offset && offset < 0x2510
  | .mgmtReq k => k.fits && k.kind == 0x08
  | .mgmtAns k => k.fits && k.kind == 0x09
  | .relayTimeout _ => true
  | .nodeIdWrite r => r.fits && (r.writes 0xD010 1 || r.writes 0xD010 3 || r.writes 0xD010 4)
  | .dutyModeRequest r => r.fits && ([0x5200, 0x5300, 0x5400, 0x5500, 0x5600].any fun i => r.writes i 1)
  | .stepAnswer r => r.fits && r.writes 0x5210 2
  | .stashAnswer r => r.fits && r.writes 0x5310 2
  | .remapAnswer r => r.fits && r.writes 0x5410 2
  | .patrolAnswer r => r.fits && r.writes 0x5510 2
  | .powerAnswer r => r.fits && r.writes 0x5610 2
  | .stepCallTimeout _ => true
  | .stashCallTimeout _ => true
  | .remapCallTimeout => true
  | .patrolCallTimeout => true
  | .powerCallTimeout => true
  | .emberRequest r => r.fits && r.writes 0x2000 1
  | .emberEntryCommit => true
  | .deviceEnterDoze => true
  | .deviceEnterNap => true
  | .deviceWake _ => true
  | .coreEnterNap _ => true
  | .coreWake _ => true
  | .bankUnitGate _ _ => true
  | .powerCapDecision _ => true
  | .powerCapWrite r => r.fits && r.writes 0x2010 1
  | .opChange _ => true
  | .limiterEngage => true
  | .limiterRelease => true
  | .thermalSample readings => readings.length == 16
  | .portRetrain _ t => t.fits
  | .putInUse r => r.fits && r.pdu.op == 2 && 0x7010 ≤ r.pdu.index && r.pdu.index ≤ 0x7015 && r.pdu.sub == 8
  | .codewordReceive _ _ w => w.fits
  | .flitReceive _ f => f.fits
  | .lctl _ f => f.fits && f.typ == 2
  | .flitSlotSend _ => true
  | .flitResendTimeout _ => true
  | .lctlDue _ => true
  | .linkStall _ => true
  | .lockLost _ => true
  | .streamMsg k => k.fits && k.kind == 0x01
  | .streamCred k => k.fits && k.kind == 0x02
  | .streamClose k => k.fits && k.kind == 0x03
  | .canopyUp k => k.fits && k.kind == 0x10
  | .canopyDown _ _ k => match k with | some k => k.fits && k.kind == 0x11 | none => true
  | .reductionTimeout _ _ => true
  | .present k => k.fits && k.kind == 0x18
  | .active k => k.fits && k.kind == 0x19
  | .fault k => k.fits && k.kind == 0x1A
  | .topo k => k.fits && k.kind == 0x1B
  | .remap k => k.fits && k.kind == 0x1C
  | .stashOpen k => k.fits && k.kind == 0x20
  | .stashData k => k.fits && k.kind == 0x21
  | .stashSeal k => k.fits && k.kind == 0x22
  | .stashAck k => k.fits && k.kind == 0x23
  | .stashAckTimeout _ => true
  | .pullReq k => k.fits && k.kind == 0x24
  | .pullData k => k.fits && k.kind == 0x25
  | .startRecovery r => r.fits && r.writes 0x8400 8
  | .settleTimeout _ => true
  | .recoverQuery k => k.fits && k.kind == 0x26
  | .recoverReport k => k.fits && k.kind == 0x27
  | .reportTimeout _ => true
  | .resume k => k.fits && k.kind == 0x28
  | .resumeDone k => k.fits && k.kind == 0x29
  | .restoreFromRecord r _ => r.fits && r.writes 0x8300 1
  | .trapArmWrite r => r.fits && r.writes 0x6020 1
  | .patrolSliceStart => true
  | .patrolSliceEnd found => found.all fun u => u.block < 256
  | .bypass => true
  | .idcode => true
  | .samplePreload => true
  | .extest => true
  | .extestPulse => true
  | .extestTrain => true
  | .dbgAccess => true
  | .napEntryCommit => true
  | .hearthClearDone _ _ => true
  | .stageCopyComplete _ _ => true
  | .pcieLinkUp _ _ => true
  | .vfusePresenceChange _ => true

/-- The words of a core instruction row: its opcode and the fields that pick it (07 R165, R173, R178, R185–R190, 21 R482). -/
def Instr.row : Instr → Option (Issue × Nat × List RowField)
  | .powerOnReset _ => none
  | .emberClockFallback => none
  | .wardenReset => none
  | .wardenRestart => none
  | .deviceReset => none
  | .mainPgRise => none
  | .mainPgFall => none
  | .perstAssert => none
  | .perstDeassert => none
  | .refclkLost => none
  | .deviceStart => none
  | .startStageAdvance _ => none
  | .flashImageLoaded _ => none
  | .stageTimeout => none
  | .imageWaitTimeout => none
  | .bootComplete => none
  | .wardenWatchdogExpiry => none
  | .bivouacExit _ => none
  | .fuseUpdateRequest _ => none
  | .fuseProgrammingDone _ => none
  | .nop x => some (x, 0x00, [])
  | .halt x => some (x, 0x01, [])
  | .sync x => some (x, 0x02, [])
  | .tagi x => some (x, 0x03, [])
  | .br x => some (x, 0x04, [])
  | .call x => some (x, 0x05, [])
  | .jr x => some (x, 0x06, [])
  | .loop x => some (x, 0x07, [])
  | .lset x => some (x, 0x08, [])
  | .add x => some (x, 0x10, [])
  | .sub x => some (x, 0x11, [])
  | .mul x => some (x, 0x12, [])
  | .and x => some (x, 0x13, [])
  | .or x => some (x, 0x14, [])
  | .xor x => some (x, 0x15, [])
  | .shl x => some (x, 0x16, [])
  | .shr x => some (x, 0x17, [])
  | .sar x => some (x, 0x18, [])
  | .min x => some (x, 0x19, [])
  | .max x => some (x, 0x1A, [])
  | .minu x => some (x, 0x1B, [])
  | .maxu x => some (x, 0x1C, [])
  | .addi x => some (x, 0x1D, [])
  | .movi x => some (x, 0x1E, [])
  | .movhi x => some (x, 0x1F, [])
  | .cmpeq x => some (x, 0x20, [])
  | .cmpne x => some (x, 0x21, [])
  | .cmplt x => some (x, 0x22, [])
  | .cmpltu x => some (x, 0x23, [])
  | .cmple x => some (x, 0x24, [])
  | .cmpleu x => some (x, 0x25, [])
  | .pand x => some (x, 0x26, [])
  | .por x => some (x, 0x27, [])
  | .pxor x => some (x, 0x28, [])
  | .ld x => some (x, 0x29, [])
  | .st x => some (x, 0x2A, [])
  | .crr x => some (x, 0x2B, [])
  | .crw x => some (x, 0x2C, [])
  | .tld x => some (x, 0x30, [])
  | .tst x => some (x, 0x31, [])
  | .tset x => some (x, 0x32, [])
  | .tget x => some (x, 0x33, [])
  | .mma x => some (x, 0x40, [])
  | .hclr x => some (x, 0x41, [])
  | .hld x => some (x, 0x42, [])
  | .hst x => some (x, 0x43, [])
  | .drn x => some (x, 0x44, [])
  | .swap x => some (x, 0x45, [])
  | .swapComplete _ _ => none
  | .fold x => some (x, 0x46, [])
  | .agopen x => some (x, 0x47, [])
  | .agclose x => some (x, 0x48, [])
  | .agnCfgWrite x => some (x, 0x2C, [⟨39, 28, 0x10, 0x17⟩])
  | .latticePassRetire _ => none
  | .drainRetire _ => none
  | .credHearthSum x => some (x, 0x49, [⟨24, 22, 0, 0⟩])
  | .credMaximum x => some (x, 0x49, [⟨24, 22, 1, 1⟩])
  | .credFp64Sum x => some (x, 0x49, [⟨24, 22, 2, 2⟩])
  | .credVote x => some (x, 0x49, [⟨24, 22, 3, 3⟩])
  | .credBroadcast x => some (x, 0x49, [⟨24, 22, 4, 4⟩])
  | .ewMul x => some (x, 0x50, [⟨27, 24, 0, 0⟩])
  | .ewDiv x => some (x, 0x50, [⟨27, 24, 1, 1⟩])
  | .ewNeg x => some (x, 0x50, [⟨27, 24, 2, 2⟩])
  | .ewAbs x => some (x, 0x50, [⟨27, 24, 3, 3⟩])
  | .ewMax x => some (x, 0x50, [⟨27, 24, 4, 4⟩])
  | .ewMin x => some (x, 0x50, [⟨27, 24, 5, 5⟩])
  | .ewCmplt x => some (x, 0x50, [⟨27, 24, 6, 6⟩])
  | .ewCmpeq x => some (x, 0x50, [⟨27, 24, 7, 7⟩])
  | .ewCvt x => some (x, 0x50, [⟨27, 24, 8, 8⟩])
  | .ewRetire _ => none
  | .ladd x => some (x, 0x58, [⟨27, 22, 0, 0⟩])
  | .lsub x => some (x, 0x58, [⟨27, 22, 1, 1⟩])
  | .exp x => some (x, 0x58, [⟨27, 22, 2, 2⟩])
  | .exp2 x => some (x, 0x58, [⟨27, 22, 3, 3⟩])
  | .expd x => some (x, 0x58, [⟨27, 22, 4, 4⟩])
  | .ln x => some (x, 0x58, [⟨27, 22, 5, 5⟩])
  | .log2 x => some (x, 0x58, [⟨27, 22, 6, 6⟩])
  | .sin x => some (x, 0x58, [⟨27, 22, 7, 7⟩])
  | .cos x => some (x, 0x58, [⟨27, 22, 8, 8⟩])
  | .gelu x => some (x, 0x58, [⟨27, 22, 9, 9⟩])
  | .gelut x => some (x, 0x58, [⟨27, 22, 0xA, 0xA⟩])
  | .sqrt x => some (x, 0x58, [⟨27, 22, 0xB, 0xB⟩])
  | .rsqrt x => some (x, 0x58, [⟨27, 22, 0xC, 0xC⟩])
  | .utn x => some (x, 0x58, [⟨27, 22, 0x10, 0x1F⟩])
  | .stati x => some (x, 0x58, [⟨27, 22, 0x20, 0x20⟩])
  | .stat1 x => some (x, 0x58, [⟨27, 22, 0x21, 0x21⟩])
  | .stat2 x => some (x, 0x58, [⟨27, 22, 0x22, 0x22⟩])
  | .statq x => some (x, 0x58, [⟨27, 22, 0x23, 0x23⟩])
  | .statf x => some (x, 0x58, [⟨27, 22, 0x24, 0x24⟩])
  | .norma x => some (x, 0x58, [⟨27, 22, 0x25, 0x25⟩])
  | .statr x => some (x, 0x58, [⟨27, 22, 0x26, 0x26⟩])
  | .statw x => some (x, 0x58, [⟨27, 22, 0x27, 0x27⟩])
  | .ltload x => some (x, 0x58, [⟨27, 22, 0x28, 0x28⟩])
  | .lntCfgWrite x => some (x, 0x2C, [⟨39, 28, 3, 3⟩])
  | .lanternRetire _ => none
  | .fvAdd x => some (x, 0x60, [⟨27, 24, 0, 0⟩])
  | .fvSub x => some (x, 0x60, [⟨27, 24, 1, 1⟩])
  | .fvMul x => some (x, 0x60, [⟨27, 24, 2, 2⟩])
  | .fvDiv x => some (x, 0x60, [⟨27, 24, 3, 3⟩])
  | .fvSqrt x => some (x, 0x60, [⟨27, 24, 4, 4⟩])
  | .fvFma x => some (x, 0x60, [⟨27, 24, 5, 5⟩])
  | .fvMax x => some (x, 0x60, [⟨27, 24, 6, 6⟩])
  | .fvMin x => some (x, 0x60, [⟨27, 24, 7, 7⟩])
  | .fvCvt x => some (x, 0x60, [⟨27, 24, 8, 8⟩])
  | .fvSsq x => some (x, 0x60, [⟨27, 24, 9, 9⟩])
  | .fsAdd x => some (x, 0x61, [⟨33, 30, 0, 0⟩])
  | .fsSub x => some (x, 0x61, [⟨33, 30, 1, 1⟩])
  | .fsMul x => some (x, 0x61, [⟨33, 30, 2, 2⟩])
  | .fsDiv x => some (x, 0x61, [⟨33, 30, 3, 3⟩])
  | .fsSqrt x => some (x, 0x61, [⟨33, 30, 4, 4⟩])
  | .fsFma x => some (x, 0x61, [⟨33, 30, 5, 5⟩])
  | .fsMax x => some (x, 0x61, [⟨33, 30, 6, 6⟩])
  | .fsMin x => some (x, 0x61, [⟨33, 30, 7, 7⟩])
  | .fsCvt x => some (x, 0x61, [⟨33, 30, 8, 8⟩])
  | .fsCmplt x => some (x, 0x61, [⟨33, 30, 9, 9⟩])
  | .fsCmpeq x => some (x, 0x61, [⟨33, 30, 0xA, 0xA⟩])
  | .cvti x => some (x, 0x61, [⟨33, 30, 0xB, 0xB⟩])
  | .cvtf x => some (x, 0x61, [⟨33, 30, 0xC, 0xC⟩])
  | .ieeeRetire _ => none
  | .shinit x => some (x, 0x68, [])
  | .shobs x => some (x, 0x69, [])
  | .shcmt x => some (x, 0x6A, [])
  | .shdsc x => some (x, 0x6B, [])
  | .shder x => some (x, 0x6C, [])
  | .shderHostDataArrive _ _ => none
  | .shderHostRetry _ => none
  | .shderHostTimeout _ => none
  | .shanc x => some (x, 0x6D, [])
  | .shdirWrite x => some (x, 0x2C, [⟨39, 28, 8, 8⟩])
  | .madd x => some (x, 0x70, [⟨27, 24, 0, 0⟩])
  | .ntt x => some (x, 0x70, [⟨27, 24, 1, 1⟩])
  | .intt x => some (x, 0x70, [⟨27, 24, 2, 2⟩])
  | .auto x => some (x, 0x70, [⟨27, 24, 3, 3⟩])
  | .kgen x => some (x, 0x70, [⟨27, 24, 4, 4⟩])
  | .abExecutionComplete _ => none
  | .send x => some (x, 0x78, [])
  | .recv x => some (x, 0x79, [])
  | .sclose x => some (x, 0x7A, [])
  | .streamMessageArrive _ _ => none
  | .streamCreditArrive _ _ => none
  | .streamCloseNoticeArrive _ _ => none
  | .streamWaitTimeout _ => none
  | .claim x => some (x, 0x80, [])
  | .claimRequestArrive _ _ _ => none
  | .give x => some (x, 0x81, [])
  | .bankOwnGo x => some (x, 0x2C, [⟨39, 28, 0x180, 0x19F⟩])
  | .handoverRequestArrive _ _ => none
  | .handoverBankArrive _ _ => none
  | .handoverAckArrive _ _ => none
  | .handoverTimeout _ _ => none
  | .free x => some (x, 0x82, [])
  | .bankClearDone _ _ => none
  | .pgo x => some (x, 0x83, [])
  | .pwait x => some (x, 0x84, [])
  | .pchGo x => some (x, 0x2C, [⟨39, 28, 0x100, 0x17F⟩])
  | .pchResume x => some (x, 0x2C, [⟨39, 28, 0x100, 0x17F⟩])
  | .pchAbort x => some (x, 0x2C, [⟨39, 28, 0x100, 0x17F⟩])
  | .porterChecksDone _ _ => none
  | .porterReadDataArrive _ _ _ => none
  | .porterBeat _ => none
  | .porterBusError _ _ => none
  | .epb x => some (x, 0x88, [])
  | .epc x => some (x, 0x89, [])
  | .epd x => some (x, 0x8A, [])
  | .epochMaskWrite x => some (x, 0x2C, [⟨39, 28, 0xA, 0xB⟩])
  | .scoutAdvance _ => none
  | .scoutCtlWrite x => some (x, 0x2C, [⟨39, 28, 7, 7⟩])
  | .stepnoWrite x => some (x, 0x2C, [⟨39, 28, 0xC, 0xC⟩])
  | .w1cStatusClear x => some (x, 0x2C, [])
  | .coreClearingDone _ => none
  | .cmdDbWrite _ _ => none
  | .cplDbWrite _ _ => none
  | .prstGo _ _ => none
  | .vectorControlWrite _ _ _ => none
  | .registerWrite _ _ _ => none
  | .interruptHoldoffExpiry _ => none
  | .commandFetch _ => none
  | .commandFetchComplete _ _ => none
  | .admissionTimeout _ => none
  | .cmdNop _ => none
  | .start _ => none
  | .startComplete _ => none
  | .runBoundExpiry _ => none
  | .coreReset _ => none
  | .preset _ => none
  | .streamOpen _ => none
  | .streamOpenClearDone _ => none
  | .stage _ => none
  | .ctxAcq _ => none
  | .ctxRel _ => none
  | .form _ => none
  | .formationComplete _ => none
  | .dissolve _ => none
  | .partitionResetWrite _ => none
  | .weightWrite _ => none
  | .apertureWrite _ => none
  | .pcieFlrVf _ => none
  | .pcieFlrPf0 => none
  | .pcieVfEnableClear => none
  | .pcieD3hotToD0 _ => none
  | .pcieHotReset => none
  | .pcieConfigRequest _ _ => none
  | .pcieCompletionTimeout _ _ => none
  | .ucieLinkUp _ _ _ => none
  | .ucieHostRd _ => none
  | .ucieHostWr _ => none
  | .ucieCpld _ => none
  | .ucieCpl _ => none
  | .ucieCrd _ => none
  | .ucieCompletionTimeout _ => none
  | .vdFence _ => none
  | .fenceTimeout _ => none
  | .ucieLinkLoss => none
  | .ucieL2ExitRequest => none
  | .hbmScrub _ => none
  | .hbmUnitClearDone _ => none
  | .read _ => none
  | .write _ => none
  | .notificationRead _ => none
  | .brinit _ => none
  | .brseg _ => none
  | .bwinit _ => none
  | .bwseg _ => none
  | .bwend _ => none
  | .babort _ => none
  | .discover _ => none
  | .echo _ => none
  | .notify _ => none
  | .notifyRetryTimeout => none
  | .blockIdleTimeout _ _ => none
  | .t1sFrameReceive _ => none
  | .i3cPrivateWrite _ => none
  | .i3cPrivateRead => none
  | .enec _ => none
  | .disec _ => none
  | .rstdaa => none
  | .entdaa _ => none
  | .setdasa _ _ => none
  | .setmwl _ => none
  | .setmrl _ => none
  | .getmwl => none
  | .getmrl => none
  | .getpid => none
  | .getbcr => none
  | .getdcr => none
  | .getstatus => none
  | .mbReq _ => none
  | .mbRspRelease _ => none
  | .mailboxBufferWrite _ _ => none
  | .mgmtReq _ => none
  | .mgmtAns _ => none
  | .relayTimeout _ => none
  | .nodeIdWrite _ => none
  | .dutyModeRequest _ => none
  | .stepAnswer _ => none
  | .stashAnswer _ => none
  | .remapAnswer _ => none
  | .patrolAnswer _ => none
  | .powerAnswer _ => none
  | .stepCallTimeout _ => none
  | .stashCallTimeout _ => none
  | .remapCallTimeout => none
  | .patrolCallTimeout => none
  | .powerCallTimeout => none
  | .emberRequest _ => none
  | .emberEntryCommit => none
  | .deviceEnterDoze => none
  | .deviceEnterNap => none
  | .deviceWake _ => none
  | .coreEnterNap _ => none
  | .coreWake _ => none
  | .bankUnitGate _ _ => none
  | .powerCapDecision _ => none
  | .powerCapWrite _ => none
  | .opChange _ => none
  | .limiterEngage => none
  | .limiterRelease => none
  | .thermalSample _ => none
  | .portRetrain _ _ => none
  | .putInUse _ => none
  | .codewordReceive _ _ _ => none
  | .flitReceive _ _ => none
  | .lctl _ _ => none
  | .flitSlotSend _ => none
  | .flitResendTimeout _ => none
  | .lctlDue _ => none
  | .linkStall _ => none
  | .lockLost _ => none
  | .streamMsg _ => none
  | .streamCred _ => none
  | .streamClose _ => none
  | .canopyUp _ => none
  | .canopyDown _ _ _ => none
  | .reductionTimeout _ _ => none
  | .present _ => none
  | .active _ => none
  | .fault _ => none
  | .topo _ => none
  | .remap _ => none
  | .stashOpen _ => none
  | .stashData _ => none
  | .stashSeal _ => none
  | .stashAck _ => none
  | .stashAckTimeout _ => none
  | .pullReq _ => none
  | .pullData _ => none
  | .startRecovery _ => none
  | .settleTimeout _ => none
  | .recoverQuery _ => none
  | .recoverReport _ => none
  | .reportTimeout _ => none
  | .resume _ => none
  | .resumeDone _ => none
  | .restoreFromRecord _ _ => none
  | .trapArmWrite _ => none
  | .patrolSliceStart => none
  | .patrolSliceEnd _ => none
  | .bypass => none
  | .idcode => none
  | .samplePreload => none
  | .extest => none
  | .extestPulse => none
  | .extestTrain => none
  | .dbgAccess => none
  | .napEntryCommit => none
  | .hearthClearDone _ _ => none
  | .stageCopyComplete _ _ => none
  | .pcieLinkUp _ _ => none
  | .vfusePresenceChange _ => none

end Sys2Proof
end

