-- ==== Sys2Proof/Safety.lean ====
section
/-!
DEFINITION. What counts as a safe run of the block, in the terms its statements use: a step that answers a next state, and
the canonical form of everything that is kept as a sparse table.
-/
namespace Sys2Proof.Machine

/-- The command answers a next state: it stops the block neither with a fault nor with a refusal. -/
def Runs (i : Instr) (s : State) : Prop := ∃ t, exec i s = .next t

/-- The sequencer of a core has a running program, nothing holds it back, and the word's ECC is clean (06 R142, R144, 16 R363). -/
def Sequences (x : Issue) (s : State) : Prop :=
  let k := s.core x.core
  k.mode = .running ∧ k.wait = none ∧ k.epoch.discarding = false ∧ k.power.held = false ∧ k.power.state = 0 ∧ x.ecc = .clean

/-- A word of an opcode issues and executes: the sequencer runs, the word's predicate is ready and holds (06 R145; 07 R165–R168). -/
def Issues (x : Issue) (s : State) (opc : Nat) : Prop :=
  Sequences x s ∧ opcOf x.word.toNat = opc
    ∧ s.unready x.core [48 + bits x.word.toNat 55 53] = false ∧ (s.core x.core).executes x.word.toNat = true

/-- The state after an instruction has written its destination D and the program has moved on (07 R171). -/
def wrote (x : Issue) (s : State) (v : W64) : State :=
  (s.modCore x.core fun k => k.setReg (fD x.word.toNat) v).advance x.core

/-- The instruction issues into a unit (06 R145, R146): one operation enters behind those in flight, with the instruction's PC and tag,
and the program moves on; what the operation writes appears when it retires. -/
def Launches (i : Instr) (x : Issue) (s : State) (u : ExecUnit) (p : InFlight → Prop) : Prop :=
  ∃ op, exec i s = .next ((s.launch x.core op).advance x.core) ∧ op.unit = u ∧ op.pc = (s.core x.core).pc
    ∧ op.tag = (s.core x.core).tag ∧ p op

/-- The operands and areas of an instruction pass every check, no earlier operation or open epoch holds them back, and the unit has
room (06 R145, R146, R149, R156). -/
def UnitReady (s : State) (c : CoreId) (u : ExecUnit) (ops : List Operand) (areas : List Area) (placeOk : Bool) : Prop :=
  s.checkOperands c ops areas placeOk = .ok ∧ (s.core c).blocked (allRanges ops areas) (writtenRanges ops areas) = false
    ∧ (s.core c).unitFull u = false ∧ scaleFault ops = none

/-- Every sparse table of the state is in its canonical form: memory, the object store, the banks, the contexts, the
configuration registers, the owners of HBM3E units, the mailbox request buffer, the fuse words. -/
def State.canonical (s : State) : Bool :=
  tabWf 0 s.mem && tabWf 0 s.objs && tabWf .lent s.banks && tabWf .reset s.ctxs && tabWf 0 s.attach.cfg && tabWf 0 s.hbm.owner
    && tabWf 0 s.warden.mbRequest && tabWf 0 s.boot.fuses && tabWf 0 s.boot.array

/-- Predicate register p0 reads 1 on every core (06 R140). -/
def State.p0Reads1 (s : State) : Bool := s.cores.toList.all fun k => k.preg[0]

/-- A state that the rules allow at any time: the tables canonical, p0 reading 1. -/
def State.Safe (s : State) : Prop := s.canonical = true ∧ s.p0Reads1 = true

end Sys2Proof.Machine
end

