-- ==== Sys2Proof/Certificates/Slice0/Obligations.lean ====
section
/-!
DEFINITION. The statements about the machine, for the provers.
-/
open Sys2Proof Sys2Proof.Machine

/-! ## The queue and the state after reset -/

/-- Every command is taken from the front of the queue and acts on the state with the rest of the queue. -/
def Obligations.StepRunsFront : Prop :=
  ∀ (c : Instr) (rest : List Instr) (s : State),
    step { s with pending := c :: rest } = exec c { s with pending := rest }

/-- The model's choice (log 1): on an empty queue one Ember tick edge passes: the tick count of obj 2000.09 goes up by one modulo
2^64, the coalescing window of events closes, and nothing of cores, memory, banks, links or the fabric changes. -/
def Obligations.EmptyQueueTick : Prop :=
  ∀ s : State, s.pending = [] → ∃ t, step s = .next t ∧ t.tick = (s.tick + 1) % 2 ^ 64 ∧ t.faults.now = []
    ∧ t.cores = s.cores ∧ t.mem = s.mem ∧ t.banks = s.banks ∧ t.ctxs = s.ctxs ∧ t.links = s.links ∧ t.fabric = s.fabric
    ∧ t.canopy = s.canopy ∧ t.pins = s.pins ∧ t.boot = s.boot ∧ t.power = { s.power with edgeHeld := t.power.edgeHeld } ∧ t.delivery = s.delivery

/-- What power-on reset leaves (06 R140, R163; 08 R216; 12 R291; 16 R363; 17 R380): no core has a partition, every core is OFF with
its registers 0 and p0 = 1, memory reads 0 (log 3), every partition is UNFORMED, no link is up, a start is due; every sparse table is canonical. -/
def Obligations.ResetState : Prop :=
  let s := State.reset
  (∀ c : CoreId, (s.core c).part = none ∧ (s.core c).mode = .off ∧ (s.core c).power.state = 3 ∧ (s.core c).pc = 0
      ∧ (∀ r, r < 60 → r ≠ 48 → (s.core c).reg r = 0) ∧ (s.core c).reg 48 = 1 ∧ (s.core c).frec = 0xF000000000000000)
    ∧ (∀ a, memByte s.mem a = 0) ∧ (∀ n : PartId, s.partState n = 0) ∧ s.linkUp = false ∧ s.boot.due = true
    ∧ s.boot.running = false ∧ s.tick = 0 ∧ s.pending = [] ∧ s.out = [] ∧ s.Safe

/-- No command stops the block: from every state a step answers a next state. -/
def Obligations.StepAlwaysRuns : Prop := ∀ s : State, ∃ t, step s = .next t

/-! ## Registers and the issue of core instructions -/

/-- Reading a register after writing it (06 R140; 07 R170): s and a registers take 64 bits, a predicate bit 0, a loop counter
bits 31:0; a write to p0 is ignored; every other register keeps its value. -/
def Obligations.RegisterWrite : Prop :=
  ∀ (k : Core) (d : Nat) (v : W64), d < 60 →
    (d < 48 → (k.setReg d v).reg d = v)
    ∧ (48 < d → d < 56 → (k.setReg d v).reg d = if v.getLsbD 0 then 1 else 0)
    ∧ (56 ≤ d → (k.setReg d v).reg d = (v.truncate 32).zeroExtend 64)
    ∧ k.setReg 48 v = k
    ∧ ∀ r, r < 60 → r ≠ d → (k.setReg d v).reg r = k.reg r

/-- What the sequencer does with an offered word before and after its body acts (06 R142, R144, R158; 07 R168, R169; 16 R363).
- A core that does not run, that waits in SEND or RECV, whose epoch is discarding, or whose domain is held or unpowered, issues
nothing: the offered instruction changes no state (06 R144; 16 R363).
- A word with two flipped bits raises PROG_ECC, and a word of another opcode than its row's ILL_OP (06 R142, R158; log 23).
- An instruction whose predicate does not hold has no effect but the move of the PC, unless its word is illegal (07 R168, R169).
- Where a core's program goes on (06 R142): below word 16,383 the PC moves to the next word; with no Scout under way nothing else
of the state changes but the model's count of issued instructions (log 120). Past the last word a running core takes ILL_PC (log 22). -/
def Obligations.SequencerRules : Prop :=
  ( ∀ (i : Instr) (x : Issue) (opc : Nat) (fields : List RowField) (s : State), i.row = some (x, opc, fields) →
    ((s.core x.core).mode ≠ .running ∨ (s.core x.core).wait.isSome = true ∨ (s.core x.core).epoch.discarding = true
      ∨ (s.core x.core).power.held = true ∨ (s.core x.core).power.state ≠ 0) →
    exec i s = .next s)
  ∧
  ( ∀ (i : Instr) (x : Issue) (opc : Nat) (fields : List RowField) (s : State), i.row = some (x, opc, fields) →
    (s.core x.core).mode = .running → (s.core x.core).wait = none → (s.core x.core).epoch.discarding = false →
    (s.core x.core).power.held = false → (s.core x.core).power.state = 0 →
    (x.ecc = .double → exec i s = .next (s.takeFault x.core progEcc))
    ∧ (x.ecc = .clean → opcOf x.word.toNat ≠ opc → exec i s = .next (s.takeFault x.core illOp)))
  ∧
  ( ∀ (i : Instr) (x : Issue) (opc : Nat) (fields : List RowField) (s : State), i.row = some (x, opc, fields) →
    Sequences x s → opcOf x.word.toNat = opc → s.unready x.core [48 + bits x.word.toNat 55 53] = false →
    (s.core x.core).executes x.word.toNat = false →
    exec i s = .next (s.advance x.core) ∨ exec i s = .next (s.takeFault x.core illField))
  ∧
  ( ∀ (s : State) (c : CoreId), (s.core c).mode = .running →
    ((s.core c).pc + 1 < 16384 →
      ((s.advance c).core c).pc = (s.core c).pc + 1
      ∧ ((s.core c).scout.running = false → s.advance c = s.modCore c fun k => { k with pc := k.pc + 1, issued := k.issued + 1 }))
    ∧ (16384 ≤ (s.core c).pc + 1 → s.advance c = s.takeFault c illPc))

/-! ## Control and scalar instructions (07 R174, R175) -/

/-- The scalar instructions (07 R175).
- The scalar operations over two registers: D takes A op B over 64 bits (07 R175).
- The immediates: ADDI adds the sign-extended IMM40, MOVI writes the sign-extended IMM46, MOVHI writes D[63:46] (07 R175).
- The compares write 1 or 0, signed or unsigned (07 R175).
- Predicate logic over predicates only (07 R175). -/
def Obligations.ScalarInstructions : Prop :=
  ( ∀ (x : Issue) (s : State), formSDAB x.word.toNat = none →
    s.unready x.core [fD x.word.toNat, fA x.word.toNat, fB x.word.toNat] = false →
    let a := (s.core x.core).reg (fA x.word.toNat)
    let b := (s.core x.core).reg (fB x.word.toNat)
    (Issues x s 0x10 → exec (.add x) s = .next (wrote x s (BitVec.ofNat 64 (a.toNat + b.toNat))))
    ∧ (Issues x s 0x11 → exec (.sub x) s = .next (wrote x s (BitVec.ofInt 64 (a.toNat - b.toNat))))
    ∧ (Issues x s 0x12 → exec (.mul x) s = .next (wrote x s (BitVec.ofNat 64 (a.toNat * b.toNat))))
    ∧ (Issues x s 0x13 → exec (.and x) s = .next (wrote x s (a &&& b)))
    ∧ (Issues x s 0x14 → exec (.or x) s = .next (wrote x s (a ||| b)))
    ∧ (Issues x s 0x15 → exec (.xor x) s = .next (wrote x s (a ^^^ b)))
    ∧ (Issues x s 0x16 → exec (.shl x) s = .next (wrote x s (BitVec.ofNat 64 (a.toNat * 2 ^ (b.toNat % 64)))))
    ∧ (Issues x s 0x17 → exec (.shr x) s = .next (wrote x s (BitVec.ofNat 64 (a.toNat / 2 ^ (b.toNat % 64)))))
    ∧ (Issues x s 0x18 → exec (.sar x) s = .next (wrote x s (BitVec.ofInt 64 (a.toInt / 2 ^ (b.toNat % 64)))))
    ∧ (Issues x s 0x19 → exec (.min x) s = .next (wrote x s (if b.toInt < a.toInt then b else a)))
    ∧ (Issues x s 0x1A → exec (.max x) s = .next (wrote x s (if a.toInt < b.toInt then b else a)))
    ∧ (Issues x s 0x1B → exec (.minu x) s = .next (wrote x s (if b.toNat < a.toNat then b else a)))
    ∧ (Issues x s 0x1C → exec (.maxu x) s = .next (wrote x s (if a.toNat < b.toNat then b else a))))
  ∧
  ( ∀ (x : Issue) (s : State), isReg (fD x.word.toNat) = true →
    let k := s.core x.core
    let w := x.word.toNat
    (Issues x s 0x1D → isReg (fA w) = true → s.unready x.core [fD w, fA w] = false →
      exec (.addi x) s = .next (wrote x s (k.reg (fA w) + BitVec.ofInt 64 (signed 40 w))))
    ∧ (Issues x s 0x1E → s.unready x.core [fD w] = false →
      exec (.movi x) s = .next (wrote x s (BitVec.ofInt 64 (signed 46 w))))
    ∧ (Issues x s 0x1F → bits w 45 18 = 0 → s.unready x.core [fD w] = false →
      ∃ v : W64, exec (.movhi x) s = .next (wrote x s v) ∧ v.toNat / 2 ^ 46 = bits w 17 0 ∧ v.toNat % 2 ^ 46 = (k.reg (fD w)).toNat % 2 ^ 46))
  ∧
  ( ∀ (x : Issue) (s : State), formSDAB x.word.toNat = none →
    s.unready x.core [fD x.word.toNat, fA x.word.toNat, fB x.word.toNat] = false →
    let a := (s.core x.core).reg (fA x.word.toNat)
    let b := (s.core x.core).reg (fB x.word.toNat)
    (Issues x s 0x20 → exec (.cmpeq x) s = .next (wrote x s (if a = b then 1 else 0)))
    ∧ (Issues x s 0x21 → exec (.cmpne x) s = .next (wrote x s (if a = b then 0 else 1)))
    ∧ (Issues x s 0x22 → exec (.cmplt x) s = .next (wrote x s (if a.toInt < b.toInt then 1 else 0)))
    ∧ (Issues x s 0x23 → exec (.cmpltu x) s = .next (wrote x s (if a.toNat < b.toNat then 1 else 0)))
    ∧ (Issues x s 0x24 → exec (.cmple x) s = .next (wrote x s (if a.toInt ≤ b.toInt then 1 else 0)))
    ∧ (Issues x s 0x25 → exec (.cmpleu x) s = .next (wrote x s (if a.toNat ≤ b.toNat then 1 else 0))))
  ∧
  ( ∀ (x : Issue) (s : State),
    isPred (fD x.word.toNat) = true → isPred (fA x.word.toNat) = true → isPred (fB x.word.toNat) = true →
    bits x.word.toNat 33 0 = 0 → s.unready x.core [fD x.word.toNat, fA x.word.toNat, fB x.word.toNat] = false →
    let p (r : Nat) : Bool := (s.core x.core).preg[Fin.ofNat 8 (r - 48)]
    let a := p (fA x.word.toNat)
    let b := p (fB x.word.toNat)
    let bit (v : Bool) : W64 := if v then 1 else 0
    (Issues x s 0x26 → exec (.pand x) s = .next (wrote x s (bit (a && b))))
    ∧ (Issues x s 0x27 → exec (.por x) s = .next (wrote x s (bit (a || b))))
    ∧ (Issues x s 0x28 → exec (.pxor x) s = .next (wrote x s (bit (a != b)))))

/-- The control instructions (07 R174).
- NOP, TAGI, HALT, SYNC and LSET (07 R174). HALT and SYNC act once every earlier instruction has retired.
- Branches (07 R174): BR and CALL go to TARGET, CALL writes the next PC to D, JR goes to A, LOOP counts down and branches while the
counter stays nonzero. -/
def Obligations.ControlInstructions : Prop :=
  ( ∀ (x : Issue) (s : State),
    let c := x.core
    let w := x.word.toNat
    (Issues x s 0x00 → bits w 51 0 = 0 → exec (.nop x) s = .next (s.advance c))
    ∧ (Issues x s 0x01 → bits w 51 0 = 0 → s.allRetired c = true → (s.core c).pc + 1 < 16384 →
        ∃ t : State, exec (.halt x) s = .next t ∧ (t.core c).mode = .halted ∧ (t.core c).pc = (s.core c).pc + 1 ∧ t.mem = s.mem)
    ∧ (Issues x s 0x02 → bits w 51 1 = 0 → s.allRetired c = true → (bitOf w 0 = true → (s.core c).porterActive = false) →
        exec (.sync x) s = .next (s.advance c))
    ∧ (Issues x s 0x03 → fD w = 0 → bits w 45 16 = 0 →
        exec (.tagi x) s = .next ((s.modCore c fun k => { k with tag := BitVec.ofNat 16 (bits w 15 0) }).advance c))
    ∧ (Issues x s 0x08 → 56 ≤ fD w → fD w < 60 → isReg (fA w) = true → s.unready c [fD w, fA w] = false →
        exec (.lset x) s = .next (wrote x s ((s.core c).reg (fA w) + BitVec.ofInt 64 (signed 40 w)))))
  ∧
  ( ∀ (x : Issue) (s : State),
    let c := x.core
    let w := x.word.toNat
    let k := s.core c
    (Issues x s 0x04 → fD w = 0 → bits w 45 44 = 0 → bits w 42 14 = 0 → exec (.br x) s = .next (s.goto c (bits w 13 0)))
    ∧ (Issues x s 0x05 → isReg (fD w) = true → bits w 45 14 = 0 → s.unready c [fD w] = false →
        exec (.call x) s = .next ((s.modCore c fun q => q.setReg (fD w) (BitVec.ofNat 64 (k.pc + 1))).goto c (bits w 13 0)))
    ∧ (Issues x s 0x06 → fD w = 0 → isReg (fA w) = true → bits w 39 0 = 0 → s.unready c [fA w] = false →
        ((k.reg (fA w)).toNat < 16384 → exec (.jr x) s = .next (s.goto c (k.reg (fA w)).toNat))
        ∧ (16384 ≤ (k.reg (fA w)).toNat → exec (.jr x) s = .next (s.takeFault c illPc)))
    ∧ (Issues x s 0x07 → fD w = 0 → bits w 43 14 = 0 → s.unready c [56 + bits w 45 44] = false →
        let n := (k.reg (56 + bits w 45 44)).toNat
        let t := s.modCore c fun q => q.setReg (56 + bits w 45 44) (BitVec.ofNat 64 (n - 1))
        (n = 0 → exec (.loop x) s = .next (s.advance c))
        ∧ (n = 1 → exec (.loop x) s = .next (t.advance c))
        ∧ (2 ≤ n → exec (.loop x) s = .next (t.goto c (bits w 13 0)))))

/-- What a scalar instruction leaves unchanged: memory, the objects, every other core and every register but its destination. -/
def Obligations.ScalarFrame : Prop :=
  ∀ (x : Issue) (s : State) (v : W64), (s.core x.core).mode = .running → (s.core x.core).scout.running = false →
    (s.core x.core).pc + 1 < 16384 → fD x.word.toNat < 60 →
    let t := wrote x s v
    t.mem = s.mem ∧ t.objs = s.objs ∧ t.banks = s.banks ∧ t.parts = s.parts ∧ t.ctxs = s.ctxs
    ∧ (∀ d, d ≠ x.core → t.core d = s.core d)
    ∧ (∀ r, r < 60 → r ≠ fD x.word.toNat → (t.core x.core).reg r = (s.core x.core).reg r)
    ∧ (t.core x.core).treg = (s.core x.core).treg ∧ (t.core x.core).tag = (s.core x.core).tag
    ∧ (t.core x.core).ieeeStat = (s.core x.core).ieeeStat ∧ (t.core x.core).frec = (s.core x.core).frec
    ∧ (t.core x.core).slots = (s.core x.core).slots ∧ (t.core x.core).groups = (s.core x.core).groups

/-! ## Scalar memory, descriptors, control registers (07 R176–R178) -/

/-- A store through the windows of a core (08 R199): the bytes named read back as stored, every other byte of memory is unchanged. -/
def Obligations.ScratchpadStore : Prop :=
  ∀ (m : Memory) (k : Core) (off : Nat) (bs : List Byte), tabWf 0 m = true →
    tabWf 0 (scratchWrite m k off bs) = true ∧
    (∀ a, (∀ i, i < bs.length → scratchAddr k (off + i) ≠ some a) → memByte (scratchWrite m k off bs) a = memByte m a)
    ∧ (off + bs.length ≤ 0x400000 → (∀ i, i < bs.length → (scratchAddr k (off + i)).isSome = true) →
        scratchBytes (scratchWrite m k off bs) k off bs.length = bs)

/-- LD and ST (06 R149; 07 R176).
- LD and ST (07 R176): an aligned access of 1, 2, 4 or 8 bytes inside the scratchpad, in owned banks of awake cores (16 R363) and behind
no earlier write.
LD extends with zeros, or with the sign where SX is set; ST stores the low bytes of D and changes nothing else.
- The faults of LD and ST (06 R149; 07 R176): an address that leaves the scratchpad, one that is not aligned, a bank that is not
owned; the first of these steps that fails names the cause, and the access has no other effect. -/
def Obligations.LoadsAndStores : Prop :=
  ( ∀ (x : Issue) (s : State),
    let c := x.core
    let w := x.word.toNat
    let k := s.core c
    let n := 2 ^ bits w 39 38
    let a := (k.reg (fA w) + BitVec.ofInt 64 (signed 37 w)).toNat
    isReg (fD w) = true → isReg (fA w) = true → s.unready c [fD w, fA w] = false →
    a % n = 0 → a + n ≤ 0x400000 → s.heldAll c [(a, a + n)] = .owned → s.napping c [(a, a + n)] = false → k.rangeBusy [(a, a + n)] = false →
    (Issues x s 0x29 → bitOf w 37 = false → exec (.ld x) s = .next (wrote x s (BitVec.ofNat 64 (scratchNat s.mem k a n))))
    ∧ (Issues x s 0x29 → bitOf w 37 = true → exec (.ld x) s = .next (wrote x s (BitVec.ofInt 64 (signed (8 * n) (scratchNat s.mem k a n)))))
    ∧ (Issues x s 0x2A → bitOf w 37 = false → k.epochHolds [(a, a + n)] = false →
        exec (.st x) s = .next (({ s with mem := scratchWrite s.mem k a (leBytes n (k.reg (fD w)).toNat) }).advance c)))
  ∧
  ( ∀ (x : Issue) (s : State),
    let c := x.core
    let w := x.word.toNat
    let n := 2 ^ bits w 39 38
    let a := ((s.core c).reg (fA w) + BitVec.ofInt 64 (signed 37 w)).toNat
    isReg (fD w) = true → isReg (fA w) = true → s.unready c [fD w, fA w] = false → bitOf w 37 = false →
    let outcome (f : CoreFault) : Prop :=
      (Issues x s 0x29 → exec (.ld x) s = .next (s.takeFault c f)) ∧ (Issues x s 0x2A → exec (.st x) s = .next (s.takeFault c f))
    (0x400000 < a + n → outcome ⟨2, 2, 0, 0, 0xF⟩)
    ∧ (a + n ≤ 0x400000 → a % n ≠ 0 → outcome ⟨2, 3, 0, 0, 0xF⟩)
    ∧ (a + n ≤ 0x400000 → a % n = 0 → s.heldAll c [(a, a + n)] = .no → outcome ⟨2, 5, 0, 0, 0xF⟩))

/-- TLD, TST, TSET, TGET and the fields of a descriptor (06 R148; 07 R177).
- TLD, TST, TSET and TGET (07 R177): a descriptor moves whole between t[D] and a 32-byte aligned address; TSET writes one field and
no other bit, TGET reads one field into D.
- A descriptor field written and read again (06 R148; 07 R177): TSET keeps the field's own bits of the value, its reserved bits
read 0, and every bit outside the field keeps its value. -/
def Obligations.DescriptorRows : Prop :=
  ( ∀ (x : Issue) (s : State),
    let c := x.core
    let w := x.word.toNat
    let k := s.core c
    let a := (k.reg (fA w) + BitVec.ofInt 64 (signed 40 w)).toNat
    let td : Fin 16 := Fin.ofNat 16 (fD w)
    let field := bits w 33 30
    (isReg (fA w) = true → bits w 51 50 = 0 → s.unready c [fA w] = false → a % 32 = 0 → a + 32 ≤ 0x400000 →
        s.heldAll c [(a, a + 32)] = .owned → s.napping c [(a, a + 32)] = false → k.rangeBusy [(a, a + 32)] = false →
      (Issues x s 0x30 → exec (.tld x) s =
        .next ((s.setCore c { k with treg := k.treg.set td (BitVec.ofNat 256 (scratchNat s.mem k a 32)) }).advance c))
      ∧ (Issues x s 0x31 → k.epochHolds [(a, a + 32)] = false →
        exec (.tst x) s = .next (({ s with mem := scratchWrite s.mem k a (leBytes 32 (k.treg[td]).toNat) }).advance c)))
    ∧ (Issues x s 0x32 → isReg (fA w) = true → bits w 51 50 = 0 → fB w = 0 → field < 9 → bits w 29 0 = 0 → s.unready c [fA w] = false →
        exec (.tset x) s = .next ((s.setCore c { k with
          treg := k.treg.set td (BitVec.ofNat 256 (setDescField (k.treg[td]).toNat field (k.reg (fA w)).toNat)) }).advance c))
    ∧ (Issues x s 0x33 → isReg (fD w) = true → bits w 45 44 = 0 → fB w = 0 → field < 9 → bits w 29 0 = 0 → s.unready c [fD w] = false →
        exec (.tget x) s = .next (wrote x s (BitVec.ofNat 64
          (bits (k.treg[Fin.ofNat 16 (fA w)]).toNat ((descField field).1 + (descField field).2.1 - 1) (descField field).1)))))
  ∧
  ( ∀ (d f v : Nat), d < 2 ^ 256 → f < 9 →
    let lo := (descField f).1
    let width := (descField f).2.1
    let keep := (descField f).2.2
    bits (setDescField d f v) (lo + width - 1) lo = v % 2 ^ keep
    ∧ setDescField d f v < 2 ^ 256
    ∧ ∀ i, (i < lo ∨ lo + width ≤ i) → bitOf (setDescField d f v) i = bitOf d i)

/-- Control registers (07 R178).
- CRR and the writes of control registers that a CRW or a row of its own carries out (07 R178). RO registers ignore a write, which is
counted (13 R322); the others take the value in their fields.
- The writes of the epoch masks, of status bits that clear by 1, of AGn_CFG, of BANK_OWN and of a channel's control register
(03 R79, R81; 06 R144, R155, R157; 08 R202; 09 R224, R225). -/
def Obligations.ControlRegisterAccess : Prop :=
  ( ∀ (x : Issue) (s : State),
    let c := x.core
    let w := x.word.toNat
    let k := s.core c
    let r := bits w 39 28
    let v := (k.reg (fA w)).toNat
    (Issues x s 0x2B → isReg (fD w) = true → fA w = 0 → csrDefined r = true → bits w 27 0 = 0 → s.unready c [fD w] = false → k.csrBusy r = false →
        (r < 0x028 ∨ 0x02D < r) → exec (.crr x) s = .next (wrote x s (BitVec.ofNat 64 (s.csrRead c r))))
    ∧ (Issues x s 0x2C → fD w = 0 → isReg (fA w) = true → bits w 27 0 = 0 → s.unready c [fA w] = false → k.csrBusy r = false →
      ((r = 0x009 ∨ r = 0x00E ∨ (0x020 ≤ r ∧ r ≤ 0x02D)) → exec (.crw x) s = .next ((countIgnored s c r v).advance c))
      ∧ (r = 0x00D → exec (.crw x) s = .next ((s.modCore c fun q => { q with tag := BitVec.ofNat 16 v }).advance c))
      ∧ (r = 0x005 → v % 8 ≤ 4 → exec (.crw x) s = .next ((s.modCore c fun q => { q with ieeeRnd := v % 8 }).advance c))
      ∧ (0x080 ≤ r → r ≤ 0x08F → k.epoch.opened = false →
          exec (.crw x) s = .next ((s.modCore c fun q => { q with ltd := q.ltd.set (Fin.ofNat 16 r) (BitVec.ofNat 64 v) }).advance c))
      ∧ (r = 0x00C → (s.core c).part = none →
          exec (.stepnoWrite x) s = .next ((s.modCore c fun q => { q with stepno := BitVec.ofNat 32 v }).advance c))
      ∧ (∀ n, r = 0x00C → (s.core c).part = some n →
          exec (.stepnoWrite x) s = .next (((s.modCore c fun q => { q with stepno := BitVec.ofNat 32 v }).stepBoundary n).advance c))
      ∧ (r = 0x008 → bits v 28 22 ≤ 64 → exec (.shdirWrite x) s =
          .next ((s.modCore c fun q => { q with shdirCount := bits v 28 22, shdirBase := bits v 21 7 }).advance c))
      ∧ (r = 0x003 → -16384 ≤ signed 16 v → signed 16 v ≤ -1024 → exec (.lntCfgWrite x) s =
          .next ((s.modCore c fun q => { q with lntFtz := signed 16 v, lntKv1 := bitOf v 16 }).advance c))
      ∧ (r = 0x003 → (signed 16 v < -16384 ∨ -1024 < signed 16 v) → exec (.lntCfgWrite x) s =
          .next ((countIgnored (s.modCore c fun q => { q with lntStat := q.lntStat ||| 0x2000 }) c r v).advance c))
      ∧ (r = 0x007 → 1 ≤ bits v 7 1 → bits v 7 1 ≤ 64 → exec (.scoutCtlWrite x) s =
          .next (((s.scoutCancel c).modCore c fun q => { q with scoutDepth := bits v 7 1, scoutEn := bitOf v 0 }).advance c))))
  ∧
  ( ∀ (x : Issue) (s : State),
    let c := x.core
    let w := x.word.toNat
    let k := s.core c
    let r := bits w 39 28
    let v := (k.reg (fA w)).toNat
    Issues x s 0x2C → fD w = 0 → isReg (fA w) = true → bits w 27 0 = 0 → s.unready c [fA w] = false → k.csrBusy r = false →
      (r = 0x00A → k.epoch.opened = false → exec (.epochMaskWrite x) s =
          .next ((s.modCore c fun q => { q with epoch := { q.epoch with banks := BitVec.ofNat 32 v } }).advance c))
      ∧ (r = 0x00B → k.epoch.opened = false → exec (.epochMaskWrite x) s =
          .next ((s.modCore c fun q => { q with epoch := { q.epoch with slots := BitVec.ofNat 64 v } }).advance c))
      ∧ ((r = 0x00A ∨ r = 0x00B) → k.epoch.opened = true → exec (.epochMaskWrite x) s =
          .next ((countIgnored (s.modCore c fun q => { q with maskIgn := true }) c r v).advance c))
      ∧ (csrStatus r = true → exec (.w1cStatusClear x) s = .next ((s.modCore c fun q => q.clearStatus r v).advance c))
      ∧ (∀ n : Fin 8, r = 0x010 + n.val → (k.groups[n]).opened = false → bitOf v 31 = false →
          exec (.agnCfgWrite x) s = .next ((s.setGroup c n ((k.groups[n]).fields v)).advance c))
      ∧ (∀ b : BankIx, r = 0x180 + b.val → (s.bankOwnWrite c b v ≠ .stall) →
          ∃ t : State, exec (.bankOwnGo x) s = .next (t.advance c) ∧ s.bankOwnWrite c b v = .done t
            ∧ ((t.core c).bankOwn[b]).arb = bitOf v 29 ∧ ((t.core c).bankOwn[b]).target = bits v 27 22 ∧ t.mem = s.mem)
      ∧ (∀ i : ChanIx, r = 0x100 + 8 * i.val + 3 → (k.chans[i]).state.isActive = false → bitOf v 0 = true → bitOf v 1 = false →
          let g := { (k.chans[i]).regs with ns := bitOf v 10, mode := bits v 5 4, prio := bits v 9 8 }
          k.epochHoldsStart g = false →
          exec (.pchGo x) s = .next (((s.setChan c i (({ k.chans[i] with regs := g }).start false)).freshChan c i).advance c))
      ∧ (∀ i : ChanIx, r = 0x100 + 8 * i.val + 3 → (k.chans[i]).state.isActive = false → bitOf v 0 = true → bitOf v 1 = true →
          let g := { (k.chans[i]).regs with ns := bitOf v 10, mode := bits v 5 4, prio := bits v 9 8 }
          k.epochHoldsStart g = false →
          exec (.pchResume x) s = .next (((s.setChan c i (({ k.chans[i] with regs := g }).start true)).freshChan c i).advance c))
      ∧ (∀ i : ChanIx, r = 0x100 + 8 * i.val + 3 → (k.chans[i]).state.isActive = true → bitOf v 2 = true → bitOf v 0 = false → bitOf v 1 = false →
          bitOf v 10 = (k.chans[i]).regs.ns → bits v 5 4 = (k.chans[i]).regs.mode →
          exec (.pchAbort x) s = .next ((s.setChan c i { k.chans[i] with
            regs := { (k.chans[i]).regs with prio := bits v 9 8 }, aborting := true }).advance c)))

/-! ## Groups and the Hearth (03; 07 R182–R185) -/

/-- Accumulation groups (03 R78–R86; 07 R183, R184).
- An accumulation group opens (03 R78, R80; 07 R183): with a legal configuration, no slot of its range in another group and none busy,
it takes its fields, its slots take their anchors and belong to it, and INIT clears them. A bad configuration and an overlap each set
their own mark.
- What an accepted open leaves (03 R80; 07 R183): the group is open with FILL and SWAP_PEND 0, and every slot of its range belongs to
it with the group's anchor, the low slot of a splint 16 below.
- AGCLOSE, HCLR, SWAP, and the commands that end a swap and a clearing (03 R79, R82, R86; 07 R183, R184). -/
def Obligations.GroupRows : Prop :=
  ( ∀ (x : Issue) (s : State), Issues x s 0x47 →
    let c := x.core
    let w := x.word.toNat
    let k := s.core c
    let n : Fin 8 := Fin.ofNat 8 (bits w 27 25)
    let g := (k.groups[n]).fields (k.reg (fA w)).toNat
    fD w = 0 → isReg (fA w) = true → fB w = 0 → fC w = 0 → bits w 23 0 = 0 → s.unready c [fA w] = false →
    (k.groups[n]).opened = false →
    ((g.badConfig (bitOf w 24) = true ∨ k.openOverlaps g = true) →
        exec (.agopen x) s = .next ((s.setGroup c n
          { g with badcfg := g.badcfg || g.badConfig (bitOf w 24), overlap := g.overlap || k.openOverlaps g }).advance c))
    ∧ (g.badConfig (bitOf w 24) = false → k.openOverlaps g = false →
        (g.slotIxs.any fun h => k.slotBusy h.val || (g.init && k.epochHoldsSlot h.val)) = false →
        exec (.agopen x) s = .next ((s.acceptOpen c n g (bitOf w 24)).advance c)))
  ∧
  ( ∀ (s : State) (c : CoreId) (n : Fin 8) (g : Group) (splint : Bool),
    let t := (s.acceptOpen c n g splint).core c
    t.groups[n] = { g with opened := true, fill := false, swapPend := false, splint := splint }
    ∧ (∀ h : SlotIx, g.covers h.val = true →
        (t.slots[h]).group = some n
        ∧ (t.slots[h]).anchor = (if splint && h.val == g.base + 1 then g.anchor - 16 else g.anchor)
        ∧ (g.init = true → (t.slots[h]).sat = false ∧ (t.slots[h]).nf = false ∧ (t.slots[h]).clearing = true))
    ∧ (∀ h : SlotIx, g.covers h.val = false → t.slots[h] = (s.core c).slots[h]))
  ∧
  ( ∀ (x : Issue) (s : State),
    let c := x.core
    let w := x.word.toNat
    let k := s.core c
    (Issues x s 0x48 → bits w 51 28 = 0 → bits w 24 0 = 0 →
      let n : Fin 8 := Fin.ofNat 8 (bits w 27 25)
      (k.groups[n]).opened = true → (k.groups[n]).swapPend = false → (k.groups[n]).fields (k.groups[n]).cfg = k.groups[n] →
      ((k.groups[n]).slotIxs.any fun h => k.inflight.any fun i => i.slots.contains h.val) = false →
      ∃ t : State, exec (.agclose x) s = .next (t.advance c) ∧ ((t.core c).groups[n]).opened = false ∧ t.mem = s.mem
        ∧ ∀ h : SlotIx, (k.groups[n]).covers h.val = true → ((t.core c).slots[h]).group = none)
    ∧ (Issues x s 0x41 → bits w 51 40 = 0 → bits w 33 0 = 0 → k.isPairTop (fH w) = false → k.swapping (fH w) = false →
        k.slotBusy (k.fillSlot (fH w)) = false → k.epochHoldsSlot (k.fillSlot (fH w)) = false →
        exec (.hclr x) s = .next ((s.clearSlot c (Fin.ofNat 64 (k.fillSlot (fH w)))).advance c))
    ∧ (∀ n : Fin 8, Issues x s 0x45 → bits w 51 40 = 0 → bits w 33 0 = 0 → k.groupBased (fH w) (fun g => g.mode == 1) = some n →
        (k.groups[n]).swapPend = false → ((k.groups[n]).init && k.epochHoldsSlot (k.drainSlot (k.groups[n]).base)) = false →
        exec (.swap x) s = .next ((s.setGroup c n { k.groups[n] with swapPend := true }).advance c))
    ∧ (∀ (n : Fin 8) (base : SlotIx), k.groupBased base.val (fun g => g.mode == 1 && g.swapPend) = some n →
        (k.inflight.any fun i => i.readSlots.contains (k.drainSlot base.val)) = false →
        (k.creds.any fun q => q.mode == 0 && q.slot == k.drainSlot base.val) = false →
        ((k.groups[n]).init = true → k.slotBusy (k.drainSlot base.val) = false) →
        ∃ t : State, exec (.swapComplete c base) s = .next t
          ∧ (t.core c).groups[n] = { k.groups[n] with fill := !(k.groups[n]).fill, swapPend := false }
          ∧ ((k.groups[n]).init = false → t.mem = s.mem)
          ∧ ((k.groups[n]).init = true → k.drainSlot base.val < 64 → ∀ i, i < 1024 → hearthGet t.mem c (k.drainSlot base.val) i = ⟨0, 0⟩))
    ∧ (∀ g : Fin 16, ∃ t : State, exec (.hearthClearDone c g) s = .next t ∧ t.mem = s.mem
        ∧ ∀ h : SlotIx, (t.core c).slots[h] = if h.val / 4 = g.val then { k.slots[h] with clearing := false } else k.slots[h]))

/-- Clearing a slot and retiring a pass (03 R67, R70, R80, R86).
- A cleared slot (03 R80, R86): every element reads 0 with status FINITE, the marks are gone, CLEARING is set; no byte outside the
slot changes.
- A lattice pass retires element by element (03 R67, R70): element i of the slot takes the contributions of row i / 32 of A and column
i mod 32 of B in ascending k, and no byte outside the slot changes. -/
def Obligations.HearthMemory : Prop :=
  ( ∀ (s : State) (c : CoreId) (h : SlotIx), tabWf 0 s.mem = true →
    let t := s.clearSlot c h
    (∀ i, i < 1024 → hearthGet t.mem c h.val i = ⟨0, 0⟩)
    ∧ (∀ a, a < hearthAddr c h.val 0 ∨ hearthAddr c h.val 1024 ≤ a → memByte t.mem a = memByte s.mem a)
    ∧ ((t.core c).slots[h]).sat = false ∧ ((t.core c).slots[h]).nf = false ∧ ((t.core c).slots[h]).clearing = true
    ∧ ((t.core c).slots[h]).anchor = ((s.core c).slots[h]).anchor ∧ ((t.core c).slots[h]).group = ((s.core c).slots[h]).group)
  ∧
  ( ∀ (s : State) (c : CoreId) (p : Pass), tabWf 0 s.mem = true →
    (∀ i, i < 1024 → hearthGet (s.applyPass c p).1.mem c p.slot.val i
      = (passElement p.anchor (p.pairs i) (hearthGet s.mem c p.slot.val i) ⟨false, false, false⟩).1)
    ∧ (∀ a, a < hearthAddr c p.slot.val 0 ∨ hearthAddr c p.slot.val 1024 ≤ a → memByte (s.applyPass c p).1.mem a = memByte s.mem a)
    ∧ (s.applyPass c p).1.objs = s.objs ∧ (s.applyPass c p).1.banks = s.banks)

/-- HLD, HST and FOLD (03 R94; 07 R184): the elements of a Hearth slot go to a tensor of Hearth elements, come from one, or the low slot
of a splint is folded into the high one and cleared. -/
def Obligations.HearthTiles : Prop :=
  ∀ (x : Issue) (s : State),
    let c := x.core
    let w := x.word.toNat
    let k := s.core c
    let p := Place.of (k.regNat (fP w))
    let od := tileOperand k (fTD w) [7] p.row0 p.col0 32 32 true
    let oa := tileOperand k (fTD w) [7] p.row0 p.col0 32 32 false
    let h := fH w
    (bits w 47 40 = 0 → isS (fP w) = true → bits w 27 0 = 0 → s.unready c [fP w] = false → k.isPairTop h = false → k.swapping h = false →
      (Issues x s 0x42 → s.checkOperands c [od] [] p.ok = .ok → k.slotBusy (k.drainSlot h) = false →
        k.blocked (allRanges [od] []) (writtenRanges [od] []) = false →
        exec (.hld x) s = .next (({ s with mem := (tileAddrs od.desc p).foldl (fun (m : Memory) (e : Nat × Nat) =>
          scratchWrite m k e.2 (leBytes 8 (hearthGet s.mem c (k.drainSlot h) e.1).word)) s.mem }).advance c))
      ∧ (Issues x s 0x43 → s.checkOperands c [oa] [] p.ok = .ok → k.slotBusy (k.fillSlot h) = false →
        k.epochHoldsSlot (k.fillSlot h) = false → k.rangeBusy (allRanges [oa] []) = false →
        ∃ t : State, exec (.hst x) s = .next (t.advance c) ∧ t.objs = s.objs
          ∧ t.mem = (tileAddrs oa.desc p).foldl (fun (m : Memory) (e : Nat × Nat) =>
              hearthSet m c (k.fillSlot h) e.1 (HElem.ofWord (scratchNat s.mem k e.2 8))) s.mem))
    ∧ (∀ n : Fin 8, Issues x s 0x46 → bits w 51 40 = 0 → bits w 33 0 = 0 → k.groupBased h (·.splint) = some n →
        k.slotBusy h = false → k.slotBusy (h + 1) = false → k.epochHoldsSlot h = false → k.epochHoldsSlot (h + 1) = false →
        let r := (List.range 1024).foldl (foldStep c h (h + 1)) (s.mem, k.slots[(Fin.ofNat 64 h : SlotIx)], none)
        let u := (({ s with mem := r.1 }).modCore c fun q => { q with slots := q.slots.set (Fin.ofNat 64 h : SlotIx) r.2.1 }).clearSlot c (Fin.ofNat 64 (h + 1))
        exec (.fold x) s = .next ((u.nanReport c (match r.2.2 with | some el => [(k.pc, k.tag, 1, h, el)] | none => [])).advance c))

/-- MMA and DRN issue (03 R62, R88, R90; 07 R182, R185): a pass carries its words, the slot it fills and the slot's anchor; a drain
carries its tile's bytes in the row order of its tensor, and both change nothing until they retire. -/
def Obligations.LatticeLaunch : Prop :=
  ∀ (x : Issue) (s : State),
    let c := x.core
    let w := x.word.toNat
    let k := s.core c
    let p := k.regNat (fP w)
    let h := fH w
    s.unready c [fP w] = false → k.isPairTop h = false → k.swapping h = false →
    (Issues x s 0x40 → mmaIllegal k w = none →
      let kk := if (k.desc (fTA w)).fmt == 1 && (k.desc (fTB w)).fmt == 1 then 64 else 32
      let oa := tileOperand k (fTA w) [0, 1, 2] (bits p 15 0) (bits p 31 16) 32 kk false
      let ob0 := if bitOf w 26 then tileOperand k (fTB w) [0, 1, 2, 4, 5, 6] (bits p 47 32) (bits p 31 16) 32 kk false
        else tileOperand k (fTB w) [0, 1, 2, 4, 5, 6] (bits p 31 16) (bits p 47 32) kk 32 false
      let ob := { ob0 with pieces := ob0.pieces ++ weightPieces ob0.desc (bits p 47 32) (bitOf w 26) }
      s.checkOperands c [oa, ob] [] (bits p 63 48 == 0) = .ok → k.rangeBusy (allRanges [oa, ob] []) = false →
      scaleFault [oa, ob] = none → weightFault s.mem k ob (bits p 47 32) (bitOf w 26) = none →
      (k.groupOf h).isSome = true → k.unitFull .lattice = false → k.epochHoldsSlot (k.fillSlot h) = false →
      (k.slots[(Fin.ofNat 64 (k.fillSlot h) : SlotIx)]).clearing = false →
      (k.inflight.any fun i => i.unit != .lattice && i.slots.contains (k.fillSlot h)) = false →
      let ab := mmaWords s.mem k w (bits p 15 0) (bits p 31 16) (bits p 47 32) kk
      Launches (.mma x) x s .lattice fun op => op.slots = [k.fillSlot h] ∧ op.pass = some ⟨Fin.ofNat 64 (k.fillSlot h),
        (k.slots[(Fin.ofNat 64 (k.fillSlot h) : SlotIx)]).anchor, kk, ab.1.map (·.code), ab.2.map (·.code)⟩)
    ∧ (Issues x s 0x44 → drnIllegal w = none → bitOf w 20 = false → bitOf w 19 = false → bitOf w 18 = false →
      let pl := Place.of p
      let o := tileOperand k (fTD w) [0, 1, 2] pl.row0 pl.col0 32 32 true
      s.checkOperands c [o] [] pl.ok = .ok → k.rangeBusy (allRanges [o] []) = false → scaleFault [o] = none →
      k.slotBusy (k.drainSlot h) = false → k.unitFull .drain = false → k.epochHolds (writtenRanges [o] []) = false →
      (bitOf w 21 && k.epochHoldsSlot (k.drainSlot h)) = false →
      let t := writeTile o.desc pl.row0 pl.col0 32 32
        (fun r j => (hearthGet s.mem c (k.drainSlot h) (32 * r + j)).val (k.slots[(Fin.ofNat 64 (k.drainSlot h) : SlotIx)]).anchor)
        (fun r j => s.roundingOf c (bits w 27 26) pl.stream o.desc (pl.row0 + r) (pl.col0 + j))
      Launches (.drn x) x s .drain fun op => op.pass = none ∧ op.readSlots = [k.drainSlot h] ∧ op.ranges = writtenRanges [o] []
        ∧ (∀ e, e ∈ t.stores k → e ∈ op.effects) ∧ (.cvt t.cvt ∈ op.effects)
        ∧ (.clear (Fin.ofNat 64 (k.drainSlot h)) ∈ op.effects ↔ bitOf w 21 = true))

/-! ## Elementwise, Lantern and IEEE instructions (04; 07 R187–R191) -/

/-- The nine EW instructions issue (07 R187): each output element of the tile is its function of the operand elements, shifted by the
smoothing vector where SME is set, rounded by RM into the destination's format; an element outside an operand's tensor enters as 0. -/
def Obligations.ElementwiseLaunch : Prop :=
  ∀ (x : Issue) (s : State) (i : Instr) (o : EwOp) (f : EwIn → EwIn → Val),
    (i, o, f) ∈ ([(.ewMul x, ⟨0, true, true, [0, 1], [0, 1], false⟩, fun a b => valMul a.val b.val),
      (.ewDiv x, ⟨1, true, true, [0, 1], [0, 1], false⟩, fun a b => valDiv a.val b.val),
      (.ewNeg x, ⟨2, false, false, [0, 1], [0, 1], true⟩, fun a _ => valNeg a.val),
      (.ewAbs x, ⟨3, false, false, [0, 1], [0, 1], true⟩, fun a _ => valAbs a.val),
      (.ewMax x, ⟨4, true, false, [0, 1], [0, 1], false⟩, fun a b => valMax a.val b.val),
      (.ewMin x, ⟨5, true, false, [0, 1], [0, 1], false⟩, fun a b => valMin a.val b.val),
      (.ewCmplt x, ⟨6, true, false, [0, 1], [0], false⟩, fun a b => valCmp valLt a.val b.val),
      (.ewCmpeq x, ⟨7, true, false, [0, 1], [0], false⟩, ewCmpeq),
      (.ewCvt x, ⟨8, false, true, [0, 1, 2, 3], [0, 1, 2, 3], false⟩, fun a _ => a.val)] : List (Instr × EwOp × (EwIn → EwIn → Val))) →
    Issues x s 0x50 → ewIllegal o x.word.toNat = none →
    let c := x.core
    let w := x.word.toNat
    let k := s.core c
    let p := Place.of (k.reg (fP w)).toNat
    let rows := bits w 17 13 + 1
    let cols := bits w 12 8 + 1
    let ta := tileOperand k (fTA w) o.srcFmts p.row0 p.col0 rows cols false
    let td0 := tileOperand k (fTD w) o.dstFmts p.row0 p.col0 rows cols true
    let td := if (td0.desc.fmt == 2 || td0.desc.fmt == 3) && (ta.desc.fmt == 2 || ta.desc.fmt == 3) then { td0 with accepted := false } else td0
    let tb := if bitOf w 7 then tileOperand k (fTB w) o.srcFmts 0 p.col0 1 cols false
      else tileOperand k (fTB w) o.srcFmts p.row0 p.col0 rows cols false
    let ops := if o.binary then [td, ta, tb] else [td, ta]
    let sv := (k.areg[(Fin.ofNat 16 (bits w 5 2) : Fin 16)]).toNat
    let n := td.desc.colsInside p.col0 cols
    let areas : List Area := if bitOf w 6 then [⟨sv + 2 * p.col0, sv + 2 * (p.col0 + n), 2, false⟩] else []
    s.unready c (fP w :: if bitOf w 6 then [32 + bits w 5 2] else []) = false → UnitReady s c .elementwise ops areas p.ok →
    (bitOf w 6 = true → smoothFault s.mem k sv p.col0 n = false) →
    let read (d : Desc) (r j : Nat) : EwIn := if d.inside r j
      then ⟨d.fmt, scratchNat s.mem k (d.addr r j) (fmtBytes d.fmt), readVal s.mem k d r j⟩ else ⟨d.fmt, zeroCode d.fmt, .zero⟩
    let val (r j : Nat) : Val := (f (read ta.desc (p.row0 + r) (p.col0 + j))
        (if o.binary then read tb.desc (if bitOf w 7 then 0 else p.row0 + r) (p.col0 + j) else ⟨0, 0, .zero⟩)).shift
      (if bitOf w 6 then -(smooth s.mem k sv (p.col0 + j)) else 0)
    let t := writeTile td.desc p.row0 p.col0 rows cols val fun r j =>
      s.roundingOf c (bits w 23 22) p.stream td.desc (p.row0 + r) (p.col0 + j)
    Launches i x s .elementwise fun op => op.pass = none ∧ op.ranges = writtenRanges ops areas ∧ op.regs = [] ∧ op.slots = []
      ∧ op.effects = t.stores k ++ [.cvt (if o.quiet && td.desc.fmt == ta.desc.fmt then 0 else t.cvt)] ++ t.fold (bits w 21 18)

/-- Each of the nine EW instructions completes its issue (06 R146; 07 R187): where its word is legal, its registers and operands ready, its
unit has room and its scales and smoothing vector are good, the instruction leaves its operation in the unit and the program moves on. -/
def Obligations.ElementwiseCompletes : Prop :=
  ∀ (x : Issue) (s : State), Issues x s 0x50 →
    let c := x.core
    let w := x.word.toNat
    let k := s.core c
    let ready (o : EwOp) : Prop :=
      let q := ewJob k w o
      ewIllegal o w = none ∧ s.unready c (fP w :: if bitOf w 6 then [32 + bits w 5 2] else []) = false
        ∧ UnitReady s c .elementwise q.ops q.areas q.place.ok
        ∧ (bitOf w 6 = true → smoothFault s.mem k q.smoothAt q.place.col0 q.inside = false)
    let issued (o : EwOp) (f : EwIn → EwIn → Val) : State := (s.launch c (s.ewOperation c w o f)).advance c
    (ready ewMulOp → exec (.ewMul x) s = .next (issued ewMulOp fun a b => valMul a.val b.val))
    ∧ (ready ewDivOp → exec (.ewDiv x) s = .next (issued ewDivOp fun a b => valDiv a.val b.val))
    ∧ (ready ewNegOp → exec (.ewNeg x) s = .next (issued ewNegOp fun a _ => valNeg a.val))
    ∧ (ready ewAbsOp → exec (.ewAbs x) s = .next (issued ewAbsOp fun a _ => valAbs a.val))
    ∧ (ready ewMaxOp → exec (.ewMax x) s = .next (issued ewMaxOp fun a b => valMax a.val b.val))
    ∧ (ready ewMinOp → exec (.ewMin x) s = .next (issued ewMinOp fun a b => valMin a.val b.val))
    ∧ (ready ewCmpltOp → exec (.ewCmplt x) s = .next (issued ewCmpltOp fun a b => valCmp valLt a.val b.val))
    ∧ (ready ewCmpeqOp → exec (.ewCmpeq x) s = .next (issued ewCmpeqOp ewCmpeq))
    ∧ (ready ewCvtOp → exec (.ewCvt x) s = .next (issued ewCvtOp fun a _ => a.val))

/-- The Lantern instructions (04; 07 R189, R190).
- The Lantern functions over tiles issue (04 R95–R112; 07 R189): each output is the function of the operand words after the flush
check, rounded as R98 sets; LADD and LSUB take two tiles, EXPD a row maximum from its side vector, UTn the table its LTD names.
- The statistics instructions and LTLOAD issue (04 R112–R119; 07 R189): STATI begins a set, STAT1, STAT2 and STATQ take a tile into its
rows, STATF forms μ, var and r, NORMA applies them, STATR and STATW move the row records, LTLOAD the table RAM. -/
def Obligations.LanternRows : Prop :=
  ( ∀ (x : Issue) (s : State) (i : Instr) (okFn : Nat → Bool) (usesB usesAux : Bool) (own : Rounding) (na : Bool)
      (unit6 : Core → Nat → Option CoreFault) (table : Bool) (f : State → Core → Nat → Nat → Nat → Nat → LRes),
    (i, okFn, usesB, usesAux, own, na, unit6, table, f) ∈ ([
      (.ladd x, (· == 0x00), true, false, .away, false, (fun _ _ => none), false, fun _ k _ a b _ => lnLadd k.lntKv1 a b),
      (.lsub x, (· == 0x01), true, false, .away, false, (fun _ _ => none), false, fun _ k _ a b _ => lnLsub k.lntKv1 a b),
      (.exp x, (· == 0x02), false, false, .toZero, false, (fun _ _ => none), false, fun _ _ _ a _ _ => lnExp constCE a),
      (.exp2 x, (· == 0x03), false, false, .toZero, false, (fun _ _ => none), false, fun _ _ _ a _ _ => lnExp (2 ^ 23) a),
      (.expd x, (· == 0x04), false, true, .rne, true, (fun _ _ => none), false, fun _ _ _ a _ m => lnExpd a m),
      (.ln x, (· == 0x05), false, false, .rne, false, (fun _ _ => none), false, fun _ _ _ a _ _ => lnLog constCL (2 ^ 32) a),
      (.log2 x, (· == 0x06), false, false, .rne, false, (fun _ _ => none), false, fun _ _ _ a _ _ => lnLog 1 128 a),
      (.sin x, (· == 0x07), false, false, .rne, false, (fun _ _ => none), false, fun _ k _ a _ _ => lnTrig k.lntKv1 false a),
      (.cos x, (· == 0x08), false, false, .rne, false, (fun _ _ => none), false, fun _ k _ a _ _ => lnTrig k.lntKv1 true a),
      (.gelu x, (· == 0x09), false, false, .rne, true, (fun _ _ => none), false, fun _ _ _ a _ _ => lnGelu (fun j => tabPHI.getD j 0) 14 17 geluLow a),
      (.gelut x, (· == 0x0A), false, false, .rne, false, (fun _ _ => none), false, fun _ k _ a _ _ =>
        if k.lntKv1 then lnGelu Config.kv1Gelut 8 18 kv1GelutLow a else lnGelu (fun j => tabPHT.getD j 0) 14 17 geluLow a),
      (.sqrt x, (· == 0x0B), false, false, .tiesUp, false, (fun _ _ => none), false, fun _ _ _ a _ _ => lnRoot false a),
      (.rsqrt x, (· == 0x0C), false, false, .tiesUp, false, (fun _ _ => none), false, fun _ _ _ a _ _ => lnRoot true a),
      (.utn x, (fun g => 0x10 ≤ g && g < 0x20), false, false, .rne, false,
        (fun k w => if (utDesc k w).bad then some (descFault 7 0 0xF) else none), true,
        fun s k w a _ _ => lnUser (utDesc k w) (tableEntry s.mem x.core) a)]
      : List (Instr × (Nat → Bool) × Bool × Bool × Rounding × Bool × (Core → Nat → Option CoreFault) × Bool
          × (State → Core → Nat → Nat → Nat → Nat → LRes))) →
    Issues x s 0x58 → tileFnIllegal okFn usesB usesAux x.word.toNat = none →
    let c := x.core
    let w := x.word.toNat
    let k := s.core c
    let p := Place.of (k.reg (fP w)).toNat
    let td := tileOperand k (fTD w) [0, 1] p.row0 p.col0 (lRows w) (lCols w) true
    let ta := tileOperand k (fTA w) [0, 1] p.row0 p.col0 (lRows w) (lCols w) false
    let tb := tileOperand k (fTB w) [0, 1] p.row0 p.col0 (lRows w) (lCols w) false
    let ops := if usesB then [td, ta, tb] else [td, ta]
    let aux := (k.areg[(Fin.ofNat 16 (lAUX w) : Fin 16)]).toNat
    let areas : List Area := if usesAux then [⟨aux, aux + 64, 1, false⟩] else []
    s.unready c (fP w :: if usesAux then [32 + lAUX w] else []) = false → UnitReady s c .lantern ops areas p.ok →
    (table = true → (k.inflight.any fun (q : InFlight) => q.table) = false) → unit6 k w = none →
    let word (d : Desc) (r j : Nat) : Nat :=
      if d.inside (p.row0 + r) (p.col0 + j) then (readWord s.mem k d (p.row0 + r) (p.col0 + j)).code else pxZero
    let out (r j : Nat) : LRes := (f s k w (word ta.desc r j) (if usesB then word tb.desc r j else pxZero)
      (if usesAux then scratchNat s.mem k (aux + 2 * r) 2 else pxZero)).flush k.ftz
    Launches i x s .lantern fun op => op.pass = none ∧ op.ranges = writtenRanges [td] [] ∧ op.slots = [] ∧ op.sets = []
      ∧ ∃ g : Nat → Nat → LRes,
          (∀ r j, r < lRows w → j < lCols w → td.desc.inside (p.row0 + r) (p.col0 + j) = true → g r j = out r j)
          ∧ ∀ e, e ∈ (writeTile td.desc p.row0 p.col0 (lRows w) (lCols w) (fun r j => (g r j).val)
              (fun r j => s.lanternRounding c w p td.desc own r j)).stores k → e ∈ op.effects)
  ∧
  ( ∀ (x : Issue) (s : State), Issues x s 0x58 →
    let c := x.core
    let w := x.word.toNat
    let k := s.core c
    let v := (k.reg (fP w)).toNat
    let set := k.stats[lSET w]
    let a := (k.areg[(Fin.ofNat 16 (lAUX w) : Fin 16)]).toNat
    k.unitFull .lantern = false → k.setBusy (lSET w) = false → s.unready c [fP w, 32 + lAUX w] = false →
    (plainIllegal 0x20 false true true w = none → bits v 1 0 ≠ 3 →
      Launches (.stati x) x s .lantern fun op => op.effects = [.stats (lSET w)
        { StatSet.reset with mode := bits v 1 0, a := signed 10 (bits v 25 16), a2 := signed 10 (bits v 41 32) }] ∧ op.sets = [(lSET w).val])
    ∧ (∀ elem cvt slots reads, s.statInput c w [] = .ok elem cvt slots reads →
        ∀ i fn kind, (i, fn, kind) ∈ [(Instr.stat1 x, 0x21, StatKind.stat1), (.stat2 x, 0x22, .stat2), (.statq x, 0x23, .statq)] →
        statIllegal fn w = none →
        Launches i x s .lantern fun op => op.sets = [(lSET w).val] ∧ op.readSlots = slots ∧ op.reads = reads ∧ (.cvt cvt ∈ op.effects) ∧
          ∃ set' : StatSet, .stats (lSET w) set' ∈ op.effects ∧ set'.mode = set.mode ∧ set'.a = set.a ∧ set'.a2 = set.a2 ∧
            ∀ r : Fin 32, set'.rows[r] = if r.val < lRows w
              then (statRow kind set.mode ((List.range (lCols w)).filterMap (elem r.val)) set.rows[r]).1 else set.rows[r])
    ∧ (plainIllegal 0x24 true true true w = none → s.checkOperands c [] [⟨a, a + 192, 64, true⟩] = .ok →
        k.blocked [(a, a + 192)] [(a, a + 192)] = false → (bits v 15 0 = pxZero ∨ isScale (bits v 15 0) = true) →
        Launches (.statf x) x s .lantern fun op => op.ranges = [(a, a + 192)] ∧ op.sets = [(lSET w).val] ∧
          ∃ set' : StatSet, .stats (lSET w) set' ∈ op.effects ∧ set'.done = true ∧ set'.mode = set.mode ∧
            ∀ r : Fin 32, (set'.rows[r]).muq = (statfRow set (bits v 15 0) set.rows[r]).muq)
    ∧ (∀ elem cvt slots reads, isS (fP w) = true → lFN w = 0x25 → rmOk (lRM w) = true → axOk (lAX w) = true → fTB w = 0 → lAUX w = 0 →
        (if lSRC w then fTA w = 0 else fH w = 0) →
        let p := Place.of v
        s.statInput c w [tileOperand k (fTD w) [0, 1] p.row0 p.col0 (lRows w) (lCols w) true] = .ok elem cvt slots reads →
        (set.done = false → Launches (.norma x) x s .lantern fun op => op.effects = [.lnt lnSeq] ∧ op.ranges = [])
        ∧ (set.done = true → Launches (.norma x) x s .lantern fun op => op.readSlots = slots))
    ∧ (plainIllegal 0x26 true false true w = none → s.checkOperands c [] [⟨a, a + 1024, 32, true⟩] = .ok →
        k.blocked [(a, a + 1024)] [(a, a + 1024)] = false →
        Launches (.statr x) x s .lantern fun op => op.ranges = [(a, a + 1024)] ∧
          op.effects = ({ TileOut.empty with writes := [(a, set.rows.toList.flatMap (fun (q : StatRow) => q.bytes))] }).stores k)
    ∧ (plainIllegal 0x27 true false true w = none → s.checkOperands c [] [⟨a, a + 1024, 32, false⟩] = .ok →
        k.blocked [(a, a + 1024)] [] = false →
        Launches (.statw x) x s .lantern fun op => ∃ set' : StatSet, .stats (lSET w) set' ∈ op.effects ∧
          ∀ r : Fin 32, set'.rows[r] = ((set.rows[r]).addBytes (scratchBytes s.mem k (a + 32 * r.val) 32)).1)
    ∧ (plainIllegal 0x28 true true false w = none → (k.inflight.any fun (q : InFlight) => q.table) = false → k.epoch.opened = false →
        1 ≤ bits v 28 16 → bits v 11 0 + bits v 28 16 ≤ 4096 →
        s.checkOperands c [] [⟨a, a + 4 * bits v 28 16, 1, false⟩] = .ok → k.blocked [(a, a + 4 * bits v 28 16)] [] = false →
        Launches (.ltload x) x s .lantern fun op => op.table = true ∧ op.effects =
          [.tableRam (bits v 11 0) ((List.range (bits v 28 16)).map fun j => BitVec.ofNat 32 (scratchNat s.mem k (a + 4 * j) 4))]))

/-- The IEEE instructions (07 R191).
- The FV instructions issue (07 R190, R191): every element of the tile takes its IEEE 754 operation under IEEE_CFG.RND, the flags join
IEEE_STAT; SSQ adds its lanes into s[SD].
- The FS instructions, CVTI and CVTF issue (07 R190): the result of the IEEE 754 operation goes to D when the operation retires, its flags
join IEEE_STAT. -/
def Obligations.IeeeRows : Prop :=
  ( ∀ (x : Issue) (s : State), Issues x s 0x60 →
    let c := x.core
    let w := x.word.toNat
    let k := s.core c
    let p := Place.of (k.reg (fP w)).toNat
    s.unready c [fP w, bits w 5 0] = false →
    (∀ (i : Instr) (o : FvOp) (f : FpFmt → FpFmt → Nat → Nat → Nat → Nat → FpRes),
      (i, o, f) ∈ ([(.fvAdd x, ⟨0, true, false⟩, fun f _ r a b _ => opAdd f r a b), (.fvSub x, ⟨1, true, false⟩, fun f _ r a b _ => opSub f r a b),
        (.fvMul x, ⟨2, true, false⟩, fun f _ r a b _ => opMul f r a b), (.fvDiv x, ⟨3, true, false⟩, fun f _ r a b _ => opDiv f r a b),
        (.fvSqrt x, ⟨4, false, false⟩, fun f _ r a _ _ => opSqrt f r a), (.fvFma x, ⟨5, true, true⟩, fun f _ r a b d => opFma f r a b d),
        (.fvMax x, ⟨6, true, false⟩, fun f _ _ a b _ => f.pickFp true a b), (.fvMin x, ⟨7, true, false⟩, fun f _ _ a b _ => f.pickFp false a b),
        (.fvCvt x, ⟨8, false, false⟩, fun f g _ a _ _ => convertFp f g 0 a)]
        : List (Instr × FvOp × (FpFmt → FpFmt → Nat → Nat → Nat → Nat → FpRes))) →
      fvIllegal o w = none →
      let fd := (k.desc (fTD w)).fmt
      let same := if o.op == 8 then (if fd == 2 then [3] else if fd == 3 then [2] else [2, 3]) else if fd == 2 || fd == 3 then [fd] else [2, 3]
      let td := tileOperand k (fTD w) [2, 3] p.row0 p.col0 (fvRows w) (fvCols w) true
      let ta := tileOperand k (fTA w) same p.row0 p.col0 (fvRows w) (fvCols w) false
      let tb := tileOperand k (fTB w) same p.row0 p.col0 (fvRows w) (fvCols w) false
      let ops := if o.binary then [td, ta, tb] else [td, ta]
      UnitReady s c .ieee ops [] p.ok →
      let read (d : Desc) (r j : Nat) : Nat := if d.inside r j then scratchNat s.mem k (d.addr r j) (fmtBytes d.fmt) else 0
      let res (row col : Nat) : FpRes := f (fpOfFmt ta.desc.fmt) (fpOfFmt td.desc.fmt) k.ieeeRnd (read ta.desc row col)
        (if o.binary then read tb.desc row col else 0) (if o.reads then read td.desc row col else 0)
      Launches i x s .ieee fun op => op.pass = none ∧ op.ranges = writtenRanges ops [] ∧ op.regs = [] ∧
        ∀ r j, r < fvRows w → j < fvCols w → td.desc.inside (p.row0 + r) (p.col0 + j) = true →
          ∀ b ad, (b, ad) ∈ (leBytes (fmtBytes td.desc.fmt) (res (p.row0 + r) (p.col0 + j)).word).zipIdx →
            ∀ q, scratchAddr k (td.desc.addr (p.row0 + r) (p.col0 + j) + ad) = some q → .store q [b] ∈ op.effects)
    ∧ (fH w = 0 → isS (fP w) = true → fvOp w = 9 → bits w 13 6 = 0 → fTB w = 0 → fTD w = 0 → isS (bits w 5 0) = true →
      let ta := tileOperand k (fTA w) [2, 3] p.row0 p.col0 (fvRows w) (fvCols w) false
      UnitReady s c .ieee [ta] [] p.ok →
      Launches (.fvSsq x) x s .ieee fun op => op.regs = [bits w 5 0] ∧ op.ranges = [] ∧
        ∃ lanes : Vector FpRes 4, let r := ssqSum k.ieeeRnd (k.reg (bits w 5 0)).toNat lanes
          op.effects = [.reg (bits w 5 0) (BitVec.ofNat 64 r.word), .ieee r.flags]))
  ∧
  ( ∀ (x : Issue) (s : State) (i : Instr) (op : Nat) (binary reads : Bool) (f : FpFmt → Nat → Nat → Nat → Nat → FpRes),
    (i, op, binary, reads, f) ∈ ([
      (.fsAdd x, 0, true, false, fun f r a b _ => opAdd f r a b), (.fsSub x, 1, true, false, fun f r a b _ => opSub f r a b),
      (.fsMul x, 2, true, false, fun f r a b _ => opMul f r a b), (.fsDiv x, 3, true, false, fun f r a b _ => opDiv f r a b),
      (.fsSqrt x, 4, false, false, fun f r a _ _ => opSqrt f r a), (.fsFma x, 5, true, true, fun f r a b d => opFma f r a b d),
      (.fsMax x, 6, true, false, fun f _ a b _ => f.pickFp true (f.cut a) (f.cut b)),
      (.fsMin x, 7, true, false, fun f _ a b _ => f.pickFp false (f.cut a) (f.cut b)),
      (.fsCvt x, 8, false, false, fun f _ a _ _ => convertFp f (if f == fmt32 then fmt64 else fmt32) 0 a),
      (.fsCmplt x, 9, true, false, fun f _ a b _ => f.compare Fp.lt a b),
      (.fsCmpeq x, 10, true, false, fun f _ a b _ => f.compare (fun p q => !p.lt q && !q.lt p) a b),
      (.cvti x, 11, false, false, fun f r a _ _ => f.toInt64 r a), (.cvtf x, 12, false, false, fun f r a _ _ => f.ofInt64 r a)]
      : List (Instr × Nat × Bool × Bool × (FpFmt → Nat → Nat → Nat → Nat → FpRes))) →
    Issues x s 0x61 →
    let c := x.core
    let w := x.word.toNat
    let k := s.core c
    isReg (fD w) = true → isReg (fA w) = true → (if binary then isReg (fB w) = true else fB w = 0) → bits w 33 30 = op → bits w 28 0 = 0 →
    s.unready c ([fD w, fA w] ++ if binary then [fB w] else []) = false → k.unitFull .ieee = false →
    let r := f (fsFmt w) k.ieeeRnd (k.reg (fA w)).toNat (if binary then (k.reg (fB w)).toNat else 0) (if reads then (k.reg (fD w)).toNat else 0)
    Launches i x s .ieee fun q => q.effects = [.reg (fD w) (BitVec.ofNat 64 r.word), .ieee r.flags] ∧ q.regs = [fD w] ∧ q.ranges = [])

/-- Each of the FS instructions, CVTI and CVTF completes its issue (06 R145, R146; 07 R190): with a legal word, its registers ready and room in
the unit, the operation that carries its IEEE 754 result and flags enters the unit and the program moves on. -/
def Obligations.IeeeScalarCompletes : Prop :=
  ∀ (x : Issue) (s : State), Issues x s 0x61 →
    let c := x.core
    let w := x.word.toNat
    let k := s.core c
    let f := fsFmt w
    let r := k.ieeeRnd
    let a := (k.reg (fA w)).toNat
    let b := (k.reg (fB w)).toNat
    isReg (fD w) = true → isReg (fA w) = true → bits w 28 0 = 0 → k.unitFull .ieee = false →
    let issued (q : FpRes) : State := (s.launch c (fsOperation k w q)).advance c
    (isReg (fB w) = true → s.unready c [fD w, fA w, fB w] = false →
      (bits w 33 30 = 0 → exec (.fsAdd x) s = .next (issued (opAdd f r a b)))
      ∧ (bits w 33 30 = 1 → exec (.fsSub x) s = .next (issued (opSub f r a b)))
      ∧ (bits w 33 30 = 2 → exec (.fsMul x) s = .next (issued (opMul f r a b)))
      ∧ (bits w 33 30 = 3 → exec (.fsDiv x) s = .next (issued (opDiv f r a b)))
      ∧ (bits w 33 30 = 5 → exec (.fsFma x) s = .next (issued (opFma f r a b (k.reg (fD w)).toNat)))
      ∧ (bits w 33 30 = 6 → exec (.fsMax x) s = .next (issued (f.pickFp true (f.cut a) (f.cut b))))
      ∧ (bits w 33 30 = 7 → exec (.fsMin x) s = .next (issued (f.pickFp false (f.cut a) (f.cut b))))
      ∧ (bits w 33 30 = 9 → exec (.fsCmplt x) s = .next (issued (f.compare Fp.lt a b)))
      ∧ (bits w 33 30 = 10 → exec (.fsCmpeq x) s = .next (issued (f.compare (fun p q => !p.lt q && !q.lt p) a b))))
    ∧ (fB w = 0 → s.unready c [fD w, fA w] = false →
      (bits w 33 30 = 4 → exec (.fsSqrt x) s = .next (issued (opSqrt f r a)))
      ∧ (bits w 33 30 = 8 → exec (.fsCvt x) s = .next (issued (convertFp f (if f == fmt32 then fmt64 else fmt32) 0 a)))
      ∧ (bits w 33 30 = 11 → exec (.cvti x) s = .next (issued (f.toInt64 r a)))
      ∧ (bits w 33 30 = 12 → exec (.cvtf x) s = .next (issued (f.ofInt64 r a))))

/-- The AB instructions issue (21 R480–R483): with their descriptors and chains accessible, an operation that fails an outcome check ends
with that code in D and writes nothing; one that passes carries its outcome and the bytes of its destination. -/
def Obligations.AbacusLaunch : Prop :=
  ∀ (x : Issue) (s : State) (i : Instr) (illegal : Nat → Option CoreFault) (useC : Bool) (chains : Nat → List Nat)
      (plan : CoreId → Nat → State → AbPlan),
    (i, illegal, useC, chains, plan) ∈ ([
      (.madd x, fun w => abIllegal 0 true (bits w 13 0 == 0 && (bitOf w 20 || bits w 19 14 == 0)) w, true,
        fun w => [fA w, fB w] ++ (if bitOf w 21 then [] else [fC w]), maddPlan),
      (.ntt x, fun w => abIllegal 1 false (bits w 23 0 == 0) w, false, fun w => [fA w, fB w], transformPlan false),
      (.intt x, fun w => abIllegal 2 false (bits w 23 0 == 0) w, false, fun w => [fA w, fB w], transformPlan true),
      (.auto x, fun w => abIllegal 3 false (bits w 22 18 == 0) w, false, fun w => [fA w, fB w], autoPlan),
      (.kgen x, fun w => abIllegal 4 false (bits w 23 0 == 0) w, false, fun w => [fA w], kgenPlan)]
      : List (Instr × (Nat → Option CoreFault) × Bool × (Nat → List Nat) × (CoreId → Nat → State → AbPlan))) →
    Issues x s 0x70 → illegal x.word.toNat = none →
    let c := x.core
    let w := x.word.toNat
    let k := s.core c
    let regs := [fA w, fB w] ++ (if useC then [fC w] else [])
    let descs : List Area := regs.map fun r => ⟨k.regNat r, k.regNat r + 32, 32, false⟩
    let lists : List Area := (chains w).map fun r => let d := s.poly c (k.regNat r); ⟨d.chain, d.chain + 16 * d.chlen, 16, false⟩
    let p := plan c w s
    let dst : List Area := p.dst.ranges.map fun r => ⟨r.1, r.2, 64, true⟩
    let writes := p.dst.ranges ++ [(k.regNat (fA w), k.regNat (fA w) + 32)]
    s.unready c (fD w :: regs) = false → k.unitFull .abacus = false →
    s.checkOperands c [] descs = .ok → k.rangeBusy (allRanges [] descs) = false →
    s.checkOperands c [] lists = .ok → k.rangeBusy (allRanges [] lists) = false →
    (p.code ≠ 0 → Launches i x s .abacus fun op => op.ranges = [] ∧ op.regs = [fD w] ∧
      op.effects = [.abacus (bits w 27 24) p.code p.dst.units.length 0, .reg (fD w) (BitVec.ofNat 64 p.code)])
    ∧ (p.code = 0 → s.checkOperands c [] (dst ++ p.areas) = .ok → k.blocked (allRanges [] p.areas ++ writes) writes = false →
      Launches i x s .abacus fun op => op.ranges = writes ∧ op.regs = [fD w] ∧
        let r := p.result ()
        op.effects = r.reads ++ ({ TileOut.empty with writes := r.writes ++ p.dst.tail (k.regNat (fA w)) }).stores k
          ++ [.abacus (bits w 27 24) (if r.noncanon then 256 else 0) p.dst.units.length r.elems,
              .reg (fD w) (BitVec.ofNat 64 (if r.noncanon then 256 else 0))])

/-- What retiring operations do (06 R146, R159).
- Operations retire in the order they entered their unit (06 R145, R146): the oldest of the unit leaves, its effects happen and the
first-NaN events it raises reach the trap; with none in flight nothing changes. The oldest AB that computes retires alike.
- What the effects of a retiring operation do (02 R60; 04 R112, R120; 05 R122; 07 R160): stores write memory, a result its register, status
bits join, an AMX fold takes the larger magnitude. -/
def Obligations.Retirement : Prop :=
  ( ∀ (c : CoreId) (s : State) (i : Instr) (u : ExecUnit),
    (i, u) ∈ [(Instr.latticePassRetire c, ExecUnit.lattice), (.drainRetire c, .drain), (.ewRetire c, .elementwise),
      (.lanternRetire c, .lantern), (.ieeeRetire c, .ieee), (.abExecutionComplete c, .abacus)] →
    ((∀ op ∈ (s.core c).inflight, op.unit ≠ u) → exec i s = .next s)
    ∧ (∀ before op after, (s.core c).inflight = before ++ op :: after → (∀ q ∈ before, q.unit ≠ u) → op ∉ before → op.unit = u →
        (∀ ch src dst len st rest, op.effects ≠ .keyUnit ch src dst len st :: rest) →
        let t := (s.modCore c fun k => { k with inflight := before ++ after }).retire c op
        exec i s = .next (t.1.nanReport c t.2)))
  ∧
  ( ∀ (s : State) (c : CoreId),
    (∀ a bs, s.applyEffect c (.store a bs) = { s with mem := memWrite s.mem a bs })
    ∧ (∀ r v, s.applyEffect c (.reg r v) = s.modCore c fun k => k.setReg r v)
    ∧ (∀ b i, bitOf ((s.applyEffect c (.cvt b)).core c).cvt i = (bitOf (s.core c).cvt i || bitOf b i))
    ∧ (∀ f i, bitOf ((s.applyEffect c (.ieee f)).core c).ieeeStat i = (bitOf (s.core c).ieeeStat i || bitOf f i))
    ∧ (∀ n w nf, (((s.applyEffect c (.amx n w nf)).core c).amx[n]).nf = (((s.core c).amx[n]).nf || nf)
        ∧ (((s.applyEffect c (.amx n w nf)).core c).amx[n]).amax = px16Max ((s.core c).amx[n]).amax w)
    ∧ (∀ q set, ((s.applyEffect c (.stats q set)).core c).stats[q] = set)
    ∧ (∀ slot pos, (s.core c).drnNf = true → s.applyEffect c (.drnNf slot pos) = s)
    ∧ (∀ slot pos, (s.core c).drnNf = false → ((s.applyEffect c (.drnNf slot pos)).core c).drnNf = true
        ∧ ((s.applyEffect c (.drnNf slot pos)).core c).drnSlot = slot ∧ ((s.applyEffect c (.drnNf slot pos)).core c).drnPos = pos))

/-! ## Scale histories, reductions, banks, streams, epochs -/

/-- The scale-history instructions and the record (05 R125–R131; 07 R192).
- SHINIT, SHOBS, SHCMT, SHDSC and SHANC on a record in an owned bank that no earlier operation writes (05 R125–R131; 07 R192): SHINIT
gives the record its length, target and headroom; SHOBS takes AMXn in and clears it; SHCMT and SHDSC commit or discard a step; SHANC
writes the anchor of two records. A record beyond the scratchpad, in a bank that is not owned, out of alignment, or with illegal fields
faults, in this order (06 R149).
- A record's observations, commits and discards (05 R126, R127): a committed step moves the pending word to the next entry of the ring
and makes the second pending word the first; another step changes nothing; a discard from a step on drops what is pending from it on. -/
def Obligations.ScaleHistory : Prop :=
  ( ∀ (x : Issue) (s : State),
    let c := x.core
    let w := x.word.toNat
    let k := s.core c
    let a := k.regNat (fA w)
    let b := k.regNat (fB w)
    let ready (at_ : Nat) : Prop := at_ % 128 = 0 ∧ at_ + 128 ≤ 0x400000
    let open_ (l : List Nat) : Prop := (∀ q ∈ l, ready q) ∧ s.heldAll c (l.map fun q => (q, q + 128)) = .owned
      ∧ s.napping c (l.map fun q => (q, q + 128)) = false ∧ k.rangeBusy (l.map fun q => (q, q + 128)) = false ∧ k.shder = none
    s.unready c [fD w, fA w, fB w, fC w] = false → isReg (fA w) = true →
    (Issues x s 0x68 → fD w = 0 → fB w = 0 → fC w = 0 → bits w 27 6 = 0 → bits w 5 0 ≤ 32 → open_ [a] →
      exec (.shinit x) s = .next ((s.shWrite c a { ShRec.ofNat 0 with
        len := if bits w 5 0 = 0 then s.partObj c 0x6000 1 16 else bits w 5 0
        tgt := s.partObj c 0x6000 3 0, hdr := s.partObj c 0x6000 2 2 }).advance c))
    ∧ (Issues x s 0x69 → fD w = 0 → fB w = 0 → fC w = 0 → bits w 27 3 = 0 → open_ [a] → (s.shRead c a).bad = false →
      k.amxBusy (Fin.ofNat 8 (bits w 2 0)) = false →
      let n : Fin 8 := Fin.ofNat 8 (bits w 2 0)
      let r := (s.shRead c a).observe (k.amx[n]).amax k.stepno.toNat
      let t := (s.shWrite c a r.1).modCore c fun q => { q with amx := q.amx.set n Amx.reset }
      exec (.shobs x) s = .next ((if r.2 then bumpOf t c 0x6010 3 else t).advance c))
    ∧ (Issues x s 0x6A → fD w = 0 → isReg (fB w) = true → fC w = 0 → bits w 27 0 = 0 → open_ [a] → (s.shRead c a).bad = false →
      exec (.shcmt x) s = .next ((s.shCommit c a (b % 2 ^ 32)).advance c))
    ∧ (Issues x s 0x6B → fD w = 0 → isReg (fB w) = true → fC w = 0 → bits w 27 0 = 0 → open_ [a] → (s.shRead c a).bad = false →
      exec (.shdsc x) s = .next ((s.shDiscard c a (b % 2 ^ 32)).advance c))
    ∧ (Issues x s 0x6D → isReg (fD w) = true → isReg (fB w) = true → isReg (fC w) = true → bits w 27 0 = 0 → open_ [a, b] →
      (s.shRead c a).bad = false → (s.shRead c b).bad = false → 1 ≤ k.regNat (fC w) → k.regNat (fC w) ≤ 2 ^ 20 →
      exec (.shanc x) s = .next (wrote x s (BitVec.ofInt 64 (anchorOf (s.shRead c a) (s.shRead c b) (k.regNat (fC w)) k.stepno.toNat))))
    ∧ (Issues x s 0x6A → fD w = 0 → isReg (fB w) = true → fC w = 0 → bits w 27 0 = 0 →
      (0x400000 < a + 128 → exec (.shcmt x) s = .next (s.takeFault c ⟨2, 2, 0, 0, 0xF⟩))
      ∧ (a + 128 ≤ 0x400000 → s.heldAll c [(a, a + 128)] = .no → exec (.shcmt x) s = .next (s.takeFault c ⟨2, 5, 0, 0, 0xF⟩))
      ∧ (a + 128 ≤ 0x400000 → s.heldAll c [(a, a + 128)] = .owned → a % 128 ≠ 0 → exec (.shcmt x) s = .next (s.takeFault c ⟨2, 8, 0, 0, 0xF⟩))
      ∧ (open_ [a] → (s.shRead c a).bad = true → exec (.shcmt x) s = .next (s.takeFault c ⟨2, 8, 0, 0, 0xF⟩))))
  ∧
  ( ∀ (r : ShRec) (word step : Nat), r.ent.length = 32 → r.head < 32 →
    (r.p0v = true → r.step0 = step → ∃ t, r.commit step = some t ∧ t.head = (r.head + 1) % 32 ∧ t.cstep = step
        ∧ t.ent[t.head]? = some r.pend0 ∧ (∀ i, i ≠ t.head → t.ent[i]? = r.ent[i]?) ∧ t.nval = min (r.nval + 1) 32
        ∧ t.pend0 = r.pend1 ∧ t.step0 = r.step1 ∧ t.p0v = r.p1v ∧ t.p1v = false)
    ∧ ((r.p0v = false ∨ r.step0 ≠ step) → r.commit step = none)
    ∧ ((r.discard step).1.p0v = (r.p0v && decide (r.step0 < step)) ∧ (r.discard step).1.p1v = (r.p1v && decide (r.step1 < step))
        ∧ (r.discard step).1.ent = r.ent ∧ (r.discard step).1.head = r.head ∧ (r.discard step).1.nval = r.nval)
    ∧ (step ≤ r.cstep → 0 < r.nval → (r.observe word step).2 = true ∧ bitOf (r.observe word step).1.flags 6 = true)
    ∧ ((r.cstep < step ∨ r.nval = 0) → r.p0v = false → r.p1v = false → (r.observe word step).2 = false
        ∧ (r.observe word step).1.pend0 = word ∧ (r.observe word step).1.step0 = step ∧ (r.observe word step).1.p0v = true))

/-- SHDER (05 R129, R137): with the SCALE duty at the engine the derived scale goes to SCALE and D at once; with the duty at Marionette the
core asks for the host's 8 bytes, takes them where their step is the core's and the scale is legal, reads again at the retry where they
are not, and falls back to the derived scale at the timeout. -/
def Obligations.ScaleDerive : Prop :=
  (∀ (x : Issue) (s : State),
    let c := x.core
    let w := x.word.toNat
    let k := s.core c
    let a := k.regNat (fA w)
    let r := (s.shRead c a).derive k.stepno.toNat
    let q := if r.2 then (s.shRead c a).mark 2 else s.shRead c a
    Issues x s 0x6C → isReg (fD w) = true → isReg (fA w) = true → fB w = 0 → fC w = 0 → bits w 27 0 = 0 → s.unready c [fD w, fA w] = false →
    k.shder = none → a % 128 = 0 → a + 128 ≤ 0x400000 → s.heldAll c [(a, a + 128)] = .owned → k.rangeBusy [(a, a + 128)] = false →
    s.napping c [(a, a + 128)] = false → (s.shRead c a).bad = false →
    (s.scaleMarionette c = false → exec (.shder x) s = .next ((s.shFinish c (fD w) a q r.1).advance c))
    ∧ (s.scaleMarionette c = true → s.shHostOk c q.haddr 0 8 false = true →
        exec (.shder x) s = .next ((((s.shWrite c a q).modCore c fun z => { z with shder := some ⟨fD w, a, Fin.ofNat 16 q.pch, offsetOf q.haddr,
          k.stepno, r.1, k.pc, k.tag, .due, k.issued⟩ }).porterGoesOn c).advance c))
    ∧ (s.scaleMarionette c = true → s.shHostOk c q.haddr 0 8 false = false →
        exec (.shder x) s = .next (((s.shLate c).shFinish c (fD w) a (q.mark 3) r.1).advance c)))
  ∧ (∀ (s : State) (c : CoreId) (q : ShderWait), (s.core c).shder = some q →
      (∀ tag, q.phase = .asked tag → ∀ bs : List Byte,
        let v := leNat (bs.take 8)
        let r := { s.shRead c q.record with hscale := bits v 15 0, hstep := bits v 63 32 }
        (bits v 63 32 = q.step.toNat → bits v 15 0 < 0x8000 → isScale (bits v 15 0) = true → bits v 15 0 = q.derived →
          exec (.shderHostDataArrive c (.data bs)) s =
            .next (((s.endShRead c).shFinish c q.dreg q.record r (bits v 15 0)).modCore c fun k => { k with shder := none }))
        ∧ (bits v 63 32 ≠ q.step.toNat → exec (.shderHostDataArrive c (.data bs)) s =
          .next (((s.endShRead c).shWrite c q.record r).modCore c fun k => { k with shder := some { q with phase := .pause } })))
      ∧ ((∀ tag, q.phase ≠ .asked tag) → ∀ a : ReadAnswer, exec (.shderHostDataArrive c a) s = .next s)
      ∧ (q.phase = .pause → exec (.shderHostRetry c) s =
          .next ((s.modCore c fun k => { k with shder := some { q with phase := .due } }).porterGoesOn c))
      ∧ (let u := bumpOf ((s.dropShRead c).shLate c) c 0x5100 5
        exec (.shderHostTimeout c) s = .next ((u.shFinish c q.dreg q.record ((u.shRead c q.record).mark 3) q.derived).modCore c
          fun k => { k with shder := none })))

/-- The five CRED instructions (07 R186; 18 R419, R423): without a context the outcome CTX_BAD reaches OREG; with one and room on it the CRED
waits behind the core's others and joins its reduction; with four reductions of this die in flight and a fifth begun, nothing happens yet. -/
def Obligations.CredInstructions : Prop :=
  ∀ (x : Issue) (s : State) (i : Instr) (mode : Nat),
    (i, mode) ∈ [(Instr.credHearthSum x, 0), (.credMaximum x, 1), (.credFp64Sum x, 2), (.credVote x, 3), (.credBroadcast x, 4)] →
    Issues x s 0x49 → credIllegal mode x.word.toNat = none →
    let c := x.core
    let w := x.word.toNat
    let k := s.core c
    let p := k.regNat (fP w)
    let slot := if mode = 0 then k.drainSlot (fH w) else 0
    let dest := if mode = 0 then bits p 45 40 else 0
    s.unready c ([fP w, credOreg w] ++ (if mode = 2 ∨ mode = 4 then [credSreg w] else if mode = 3 then [48 + credSreg w] else [])) = false →
    (mode = 0 → k.isPairTop (fH w) = false ∧ k.groupOf (bits p 45 40) = none ∧ k.swapping (fH w) = false ∧ k.slotBusy slot = false
      ∧ k.slotBusy dest = false ∧ k.epochHoldsSlot dest = false) →
    (mode = 1 → k.amxBusy (Fin.ofNat 8 (credAxn w)) = false) →
    ((k.part = none ∨ ∃ n, k.part = some n ∧ (s.parts[n]).canopy.find? (fun (e : Nat × Fin 8) => e.1 == bits w 27 25) = none) →
      exec i s = .next ((s.modCore c fun q => q.setReg (credOreg w) 1).advance c))
    ∧ (∀ (n : PartId) (ctx : Fin 8), k.part = some n → (s.parts[n]).canopy.find? (fun (e : Nat × Fin 8) => e.1 == bits w 27 25) = some (bits w 27 25, ctx) →
        let rseq := tabGet 0 (s.canopy[ctx]).counts c.val
        let crowded := 4 ≤ ((s.canopy[ctx]).reds.filter fun (r : Reduction) => r.issued != []).length
          ∧ ((s.canopy[ctx]).reds.any fun (r : Reduction) => r.rseq == rseq) = false
        (s.canopy[ctx]).settled ≤ rseq →
        (crowded → exec i s = .next s)
        ∧ (¬crowded → ∃ t : State, exec i s = .next (t.advance c)
            ∧ (t.core c).creds = k.creds ++ [⟨ctx.val, rseq, mode, credAxn w, credSreg w, credOreg w, slot, dest, k.pc, k.tag, false, k.issued⟩]
            ∧ t.mem = s.mem ∧ ((t.canopy[ctx]).reds.any fun (r : Reduction) => r.rseq == rseq) = true))

/-- CLAIM, GIVE and FREE (07 R195; 08 R204, R207, R210): a claim goes out with its candidates, or ends NONE_FREE; a give that fails a local
check ends with its code, one that passes asks the bank's home router; a freed bank leaves the window and is cleared for the pool. -/
def Obligations.BankInstructions : Prop :=
  ∀ (x : Issue) (s : State),
    let c := x.core
    let w := x.word.toNat
    let k := s.core c
    let b := k.regNat (fA w)
    let bi : BankIx := Fin.ofNat 32 b
    k.epoch.opened = false → s.bankBusy c = false → isReg (fD w) = true → s.unready c [fD w, fA w, fB w] = false → bits w 27 0 = 0 → fC w = 0 →
    (Issues x s 0x80 → fA w = 0 → fB w = 0 → s.adoptClaim c k.pc (fD w) = none →
      let u := s.dropClaim c k.pc
      let q : Claim := ⟨.core c, c, fD w, u.candidates c, (u.core c).pc, (u.core c).issued⟩
      (u.candidates c = [] → exec (.claim x) s = .next ((u.claimRefused q 1 none).advance c))
      ∧ (u.candidates c ≠ [] → exec (.claim x) s = .next (({ u with claims := u.claims ++ [q] }).advance c)))
    ∧ (Issues x s 0x81 → isReg (fA w) = true → isReg (fB w) = true →
      let t := k.regNat (fB w)
      ((31 < b ∨ 63 < t) → exec (.give x) s = .next ((s.giveEnd c b (.give (fD w)) 3).advance c))
      ∧ (b ≤ 31 → t ≤ 63 → k.windows[bi] = none → exec (.give x) s = .next ((s.giveEnd c b (.give (fD w)) 4).advance c))
      ∧ (∀ m, b ≤ 31 → t ≤ 63 → k.windows[bi] = some m → t = c.val → exec (.give x) s = .next ((s.giveEnd c b (.give (fD w)) 0).advance c))
      ∧ (∀ m, b ≤ 31 → t ≤ 63 → k.windows[bi] = some m → t ≠ c.val → s.inTransit c bi = false →
          s.giveReady c bi k.issued (k.chansIn bi) = true → exec (.give x) s = .next (({ s with handovers := s.handovers ++
            [(⟨m, bi, some c, Fin.ofNat 64 t, .give (fD w), false, false, k.pc, k.issued, []⟩ : Handover)] }).advance c)))
    ∧ (Issues x s 0x82 → isReg (fA w) = true → fB w = 0 →
      (31 < b → exec (.free x) s = .next ((s.giveEnd c b (.give (fD w)) 3).advance c))
      ∧ (b ≤ 31 → k.windows[bi] = none → exec (.free x) s = .next ((s.giveEnd c b (.give (fD w)) 4).advance c))
      ∧ (∀ m, b ≤ 31 → k.windows[bi] = some m → s.inTransit c bi = false → s.giveReady c bi k.issued (k.chansIn bi) = true →
          exec (.free x) s = .next ((((s.loseWindow c bi).clearBank m bi .pool).giveEnd c b (.give (fD w)) 0).retryAll.advance c)))

/-- Claims, handovers and clearing (08 R204–R210, R216).
- A claim at a home router and a handover on its way (08 R204–R209, R216): one request for a FREE powered bank takes it, two are settled
by distance from GPTR and move it; a handover goes TRANSIT, recorded, OWNED, and is a device-fatal fault at the timeout; a cleared bank passes
to its next party.
- The order of contested claims (08 R205): the winner is the requester at the least distance upward from GPTR. -/
def Obligations.BankMoves : Prop :=
  ( (∀ (s : State) (m : CoreId) (b : BankIx) (q : Claim), (s.claims.filter fun r => [q.who].contains r.who && r.cands.head? == some (m, b)) = [q] →
      s.windowTaken q.target b = false → s.bank m b = .free → s.unitGated m b = false →
      exec (.claimRequestArrive m b [q.who]) s = .next (s.grant q m b))
  ∧ (∀ (s : State) (c m : CoreId) (b : BankIx) (d pc order : Nat), d < 48 →
      let t := s.grant ⟨.core c, c, d, [], pc, order⟩ m b
      (t.core c).windows[b] = some m ∧ (t.core c).reg d = BitVec.ofNat 64 b.val ∧ (∀ q ∈ t.claims, q.who ≠ .core c))
  ∧ (∀ (s : State) (h : Handover), s.handovers.find? (fun g => g.home == h.home && g.bank == h.bank && !g.sent) = some h →
      (∀ c, h.source = some c → (s.core c).windows[h.bank] = some h.home → s.giveReady c h.bank h.order h.waits = true →
        s.handoverRefusal h = none →
        exec (.handoverRequestArrive h.home h.bank) s = .next (((({ s with
          handovers := s.handovers.map fun g => if g == h then { g with sent := true } else g }).setBank h.home h.bank (.transit h.target)).loseWindow c h.bank).retryAll))
      ∧ (∀ c code, h.source = some c → (s.core c).windows[h.bank] = some h.home → s.giveReady c h.bank h.order h.waits = true →
        s.handoverRefusal h = some code →
        exec (.handoverRequestArrive h.home h.bank) s = .next ((s.dropHandover h).giveEnd c h.bank h.how code))
      ∧ (∀ c, h.source = some c → (s.core c).windows[h.bank] ≠ some h.home → s.bank h.home h.bank ≠ .transit h.target →
        (s.handovers.any fun g => g.home == h.home && g.bank == h.bank && g.sent) = false →
        exec (.handoverRequestArrive h.home h.bank) s = .next ((s.dropHandover h).giveEnd c h.bank h.how 4))
      ∧ (h.source = none → s.handoverRefusal h = none → exec (.handoverRequestArrive h.home h.bank) s = .next (({ s with
          handovers := s.handovers.map fun g => if g == h then { g with sent := true } else g }).setBank h.home h.bank (.transit h.target))))
  ∧ (∀ (s : State) (h : Handover), s.handovers.find? (fun g => g.home == h.home && g.bank == h.bank && g.sent && !g.recorded) = some h →
      ∃ t : State, exec (.handoverBankArrive h.home h.bank) s = .next t ∧ (t.core h.target).windows[h.bank] = some h.home ∧ t.mem = s.mem ∧ t.banks = s.banks)
  ∧ (∀ (s : State) (h : Handover), s.handovers.find? (fun g => g.home == h.home && g.bank == h.bank && g.recorded) = some h →
      (∀ c, h.source = some c → exec (.handoverAckArrive h.home h.bank) s =
        .next (((s.dropHandover h).setOwned h.home h.bank h.target).giveEnd c h.bank h.how 0))
      ∧ (∀ n, h.source = none → h.how = .ring n → exec (.handoverAckArrive h.home h.bank) s =
        .next (((s.dropHandover h).setOwned h.home h.bank h.target).stageDone n h.home h.bank)))
  ∧ (∀ (s : State) (h : Handover) (c : CoreId), s.handovers.find? (fun g => g.home == h.home && g.bank == h.bank && g.sent) = some h →
      h.source = some c → ∃ t : State, exec (.handoverTimeout h.home h.bank) s = .next t ∧ t.handovers = [] ∧ t.tick = s.tick
        ∧ t.mem = [] ∧ t.faults.fatal.head?.map (fun (e : EventRec) => (e.code, e.cls)) = some (0x40, 4))
  ∧ (∀ (s : State) (m : CoreId) (b : BankIx) (p : BankParty), s.bank m b = .clearing p →
      (p = .pool → exec (.bankClearDone m b) s = .next (s.setBank m b .free))
      ∧ (p = .lent → exec (.bankClearDone m b) s = .next (s.setBank m b .lent))
      ∧ (∀ c, p = .core c → exec (.bankClearDone m b) s = .next (s.setOwned m b c))
      ∧ (∀ r q, p = .claimer r → s.claims.find? (fun z => z.who == r && z.cands == []) = some q →
          exec (.bankClearDone m b) s = .next (s.grant q m b))))
  ∧
  ( ∀ (gptr : Nat) (rs : List Requester), rs ≠ [] → ∃ w, contestWinner gptr rs = some w ∧ w ∈ rs ∧ ∀ r ∈ rs, grantDistance gptr w ≤ grantDistance gptr r)

/-- SEND, RECV and SCLOSE (07 R194; 10 R252–R257).
- SEND, RECV and SCLOSE (07 R194; 10 R252–R257): a try that completes writes its outcome to D; one that waits leaves the core WAITING at
the instruction with the word and the tick of its timeout remembered, and at that tick the wait ends with TIMEOUT where nothing has come.
What a try changes may end another wait.
- What SEND and RECV do to a context of this die (10 R252, R253, R255): SEND spends a credit, numbers the message and puts it into the
mesh; without a credit it waits. A closed or broken context, one that is not the core's, and a length that does not fit answer their codes. -/
def Obligations.StreamRows : Prop :=
  ( (∀ (x : Issue) (s : State),
    let c := x.core
    let w := x.word.toNat
    let k := s.core c
    let a := k.regNat (fB w)
    let area (wr : Bool) : List Area := [⟨a, a + k.regNat (fC w), 1, wr⟩]
    isReg (fD w) = true → isReg (fA w) = true → bits w 11 0 = 0 → s.unready c [fD w, fA w, fB w, fC w] = false →
    (∀ i opc wr, (i, opc, wr) ∈ [(Instr.send x, 0x78, false), (.recv x, 0x79, true)] → Issues x s opc → isReg (fB w) = true → isReg (fC w) = true →
      s.checkOperands c [] (area wr) = .ok → k.rangeBusy (allRanges [] (area wr)) = false →
      (∀ t d, s.streamTry c w = .done t d → exec i s = .next ((t.streamEnd c w d).retryAll.advance c))
      ∧ (s.streamTry c w = .wait → exec i s = .next (s.modCore c fun k => { k with
          mode := .waiting, wait := some ⟨x.word, k.pc, s.tick + s.waitTicks c w⟩ })))
    ∧ (Issues x s 0x7A → fB w = 0 → fC w = 0 → bits w 27 0 = 0 → ∀ t d, s.streamTry c w = .done t d →
        exec (.sclose x) s = .next ((t.streamEnd c w d).retryAll.advance c)))
  ∧ (∀ (s : State) (c : CoreId) (q : StreamWait), (s.core c).wait = some q → s.streamTry c q.word.toNat = .wait →
      (q.due ≤ s.tick → exec (.streamWaitTimeout c) s = .next ((bumpOf s c 0x4050 4).endWait c q.word.toNat 1))
      ∧ (s.tick < q.due → exec (.streamWaitTimeout c) s = .next s)))
  ∧
  ( ∀ (s : State) (c : CoreId) (n : PartId) (i addr len key : Nat) (x : Ctx), s.ctxOf n i = some (key, x) → x.clearing = false →
    ((x.state = 0 ∨ x.sends c = false) → s.sendTry c n i addr len = .done s 4)
    ∧ (x.state ≠ 0 → x.sends c = true → (len = 0 ∨ x.slotBytes - 8 < len) → s.sendTry c n i addr len = .done s 5)
    ∧ (x.sends c = true → 1 ≤ len → len ≤ x.slotBytes - 8 →
      ((x.state = 2 ∨ x.state = 3 ∨ x.state = 4) → s.sendTry c n i addr len = .done s 2)
      ∧ (x.state = 5 → s.sendTry c n i addr len = .done s 3)
      ∧ (x.state = 1 → s.farLost x x.far = true → s.sendTry c n i addr len = .done (s.breakCtx key 4) 3)
      ∧ (x.state = 1 → s.farLost x x.far = false → x.cred = 0 → s.sendTry c n i addr len = .wait)
      ∧ (x.state = 1 → x.cred ≠ 0 → x.remote = false → ∃ t : State, s.sendTry c n i addr len = .done t 0
          ∧ t.traffic = s.traffic ++ [.msg n i (x.sent.toNat % x.depth) (s.core c).openEpoch (scratchBytes s.mem (s.core c) addr len) x.score x.rcore]
          ∧ t.mem = s.mem ∧ t.cores = s.cores))
    ∧ ((x.state = 0 ∨ x.receives c = false) → s.recvTry c n i addr len = .done s 4)
    ∧ (x.receives c = true → (x.state = 3 ∨ x.state = 4) → s.recvTry c n i addr len = .done s 2)
    ∧ (let pos := x.rcvd.toNat + x.ercvd
      s.napping c [(x.slotOff pos, x.slotOff pos + 8 + len)] = false → x.receives c = true →
      (x.state = 1 → bitOf (s.slotHdr x pos) 24 = false → s.recvTry c n i addr len = .wait)
      ∧ (x.state = 5 → bitOf (s.slotHdr x pos) 24 = false → s.recvTry c n i addr len = .done s 3)
      ∧ ((x.state = 1 ∨ x.state = 2 ∨ x.state = 5) → (s.core c).epoch.opened = false → x.unread = true →
        bitOf (s.slotHdr x pos) 24 = true → bitOf (s.slotHdr x pos) 25 = false →
        let m := bits (s.slotHdr x pos) 23 0
        (len < m → s.recvTry c n i addr len = .done s 5)
        ∧ (m ≤ len → ∃ t : State, s.recvTry c n i addr len = .done t (m * 2 ^ 16) ∧ t.cores = s.cores ∧ (x.remote = false → t.traffic = s.traffic ++ [.credit n i 1 x.rcore x.score])))))

/-- Messages, credits and close notices arrive (10 R252, R256, R262): the oldest message for a context is written into its slot behind its
header, unless an older one between the same cores is still under way, a credit adds to CRED, a notice closes the far end. -/
def Obligations.StreamArrivals : Prop :=
  ∀ (s : State) (n : PartId) (i key : Nat) (x : Ctx), s.ctxOf n i = some (key, x) →
    (∀ index spec payload a b rest portA, takeTraffic (isMsg n i) (sameData x) s.traffic = some (.msg n i index spec payload a b, rest) →
      exec (.streamMessageArrive n ⟨i, portA⟩) s =
        .next (({ s with traffic := rest }).landMessage key x index (slotHeader payload.length spec) payload portA))
    ∧ (∀ portA, takeTraffic (isMsg n i) (sameData x) s.traffic = none → exec (.streamMessageArrive n ⟨i, portA⟩) s = .next s)
    ∧ (∀ count a b rest, takeTraffic (isCredit n i) (sameControl x) s.traffic = some (.credit n i count a b, rest) →
      (x.state ≠ 0 → exec (.streamCreditArrive n i) s =
        .next ((({ s with traffic := rest }).setCtx key { x with cred := x.cred + BitVec.ofNat 16 count }).retryEnds x))
      ∧ (x.state = 0 → exec (.streamCreditArrive n i) s = .next { s with traffic := rest }))
    ∧ (x.remote = true → (x.state = 1 ∨ x.state = 2 ∨ x.state = 3) → exec (.streamCloseNoticeArrive n i) s =
        .next ((s.setCtx key (x.closed x.side)).retryEnds x))
    ∧ (x.remote = true → x.state = 5 → exec (.streamCloseNoticeArrive n i) s = .next (s.setCtx key { x with state := 4 }))

/-- Epochs, clearing cores and the Scout (06 R144, R150–R157; 07 R197).
- EPB, EPC and EPD (06 R155–R157; 07 R197): EPB opens an epoch with a snapshot and the next PC as RESTART; EPC drops the snapshot; EPD
restores it and goes on at RESTART; one that does not match what is open sets EPSEQ and nothing else.
- What a discard leaves of a core with nothing in flight (06 R157): the registers of the snapshot, the PC at RESTART, no epoch open.
- A clearing core enters HALTED when its memories are clear, and no slot of its Hearth clears any more; the Scout starts at the sequencer's PC and treats the offered word; a Scout
that is switched off, or whose core does not run, does nothing (06 R144, R150, R151). -/
def Obligations.EpochRows : Prop :=
  ( ∀ (x : Issue) (s : State),
    let c := x.core
    let w := x.word.toNat
    let k := s.core c
    fD w = 0 → isReg (fA w) = true → fB w = 0 → fC w = 0 → bits w 27 0 = 0 → s.unready c [fA w] = false →
    (Issues x s 0x88 → k.epoch.opened = false → k.inflight = [] → k.shder = none → s.bankRegs c = [] →
      s.verdictPassed c ((k.reg (fA w)).truncate 32) = false →
      ∃ t : State, exec (.epb x) s = .next (t.advance c) ∧ t.mem = s.mem ∧ t.objs = s.objs ∧ (t.core c).epoch.opened = true
        ∧ (t.core c).epoch.id = (k.reg (fA w)).truncate 32 ∧ (t.core c).epoch.restart = (k.pc + 1) % 16384
        ∧ (t.core c).epoch.snapshot = some k.capture ∧ (t.core c).epoch.banks = k.epoch.banks ∧ (t.core c).epoch.slots = k.epoch.slots)
    ∧ (Issues x s 0x88 → k.epoch.opened = true → exec (.epb x) s = .next ((s.modCore c fun q => { q with epseq := true }).advance c))
    ∧ (Issues x s 0x89 → k.epochNamed w = true →
      (k.part = none → exec (.epc x) s = .next ((s.modCore c Core.commitEpoch).advance c))
      ∧ (∀ n, k.part = some n → exec (.epc x) s = .next (((s.modCore c Core.commitEpoch).streamsCommit n (some c) k.epoch.id).advance c)))
    ∧ (Issues x s 0x8A → k.epochNamed w = true →
      let u := match k.part with | some n => s.streamsDiscard n (some c) k.epoch.id | none => s
      exec (.epd x) s = .next (((u.discardCore c true).1.nanReport c (u.discardCore c true).2).retryAll))
    ∧ (k.epochNamed w = false →
      (Issues x s 0x89 → exec (.epc x) s = .next ((s.modCore c fun q => { q with epseq := true }).advance c))
      ∧ (Issues x s 0x8A → exec (.epd x) s = .next ((s.modCore c fun q => { q with epseq := true }).advance c))))
  ∧
  ( ∀ (s : State) (c : CoreId) (q : Snapshot), (s.core c).epoch.snapshot = some q → (s.core c).inflight = [] → (s.core c).scout.running = false →
    let t := ((s.discardCore c true).1).core c
    t.sreg = q.sreg ∧ t.areg = q.areg ∧ t.preg = q.preg ∧ t.lreg = q.lreg ∧ t.treg = q.treg ∧ t.tag = q.tag ∧ t.amx = q.amx ∧ t.stats = q.stats
      ∧ t.pc = (s.core c).epoch.restart ∧ t.mode = .running ∧ t.epoch.opened = false ∧ t.epoch.snapshot = none
      ∧ t.epoch.banks = (s.core c).epoch.banks ∧ t.epoch.slots = (s.core c).epoch.slots)
  ∧
  ( ∀ (s : State) (c : CoreId) (x : Issue),
    ((s.core c).mode = .clearing → exec (.coreClearingDone c) s = .next (s.modCore c fun k => { k with
        mode := .halted, slots := k.slots.map fun (h : HSlot) => { h with clearing := false } }))
    ∧ ((s.core x.core).scoutEn = true → (s.core x.core).mode = .running → (s.core x.core).epoch.discarding = false → x.ecc ≠ .double →
        exec (.scoutAdvance x) s = .next ((s.scoutStart x.core).scoutTreat x.core x)
        ∧ ((s.core x.core).scout.running = false → ((s.scoutStart x.core).core x.core).scout.pc = (s.core x.core).pc
            ∧ ((s.scoutStart x.core).core x.core).scout.sreg = (s.core x.core).sreg)
        ∧ ((∀ m, (s.core m).power.gated = 0) → ((s.scoutStart x.core).scoutTreat x.core x).mem = s.mem))
    ∧ ((s.core x.core).scoutEn = false → exec (.scoutAdvance x) s = .next s))

/-! ## Porter, ring pages, the commands of the command ring -/

/-- PGO and PWAIT (07 R196; 09 R222, R225): PGO writes SRC, DST, CNT and CTL with GO of an idle channel and starts it; PWAIT reads PCH_STAT of
a channel that is not active; both wait while the channel is active. -/
def Obligations.PorterInstructions : Prop :=
  ∀ (x : Issue) (s : State),
    let c := x.core
    let w := x.word.toNat
    let k := s.core c
    let i : ChanIx := Fin.ofNat 16 (bits w 27 24)
    bits w 23 0 = 0 → isReg (fD w) = true → s.unready c [fD w, fA w, fB w, fC w] = false →
    (Issues x s 0x83 → isReg (fA w) = true → isReg (fB w) = true → isReg (fC w) = true → s.adoptTransfer c i = none →
      let ch := (k.chans[i]).pgo (k.regNat (fA w)) (k.regNat (fB w)) (k.regNat (fC w)) (k.regNat (fD w))
      ((k.chans[i]).state.isActive = true → exec (.pgo x) s = .next s)
      ∧ ((k.chans[i]).state.isActive = false → k.epochHoldsStart ch.regs = false →
          exec (.pgo x) s = .next (((s.setChan c i ch).freshChan c i).advance c)
          ∧ ch.state = .queued ∧ ch.regs.src = k.reg (fA w) ∧ ch.regs.dst = k.reg (fB w) ∧ ch.regs.cnt = BitVec.ofNat 32 (k.regNat (fC w))
          ∧ ch.regs.ns = bitOf (k.regNat (fD w)) 10 ∧ ch.regs.mode = bits (k.regNat (fD w)) 5 4))
    ∧ (Issues x s 0x84 → fA w = 0 → fB w = 0 → fC w = 0 →
      ((k.chans[i]).state.isActive = true → exec (.pwait x) s = .next s)
      ∧ ((k.chans[i]).state.isActive = false → exec (.pwait x) s = .next (wrote x s (BitVec.ofNat 64 (k.chans[i]).stat))))

/-- The engine of a core (09 R225–R239): the checks of a start reject it with the code of the first that fails, or let it run, or end it at
once where nothing is left to move (a comparison of no byte finds no difference, R233); data that arrives is kept for the next beat; a beat moves at the
channel of highest priority that the banks and HBM3E units can serve; a bus error on a read that no stop has left behind stops every active channel and is
recorded. -/
def Obligations.PorterEngine : Prop :=
  ∀ (s : State) (c : CoreId) (i : ChanIx),
    let k := s.core c
    let ch := k.chans[i]
    (ch.state = .queued → ch.checked = false →
      (ch.checkStatic ≠ 0 → exec (.porterChecksDone c i) s =
        .next ((bumpOf (s.setChan c i { ch with state := .rejected, cause := ch.checkStatic }) c 0x4040 4).porterGoesOn c))
      ∧ (∀ code, ch.checkStatic = 0 → s.checkAccess c i ch = some code → code ≠ 0 → exec (.porterChecksDone c i) s =
        .next ((bumpOf (s.setChan c i { ch with state := .rejected, cause := code }) c 0x4040 4).porterGoesOn c))
      ∧ (ch.checkStatic = 0 → s.checkAccess c i ch = some 0 → ch.regs.length ≤ ch.wdone → exec (.porterChecksDone c i) s =
        .next ((s.setChan c i { ch with
          state := .done, checked := true
          regs := if ch.regs.mode = 3 then { ch.regs with fill := 0xFFFFFFFFFFFFFFFF } else ch.regs }).porterGoesOn c))
      ∧ (ch.checkStatic = 0 → s.checkAccess c i ch = some 0 → ch.wdone < ch.regs.length → spaceOf ch.regs.dstAddr ≠ 2 →
        exec (.porterChecksDone c i) s = .next ((s.setChan c i { ch with checked := true }).issueReads c)))
    ∧ (∀ data corrected, (ch.regs.remoteReads.all fun a => spaceOf a != 2) = true ∨ s.delivery = .kv2c →
        exec (.porterReadDataArrive c i ⟨data, corrected⟩) s = .next ((s.readArrives c i data).issueReads c)
        ∧ ((s.readArrives c i data).issueReads c).mem = s.mem)
    ∧ (∀ data corrected, (ch.regs.remoteReads.any fun a => spaceOf a == 2) = true → s.delivery = .kv2p → corrected ≠ 0 →
        exec (.porterReadDataArrive c i ⟨data, corrected⟩) s = .next (((objBump s none 0xC110 2 corrected).readArrives c i data).issueReads c))
    ∧ (∀ r : BeatReport, (∀ j : ChanIx, (k.chans[j]).aborting = false) →
      (k.pickChan (s.beatReady c) = none → exec (.porterBeat ⟨c, r⟩) s = .next (s.porterGoesOn c))
      ∧ (∀ j n, k.pickChan (s.beatReady c) = some (j, n) →
          let u := s.modCore c fun q => { q with
            served := some (j, n)
            chans := q.chans.map fun (z : Channel) => if z.state == .active && decide (z.regs.prio < (k.chans[j]).regs.prio) then { z with state := .preempted } else z }
          exec (.porterBeat ⟨c, r⟩) s = .next (((u.moveBeat c j r).issueReads c).porterGoesOn c)))
    ∧ (∀ e : BusError, k.porterActive = true → k.late = [] → ∃ t : State, exec (.porterBusError c e) s = .next t ∧
        ∀ j : ChanIx, (k.chans[j]).spec = false → (k.chans[j]).state.isActive = true →
          ((t.core c).chans[j]).state = .stoppedByEngine ∧ ((t.core c).chans[j]).cause = 0x10 ∧ ((t.core c).chans[j]).wdone = (k.chans[j]).wdone)

/-- Beats of the Porter (08 R215; 09 R228–R234).
- A beat of a copy between windows of one core (09 R228–R230, R234): the bytes of the source stand at the destination up to an 8-byte
boundary, what is left waits in the holding register, and the last beat ends the transfer.
- A collision of the two ports of Bank 0 or Bank 1 (08 R215): a word that a beat's port-B write and a port-A write of the owning core meet at keeps the
port-A bytes; the bank's and the channel's COLLIDE are set. -/
def Obligations.PorterCopyBeat : Prop :=
  ( ∀ (s : State) (c : CoreId) (i : ChanIx) (r : BeatReport),
    let k := s.core c
    let ch := k.chans[i]
    let g := ch.regs
    let n := ch.beatSpan ch.consumed
    g.mode = 0 → spaceOf g.srcAddr = 0 → spaceOf (g.dstAddr + ch.wdone) = 0 → ch.spec = false → k.part = none → r.portA = [] →
    let src := scratchBytes s.mem k (offsetOf g.srcAddr + ch.consumed) n
    let all := ch.held ++ src
    let last := ch.consumed + n = g.cnt.toNat
    let wr := if last then all.length else all.length - min ((g.dstAddr + ch.wdone + all.length) % 8) all.length
    let t := s.moveBeat c i r
    t.mem = scratchWrite s.mem k (offsetOf (g.dstAddr + ch.wdone)) (all.take wr)
    ∧ ((t.core c).chans[i]).wdone = ch.wdone + wr ∧ ((t.core c).chans[i]).held = all.drop wr
    ∧ ((t.core c).chans[i]).state = (if last then .done else .active)
    ∧ ((t.core c).chans[i]).collide = ch.collide
    ∧ (∀ j : ChanIx, j ≠ i → (t.core c).chans[j] = k.chans[j]) ∧ (t.core c).sreg = k.sreg ∧ (t.core c).cvt = k.cvt)
  ∧
  ( ∀ (s : State) (c : CoreId) (i : ChanIx) (w : Nat),
    let k := s.core c
    let ch := k.chans[i]
    let g := ch.regs
    let n := ch.beatSpan ch.consumed
    let a := g.dstAddr + ch.wdone
    let all := ch.held ++ scratchBytes s.mem k (offsetOf g.srcAddr + ch.consumed) n
    let b : BankIx := Fin.ofNat 32 (w * 8 / 0x20000)
    g.mode = 0 → spaceOf g.srcAddr = 0 → spaceOf a = 0 → ch.spec = false → k.part = none → ch.consumed + n = g.cnt.toNat → tabWf 0 s.mem = true →
    offsetOf a + all.length ≤ 0x400000 → w * 8 < 0x40000 → k.windows[b] = some c → 0 < all.length → w * 8 < offsetOf a + all.length → offsetOf a < w * 8 + 8 →
    let t := s.moveBeat c i { portA := [w], poisoned := [] }
    ((t.core c).chans[i]).collide = true
    ∧ (t.core c).bankOwn[b].collide = true
    ∧ ∀ x : Nat, x / 8 = w → scratchByte t.mem (t.core c) x = scratchByte s.mem k x)

/-- Doorbells, PRST, the vector table and the other registers of a ring page (11 R264–R268; 12 R294): an aligned CMD_DB of a formed partition is
taken, or DB_BAD is set and counted; while an entry into Nap or Ember is under way it is held (16 R368); CPL_DB frees the entries it names; a doorbell of an unformed partition is lost; an access of
another size sets SIZE_BAD; GO resets the partition; a holdoff that ends raises vector 0. -/
def Obligations.RingPage : Prop :=
  ∀ (s : State) (n : PartId) (a : RegAccess) (offset : Nat),
    let p := s.parts[n]
    (s.power.entering ≠ .nothing →
      exec (.cmdDbWrite n a) s = .next { s with power := { s.power with doorbells := s.power.doorbells ++ [(false, n, a)] } }
      ∧ exec (.cplDbWrite n a) s = .next { s with power := { s.power with doorbells := s.power.doorbells ++ [(true, n, a)] } })
    ∧ (a.aligned = false →
      (s.power.entering = .nothing → exec (.cmdDbWrite n a) s = .next (s.modPart n fun p => { p with sizeBad := true })
        ∧ exec (.cplDbWrite n a) s = .next (s.modPart n fun p => { p with sizeBad := true }))
      ∧ exec (.prstGo n a) s = .next (s.modPart n fun p => { p with sizeBad := true })
      ∧ (0x1000 ≤ offset → offset < 0x1080 → exec (.vectorControlWrite n offset a) s = .next (s.modPart n fun p => { p with sizeBad := true })))
    ∧ (a.aligned = true →
      (s.power.entering = .nothing → s.partState n ≠ 2 → exec (.cmdDbWrite n a) s = .next s.doorbellLost ∧ exec (.cplDbWrite n a) s = .next s.doorbellLost)
      ∧ (s.power.entering = .nothing → s.partState n = 2 → s.cmdDbOk n a.value.toNat = false → exec (.cmdDbWrite n a) s = .next (s.doorbellBad n))
      ∧ (s.power.entering = .nothing → s.partState n = 2 → s.cmdDbOk n a.value.toNat = true → s.delivery = .kv2p → ∃ t : State, exec (.cmdDbWrite n a) s = .next t
          ∧ (t.parts[n]).cmdDb = a.value ∧ (t.parts[n]).observed = bits a.value.toNat 15 0 ∧ t.objs = s.objs ∧ t.mem = s.mem)
      ∧ (s.power.entering = .nothing → s.partState n = 2 → bits a.value.toNat 31 16 = 0 → bits a.value.toNat 15 0 < objGet s (some n) 0x4010 0xD →
          let read := (bits a.value.toNat 15 0 + objGet s (some n) 0x4010 0xD - bits p.cplDb.toNat 15 0) % objGet s (some n) 0x4010 0xD
          (read ≤ p.unread → exec (.cplDbWrite n a) s = .next (s.modPart n fun p => { p with cplDb := a.value, unread := p.unread - read }))
          ∧ (p.unread < read → exec (.cplDbWrite n a) s = .next (s.doorbellBad n)))
      ∧ (s.partState n = 2 → bitOf a.value.toNat 0 = true → exec (.prstGo n a) s = .next (s.partitionReset n true))
      ∧ (s.partState n ≠ 2 → exec (.prstGo n a) s = .next s)
      ∧ (0x1000 ≤ offset → offset < 0x1080 → offset % 4 = 0 → p.vecPending = 0 →
          let v : Fin 8 := Fin.ofNat 8 ((offset - 0x1000) / 16)
          exec (.vectorControlWrite n offset a) s = .next (s.modPart n fun q => { q with
            vectors := q.vectors.set v ((q.vectors[v]).put (offset % 16 / 4) a.value) })))
    ∧ (bits p.intMod.toNat 23 8 ≠ 0 → p.unsignalled ≠ 0 →
        exec (.interruptHoldoffExpiry n) s = .next ((s.modPart n fun q => { q with unsignalled := 0 }).raiseVector n 0))

/-- The ring engine (12 R293–R304).
- The ring engine fetches (12 R293, R296–R299): with an entry announced, none waiting and room for its record a read of the 64 bytes goes out; a
full completion ring counts once for a wait; the fetched bytes end the fetch and count as an arrival; a command that waits too long completes
REFUSED_CAPACITY with cause 1, and as it returns no tokens no other waiting command is considered (R299).
- A completion record (12 R293, R304): it has 32 bytes, the record's place CWR moves to the next entry of the ring, PHASE turns where it wraps, the
record counts as unread, and no core and no byte of memory changes. -/
def Obligations.RingEngine : Prop :=
  ( ∀ (s : State) (n : PartId),
    let p := s.parts[n]
    let nx := objGet s (some n) 0x4010 0xE
    (s.partState n = 2 → p.fetching = false → (p.commands.any fun (c : Command) => c.stage == .waiting) = false → nx ≠ p.observed →
      s.busMaster n = true → s.readRoom = true →
      (s.cplFree n = true → exec (.commandFetch n) s =
        .next ((s.hostAsk n (objGet s (some n) 0x4010 0xA + 64 * nx) 64 .fetch true).2.modPart n fun p => { p with fetching := true, fullWait := false }))
      ∧ (s.cplFree n = false → p.fullWait = true → exec (.commandFetch n) s = .next s)
      ∧ (s.cplFree n = false → p.fullWait = false → exec (.commandFetch n) s =
        .next (objBump (s.modPart n fun p => { p with fullWait := true }) (some n) 0x4020 0xA)))
    ∧ (∀ bytes : List Byte, p.fetching = true → bytes.length = 64 → ∃ t : State, exec (.commandFetchComplete n bytes) s = .next t
        ∧ (t.parts[n]).fetching = false ∧ t.arrivals = s.arrivals + 1)
    ∧ (∀ c : Command, p.commands.find? (fun (c : Command) => c.stage == .waiting) = some c →
        exec (.admissionTimeout n) s = .next ((objBump s (some n) 0x4020 9 c.tmo).finish n { c with waited := c.tmo } 2 1 0 0)))
  ∧
  ( ∀ (s : State) (n : PartId) (r : Record) (cwr entries : Nat),
    cwr = objGet s (some n) 0x4010 0xF → entries = objGet s (some n) 0x4010 0xD → cwr < entries → entries ≤ 32768 → tabWf 0 s.objs = true →
    let t := s.writeRecord n r
    objGet t (some n) 0x4010 0xF = (if cwr + 1 = entries then 0 else cwr + 1)
    ∧ (t.parts[n]).phase = ((s.parts[n]).phase != decide (cwr + 1 = entries))
    ∧ (t.parts[n]).unread = (s.parts[n]).unread + 1
    ∧ t.mem = s.mem ∧ t.cores = s.cores
    ∧ ∀ (phase : Bool), (r.bytes phase).length = 32)

/-- The commands of the ring (12 R296, R300, R302): the command next to start takes its effect, at once or until a completion of its own; a
START makes the named cores RUNNING at ENTRY with its arguments in s0–s3, and completes when they are HALTED and no Porter channel of the partition is
active (09 R246); one that ended otherwise keeps its outcome for that moment. -/
def Obligations.RingCommands : Prop :=
  ∀ (s : State) (n : PartId) (c : Command),
    let p := s.parts[n]
    (p.commands.find? (fun (c : Command) => c.opc == 0 && c.stage == .admitted) = some c → exec (.cmdNop n) s = .next (s.finish n c c.outcome 0 0 0))
    ∧ (p.nextStart c.opc = some c →
      (c.opc = 1 → s.progBusy n c = false → s.startWaits n c = false → s.coreStateBad c = false → ∃ t : State, exec (.start n) s = .next t ∧ t.mem = s.mem ∧ t.objs = s.objs
        ∧ ∀ k ∈ c.named, (t.core k).mode = .running ∧ (t.core k).pc = c.field 24 2 % 16384 ∧ ((t.core k).sreg[(0 : Fin 32)]) = BitVec.ofNat 64 (c.field 32 8)
            ∧ ((t.core k).sreg[(3 : Fin 32)]) = BitVec.ofNat 64 (c.field 56 8) ∧ (t.core k).areg = (s.core k).areg)
      ∧ (c.opc = 2 → s.coreStateBad c = false → exec (.coreReset n) s =
          .next (((c.named.foldl (fun (s : State) (k : CoreId) => s.resetCore k) s).retryAll).finish n c c.outcome 0 0 0))
      ∧ (c.opc = 3 → exec (.preset n) s = .next (s.partitionReset n true))
      ∧ (∀ key y, c.opc = 4 → s.openOrder n c = 0 → s.ctxOf n (c.field 16 4) = some (key, y) →
          let u := ((s.nowRuns n c).dropTraffic n (c.field 16 4)).setCtx key (openedCtx n c)
          exec (.streamOpen n) s = .next (if (openedCtx n c).remote && !(openedCtx n c).side then u else u.clearRing (openedCtx n c)))
      ∧ (c.opc = 4 → s.openOrder n c ≠ 0 → exec (.streamOpen n) s = .next (s.finish n c 3 (0x10 + s.openOrder n c) 0 0))
      ∧ (c.opc = 5 → exec (.stage n) s = .next ((s.nowRuns n c).ringNext n))
      ∧ (∀ i : Fin 8, c.opc = 6 → s.ctxBad n c = false → s.freeCanopy = some i →
          exec (.ctxAcq n) s = .next ((s.takeCanopy n (c.field 16 1) false i).finish n c c.outcome 0 0 i.val))
      ∧ (c.opc = 6 → s.ctxBad n c = false → s.freeCanopy = none → exec (.ctxAcq n) s = .next (s.finish n c 2 5 0 0))
      ∧ (c.opc = 7 → s.ctxBad n c = false → exec (.ctxRel n) s = .next ((s.dropCanopy n (c.field 16 1)).finish n c c.outcome 0 0 0)))
    ∧ (p.runningStart = some c →
      (c.ended = none → (∀ k ∈ c.named, (s.core k).mode = .halted) → s.channelsRun n = false →
        exec (.startComplete n) s = .next (s.finish n c c.outcome 0 0 (s.startResult c)))
      ∧ (∀ outcome cause detail, c.ended = some (outcome, cause, detail) → s.channelsRun n = false →
        exec (.startComplete n) s = .next (s.finish n c outcome cause detail (s.startResult c)))
      ∧ (s.channelsRun n = true → exec (.startComplete n) s = .next s)
      ∧ (c.run ≠ 0 → c.ended = none → (∀ k ∈ c.named, (s.core k).mode = .running ∨ (s.core k).mode = .waiting) → ∃ t : State, exec (.runBoundExpiry n) s = .next t ∧ ∀ k ∈ c.named, (t.core k).mode ≠ .running ∧ (t.core k).mode ≠ .waiting))
    ∧ (∀ key y, p.commands.find? (fun (c : Command) => c.opc == 4 && c.stage == .running) = some c → s.ctxOf n (c.field 16 4) = some (key, y) →
        exec (.streamOpenClearDone n) s = .next ((s.setCtx key { y with clearing := false }).finish n c c.outcome 0 0 0))
    ∧ (∀ (m : CoreId) (b : BankIx) (bytes : List Byte), s.filling n = some (c, m, b) → spaceOf (c.field 24 8) = 1 → s.delivery = .kv2p →
        bytes.length = c.field 20 4 → c.field 20 4 ≤ c.asked →
        exec (.stageCopyComplete n (.data bytes)) s = .next ((s.write (bankBase m b) bytes).stageFilled n c m b))
    ∧ (∀ (m : CoreId) (b : BankIx) (bytes : List Byte), s.filling n = some (c, m, b) → spaceOf (c.field 24 8) = 2 →
        s.hbmReady n (offsetOf (c.field 24 8)) (c.field 20 4) = true → s.hbmPoisoned n (offsetOf (c.field 24 8)) (c.field 20 4) = false →
        exec (.stageCopyComplete n (.data bytes)) s =
          .next ((s.write (bankBase m b) (s.hbmRead n (offsetOf (c.field 24 8)) (c.field 20 4))).stageFilled n c m b))
    ∧ (∀ (m : CoreId) (b : BankIx) (kind : Nat), s.filling n = some (c, m, b) →
        exec (.stageCopyComplete n (.error kind)) s = .next (s.stageFails n c m b kind (offsetOf (c.field 24 8))))

/-! ## Guyline requests, formation, the host link -/

/-- Request rows (13 R317, R318; 14 R334; log 59): the request that is next is taken from its queue and served; one that is queued behind others
waits; one that is not queued comes in on its port first; a request of another row's operation or object is none of this row's. -/
def Obligations.GuylineRequests : Prop :=
  ∀ (r : Request) (s : State),
    let p := r.pdu
    let w (index sub : Nat) : Bool := isWrite r index sub
    (∀ (i : Instr) (mine : Bool), (i, mine) ∈ [(Instr.read r, p.op == 1), (.write r, p.op == 2 && !w 0x8300 1),
        (.notificationRead r, p.op == 1 && (p.index == 0x1120 || p.index == 0x1121) && p.sub == 1), (.brinit r, p.op == 3), (.brseg r, p.op == 4),
        (.bwinit r, p.op == 5), (.bwseg r, p.op == 6), (.bwend r, p.op == 7), (.babort r, p.op == 8), (.discover r, p.op == 9), (.echo r, p.op == 0xB),
        (.bivouacExit r, w 0x3000 3), (.fuseUpdateRequest r, w 0x3030 1), (.form r, w 0x4100 0xD), (.partitionResetWrite r, w 0x4100 0xE),
        (.dissolve r, w 0x4100 0xF), (.weightWrite r, w 0x4010 2), (.apertureWrite r, p.op == 2 && p.index == 0xC031),
        (.nodeIdWrite r, w 0xD010 1 || w 0xD010 3 || w 0xD010 4),
        (.dutyModeRequest r, p.op == 2 && dutyOf p.index != 0 && p.index % 256 == 0 && p.sub == 1),
        (.stepAnswer r, w 0x5210 2), (.stashAnswer r, w 0x5310 2), (.remapAnswer r, w 0x5410 2), (.patrolAnswer r, w 0x5510 2),
        (.powerAnswer r, w 0x5610 2), (.emberRequest r, w 0x2000 1), (.powerCapWrite r, w 0x2010 1),
        (.putInUse r, p.op == 2 && decide (0x7010 ≤ p.index) && decide (p.index ≤ 0x7015) && p.sub == 8),
        (.startRecovery r, w 0x8400 8), (.trapArmWrite r, w 0x6020 1)] →
      (mine = true → s.nextRequest = some r → exec i s = .next (s.serveNow r []))
      ∧ (mine = true → s.nextRequest ≠ some r → r ∈ s.warden.queue → exec i s = .next s)
      ∧ (mine = true → s.nextRequest ≠ some r → r ∉ s.warden.queue →
          exec i s = .next (if (s.comesIn r).nextRequest = some r then (s.comesIn r).serveNow r [] else s.comesIn r))
      ∧ (mine = false → exec i s = .next s))
    ∧ (∀ host : List Byte, w 0x8300 1 = true → s.nextRequest = some r → exec (.restoreFromRecord r host) s = .next (s.serveNow r host))

/-- How requests are served and what writes do (13 R317–R323).
- How a request for this die is served (13 R317–R323): a READ that passes its checks answers the object's bytes, a WRITE that passes them takes
effect and answers without data, and one that a check refuses is booked and answers the abort of the first check that fails; DISCOVER and
ECHO answer at once, or VIEW (4) where the view is not granted (13 R312, R314).
- What the writes with effects of their own do (06 R161; 12 R291, R292, R294, R298; 13 R321; 16 R366; 18 R404; 19 R448; 20 R466): FORM, reset and
DISSOLVE act on the partition named, a code in obj 4100.10 says why one is refused; a weight computes the shares anew; 1 in obj 6020.01 arms
the trap and clears its record; an aperture changes once no active channel uses HOST space (09 R227; 11 R269). -/
def Obligations.RequestEffects : Prop :=
  ( ∀ (s : State) (r : Request) (host : List Byte), s.elsewhere r = false → blockOnly r.pdu = false →
    (r.pdu.op = 1 → r.pdu.data = [] → ∀ (abort : Nat) (row : ObjRow), s.checkAccessTo r false = (abort, row) →
      (abort = 0 → s.serve r host = ((s.readObject (scopeOf r.pdu row) row).2).sendAnswer r 0 (s.readObject (scopeOf r.pdu row) row).1)
      ∧ (abort ≠ 0 → s.serve r host = (s.bookRefusal r.pdu abort []).sendAnswer r abort []))
    ∧ (r.pdu.op = 2 → ∀ (abort : Nat) (row : ObjRow), s.checkAccessTo r true = (abort, row) →
      (abort ≠ 0 → s.serve r host = (s.bookRefusal r.pdu abort r.pdu.data).sendAnswer r abort [])
      ∧ (abort = 0 → s.checkWritable (scopeOf r.pdu row) row ≠ 0 →
          s.serve r host = (s.bookRefusal r.pdu (s.checkWritable (scopeOf r.pdu row) row) r.pdu.data).sendAnswer r (s.checkWritable (scopeOf r.pdu row) row) [])
      ∧ (abort = 0 → s.checkWritable (scopeOf r.pdu row) row = 0 → s.checkValue (scopeOf r.pdu row) row r.pdu.data = 0 → afterAnswer row = false →
          ∀ t : State, s.applyWrite r (scopeOf r.pdu row) row r.pdu.data host = (0, t) → t.warden.current = none →
            s.serve r host = t.sendAnswer r 0 []))
    ∧ (r.pdu.op = 9 → s.viewGranted r = true → s.serve r host = s.sendAnswer r 0 s.discoverBytes)
    ∧ (r.pdu.op = 0xB → s.viewGranted r = true → s.serve r host = s.sendAnswer r 0 r.pdu.data)
    ∧ ((r.pdu.op = 9 ∨ r.pdu.op = 0xB) → s.viewGranted r = false → s.serve r host = (s.bookRefusal r.pdu 4 []).sendAnswer r 4 []))
  ∧
  ( ∀ (s : State) (r : Request) (q : Option PartId) (row : ObjRow) (bs host : List Byte) (n : PartId),
    let v := leNat bs
    let at_ (index sub : Nat) : Prop := row.index = index ∧ row.sub = sub
    let written := s.applyWrite r q row bs host
    (at_ 0x4100 0xD → v = n.val → (s.formCode n = 0 → written = (0, s.form n)) ∧ (s.formCode n ≠ 0 → written = (0xD, objSet s none 0x4100 0x10 (s.formCode n))))
    ∧ (at_ 0x4100 0xE → v = n.val → (s.partState n = 2 → written = (0, s.partitionReset n true)) ∧ (s.partState n = 0 → written = (0xD, objSet s none 0x4100 0x10 9)))
    ∧ (at_ 0x4100 0xF → v = n.val → (s.partState n ≠ 0 → written = (0, s.dissolve n)) ∧ (s.partState n = 0 → written = (0xD, objSet s none 0x4100 0x10 9)))
    ∧ (at_ 0x4010 2 → row.len ≠ 0 → written = (0, (objSet s q 0x4010 2 v).recomputeShares))
    ∧ (at_ 0x6020 1 → q = some n → v = 1 → ∃ t : State, written = (0, t) ∧ objGet t (some n) 0x6020 1 = 1 ∧ ∀ i, 2 ≤ i → i ≤ 8 → objGet t (some n) 0x6020 i = 0)
    ∧ (at_ 0x2010 1 → row.len ≠ 0 → written = (0, objSet s q 0x2010 1 v))
    ∧ (at_ 0x8010 0xB → q = some n → written = (0, s.stepStateWritten n v))
    ∧ (at_ 0x8400 8 → q = some n → s.campOf n ≠ 0 → written = (0, s.settle n))
    ∧ (at_ 0x2000 1 → v = 1 → s.emberRefusal ≠ 0 → written = (0xD, objSet s none 0x2000 3 s.emberRefusal))
    ∧ (at_ 0x2000 1 → v = 1 → s.emberRefusal = 0 → s.devState ≠ 1 → s.patrol.running = false → s.patrol.banks = [] → s.patrol.cores = [] →
        ∃ t : State, written = (0, t) ∧ t.power.entering = .ember ∧ objGet t none 0x2000 1 = 1 ∧ t.mem = s.mem)
    ∧ (∀ p : PortIx, at_ (0x7010 + p.val) 8 → written = (0, s.putInUse p))
    ∧ (at_ 0x3000 3 → s.inBivouac = false → written = (0xD, objSet s none 0x3000 0xC 1))
    ∧ (row.index = 0xC031 → q = some n → row.len ≠ 0 →
        (s.hostActive n = false → written = (0, objSet s q 0xC031 row.sub v))
        ∧ (s.hostActive n = true → ∃ t : State, written = (0, t) ∧ t.objs = s.objs ∧ (t.parts[n]).apertures = (s.parts[n]).apertures ++ [(row.sub, v)])))

/-- A partition that is being formed or reset (12 R291, R294; 08 R216): its cores are its own, cleared and CLEARING while it forms, with every Hearth
slot and every bank CLEARING; it is FORMED once all of them and its HBM units are clear; a reset empties its rings. -/
def Obligations.Formation : Prop :=
  ∀ (s : State) (n : PartId),
    (s.partState n = 1 → s.allClear n = true → ∃ t : State, exec (.formationComplete n) s = .next t ∧ t.partState n = 2 ∧ t.mem = s.mem
      ∧ t.cores = s.cores ∧ t.banks = s.banks)
    ∧ (s.partState n = 1 → s.allClear n = false → exec (.formationComplete n) s = .next s)
    ∧ (s.partState n ≠ 1 → exec (.formationComplete n) s = .next s)
    ∧ (∀ (m : CoreMode) (c : CoreId),
        let t := s.giveCore n m c
        (t.core c).part = some n ∧ (t.core c).mode = m ∧ (t.core c).pc = 0 ∧ (t.core c).sreg = .replicate 32 0 ∧ (t.core c).preg = pregReset
        ∧ (∀ b : BankIx, (t.core c).windows[b] = some c)
        ∧ (∀ h : SlotIx, ((t.core c).slots[h]).clearing = (m == .clearing))
        ∧ (∀ b : BankIx, t.bank c b = .clearing (.core c))
        ∧ (∀ a, bankBase c 0 ≤ a → a < bankBase c 0 + 0x400000 → memByte t.mem a = 0)
        ∧ (∀ d, d ≠ c → t.core d = s.core d))
    ∧ (let t := s.clearRings n
       (t.parts[n]).cmdDb = 0 ∧ (t.parts[n]).cplDb = 0 ∧ (t.parts[n]).unread = 0 ∧ (t.parts[n]).phase = true
       ∧ objGet t (some n) 0x4010 0xE = 0 ∧ objGet t (some n) 0x4010 0xF = 0)

/-- The PCIe rows of a KV2-P whose endpoint answers (11 R271–R276, R290): function-level resets, the clearing of VF Enable, D3hot to D0, hot reset,
configuration requests, the completion timeout, and the width and rate of a link that comes up. -/
def Obligations.PcieRows : Prop :=
  ∀ (s : State) (f : PartId),
    (s.pcieUp = true →
      (f ≠ 0 → s.functionThere f = true → ∃ t : State, exec (.pcieFlrVf f) s = .next t ∧ t = s.flrVf f
        ∧ ∀ reg, reg < 16 → t.cfgGet f reg = cfgDefault reg)
      ∧ (f ≠ 0 → s.functionThere f = false → exec (.pcieFlrVf f) s = .next s)
      ∧ (∃ t : State, exec .pcieFlrPf0 s = .next t ∧ t = s.flrPf0 ∧ ∀ reg, reg < 16 → t.cfgGet 0 reg = cfgDefault reg)
      ∧ (bitOf (s.cfgGet 0 8) 0 = true → exec .pcieVfEnableClear s = .next s.vfsOff)
      ∧ (s.functionThere f = true → s.cfgGet f 5 = 3 → exec (.pcieD3hotToD0 f) s = .next (s.backToD0 f))
      ∧ (∀ q : ConfigRequest,
          (s.functionThere f = true → q.write = false → exec (.pcieConfigRequest f q) s = .next (s.emit (.regValue (s.cfgRead f q.reg))))
          ∧ (s.functionThere f = false → q.write = false → exec (.pcieConfigRequest f q) s = .next (s.emit (.regValue 0xFFFFFFFF)))
          ∧ (s.functionThere f = true → q.write = true → exec (.pcieConfigRequest f q) s = .next (s.cfgWrite f q.value.toNat q.reg)
            ∧ (q.reg = .identity → exec (.pcieConfigRequest f q) s = .next s))))
    ∧ (s.delivery = .kv2p → s.linkUp = true → ∃ t : State, exec .pcieHotReset s = .next t ∧ t.mem = [] ∧ t.banks = [] ∧ t.tick = s.tick
        ∧ t.boot.due = true ∧ t.pins = s.pins)
    ∧ (∀ (c : CoreId) (addr : W64), s.partOf c = some f → s.delivery = .kv2p → bitOf (s.cfgGet f 3) 4 = false →
        (∀ r : HostRead, s.readAt f c addr.toNat = some r → exec (.pcieCompletionTimeout c addr) s = .next (s.readFails r 3))
        ∧ (s.readAt f c addr.toNat = none → exec (.pcieCompletionTimeout c addr) s = .next (s.busError c 1 3 addr.toNat)))
    ∧ (∀ (width : BitVec 8) (rate : W16), s.delivery = .kv2p → s.pins.mainPg = true → s.pins.perst = false → s.inBivouac = false → 2 ≤ objGet s none 0x3000 2 →
        ∃ t : State, exec (.pcieLinkUp width rate) s = .next t ∧ objGet t none 0xC010 2 = width.toNat ∧ objGet t none 0xC010 1 = rate.toNat ∧ t.mem = s.mem)

/-- The UCIe rows of a KV2-C whose link is up, and those of the HBM3E (11 R277–R289): reads and writes of ring pages, answers to the device's own
reads, credits, fences, the completion timeout, the loss of the link, and the wake out of L2. -/
def Obligations.UcieRows : Prop :=
  ∀ (s : State),
    (s.ucieUp = true → ∀ h : UciePacket,
      (ucieTarget h = none →
        exec (.ucieHostRd h) s = .next ((s.owe 0 0 1).ucieError.transmit (.ucieCpl h.part h.addr h.tag 1 []))
        ∧ exec (.ucieHostWr h) s = .next (s.owe 1 (payloadUnits h.len) 0).ucieError)
      ∧ (∀ (n : PartId) (off : Nat), ucieTarget h = some (n, off) →
        exec (.ucieHostRd h) s = .next ((s.owe 0 0 1).transmit (.ucieCpl h.part h.addr h.tag 0 (leBytes 4 ((s.owe 0 0 1).pageRead n off))))
        ∧ (h.payload.length = 4 → exec (.ucieHostWr h) s =
            .next ((s.owe 1 (payloadUnits h.len) 0).pageWrite n off (BitVec.ofNat 32 (leNat h.payload)))))
      ∧ (s.readOf h.tag = none → exec (.ucieCpld h) s = .next s.ucieError ∧ exec (.ucieCpl h) s = .next s.ucieError)
      ∧ (∀ r : HostRead, s.readOf h.tag = some r → h.part = r.part.val →
        ((h.status = 1 ∨ h.status = 2) → exec (.ucieCpl h) s = .next (s.readFails r 5))
        ∧ (h.payload.length = h.len → h.len ≠ 0 → h.addr = r.addr + r.data.length → r.data.length + h.len = r.len → h.status = 0 →
          (h.poison = true → exec (.ucieCpld h) s = .next (s.readFails r 4))
          ∧ (h.poison = false → exec (.ucieCpld h) s = .next (({ s with attach := { s.attach with reads := s.attach.reads.map fun (q : HostRead) =>
                if q.tag = r.tag then { r with data := r.data ++ h.payload } else q } }).readWhole { r with data := r.data ++ h.payload }))))
      ∧ (∀ r : HostRead, s.readOf h.tag = some r → h.tag < 1024 → exec (.ucieCompletionTimeout (BitVec.ofNat 10 h.tag)) s = .next (s.readFails r 3)))
    ∧ (s.ucieUp = true →
      (∀ cr : UcieCredits, exec (.ucieCrd cr) s = .next (({ s with attach := { s.attach with
          txHdrReq := s.attach.txHdrReq + cr.pHdr, txDatReq := s.attach.txDatReq + cr.pDat, txHdrNp := s.attach.txHdrNp + cr.npHdr
          txDatC := s.attach.txDatC + cr.cDat } }).owe 1 0 0).flushTx)
      ∧ ∃ t : State, exec .ucieLinkLoss s = .next t ∧ t.mem = [] ∧ t.tick = s.tick ∧ t.boot.due = true)
    ∧ (s.delivery = .kv2c →
      (∀ q : W16, q ≠ 0 → ∃ t : State, exec (.vdFence q) s = .next t ∧ objGet t none 0xC010 6 = q.toNat ∧ t.out = s.out ++ [.fenceAck q.toNat]
        ∧ ∀ n : PartId, (s.parts[n]).fenceWait = true → fenceCovers q.toNat (bits (s.parts[n]).cmdDb.toNat 31 16) = true →
            (t.parts[n]).observed = bits (s.parts[n]).cmdDb.toNat 15 0 ∧ (t.parts[n]).fenceWait = false)
      ∧ (∀ (width : BitVec 8) (rate : W16) (cr : UcieCredits), s.pins.mainPg = true → s.inBivouac = false → ∃ t : State, exec (.ucieLinkUp width rate cr) s = .next t
          ∧ objGet t none 0xC010 2 = width.toNat ∧ t.attach.fenced = false ∧ (t.attach.enough = true ↔ 16 ≤ cr.pHdr ∧ 64 ≤ cr.pDat ∧ 16 ≤ cr.npHdr))
      ∧ (s.devState = 1 → s.booted = true → s.power.exitWait = false → s.power.entering = .nothing →
          exec .ucieL2ExitRequest s = .next ((s.countWake 2).emberExit)))
    ∧ (∀ n : PartId, (s.parts[n]).fenceWait = true → ∃ t : State, exec (.fenceTimeout n) s = .next t ∧ (t.parts[n]).fenceWait = false
        ∧ (t.parts[n]).fenceTmo = true ∧ (t.parts[n]).observed = (s.parts[n]).observed)
    ∧ (s.delivery = .kv2p → ∀ found : List ScrubFind, ∃ t : State, exec (.hbmScrub found) s = .next t ∧ t.mem = s.mem ∧ t.hbm = s.hbm)
    ∧ (∀ (u : Nat) (next : Option PartId), s.hbm.clearing.find? (fun (e : Nat × Option PartId) => e.1 == u) = some (u, next) →
        ∃ t : State, exec (.hbmUnitClearDone u) s = .next t ∧ (∀ e ∈ t.hbm.clearing, e.1 ≠ u) ∧ t.mem = s.mem
          ∧ t.hbm.owner = tabSet 0 s.hbm.owner u (match next with | some n => n.val + 1 | none => 0))

/-! ## Carriers of Guyline, power, start -/

/-- I3C's common command codes and private transfers (14 R343, R346): addresses are assigned by ENTDAA and SETDASA and dropped by RSTDAA, ENEC and
DISEC switch the interrupts, the length limits accept 1,040 and more, the GET codes answer under a dynamic address and are NACKed without
one, a private read brings the oldest answer that is ready, once, and a new request discards those not read. -/
def Obligations.I3cRows : Prop :=
  ∀ (s : State),
    (∃ t : State, exec .rstdaa s = .next t ∧ t.i3cAddress = 0 ∧ t.warden = s.warden)
    ∧ (∀ a : BitVec 7, s.i3cAddress = 0 → i3cAssignable a.toNat = true →
        (∃ t : State, exec (.entdaa a) s = .next t ∧ t.i3cAddress = a.toNat ∧ t.out = s.out ++ [.i3c (beBytes 6 s.i3cPid ++ leBytes 1 6 ++ leBytes 1 0)])
        ∧ (∀ st : BitVec 7, st.toNat = objGet s none 0xD020 3 → ∃ t : State, exec (.setdasa st a) s = .next t ∧ t.i3cAddress = a.toNat ∧ t.out = s.out))
    ∧ (∀ a st : BitVec 7, s.i3cAddress ≠ 0 → exec (.entdaa a) s = .next (s.emit .i3cNack) ∧ exec (.setdasa st a) s = .next (s.emit .i3cNack))
    ∧ (∀ e : Byte, (∃ t : State, exec (.enec e) s = .next t ∧ t.warden.ibiEnabled = (s.warden.ibiEnabled || bitOf e.toNat 0) ∧ t.objs = s.objs)
        ∧ (∃ t : State, exec (.disec e) s = .next t ∧ t.warden.ibiEnabled = (s.warden.ibiEnabled && !bitOf e.toNat 0) ∧ t.objs = s.objs))
    ∧ (∀ n : W16, (n.toNat < 1040 → exec (.setmwl n) s = .next (s.emit .i3cNack) ∧ exec (.setmrl n) s = .next (s.emit .i3cNack))
        ∧ (1040 ≤ n.toNat → (∃ t : State, exec (.setmwl n) s = .next t ∧ t.warden.mwl = n.toNat) ∧ (∃ t : State, exec (.setmrl n) s = .next t ∧ t.warden.mrl = n.toNat)))
    ∧ (∀ (i : Instr) (bs : List Byte), (i, bs) ∈ [(Instr.getmwl, beBytes 2 s.warden.mwl), (.getmrl, beBytes 2 s.warden.mrl), (.getpid, beBytes 6 s.i3cPid),
          (.getbcr, leBytes 1 6), (.getdcr, leBytes 1 0)] →
        (s.i3cAddress ≠ 0 → exec i s = .next (s.emit (.i3c bs))) ∧ (s.i3cAddress = 0 → exec i s = .next (s.emit .i3cNack)))
    ∧ (s.i3cAddress ≠ 0 → ∃ (t : State) (bs : List Byte), exec .getstatus s = .next t ∧ t.out = s.out ++ [.i3c bs] ∧ bs.length = 2 ∧ t.objs = s.objs)
    ∧ (∀ (a : Pdu) (rest : List Pdu), s.warden.i3cAnswers = a :: rest → s.i3cAddress ≠ 0 → ∃ t : State, exec .i3cPrivateRead s = .next t
        ∧ t.warden.i3cAnswers = rest ∧ t.out = s.out ++ [.i3c (pduBytes a)])
    ∧ (s.warden.i3cAnswers = [] → exec .i3cPrivateRead s = .next (s.emit .i3cNack))
    ∧ (∀ x : I3cTransfer, x.ok = true → s.i3cAddress ≠ 0 → x.address.toNat = s.i3cAddress → 16 ≤ x.bytes.length → x.bytes.length ≤ 1040 →
        (pduCrcOk (pduOf x.bytes false) = true → exec (.i3cPrivateWrite x) s = .next (s.discardI3c.arrive ⟨.i3c, 0, 0, pduOf x.bytes false⟩))
        ∧ (pduCrcOk (pduOf x.bytes false) = false → exec (.i3cPrivateWrite x) s = .next (s.countPort .i3c 3)))
    ∧ (s.discardI3c.warden.i3cAnswers = [])

/-- The other carriers (14 R333–R345): a frame of 10BASE-T1S passes its filters or is dropped and counted, MB_CTL and the request buffer, MB_STAT, reads of a ring page,
acknowledgements of notifications and their repetition, relays and their answers, blocks that time out, the warden's reset and restart. -/
def Obligations.CarrierRows : Prop :=
  ∀ (s : State),
    (∀ f : T1sFrame, let u := objSet s none 0xD010 6 1
      let p := pduOf f.payload true
      (f.fcsOk = false → exec (.t1sFrameReceive f) s = .next (u.countPort .t1s 2))
      ∧ (f.fcsOk = true → 46 ≤ f.payload.length → f.payload.length ≤ 1500 → f.dst = s.mac → f.etherType = objGet s none 0xD010 4 → p.op ≠ 0x0A →
          (pduCrcOk p = true → s.mac ≠ broadcastMac → exec (.t1sFrameReceive f) s = .next (u.arrive ⟨.t1s, f.src, 0, p⟩))
          ∧ (pduCrcOk p = false → exec (.t1sFrameReceive f) s = .next (u.countPort .t1s 3))))
    ∧ (∀ a : RegAccess, a.aligned = true →
      (bitOf a.value.toNat 0 = true → bitOf a.value.toNat 1 = false →
        (s.warden.mbReq = true → exec (.mbReq a) s = .next (s.modWarden fun w => { w with mbReqIgn := true }))
        ∧ (s.warden.mbReq = false → s.warden.mbRsp = false → exec (.mbReq a) s = .next ((s.modWarden fun w => { w with mbReq := true }).takeMailbox)))
      ∧ (bitOf a.value.toNat 1 = true → bitOf a.value.toNat 0 = false → exec (.mbRspRelease a) s = .next (s.modWarden fun w => { w with mbRsp := false }))
      ∧ (∀ off, off % 4 = 0 → 0x2100 ≤ off → off < 0x2510 → s.warden.mbReq = true →
          exec (.mailboxBufferWrite off a) s = .next (s.modWarden fun w => { w with mbBufIgn := true }))
      ∧ (∀ off, off % 4 = 0 → 0x2100 ≤ off → off < 0x2510 → s.warden.mbReq = false → tabWf 0 s.warden.mbRequest = true → ∃ t : State,
          exec (.mailboxBufferWrite off a) s = .next t ∧ t.mailboxWord off = a.value.toNat ∧ tabWf 0 t.warden.mbRequest = true)
      ∧ (∃ t : State, exec (.registerWrite 0 0x2004 (.write a)) s = .next t ∧ t.warden.mbReqIgn = (s.warden.mbReqIgn && !bitOf a.value.toNat 0)
          ∧ t.warden.mbBufIgn = (s.warden.mbBufIgn && !bitOf a.value.toNat 1))
      ∧ (∀ n : PartId, ∃ t : State, exec (.registerWrite n 0x10 (.write a)) s = .next t
          ∧ (t.parts[n]).dbBad = ((s.parts[n]).dbBad && !bitOf a.value.toNat 3) ∧ (t.parts[n]).sizeBad = ((s.parts[n]).sizeBad && !bitOf a.value.toNat 2)
          ∧ (t.parts[n]).fenceTmo = ((s.parts[n]).fenceTmo && !bitOf a.value.toNat 5)))
    ∧ (∀ (n : PartId) (off : Nat),
      (off % 4 = 0 → exec (.registerWrite n off (.read true)) s = .next (s.emit (.regValue (s.pageRead n off))))
      ∧ exec (.registerWrite n off (.read false)) s = .next ((s.modPart n fun p => { p with sizeBad := true }).emit (.regValue 0)))
    ∧ (∀ r : Request, r.pdu.op = 0x0A → pduCrcOk r.pdu = false → exec (.notify r) s = .next (s.countPort r.port 3))
    ∧ (∀ r : Request, r.pdu.op = 0x0A → pduCrcOk r.pdu = true →
      (bitOf r.pdu.flags 0 = true → r.port = .t1s → exec (.notify r) s = .next (s.notifyAck r.pdu.seq))
      ∧ (bitOf r.pdu.flags 0 = false → exec (.notify r) s = .next (s.arrive r)))
    ∧ (∀ (k : Nat) (q : Option PartId) (x : Note), s.warden.notifyOut = some (k, q, x) → x ∈ (s.noteQueue q).items → s.pushed q = true →
        (objGet s none 0xD010 5 ≠ 255 → exec .notifyRetryTimeout s = .next (s.emit (s.frameTo (s.macOf (objGet s none 0xD010 5)) (notifyPdu k q x))))
        ∧ (objGet s none 0xD010 5 = 255 → exec .notifyRetryTimeout s = .next s))
    ∧ (∀ k : Packet, (k.kind = 8 → exec (.mgmtReq k) s = .next (s.mgmtReq k)) ∧ (k.kind = 9 → exec (.mgmtAns k) s = .next (s.mgmtAns k)))
    ∧ (∀ (tag : W32) (e : Relay), s.warden.relays.find? (fun (x : Relay) => x.tag == tag.toNat) = some e →
        ∃ t : State, exec (.relayTimeout tag) s = .next ((objBump t none 0xD000 8).sendAnswer e.request 0x19 [])
          ∧ t.warden.relays = s.warden.relays.filter (fun (x : Relay) => x.tag != tag.toNat) ∧ t.objs = s.objs)
    ∧ (∀ (p : Port) (src : Nat), ∃ t : State, exec (.blockIdleTimeout p src) s = .next t ∧ (∀ b ∈ t.warden.blocks, b.port = p → b.source = src → b.closed = true)
        ∧ t.warden.blocks.length = s.warden.blocks.length)
    ∧ (∃ t : State, exec .wardenReset s = .next t ∧ t.warden.restarting = true ∧ t.warden.current = none ∧ t.warden.blocks = [] ∧ t.notes = .reset
        ∧ t.warden.queue = s.warden.queue ∧ t.mem = s.mem)
    ∧ (s.warden.restarting = true → ∃ t : State, exec .wardenRestart s = .next t ∧ t.warden.restarting = false ∧ t.warden.queue = s.warden.queue)

/-- The power rows (16 R359–R377): operating points move one step toward their target, cores and bank units power down and up, the device
enters Doze, Nap and Ember and wakes, the cap lifts where it is 0, the limiter engages, temperatures are read. -/
def Obligations.PowerRows : Prop :=
  ∀ (s : State) (c : CoreId),
    let k := s.core c
    (k.level ≠ 3 → k.part.isSome = true → ∃ t : State, exec (.opChange c) s = .next t ∧ t.mem = s.mem ∧ t.objs = s.objs
        ∧ (t.core c).power.op = (if k.power.op < s.targetOp c then k.power.op + 1 else if s.targetOp c < k.power.op then k.power.op - 1 else k.power.op))
    ∧ (k.mode = .halted → k.power.state = 0 → exec (.coreEnterNap c) s = .next (s.modCore c fun q => { q with power := { q.power with state := 2 } }))
    ∧ (k.mode ≠ .halted → exec (.coreEnterNap c) s = .next s)
    ∧ (k.power.state = 2 → exec (.coreWake c) s = .next ((s.modCore c fun q => { q with power := { q.power with state := 0 } }).retryAll))
    ∧ (k.power.state ≠ 2 → exec (.coreWake c) s = .next s)
    ∧ (∀ u : Fin 8, (∀ i, i < 4 → s.bank c (Fin.ofNat 32 (4 * u.val + i)) = .free) → bitOf k.power.gated u.val = false →
        ∃ t : State, exec (.bankUnitGate c u) s = .next t ∧ bitOf (t.core c).power.gated u.val = true ∧ t.banks = s.banks ∧ t.mem = s.mem)
    ∧ (s.booted = true → objGet s none 0x2000 1 = 4 → s.power.entering = .nothing → s.patrol.running = false → s.patrol.banks = [] → s.patrol.cores = [] →
      (s.devState = 4 → (∀ d : CoreId, 1 ≤ (s.core d).level ∨ (s.core d).part = none) → s.anyChannel = false → s.anyCommand = false →
        s.traffic = [] → s.claims = [] → s.handovers = [] → ∃ t : State, exec .deviceEnterDoze s = .next t ∧ t.devState = 3 ∧ t.cores = s.cores)
      ∧ (s.devState = 3 → s.anyCamp = false → ∃ t : State, exec .deviceEnterNap s = .next t ∧ t.power.entering = .nap ∧ t.cores = s.cores)
      ∧ (s.devState = 3 → s.power.doorbells = [] → ∃ t : State, exec (.deviceWake 1) s = .next t ∧ t.devState = 4 ∧ objGet t none 0x2000 8 = 1 ∧ t.cores = s.cores))
    ∧ (s.power.entering = .nap → ∃ t : State, exec .napEntryCommit s = .next t ∧ t.devState = 2
        ∧ ((∀ p : PortIx, s.portState p ≠ 3) → t.power.entering = .nothing ∧ t.mem = s.mem ∧ t.objs = (s.setDevState 2).objs
          ∧ (k.power.state = 0 → k.mode ≠ .off → t.core c = { k with power := { k.power with state := 2 } })
          ∧ ((k.power.state ≠ 0 ∨ k.mode = .off) → t.core c = k)))
    ∧ (s.power.entering = .ember → ∃ t : State, exec .emberEntryCommit s = .next t ∧ t.devState = 1 ∧ t.power.entering = .nothing ∧ t.ctxs = []
        ∧ t.traffic = [] ∧ (t.core c).mode = .off ∧ (t.core c).power.state = 3 ∧ t.linkUp = false
        ∧ ((∀ p : PortIx, s.portState p ≠ 3) → (t.core c).part = k.part ∧ t.mem = s.mem))
    ∧ (∀ reading : Int, objGet s none 0x2010 1 = 0 → objGet s none 0x5600 3 = 0 →
        ∃ t : State, exec (.powerCapDecision reading) s = .next t ∧ (t.core c).power.capCeiling = 7 ∧ (t.core c).power.held = false ∧ t.power.answer = none)
    ∧ (∃ t : State, exec .limiterEngage s = .next t ∧ t.power.limiter = true ∧ t.cores = s.cores)
    ∧ (∃ t : State, exec .limiterRelease s = .next t ∧ t.power.limiter = false ∧ t.cores = s.cores ∧ t.objs = s.objs)
    ∧ (∃ t : State, exec (.thermalSample []) s = .next t ∧ (s.power.tripped = true → t.power.sensors = s.power.sensors))
    ∧ (∀ (q : Sensor) (v : Int), (-40 ≤ v ∧ v ≤ 150 → (q.take v).valid = (v :: q.valid).take 5 ∧ (q.take v).recent = (true :: q.recent).take 5)
        ∧ ((v < -40 ∨ 150 < v) → (q.take v).valid = q.valid ∧ (q.take v).recent = (false :: q.recent).take 5))

/-- Resets, the start, the test access port (01 R29; 17 R379–R399; 23 R511–R519).
- Resets and the start (01 R29; 17 R379–R399; 22 R500; 23 R511–R519): what power-on reset, the device reset and the inputs leave, the stages in
their order, an image accepted or refused, Bivouac after three attempts, boot complete, and the watchdog.
- The test access port (23 R518): each instruction selects its register; the scan lock and the debug lock select the bypass register instead. -/
def Obligations.StartAndTapRows : Prop :=
  ( ∀ (s : State),
    (∀ m : BitVec 3, ∃ t : State, exec (.powerOnReset m) s = .next t ∧ t.mem = [] ∧ t.tick = 0 ∧ t.delivery = s.delivery
        ∧ objGet t none 0xD010 1 = 1 + m.toNat ∧ objGet t none 0xD020 3 = 0x30 + m.toNat)
    ∧ (∃ t : State, exec .deviceReset s = .next t ∧ t.mem = [] ∧ t.banks = [] ∧ t.tick = s.tick ∧ t.pins = s.pins ∧ t.boot.due = true
        ∧ t.boot.fuses = s.boot.fuses ∧ t.faults.fatal = s.faults.fatal ∧ t.warden.served = s.warden.served ∧ ∀ c : CoreId, (t.core c).mode = .off)
    ∧ (s.stage = 1 → s.boot.cold = true → s.tick = 0 → exec .emberClockFallback s = .next (objSet s none 0x2000 0xA 1))
    ∧ (s.power.exitWait = false → exec .mainPgRise s = .next { s with pins := { s.pins with mainPg := true } })
    ∧ (s.pins.mainPg = true → s.emberState = false → ∃ t : State, exec .mainPgFall s = .next t ∧ t.pins.mainPg = false ∧ t.mem = [] ∧ t.boot.due = true)
    ∧ (s.delivery = .kv2p → s.pins.perst = false → ∃ t : State, exec .perstAssert s = .next t ∧ t.pins.perst = true ∧ t.mem = [])
    ∧ (s.delivery = .kv2p → s.pins.perst = true → ∃ t : State, exec .perstDeassert s = .next t ∧ t.pins.perst = false ∧ t.boot.due = true ∧ t.mem = s.mem)
    ∧ (s.pins.mainPg = true → s.devState = 4 → s.booted = true → ∃ t : State, exec .refclkLost s = .next t ∧ t.mem = []
        ∧ t.faults.fatal.head?.map (fun (e : EventRec) => e.code) = some 0x41)
    ∧ (∀ b : Bool, exec (.vfusePresenceChange b) s = .next (objSet s none 0x2040 4 (if b then 1 else 0)))
    ∧ (s.boot.due = true → s.pins.mainPg = true → s.inFundamentalReset = false → s.power.tripped = false → ∃ t : State, exec .deviceStart s = .next t
        ∧ t.stage = 2 ∧ t.devState = 4 ∧ t.boot.running = true ∧ t.boot.due = false ∧ t.boot.bivouac = decide (3 ≤ objGet s none 0x3000 1)
        ∧ objGet t none 0x3000 1 = (if 3 ≤ objGet s none 0x3000 1 then objGet s none 0x3000 1 else objGet s none 0x3000 1 + 1))
    ∧ (s.boot.running = true → ∀ w : StageWork,
      (s.stage = 2 → w.fail = false → ∃ t : State, exec (.startStageAdvance w) s = .next t ∧ t.stage = 3 ∧ t.boot = s.boot)
      ∧ (s.stage = 2 → w.fail = true → exec (.startStageAdvance w) s = .next (s.startFails 1 w.part))
      ∧ (s.stage = 5 → w.fail = false → ∃ t : State, exec (.startStageAdvance w) s = .next t ∧ t.stage = 6 ∧ t.boot = s.boot)
      ∧ (s.stage = 5 → w.fail = true → exec (.startStageAdvance w) s = .next (s.startFails 0x30 w.part))
      ∧ (s.stage = 6 → s.delivery = .kv2c → ∃ t : State, exec (.startStageAdvance w) s = .next t ∧ t.stage = 7 ∧ t.links = s.links)
      ∧ (s.stage = 6 → s.delivery = .kv2p → trainedRate w = none → exec (.startStageAdvance w) s = .next (s.startFails 0x40 w.part))
      ∧ (∀ rate, s.stage = 6 → s.delivery = .kv2p → trainedRate w = some rate → exec (.startStageAdvance w) s = .next ((s.train w rate).setStage 7)))
    ∧ (s.boot.running = true → s.stage = 4 → s.boot.waiting = false → ∀ img : FlashImage, img.slot = s.boot.slot →
      (s.imageCause img.bytes = 0 → ∃ t : State, exec (.flashImageLoaded img) s = .next t ∧ t.stage = 5 ∧ t.boot.image.isSome = true)
      ∧ (s.imageCause img.bytes ≠ 0 → s.boot.slot = 0 → ∃ t : State, exec (.flashImageLoaded img) s = .next t ∧ t.boot.causeA = s.imageCause img.bytes ∧ t.boot.slot = 1))
    ∧ (s.boot.running = true → (s.stage = 2 ∨ s.stage = 3 ∨ s.stage = 5 ∨ s.stage = 6) → exec .stageTimeout s = .next (s.startFails 3 s.stage))
    ∧ (s.boot.running = true → s.stage = 4 → s.boot.waiting = true → exec .imageWaitTimeout s = .next (s.startFails 0x28 s.boot.causes))
    ∧ (∀ cause detail, (s.startFails cause detail).boot.due = true ∧ (s.startFails cause detail).mem = [] ∧ (s.startFails cause detail).boot.running = false)
    ∧ (s.boot.running = true → s.stage = 7 → ∃ t : State, exec .bootComplete s = .next t ∧ t.boot.running = false ∧ objGet t none 0x3000 1 = 0
        ∧ t.devState = 4 ∧ t.cores = s.cores)
    ∧ (s.boot.running = true → exec .wardenWatchdogExpiry s = .next ((postEvent s 0x30 none none s.stage).startFails 2 s.stage))
    ∧ (∀ (kind value : Nat) (r : Request), s.boot.programming = some (kind, value) → s.warden.current = some r → ∃ t : State,
        exec (.fuseProgrammingDone true) s = .next (t.sendAnswer r 0 []) ∧ t.boot.programming = none ∧ objGet t none 0x3030 2 = 0 ∧ t.warden.current = none
          ∧ t.boot.array = tabSet 0 s.boot.array (if kind = 1 then 5 else 4) (tabGet 0 s.boot.array (if kind = 1 then 5 else 4) ||| (if kind = 1 then 2 ^ value - 1 else 2 ^ value))))
  ∧
  ( ∀ (s : State),
    exec .bypass s = .next { s with pins := { s.pins with tap := .bypass } }
    ∧ exec .idcode s = .next { s with pins := { s.pins with tap := .idcode } }
    ∧ exec .samplePreload s = .next { s with pins := { s.pins with tap := .boundary } }
    ∧ exec .extest s = .next { s with pins := { s.pins with tap := if objGet s none 0x3000 0xB = 1 then .bypass else .boundary } }
    ∧ exec .dbgAccess s = .next { s with pins := { s.pins with tap := if objGet s none 0x3000 7 = 1 then .bypass else .debug } }
    ∧ (∀ i ∈ [Instr.extestPulse, .extestTrain],
        (objGet s none 0x3000 0xB = 1 → exec i s = .next { s with pins := { s.pins with tap := .bypass } })
        ∧ (objGet s none 0x3000 0xB ≠ 1 → s.delivery = .kv2c → exec i s = .next { s with pins := { s.pins with tap := .boundary } })))

/-! ## Ridgeline ports, packets, the stash, recovery -/

/-- A port (18 R404, R405, R412, R416): a DOWN port whose training finds what R404 asks for is UP, or STANDBY where it was UP before, with its
credits and its first LCTL sent; what is missing names the cause; a stall, a lost lock, and sixteen resends without progress take it down; a lane's lock
follows its codewords, whose symbols are counted. -/
def Obligations.PortRows : Prop :=
  ∀ (s : State) (p : PortIx),
    (∀ t : PortTraining, s.delivery = .kv2p → s.booted = true → s.portState p = 0 →
      (s.mySeat ≠ 0x8000 → t.lanes = 4 → (t.rate = 1 ∨ t.rate = 2) → t.seat = s.nextSeat s.mySeat p.val → t.credits = true →
        ∃ u : State, exec (.portRetrain p t) s = .next u ∧ u.portState p = (if (s.link p).wasUp then 2 else 3)
          ∧ objGet u none (portIndex p) 2 = t.rate ∧ objGet u none (portIndex p) 7 = t.seat ∧ (u.link p).credits = fullBuffers
          ∧ (u.link p).wasUp = true ∧ (u.link p).fseq = 1 ∧ (u.link p).expected = 1 ∧ u.mem = s.mem)
      ∧ (s.mySeat = 0x8000 → exec (.portRetrain p t) s = .next (objSet s none (portIndex p) 9 5))
      ∧ (s.mySeat ≠ 0x8000 → t.lanes ≠ 4 → exec (.portRetrain p t) s = .next (objSet s none (portIndex p) 9 4))
      ∧ (s.mySeat ≠ 0x8000 → t.lanes = 4 → (t.rate = 1 ∨ t.rate = 2) → t.seat ≠ s.nextSeat s.mySeat p.val →
          exec (.portRetrain p t) s = .next (objSet s none (portIndex p) 9 5)))
    ∧ (s.portState p < 2 → exec (.lockLost p) s = .next s ∧ exec (.flitResendTimeout p) s = .next s ∧ exec (.flitSlotSend p) s = .next s)
    ∧ (2 ≤ s.portState p → exec (.lockLost p) s = .next (s.linkDown p 1))
    ∧ (s.portState p = 3 → (∃ e ∈ (s.link p).queue, (s.link p).credits[(Fin.ofNat 16 (flitClass e.2) : Fin 16)] = 0) →
        exec (.linkStall p) s = .next (s.linkDown p 3))
    ∧ (s.portState p ≠ 3 → exec (.linkStall p) s = .next s ∧ ∀ cause : Nat,
        objGet (s.linkDown p cause) none (portIndex p) 1 = 0 ∧ objGet (s.linkDown p cause) none (portIndex p) 9 = cause
        ∧ ((s.linkDown p cause).link p).queue = [] ∧ ((s.linkDown p cause).link p).unacked = []
        ∧ ((s.linkDown p cause).link p).wasUp = (s.link p).wasUp ∧ (s.linkDown p cause).mem = s.mem)
    ∧ (∀ (lane : Fin 4) (w : Codeword),
      (s.portState p = 0 → exec (.codewordReceive p lane w) s = .next s)
      ∧ (s.portState p ≠ 0 → (∃ j : Fin 4, j ≠ lane ∧ ∀ e ∈ (s.link p).deskew, ¬(e.1 = w.cwseq % 64 ∧ e.2.1 = j.val)) →
        ∃ u : State, exec (.codewordReceive p lane w) s = .next u ∧ u.mem = s.mem
          ∧ (u.link p).lanes[lane] = ((s.link p).lanes[lane]).next (w.decodes && w.sync)
          ∧ (∀ l : Fin 4, l ≠ lane → (u.link p).lanes[l] = (s.link p).lanes[l])
          ∧ (w.decodes = false → objGet u none (portIndex p) 4 = min (objGet s none (portIndex p) 4 + 1) (objMax (portIndex p) 4))
          ∧ (w.decodes = true → objGet u none (portIndex p) 3 = min (objGet s none (portIndex p) 3 + w.corrected) (objMax (portIndex p) 3))))
    ∧ (∀ l : Lane, (l.good = 3 → (l.next true).locked = true) ∧ (l.bad = 3 → (l.next false).locked = false)
        ∧ (l.good < 3 → (l.next true).locked = l.locked) ∧ (l.bad < 3 → (l.next false).locked = l.locked))

/-- Flits on a port (18 R406–R411): a flit out of turn, or whose CRC fails, sets NAK and changes nothing else; an LCTL in turn returns or gives
credits; a first DATA flit opens its class's packet; unacknowledged flits are sent again after the timeout; a slot sends a resent flit, an LCTL
that is due, or a DATA flit for a credit of its class, and an idle flit otherwise. -/
def Obligations.FlitRows : Prop :=
  ∀ (s : State) (p : PortIx) (f : Flit), 2 ≤ s.portState p →
    let l := s.link p
    ((f.typ = 1 ∨ f.typ = 2) → f.crcOk = false → exec (.flitReceive p f) s = .next (s.modLink p fun q => { q with nak := true }))
    ∧ ((f.typ = 1 ∨ f.typ = 2) → f.crcOk = true → f.ackV = false → f.fseq ≠ l.expected →
        exec (.flitReceive p f) s = .next (s.modLink p fun q => { q with nak := true }))
    ∧ (f.typ = 0 → f.crcOk = true → f.ackV = false → exec (.flitReceive p f) s = .next s)
    ∧ (f.typ = 2 → exec (.lctl p f) s = exec (.flitReceive p f) s)
    ∧ (f.typ ≠ 2 → exec (.lctl p f) s = .next s)
    ∧ (f.typ = 2 → f.crcOk = true → f.ackV = false → f.fseq = l.expected → ∃ u : State, exec (.lctl p f) s = .next u ∧ u.mem = s.mem ∧ u.objs = s.objs
        ∧ (u.link p).expected = (l.expected + 1) % 4096 ∧ (u.link p).nak = false ∧ (u.link p).queue = l.queue
        ∧ ∀ i : Fin 16, let n := leNat ((f.payload.drop (2 * i.val)).take 2)
            (u.link p).credits[i] = if bitOf (f.payload.getD 32 0).toNat 0 then n else l.credits[i] + n)
    ∧ (f.typ = 1 → f.crcOk = true → f.ackV = false → f.fseq = l.expected → s.portState p = 3 → f.sop = true →
        l.asm.find? (fun (e : Nat × List Byte × Nat) => e.1 == flitClass f) = none →
        (f.eop = false → ∃ u : State, exec (.flitReceive p f) s = .next u ∧ u.mem = s.mem ∧ u.objs = s.objs
          ∧ (u.link p).expected = (l.expected + 1) % 4096 ∧ (flitClass f, f.payload, 1) ∈ (u.link p).asm)
        ∧ (f.eop = true → ∃ u : State, exec (.flitReceive p f) s = receivePacket f.payload p f.dl.val u ∧ u.mem = s.mem ∧ u.objs = s.objs
          ∧ (u.link p).owed[(Fin.ofNat 16 (flitClass f) : Fin 16)] = l.owed[(Fin.ofNat 16 (flitClass f) : Fin 16)] + 1))
    ∧ (l.unacked = [] → exec (.flitResendTimeout p) s = .next s)
    ∧ (l.unacked ≠ [] → l.resends < 16 → ∃ u : State, exec (.flitResendTimeout p) s = .next u ∧ (u.link p).resend = l.unacked
        ∧ (u.link p).resends = l.resends + 1 ∧ u.mem = s.mem)
    ∧ (l.unacked ≠ [] → 16 ≤ l.resends → exec (.flitResendTimeout p) s = .next (s.linkDown p 2))
    ∧ ((∃ n ∈ l.owed.toList, n ≠ 0) → exec (.lctlDue p) s = .next (s.modLink p fun q => { q with lctlDue := true }))
    ∧ ((∀ n ∈ l.owed.toList, n = 0) → exec (.lctlDue p) s = .next s)
    ∧ (∀ g gs, l.resend = g :: gs → ∃ u : State, exec (.flitSlotSend p) s = .next u ∧ u.out = s.out ++ [.flit p (l.stamp g)]
        ∧ (u.link p).resend = gs ∧ (u.link p).unacked = l.unacked ∧ (u.link p).queue = l.queue ∧ (u.link p).fseq = l.fseq ∧ u.mem = s.mem)
    ∧ (l.resend = [] → l.unacked.length < 1024 → l.lctlDue = true → ∃ u : State, exec (.flitSlotSend p) s = .next u
        ∧ u.out = s.out ++ [.flit p (l.stamp { lctlFlit l.owed false with fseq := l.fseq })] ∧ (u.link p).fseq = (l.fseq + 1) % 4096
        ∧ (u.link p).owed = .replicate 16 0 ∧ (u.link p).lctlDue = false ∧ u.mem = s.mem)
    ∧ (l.resend = [] → l.unacked.length < 1024 → l.lctlDue = false → s.portState p = 3 → s.pickVc p = none → ∃ (u : State) (g : Flit),
        exec (.flitSlotSend p) s = .next u ∧ u.out = s.out ++ [.flit p g] ∧ g.typ = 0 ∧ (u.link p).queue = l.queue ∧ (u.link p).fseq = l.fseq
          ∧ (u.link p).credits = l.credits ∧ u.mem = s.mem ∧ u.objs = s.objs)
    ∧ (∀ (vc : Nat) (round : Nat × Nat × Nat) (cls : Nat) (k : List (Nat × Flit)), l.resend = [] → l.unacked.length < 1024 → l.lctlDue = false →
        s.portState p = 3 → s.pickVc p = some (vc, round) → s.readyClass p vc = some (cls, k) → ∃ u : State, exec (.flitSlotSend p) s = .next (u.sendData p cls k)
          ∧ (u.link p).queue = l.queue ∧ (u.link p).credits = l.credits ∧ (u.link p).round = round ∧ u.out = s.out ∧ u.mem = s.mem)
    ∧ (∀ (c : Nat) (g : Flit) (rest : List (Nat × Flit)) (k : Fin 16) (u : State), u.link p = l → l.credits[k] ≠ 0 →
        let t := u.sendData p k.val ((c, g) :: rest)
        (t.link p).credits[k] = l.credits[k] - 1 ∧ (∀ j : Fin 16, j ≠ k → (t.link p).credits[j] = l.credits[j])
        ∧ t.out = u.out ++ [.flit p (l.stamp { g with fseq := l.fseq })] ∧ (t.link p).fseq = (l.fseq + 1) % 4096
        ∧ (t.link p).unacked = l.unacked ++ [l.stamp { g with fseq := l.fseq }])

/-- Packets and notices of the fabric (18 R402, R414–R417, R424).
- Packets of a camp (18 R402, R414, R415): a KV2-C has none, a packet on its way to another die goes on, one whose camp has no partition here is
dropped and counted; one for this die acts on the camp's partition.
- What stream packets and notices do (10 R258, R262; 18 R414, R417, R424, R426): a message lands in a receive-end's ring, a credit packet counts at the
send-end, a close notice closes the far end; the first copy of a notice is sent on and acted on, a second copy does nothing. -/
def Obligations.PacketRows : Prop :=
  ( ∀ (s : State) (k : Packet) (i : Instr) (kind : Nat),
    (i, kind) ∈ [(Instr.streamMsg k, 1), (.streamCred k, 2), (.streamClose k, 3), (.canopyUp k, 0x10), (.present k, 0x18), (.active k, 0x19),
      (.stashOpen k, 0x20), (.stashData k, 0x21), (.stashSeal k, 0x22), (.stashAck k, 0x23), (.pullReq k, 0x24), (.pullData k, 0x25),
      (.recoverQuery k, 0x26), (.recoverReport k, 0x27), (.resume k, 0x28), (.resumeDone k, 0x29)] →
    ((s.delivery = .kv2c ∨ k.kind ≠ kind) → exec i s = .next s)
    ∧ (s.delivery = .kv2p → k.kind = kind → s.seatOf k.dst ≠ s.mySeat → exec i s = .next (s.sendPacket k))
    ∧ (s.delivery = .kv2p → k.kind = kind → s.seatOf k.dst = s.mySeat → s.campPart k.camp = none →
        exec i s = .next (objBump s none 0x7000 9))
    ∧ (s.delivery = .kv2p → k.kind = kind → s.seatOf k.dst = s.mySeat → ∀ n : PartId, s.campPart k.camp = some n → ∃ t : State, exec i s = .next t))
  ∧
  ( ∀ (s : State) (k : Packet), s.delivery = .kv2p →
    (∀ (n : PartId) (key : Nat) (x : Ctx), s.seatOf k.dst = s.mySeat → s.campPart k.camp = some n → s.ctxOf n k.arg = some (key, x) → x.remote = true →
      (k.kind = 1 → x.side = true → (x.state = 1 ∨ x.state = 2) → bitOf (leNat (k.body.take 8)) 25 = false →
        exec (.streamMsg k) s = .next (s.landMessage key { x with sent := x.sent + 1 } x.sent.toNat (leNat (k.body.take 8)) (k.body.drop 8)))
      ∧ (k.kind = 1 → x.side = false → exec (.streamMsg k) s = .next s)
      ∧ (k.kind = 2 → x.side = false → x.state ≠ 0 →
        let n := BitVec.ofNat 16 (bodyField k 0 2)
        exec (.streamCred k) s = .next ((s.setCtx key { x with cred := x.cred + n, rcvd := x.rcvd + n }).retryEnds x))
      ∧ (k.kind = 3 → (x.state = 1 ∨ x.state = 2 ∨ x.state = 3) → exec (.streamClose k) s = .next ((s.setCtx key (x.closed x.side)).retryEnds x))
      ∧ (k.kind = 3 → x.state = 5 → exec (.streamClose k) s = .next (s.setCtx key { x with state := 4 })))
    ∧ (let seen := s.fabric.seen.any fun (e : Nat × Nat × Nat) => e.1 == k.src && e.2.2 == k.arg
      let heard (kind : Nat) : State := ({ s with fabric := { s.fabric with seen := (k.src, kind, k.arg) :: s.fabric.seen } }).forwardNotice k none
      (seen = true → ∀ i ∈ [Instr.fault k, .topo k, .remap k], exec i s = .next s)
      ∧ (k.kind = 0x1A → seen = false → exec (.fault k) s = .next ((heard 0x1A).faultNotice k))
      ∧ (k.kind = 0x1B → seen = false → exec (.topo k) s = .next ((heard 0x1B).linkGone (bodyField k 0 2) (bodyField k 2 1 % 6)))
      ∧ (k.kind = 0x1C → seen = false → exec (.remap k) s = .next ((heard 0x1C).installRemap k.camp (bodyField k 0 2) (bodyField k 2 2))))
    ∧ (∀ camp coord seat : Nat, s.fabric.remap.length < 256 → (s.installRemap camp coord seat).seatOf coord = seat
        ∧ ((s.myCoord ≠ 0x8000 ∨ seat ≠ s.mySeat) → (s.installRemap camp coord seat).myCoord = s.myCoord)
        ∧ (s.myCoord = 0x8000 → seat = s.mySeat → (s.installRemap camp coord seat).myCoord = coord)))

/-- Reductions (18 R420–R423; 19 R444): a child's node joins its reduction; the outcome that ends one reaches its CREDs; DONE writes the destination
register, predicate, AMX register or slot and OREG = 0, any other outcome OREG alone; the oldest reduction that waits ends TIMEOUT. -/
def Obligations.Reductions : Prop :=
  (∀ (s : State) (k : Packet) (n : PartId) (i : Fin 8) (r : Reduction), s.delivery = .kv2p → s.seatOf k.dst = s.mySeat → s.campPart k.camp = some n →
      s.campCtxOf n = some i → let b := canopyBody k.body
      let x := s.canopy[i]
      let rank := s.packetRank k
      (k.kind = 0x10 → x.settled ≤ fullRseq x.settled b.rseq → b.level < 0x80 → x.reds.find? (fun (q : Reduction) => q.rseq == fullRseq x.settled b.rseq) = some r →
        exec (.canopyUp k) s = .next (s.growReduction n i (r.child b rank))
        ∧ (r.fail = none → r.mode = b.mode → r.nchunk = b.nchunk → r.q = b.q → (r.mode = 0 → r.anchor = b.anchor) →
            (r.child b rank).nodes = r.nodes ++ [(b.level, b.node, b.value)] ∧ (r.child b rank).fail = none ∧ rank ∈ (r.child b rank).children)
        ∧ (r.fail = none → (r.mode ≠ b.mode ∨ r.nchunk ≠ b.nchunk ∨ r.q ≠ b.q) → (r.child b rank).fail = some 2))
      ∧ (k.kind = 0x11 → b.level < 0x80 → r.verdict = none → x.reds.find? (fun (q : Reduction) => q.rseq == fullRseq x.settled b.rseq) = some r →
        ∀ (m : PartId) (j : Fin 8), exec (.canopyDown m j (some k)) s
          = .next ((s.putReduction i { r with root := some (b.status, b.value) }).deliverReady n i 8)))
  ∧ (∀ (s : State) (n : PartId) (ctx : Fin 8), (s.canopy[ctx]).owner = some n →
      (∀ r rs code, (s.canopy[ctx]).reds = r :: rs → r.fail = some code → r.verdict = none →
        exec (.canopyDown n ctx none) s = .next ((s.putReduction ctx { r with root := some (code, .nothing) }).deliverReady n ctx 8))
      ∧ (∀ r rs v, (s.canopy[ctx]).reds = r :: rs → r.fail = none → r.rootValue (s.ctxRank n ctx) = some v → s.withheld n ctx r = false →
        exec (.canopyDown n ctx none) s = .next ((s.putReduction ctx { r with root := some (0, v) }).deliverReady n ctx 8))
      ∧ (∀ r, (s.canopy[ctx]).reds.find? (fun (q : Reduction) => q.issued != []) = some r →
        exec (.reductionTimeout n ctx) s = .next ((s.reductionFails n ctx r 3).deliverReady n ctx 8))
      ∧ ((s.canopy[ctx]).reds = [] → exec (.reductionTimeout n ctx) s = .next s ∧ exec (.canopyDown n ctx none) s = .next s))
  ∧ (∀ (s : State) (c : CoreId) (w : CredWait) (anchor : Int) (v : CVal), w.oreg < 48 → tabWf 0 s.mem = true →
      let t := s.credDone c w anchor v
      (∀ x : Nat, v = .word x → w.mode ≠ 1 → w.sreg < 48 → w.sreg ≠ w.oreg → (t.core c).reg w.sreg = BitVec.ofNat 64 x)
      ∧ (∀ x : Nat, v = .word x → w.mode = 1 → w.axn < 8 → (t.core c).amx[(Fin.ofNat 8 w.axn : Fin 8)]
          = { (s.core c).amx[(Fin.ofNat 8 w.axn : Fin 8)] with amax := x })
      ∧ (∀ b : Bool, v = .vote b → 0 < w.sreg → w.sreg < 8 → (t.core c).preg[(Fin.ofNat 8 w.sreg : Fin 8)] = b)
      ∧ (∀ vals : List (Int × Nat), v = .tile vals → vals.length = 1024 → (∀ e ∈ vals, e.2 < 2) →
          (∀ i, i < 1024 → hearthGet t.mem c (w.dest % 64) i = deliverElem (vals.getD i (0, 0))) ∧ ((t.core c).slots[(Fin.ofNat 64 w.dest : SlotIx)]).anchor = anchor)
      ∧ ((∀ vals : List (Int × Nat), v ≠ .tile vals) → (t.core c).reg w.oreg = 0 ∧ t.mem = s.mem)
      ∧ (∀ (code : Nat) (ran : Bool), code ≠ anchorFail → w ∈ (s.core c).creds → (∀ q ∈ (s.core c).creds, q = w) → ((s.credEnds c w code ran).core c).reg w.oreg = BitVec.ofNat 64 code
          ∧ ((s.credEnds c w code ran).core c).creds = [] ∧ (s.credEnds c w code ran).mem = s.mem))

/-- The buddy stash (20 R461, R462, R465): a STASH_OPEN that fits gets a slot with a header of STATE 1 and the answer 0, one that does not its reason;
content enters the slot, a seal whose CRC fits makes it the newest sealed step; an acknowledgement lets the ward go on, seal, or abandon; a
pull is answered with bytes of the sealed slot. -/
def Obligations.StashRows : Prop :=
  ∀ (s : State) (k : Packet) (n : PartId), s.delivery = .kv2p → s.seatOf k.dst = s.mySeat → s.campPart k.camp = some n →
    let c := (s.parts[n]).camp
    let len := leNat (k.body.take 8)
    let digest := leNat ((k.body.drop 8).take 48)
    (k.kind = 0x20 →
      (s.openStatus n len digest ≠ 0 → exec (.stashOpen k) s = .next (s.sendAck k (s.openStatus n len digest)))
      ∧ (s.openStatus n len digest = 0 → ∃ t : State, exec (.stashOpen k) s = .next (t.sendAck k 0)
        ∧ (t.parts[n]).camp.wardFill = some (c.freeSlot, k.arg, len) ∧ (∀ e ∈ (t.parts[n]).camp.wardSealed, e.1 ≠ c.freeSlot)
        ∧ t.mem = (s.hbmWrite n (s.slotBase n c.freeSlot) (stashHeader k.arg k.camp k.src 1 len 0 digest)).mem))
    ∧ (∀ slot step size, c.wardFill = some (slot, step, size) →
      (k.kind = 0x21 → step = k.arg → len + (k.body.drop 8).length ≤ size →
        exec (.stashData k) s = .next (s.hbmWrite n (s.slotBase n slot + 256 + len) (k.body.drop 8)))
      ∧ (k.kind = 0x21 → (step ≠ k.arg ∨ size < len + (k.body.drop 8).length) → exec (.stashData k) s = .next s)
      ∧ (k.kind = 0x22 → step = k.arg → let crc := leNat (k.body.take 4)
        (crc32 (s.hbmRead n (s.slotBase n slot + 256) size) ≠ crc → exec (.stashSeal k) s = .next (s.sendAck k 2))
        ∧ (crc32 (s.hbmRead n (s.slotBase n slot + 256) size) = crc → ∃ t : State, exec (.stashSeal k) s = .next (t.sendAck k 0)
          ∧ (t.parts[n]).camp.wardSealed = (slot, step) :: c.wardSealed ∧ (t.parts[n]).camp.wardFill = none
          ∧ objGet t (some n) 0x8200 0xA % 2 ^ 32 = step % 2 ^ 32)))
    ∧ (∀ (q : Stash) (b : Nat), (s.parts[n]).train.stash = some q → s.buddyRank n = some b → k.kind = 0x23 → q.host = none →
      (q.step = k.arg → k.src = s.rankCoord b →
        (leNat (k.body.take 1) ≠ 0 → exec (.stashAck k) s = .next (s.stashAbandoned n))
        ∧ (leNat (k.body.take 1) = 0 → q.sealing = true → exec (.stashAck k) s = .next (s.stashSealed n))
        ∧ (leNat (k.body.take 1) = 0 → q.sealing = false → exec (.stashAck k) s = .next (s.sendStash n b q)))
      ∧ ((q.step ≠ k.arg ∨ k.src ≠ s.rankCoord b) → exec (.stashAck k) s = .next s)
      ∧ exec (.stashAckTimeout n) s = .next (s.stashAbandoned n))
    ∧ ((s.parts[n]).train.stash = none → exec (.stashAckTimeout n) s = .next s)
    ∧ (k.kind = 0x24 → let want := min (leNat ((k.body.drop 8).take 4)) 8192
      let answer (bs : List Byte) : State := s.sendPacket ⟨k.src, s.myCoord, 0x25, k.camp, k.arg, leBytes 8 len ++ bs⟩
      (∀ slot step, c.wardSealed.find? (fun (e : Nat × Nat) => e.2 == k.arg) = some (slot, step) → exec (.pullReq k) s
          = .next (answer (s.hbmRead n (s.slotBase n slot + len) (min want (s.slotSize n - len)))))
      ∧ (c.wardSealed.find? (fun (e : Nat × Nat) => e.2 == k.arg) = none → exec (.pullReq k) s = .next (answer [])))
    ∧ (k.kind = 0x25 → ∀ step size, c.pull = some (step, size) →
      ((step ≠ k.arg ∨ bodyField k 0 8 ≠ c.pulled.length) → exec (.pullData k) s = .next s)
      ∧ (step = k.arg → bodyField k 0 8 = c.pulled.length → k.body.drop 8 ≠ [] → (c.pulled ++ k.body.drop 8).length < 256 → ∃ t : State,
          exec (.pullData k) s = .next (t.pullMore n step) ∧ (t.parts[n]).camp.pulled = c.pulled ++ k.body.drop 8 ∧ t.mem = s.mem))

/-- A camp starts and recovers (18 R426; 20 R466–R471): rank 0 counts the members and the last one makes the camp ACTIVE; after the settle time the
coordinator takes the next recovery number and decides seats; members answer a query of their recovery, or a later one, with a report; a member
that does not is failed; RESUME without a step ends the recovery as unrecoverable. -/
def Obligations.RecoveryRows : Prop :=
  ∀ (s : State) (n : PartId),
    let c := (s.parts[n]).camp
    (∀ k : Packet, s.delivery = .kv2p → s.seatOf k.dst = s.mySeat → s.campPart k.camp = some n →
      (k.kind = 0x18 → s.rankOf n ≠ 0 → exec (.present k) s = .next s)
      ∧ (k.kind = 0x18 → s.rankOf n = 0 → objGet s (some n) 0x4010 9 ≠ 1 → ∃ t : State, exec (.present k) s = .next t ∧ k.src ∈ (t.parts[n]).camp.present
          ∧ objGet t (some n) 0x7100 8 = (t.parts[n]).camp.present.length ∧ t.mem = s.mem)
      ∧ (k.kind = 0x18 → s.rankOf n = 0 → objGet s (some n) 0x4010 9 = 1 → k.src ∉ c.present → c.present.length + 1 = c.members →
          s.recoveryState n ≠ 4 → ∃ t : State, exec (.present k) s = .next t ∧ objGet t (some n) 0x4010 9 = 2)
      ∧ (k.kind = 0x19 → s.recoveryState n ≠ 4 → ∃ t : State, exec (.active k) s = .next t ∧ objGet t (some n) 0x4010 9 = 2 ∧ t.mem = s.mem)
      ∧ (k.kind = 0x26 → k.arg < s.recoveryNo n → exec (.recoverQuery k) s = .next s)
      ∧ (k.kind = 0x26 → s.recoveryNo n ≤ k.arg → c.coordinator = false → ∃ t : State, exec (.recoverQuery k) s =
          .next (t.sendRank n (s.packetRank k) 0x27 k.arg (s.reportBytes n)) ∧ t.recoveryState n = 3 ∧ t.recoveryNo n = k.arg ∧ t.mem = s.mem)
      ∧ (k.kind = 0x27 → k.arg ≠ s.recoveryNo n → exec (.recoverReport k) s = .next s)
      ∧ (k.kind = 0x27 → k.arg = s.recoveryNo n → c.coordinator = true → s.recoveryState n = 3 → (∀ e ∈ c.reports, e.1 ≠ s.packetRank k) →
          c.reports.length + 1 < s.members n → ∃ t : State, exec (.recoverReport k) s = .next t
          ∧ (t.parts[n]).camp.reports = c.reports ++ [(s.packetRank k, k.body)] ∧ t.mem = s.mem)
      ∧ (k.kind = 0x28 → k.arg < s.recoveryNo n → exec (.resume k) s = .next s)
      ∧ (k.kind = 0x28 → s.recoveryNo n ≤ k.arg → k.body.length = 4 → bodyField k 0 4 = noStep → ∃ t : State, exec (.resume k) s = .next t
          ∧ t.recoveryState n = 6 ∧ t.mem = s.mem)
      ∧ (k.kind = 0x28 → s.recoveryNo n ≤ k.arg → k.body.length = 4 → ∃ t : State, exec (.resume k) s = .next (t.resumeAt n (bodyField k 0 4))
          ∧ t.recoveryNo n = k.arg ∧ t.mem = s.mem ∧ t.cores = s.cores)
      ∧ (k.kind = 0x29 → k.arg ≠ s.recoveryNo n → exec (.resumeDone k) s = .next s)
      ∧ (k.kind = 0x29 → k.arg = s.recoveryNo n → c.coordinator = true → s.recoveryState n = 4 →
        (bodyField k 0 1 ≠ 0 → exec (.resumeDone k) s = .next (s.giveUp n))
        ∧ (bodyField k 0 1 = 0 → s.packetRank k ∉ c.done → c.done.length + 1 < s.members n → ∃ t : State, exec (.resumeDone k) s = .next t
          ∧ (t.parts[n]).camp.done = c.done ++ [s.packetRank k] ∧ t.mem = s.mem)))
    ∧ ((s.recoveryState n ≠ 1 ∨ s.coordinatorRank n ≠ some (s.rankOf n)) → exec (.settleTimeout n) s = .next s)
    ∧ (s.recoveryState n = 1 → s.coordinatorRank n = some (s.rankOf n) → ∃ u : State, u.recoveryNo n = s.recoveryNo n + 1 ∧ u.recoveryState n = 2
        ∧ (u.parts[n]).camp.coordinator = true ∧ u.mem = s.mem
        ∧ (u.proposals c.failed (u.spares n) = none → exec (.settleTimeout n) s = .next (u.giveUp n))
        ∧ (u.proposals c.failed (u.spares n) = some [] → exec (.settleTimeout n) s = .next (u.seatsDecided n))
        ∧ (∀ e l, u.proposals c.failed (u.spares n) = some (e :: l) →
          (u.marionette none 4 = false → exec (.settleTimeout n) s = .next ((u.modCamp n fun q => { q with decided := e :: l }).seatsDecided n))
          ∧ (u.marionette none 4 = true → exec (.settleTimeout n) s = .next (u.modCamp n fun q => { q with proposals := e :: l }).postRemap)))
    ∧ ((c.coordinator = false ∨ s.recoveryState n ≠ 3) → exec (.reportTimeout n) s = .next s)
    ∧ (∀ r, c.coordinator = true → s.recoveryState n = 3 → (List.range (s.members n)).filter (fun x => !(c.reports.any fun (e : Nat × List Byte) => e.1 == x)) = [r] →
        exec (.reportTimeout n) s = .next (s.memberFailed n (s.rankCoord r)))
    ∧ (∀ coord : Nat, coord ∉ c.failed → coord ∈ s.rankedCoords n → s.campOf n ≠ 0 → (s.parts[n]).train.stash = none → c.proposals = [] →
        let t := s.memberFailed n coord
        t.recoveryState n = 1 ∧ (t.parts[n]).camp.failed = c.failed ++ [coord] ∧ (t.parts[n]).camp.coordinator = false ∧ t.mem = s.mem)

/-- Calls that are late, and Patrol (15 R348–R352; 16 R373; 22 R502–R508): the timeout of a call that is out ends it and counts, and the duty's own
answer stands in for the host's; a slice starts where it is enabled and its audits pass, and at its end the units go back cleared. -/
def Obligations.LateCallsAndPatrol : Prop :=
  ∀ (s : State) (n : PartId),
    (∀ (i : Instr) (q : Option PartId) (d : Nat), (i, q, d) ∈ [(Instr.stepCallTimeout n, some n, 2), (.stashCallTimeout n, some n, 3),
        (.remapCallTimeout, none, 4), (.patrolCallTimeout, none, 5), (.powerCallTimeout, none, 6)] →
      (s.callOut q d = false → exec i s = .next s)
      ∧ (s.callOut q d = true → (s.lateCall q d).callOut q d = false
          ∧ objGet (s.lateCall q d) q (0x5000 + d * 256) 5 = min (objGet s q (0x5000 + d * 256) 5 + 1) (objMax (0x5000 + d * 256) 5)))
    ∧ (s.callOut (some n) 2 = true → exec (.stepCallTimeout n) s = .next ((s.lateCall (some n) 2).hostSkips n false))
    ∧ (s.callOut (some n) 3 = true → exec (.stashCallTimeout n) s = .next ((s.lateCall (some n) 3).stashAbandoned n))
    ∧ (s.callOut none 4 = true → (s.lateCall none 4).remapping = some n → ∀ coord seat rest, ((s.lateCall none 4).parts[n]).camp.proposals = (coord, seat) :: rest →
        exec .remapCallTimeout s = .next ((s.lateCall none 4).seatChosen n seat))
    ∧ (s.callOut none 5 = true → exec .patrolCallTimeout s = .next ((s.lateCall none 5).dutySwitch none 5))
    ∧ (s.callOut none 6 = true → ∃ t : State, exec .powerCallTimeout s = .next t ∧ t.power.late = true ∧ t.power.answer = none ∧ t.mem = s.mem)
    ∧ ((objGet s none 0xB000 1 ≠ 1 ∨ s.booted = false ∨ s.devState ≠ 4 ∨ s.patrol.running = true) → exec .patrolSliceStart s = .next s)
    ∧ (objGet s none 0xB000 1 = 1 → s.booted = true → s.devState = 4 → s.patrol.running = false → ∀ (sound : Bool) (u : State), s.auditAll s.books = (sound, u) →
      (sound = false → exec .patrolSliceStart s = .next u)
      ∧ (sound = true → u.sweepDone.marionette none 5 = false → exec .patrolSliceStart s = .next (u.sweepDone.takeUnits fun _ => true))
      ∧ (sound = true → u.sweepDone.marionette none 5 = true → u.sweepDone.callOut none 5 = false → u.sweepDone.sliceMask ≠ 0 →
          exec .patrolSliceStart s = .next (u.sweepDone.postCall none 5 (leBytes 8 u.sweepDone.sliceMask ++ leBytes 16 0))))
    ∧ (s.patrol.running = false → ∀ found : List UnitResult, exec (.patrolSliceEnd found) s = .next s)
    ∧ (s.patrol.running = true → ∃ t : State, exec (.patrolSliceEnd []) s = .next t ∧ t.patrol.running = false ∧ t.patrol.banks = [] ∧ t.patrol.cores = []
        ∧ ∀ e ∈ s.patrol.banks, ∀ a, bankBase e.1 e.2.1 ≤ a → a < bankBase e.1 e.2.1 + 0x20000 → memByte t.mem a = 0)

/-! ## Wire formats and the form of memory -/

/-- R68 (03): the layout of a Hearth element. V is bits 47:0 in two's complement, ST bits 49:48, the rest reads 0; the infinities and NaN have the
words R68 gives; after reset an element is 0 with status 0; every element reads back from its word. -/
def Obligations.HearthElementLayout : Prop :=
  (∀ (v : Int) (st : Nat), -(2 ^ 47) ≤ v → v < 2 ^ 47 → st < 4 →
      let w := HElem.word ⟨v, st⟩
      w < 2 ^ 50 ∧ bits w 49 48 = st ∧ signed 48 (bits w 47 0) = v ∧ HElem.ofWord w = ⟨v, st⟩)
  ∧ (∀ w : Nat, w < 2 ^ 64 → (HElem.ofWord w).word = w % 2 ^ 50)
  ∧ bits (HElem.infinity false).word 47 0 = 0x7FFFFFFFFFFF ∧ bits (HElem.infinity true).word 47 0 = 0x800000000001
  ∧ (HElem.infinity false).st = 2 ∧ (HElem.infinity true).st = 2 ∧ bits HElem.nan.word 47 0 = 0 ∧ HElem.nan.st = 3
  ∧ (∀ (c : CoreId) (slot i : Nat), hearthGet State.reset.mem c slot i = ⟨0, 0⟩)

/-- R330 (14): the CRC runs over header bytes 0–13 and the LEN data bytes, bit by bit, most significant first, with polynomial 0x1021 from 0xFFFF;
"123456789" gives 0x29B1; it is stored little-endian in bytes 14–15; on every carrier a PDU whose CRC fails goes no further and gets no answer. -/
def Obligations.PduCrc : Prop :=
  crc16 [0x31, 0x32, 0x33, 0x34, 0x35, 0x36, 0x37, 0x38, 0x39] = 0x29B1
  ∧ crc16 [] = 0xFFFF
  ∧ (∀ (bs : List Byte) (b : Byte), crc16 (bs ++ [b]) = (List.range 8).foldl (fun (c i : Nat) =>
      if bitOf c 15 != bitOf b.toNat (7 - i) then (c * 2 % 65536) ^^^ 0x1021 else c * 2 % 65536) (crc16 bs))
  ∧ (∀ p : Pdu, pduCrcOk p = true ↔ p.crc = crc16 ((pduBytes p).take 14 ++ p.data.take p.len))
  ∧ (∀ p : Pdu, ((pduBytes p).drop 14).take 2 = leBytes 2 p.crc)
  ∧ (∀ (s : State) (f : T1sFrame), f.fcsOk = true → 46 ≤ f.payload.length → f.payload.length ≤ 1500 → pduCrcOk (pduOf f.payload true) = false →
      ∃ t : State, exec (.t1sFrameReceive f) s = .next t ∧ t.out = s.out ∧ t.warden = s.warden ∧ t.mem = s.mem)
  ∧ (∀ (s : State) (x : I3cTransfer), 16 ≤ x.bytes.length → x.bytes.length ≤ 1040 → pduCrcOk (pduOf x.bytes false) = false →
      ∃ t : State, exec (.i3cPrivateWrite x) s = .next t ∧ t.out = s.out ∧ t.warden = s.warden ∧ t.mem = s.mem)
  ∧ (∀ (s : State) (a : RegAccess), a.aligned = true → bitOf a.value.toNat 0 = true → bitOf a.value.toNat 1 = false → s.warden.mbReq = false →
      s.warden.mbRsp = false → pduCrcOk (pduOf ((List.range 1040).map fun i => tabGet 0 s.warden.mbRequest i) true) = false →
      ∃ t : State, exec (.mbReq a) s = .next t ∧ t.out = s.out ∧ t.warden = s.warden ∧ t.mem = s.mem)
  ∧ (∀ (s : State) (k : Packet), k.kind = 8 → 16 ≤ k.body.length → pduCrcOk (pduOf k.body false) = false →
      ∃ t : State, exec (.mgmtReq k) s = .next t ∧ t.out = s.out ∧ t.warden = s.warden ∧ t.links = s.links ∧ t.mem = s.mem)

/-- R321 (13): an object that counts saturates at the largest value of its type and never wraps; the Scout counters of R154 wrap. -/
def Obligations.CountsSaturate : Prop :=
  (∀ (s : State) (q : Option PartId) (index sub n : Nat) (row : ObjRow), objRow index sub = some row →
      objGet (objBump s q index sub n) q index sub = min (objGet s q index sub + n) (2 ^ (8 * row.len) - 1)
      ∧ (objGet s q index sub ≤ 2 ^ (8 * row.len) - 1 → objGet s q index sub ≤ objGet (objBump s q index sub n) q index sub)
      ∧ (objBump s q index sub n).mem = s.mem ∧ (objBump s q index sub n).cores = s.cores)
  ∧ (∀ (k : Core) (i : Fin 6) (n : Nat), ((k.scoutCount i n).scoutCounts[i]).toNat = ((k.scoutCounts[i]).toNat + n) % 2 ^ 32
      ∧ ∀ j : Fin 6, j ≠ i → (k.scoutCount i n).scoutCounts[j] = k.scoutCounts[j])

/-- R25 (01): a doorbell of a partition that is not formed is counted in obj C020.01 and a notification is posted, where the queue has room; nothing is
fetched and no record is written. -/
def Obligations.DoorbellOfUnformed : Prop :=
  ∀ (s : State) (n : PartId) (a : RegAccess), a.aligned = true → s.power.entering = .nothing → s.partState n ≠ 2 →
    ∀ i ∈ [Instr.cmdDbWrite n a, .cplDbWrite n a], ∃ t : State, exec i s = .next t
      ∧ objGet t none 0xC020 1 = min (objGet s none 0xC020 1 + 1) (2 ^ 32 - 1)
      ∧ (s.notes.items.length < 31 → ∃ e ∈ t.notes.items, e.reason = reasonChange ∧ e.part = 255 ∧ e.item = itemOf 0xC020 1)
      ∧ t.attach.reads = s.attach.reads ∧ t.mem = s.mem ∧ t.cores = s.cores
      ∧ ∀ m : PartId, (t.parts[m]).commands = (s.parts[m]).commands ∧ (t.parts[m]).fetching = (s.parts[m]).fetching
          ∧ (t.parts[m]).cmdDb = (s.parts[m]).cmdDb ∧ (t.parts[m]).cplDb = (s.parts[m]).cplDb
          ∧ (t.parts[m]).observed = (s.parts[m]).observed ∧ (t.parts[m]).unread = (s.parts[m]).unread
          ∧ objGet t (some m) 0x4010 0xF = objGet s (some m) 0x4010 0xF

/-- What the device sends and stores reads back as what it was, every field at every value its layout admits (05 R125; 14 R329; 18 R406, R415,
R422): a PDU, also behind padding; a packet; the flits of a packet; a scale history record; the body of a Canopy packet in every mode. -/
def Obligations.Encodings : Prop :=
  (∀ p : Pdu, p.fits = true → pduOf (pduBytes p) false = p)
  ∧ (∀ (p : Pdu) (pad : List Byte), p.fits = true → p.len = p.data.length → pduOf (pduBytes p ++ pad) true = p)
  ∧ (∀ k : Packet, k.fits = true → packetOf (packetBytes k) = (k, k.body.length))
  ∧ (∀ (k : Packet) (vc dl : Nat), let fs := packetFlits vc dl (packetBytes k)
      fs.flatMap (fun (f : Flit) => f.payload) = packetBytes k ∧ (∀ f ∈ fs, f.typ = 1 ∧ f.payload.length ≤ 116)
      ∧ fs.head?.map (fun (f : Flit) => f.sop) = some true ∧ fs.getLast?.map (fun (f : Flit) => f.eop) = some true
      ∧ (∀ f ∈ fs.tail, f.sop = false) ∧ (∀ f ∈ fs.dropLast, f.eop = false))
  ∧ (∀ r : ShRec, r.ent.length = 32 → (∀ e ∈ r.ent, e < 2 ^ 16) → r.pend0 < 2 ^ 16 → r.pend1 < 2 ^ 16 → r.step0 < 2 ^ 32 → r.step1 < 2 ^ 32 →
      r.cstep < 2 ^ 32 → r.len < 2 ^ 8 → r.head < 2 ^ 8 → r.nval < 2 ^ 8 → r.flags < 2 ^ 8 → r.tgt < 2 ^ 16 → r.scale < 2 ^ 16 → r.hscale < 2 ^ 16 →
      r.pch < 2 ^ 8 → r.hdr < 2 ^ 8 → r.hstep < 2 ^ 32 → r.haddr < 2 ^ 64 → r.rest < 2 ^ 192 → r.bytes.length = 128 ∧ ShRec.ofNat (leNat r.bytes) = r)
  ∧ (∀ b : CanopyBody, b.rseq < 2 ^ 16 → (b.status ≤ 4 ∨ b.status = anchorFail) → b.level < 256 → b.node < 2 ^ 32 → b.nchunk < 2 ^ 32 → -(2 ^ 15) ≤ b.anchor → b.anchor < 2 ^ 15 → b.q < 256 →
      ((b.mode = 0 ∧ ∃ vals : List (Int × Nat), b.value = .tile vals ∧ vals.length = 1024 ∧ ∀ e ∈ vals, -(2 ^ 63) ≤ e.1 ∧ e.1 < 2 ^ 63 ∧ e.2 < 4)
        ∨ (b.mode = 1 ∧ ∃ w, b.value = .word w ∧ w < 2 ^ 16) ∨ ((b.mode = 2 ∨ b.mode = 4) ∧ ∃ w, b.value = .word w ∧ w < 2 ^ 64)
        ∨ (b.mode = 3 ∧ ∃ v, b.value = .vote v) ∨ (b.mode = 4 ∧ b.value = .nothing)) →
      canopyBody b.bytes = b)

/-- Every step keeps memory in its canonical form: addresses strictly rising, no byte listed that reads 0 (log 3). -/
def Obligations.StepKeepsMemoryCanonical : Prop :=
  ∀ s t : State, tabWf 0 s.mem = true → step s = .next t → tabWf 0 t.mem = true
end

