-- ==== Sys2Proof/Laws/Issue.lean ====
section
/-!
SUPPORT. What the frame of the core instructions does (07 R167–R169): one lemma for each way an offered word can go.
-/
namespace Sys2Proof.Machine

/-- A word that issues and executes does what its body says. -/
theorem issue_of_issues {x : Issue} {s : State} {opc : Nat} {illegal : Core → Nat → Option CoreFault}
    {body : CoreId → Nat → State → Act} (h : Issues x s opc) (hl : illegal (s.core x.core) x.word.toNat = none) :
    issue x s opc illegal body = match body x.core x.word.toNat s with
      | .stall => .next s
      | .fault f => .next (s.takeFault x.core f)
      | .done s' => .next (s'.advance x.core)
      | .jump s' pc => .next (s'.goto x.core pc)
      | .hold s' => .next s' := by
  obtain ⟨⟨hm, hw, hd, hh, hp, he⟩, ho, hu, hx⟩ := h
  have e1 : ((s.core x.core).mode != CoreMode.running) = false := by simp [hm]
  have e2 : (Ecc.clean == Ecc.corrected) = false := rfl
  have e3 : (Ecc.clean == Ecc.double) = false := rfl
  simp [issue, e1, hw, hd, hh, hp, he, ho, e2, e3, hl, hu, hx] <;> cases body x.core x.word.toNat s <;> rfl

/-- A body that ends in an effect: the PC moves on. -/
theorem issue_done {x : Issue} {s s' : State} {opc : Nat} {illegal : Core → Nat → Option CoreFault}
    {body : CoreId → Nat → State → Act} (h : Issues x s opc) (hl : illegal (s.core x.core) x.word.toNat = none)
    (hb : body x.core x.word.toNat s = .done s') : issue x s opc illegal body = .next (s'.advance x.core) := by
  rw [issue_of_issues h hl, hb]

/-- A body that goes on at a PC. -/
theorem issue_jump {x : Issue} {s s' : State} {opc pc : Nat} {illegal : Core → Nat → Option CoreFault}
    {body : CoreId → Nat → State → Act} (h : Issues x s opc) (hl : illegal (s.core x.core) x.word.toNat = none)
    (hb : body x.core x.word.toNat s = .jump s' pc) : issue x s opc illegal body = .next (s'.goto x.core pc) := by
  rw [issue_of_issues h hl, hb]

/-- A body that changes the state and stays where it is. -/
theorem issue_hold {x : Issue} {s s' : State} {opc : Nat} {illegal : Core → Nat → Option CoreFault}
    {body : CoreId → Nat → State → Act} (h : Issues x s opc) (hl : illegal (s.core x.core) x.word.toNat = none)
    (hb : body x.core x.word.toNat s = .hold s') : issue x s opc illegal body = .next s' := by
  rw [issue_of_issues h hl, hb]

/-- A body that waits changes nothing: the word is offered again. -/
theorem issue_stall {x : Issue} {s : State} {opc : Nat} {illegal : Core → Nat → Option CoreFault}
    {body : CoreId → Nat → State → Act} (h : Issues x s opc) (hl : illegal (s.core x.core) x.word.toNat = none)
    (hb : body x.core x.word.toNat s = .stall) : issue x s opc illegal body = .next s := by
  rw [issue_of_issues h hl, hb]

/-- A body that faults: the core takes the fault. -/
theorem issue_fault {x : Issue} {s : State} {opc : Nat} {f : CoreFault} {illegal : Core → Nat → Option CoreFault}
    {body : CoreId → Nat → State → Act} (h : Issues x s opc) (hl : illegal (s.core x.core) x.word.toNat = none)
    (hb : body x.core x.word.toNat s = .fault f) : issue x s opc illegal body = .next (s.takeFault x.core f) := by
  rw [issue_of_issues h hl, hb]

/-- A word offered to a core that does not run changes nothing (06 R144). -/
theorem issue_not_running {x : Issue} {s : State} {opc : Nat} {illegal : Core → Nat → Option CoreFault}
    {body : CoreId → Nat → State → Act} (h : (s.core x.core).mode ≠ .running) : issue x s opc illegal body = .next s := by
  have e1 : ((s.core x.core).mode != CoreMode.running) = true := by simpa using h
  simp only [issue, e1, Bool.true_or, if_true]

/-- An offered word always answers a next state. -/
theorem issue_next (x : Issue) (s : State) (opc : Nat) (illegal : Core → Nat → Option CoreFault)
    (body : CoreId → Nat → State → Act) : ∃ t, issue x s opc illegal body = .next t := by
  simp only [issue]
  repeat' split
  all_goals exact ⟨_, rfl⟩

/-- ILL_FIELD is not raised exactly when every condition holds (07 R169). -/
theorem require_none {l : List Bool} : require l = none ↔ l.all id = true := by
  unfold require
  split <;> simp_all

end Sys2Proof.Machine
end

