-- ==== Sys2Proof/Laws/Table.lean ====
section
/-!
SUPPORT. The laws of sparse tables: what a key reads as after a write or a clearing, and that both keep the canonical form.
-/
namespace Sys2Proof.Machine

variable {α : Type}

/-- A bound below every key bounds the rest of the table too. -/
theorem tabAbove_mono {b c : Nat} (h : c ≤ b) {t : Tab α} (ht : tabAbove b t = true) : tabAbove c t = true := by
  simp only [tabAbove, List.all_eq_true, decide_eq_true_eq] at *
  exact fun e he => Nat.lt_of_le_of_lt h (ht e he)

/-- A key below every entry reads the default. -/
theorem tabGet_of_above {d : α} {b x : Nat} (hx : x ≤ b) : ∀ {t : Tab α}, tabAbove b t = true → tabGet d t x = d
  | [], _ => rfl
  | (k, v) :: t, h => by
    simp only [tabAbove, List.all_cons, Bool.and_eq_true, decide_eq_true_eq] at h
    have h1 : ¬x = k := by omega
    have h2 : x < k := by omega
    simp [tabGet, h1, h2]

variable [DecidableEq α]

/-- The canonical form of a table with a head. -/
theorem tabWf_cons {d : α} {k : Nat} {v : α} {t : Tab α} :
    tabWf d ((k, v) :: t) = true ↔ v ≠ d ∧ tabAbove k t = true ∧ tabWf d t = true := by
  simp [tabWf, and_assoc]

/-- A write stays above a bound the table and its key stay above. -/
theorem tabAbove_tabSet {d : α} {b x : Nat} {v : α} (hx : b < x) :
    ∀ {t : Tab α}, tabAbove b t = true → tabAbove b (tabSet d t x v) = true
  | [], _ => by unfold tabSet; split <;> simp [tabAbove, hx]
  | (k, w) :: t, h => by
    have h' := h
    simp only [tabAbove, List.all_cons, Bool.and_eq_true, decide_eq_true_eq] at h'
    unfold tabSet
    split
    · split
      · simpa [tabAbove] using h'.2
      · simpa [tabAbove, hx] using h'.2
    · split
      · split
        · exact h
        · simpa [tabAbove, hx] using h'
      · have := tabAbove_tabSet (d := d) (v := v) hx (t := t) (by simpa [tabAbove] using h'.2)
        simp only [tabAbove, List.all_cons, Bool.and_eq_true, decide_eq_true_eq] at this ⊢
        exact ⟨h'.1, this⟩

/-- A write keeps the canonical form. -/
theorem tabWf_tabSet {d : α} {x : Nat} {v : α} : ∀ {t : Tab α}, tabWf d t = true → tabWf d (tabSet d t x v) = true
  | [], _ => by unfold tabSet; split <;> simp_all [tabWf, tabAbove]
  | (k, w) :: t, h => by
    obtain ⟨h1, h2, h3⟩ := tabWf_cons.mp h
    unfold tabSet
    split
    · rename_i e
      split
      · exact h3
      · rename_i hv; exact tabWf_cons.mpr ⟨hv, e ▸ h2, h3⟩
    · split
      · rename_i hk
        split
        · exact h
        · rename_i hv
          refine tabWf_cons.mpr ⟨hv, ?_, h⟩
          simp only [tabAbove, List.all_cons, Bool.and_eq_true, decide_eq_true_eq]
          exact ⟨hk, by have := tabAbove_mono (Nat.le_of_lt hk) h2; simpa [tabAbove] using this⟩
      · rename_i n1 n2
        exact tabWf_cons.mpr ⟨h1, tabAbove_tabSet (by omega) h2, tabWf_tabSet h3⟩

/-- The key written reads the value written, in a canonical table. -/
theorem tabGet_tabSet_same {d : α} {x : Nat} {v : α} : ∀ {t : Tab α}, tabWf d t = true → tabGet d (tabSet d t x v) x = v
  | [], _ => by unfold tabSet; split <;> simp_all [tabGet]
  | (k, w) :: t, h => by
    obtain ⟨-, h2, h3⟩ := tabWf_cons.mp h
    unfold tabSet
    split
    · rename_i e
      split
      · rename_i hv; rw [hv]; exact tabGet_of_above (Nat.le_of_eq e) h2
      · simp [tabGet]
    · rename_i n1
      split
      · rename_i hk
        split
        · rename_i hv; simp [tabGet, n1, hk, hv]
        · simp [tabGet]
      · rename_i n2
        simp only [tabGet, n1, n2, if_false]
        exact tabGet_tabSet_same h3

/-- Every other key reads as before, in a canonical table. -/
theorem tabGet_tabSet_other {d : α} {x y : Nat} {v : α} (hy : y ≠ x) :
    ∀ {t : Tab α}, tabWf d t = true → tabGet d (tabSet d t x v) y = tabGet d t y
  | [], _ => by unfold tabSet; split <;> simp [tabGet, hy]
  | (k, w) :: t, h => by
    obtain ⟨-, h2, h3⟩ := tabWf_cons.mp h
    unfold tabSet
    split
    · rename_i e
      subst e
      split
      · simp only [tabGet, hy, if_false]
        split
        · rename_i hlt; exact tabGet_of_above (Nat.le_of_lt hlt) h2
        · rfl
      · simp only [tabGet, hy, if_false]
    · rename_i n1
      split
      · rename_i hk
        split
        · rfl
        · simp only [tabGet, hy, if_false]
          by_cases hlt : y < x
          · simp [hlt, show ¬y = k by omega, show y < k by omega]
          · simp [hlt]
      · simp only [tabGet]
        rw [tabGet_tabSet_other hy h3]

/-- Writing a value other than the default reads back from any table. -/
theorem tabGet_tabSet_value {d : α} {x : Nat} {v : α} (hv : v ≠ d) : ∀ t : Tab α, tabGet d (tabSet d t x v) x = v
  | [] => by simp [tabSet, hv, tabGet]
  | (k, w) :: t => by
    unfold tabSet
    simp only [hv, if_false]
    split
    · simp [tabGet]
    · rename_i n1
      split
      · simp [tabGet]
      · rename_i n2
        simp only [tabGet, n1, n2, if_false]
        exact tabGet_tabSet_value hv t

/-- Writing a value other than the default leaves what every other key reads as, in any table. -/
theorem tabGet_tabSet_value_other {d : α} {x y : Nat} {v : α} (hv : v ≠ d) (hy : y ≠ x) :
    ∀ t : Tab α, tabGet d (tabSet d t x v) y = tabGet d t y
  | [] => by simp [tabSet, hv, tabGet, hy]
  | (k, w) :: t => by
    unfold tabSet
    split
    · rename_i e; subst e; simp [hv, tabGet, hy]
    · split
      · rename_i n1 hk
        simp only [hv, if_false, tabGet, hy]
        by_cases hlt : y < x
        · simp [hlt, show ¬y = k by omega, show y < k by omega]
        · simp [hlt]
      · simp only [tabGet]
        rw [tabGet_tabSet_value_other hv hy t]

/-- Clearing a range keeps the canonical form. -/
theorem tabWf_tabClear {d : α} {lo hi : Nat} : ∀ {t : Tab α}, tabWf d t = true → tabWf d (tabClear t lo hi) = true
  | [], _ => rfl
  | (k, v) :: t, h => by
    obtain ⟨h1, h2, h3⟩ := tabWf_cons.mp h
    have ih := tabWf_tabClear (lo := lo) (hi := hi) h3
    unfold tabClear at ih ⊢
    rw [List.filter_cons]
    split
    · refine tabWf_cons.mpr ⟨h1, ?_, ih⟩
      simp only [tabAbove, List.all_eq_true] at h2 ⊢
      exact fun e he => h2 e (List.mem_of_mem_filter he)
    · exact ih

/-- A cleared key reads the default. -/
theorem tabGet_tabClear_inside {d : α} {lo hi x : Nat} (h1 : lo ≤ x) (h2 : x < hi) :
    ∀ t : Tab α, tabGet d (tabClear t lo hi) x = d
  | [] => rfl
  | (k, v) :: t => by
    have ih := tabGet_tabClear_inside (d := d) h1 h2 t
    unfold tabClear at ih ⊢
    rw [List.filter_cons]
    split
    · rename_i hk
      simp only [Bool.or_eq_true, decide_eq_true_eq] at hk
      simp only [tabGet, show ¬x = k by omega, if_false]
      split
      · rfl
      · exact ih
    · exact ih

/-- A key outside the cleared range reads as before, in a canonical table. -/
theorem tabGet_tabClear_outside {d : α} {lo hi x : Nat} (hx : x < lo ∨ hi ≤ x) :
    ∀ {t : Tab α}, tabWf d t = true → tabGet d (tabClear t lo hi) x = tabGet d t x
  | [], _ => rfl
  | (k, v) :: t, h => by
    obtain ⟨-, h2, h3⟩ := tabWf_cons.mp h
    have ih := tabGet_tabClear_outside hx h3
    unfold tabClear at ih ⊢
    rw [List.filter_cons]
    split
    · simp only [tabGet]; rw [ih]
    · rename_i hk
      simp only [Bool.or_eq_true, decide_eq_true_eq] at hk
      rw [ih]
      simp only [tabGet, show ¬x = k by omega, if_false]
      split
      · rename_i hlt; exact tabGet_of_above (Nat.le_of_lt hlt) h2
      · rfl

end Sys2Proof.Machine
end

