-- ==== Sys2Proof/Laws/Memory.lean ====
section
/-!
SUPPORT. The laws of memory: what it reads as after each of its operations, and that each of them keeps the canonical form.
-/
namespace Sys2Proof.Machine

/-- The canonical form of memory: addresses strictly rising, no byte listed that reads 0 (log 3). -/
abbrev Memory.wf (m : Memory) : Bool := tabWf 0 m

theorem memWrite_wf {bs : List Byte} : ∀ {m : Memory} {a : Nat}, tabWf 0 m = true → tabWf 0 (memWrite m a bs) = true := by
  induction bs with
  | nil => exact fun h => h
  | cons b bs ih => exact fun h => ih (tabWf_tabSet h)

/-- A byte outside the range written reads as before. -/
theorem memByte_memWrite_outside {bs : List Byte} : ∀ {m : Memory} {a x : Nat}, tabWf 0 m = true → (x < a ∨ a + bs.length ≤ x) →
    memByte (memWrite m a bs) x = memByte m x := by
  induction bs with
  | nil => exact fun _ _ => rfl
  | cons b bs ih =>
    intro m a x h hx
    simp only [List.length_cons] at hx
    rw [memWrite, ih (tabWf_tabSet h) (by omega)]
    exact tabGet_tabSet_other (by omega) h

/-- A byte inside the range written reads what was written there. -/
theorem memByte_memWrite_inside {bs : List Byte} : ∀ {m : Memory} {a i : Nat}, tabWf 0 m = true → (hi : i < bs.length) →
    memByte (memWrite m a bs) (a + i) = bs[i] := by
  induction bs with
  | nil => exact fun _ hi => absurd hi (Nat.not_lt_zero _)
  | cons b bs ih =>
    intro m a i h hi
    cases i with
    | zero =>
      rw [memWrite, memByte_memWrite_outside (tabWf_tabSet h) (by omega)]
      exact tabGet_tabSet_same h
    | succ i =>
      simp only [List.length_cons] at hi
      rw [memWrite, show a + (i + 1) = (a + 1) + i by omega, ih (tabWf_tabSet h) (by omega)]
      rfl

theorem scratchWrite_wf {k : Core} {bs : List Byte} : ∀ {m : Memory} {off : Nat}, tabWf 0 m = true →
    tabWf 0 (scratchWrite m k off bs) = true := by
  induction bs with
  | nil => exact fun h => h
  | cons b bs ih =>
    intro m off h
    rw [scratchWrite]
    apply ih
    split
    · exact tabWf_tabSet h
    · exact h

/-- A byte that no stored offset maps to reads as before. -/
theorem memByte_scratchWrite_outside {k : Core} {bs : List Byte} : ∀ {m : Memory} {off x : Nat}, tabWf 0 m = true →
    (∀ i, i < bs.length → scratchAddr k (off + i) ≠ some x) → memByte (scratchWrite m k off bs) x = memByte m x := by
  induction bs with
  | nil => exact fun _ _ => rfl
  | cons b bs ih =>
    intro m off x h hx
    rw [scratchWrite]
    have h0 := hx 0 (by simp)
    have hs : ∀ i, i < bs.length → scratchAddr k (off + 1 + i) ≠ some x := fun i hi => by
      have := hx (i + 1) (by simpa using hi)
      rwa [show off + (i + 1) = off + 1 + i by omega] at this
    split
    · rename_i a ha
      rw [ih (tabWf_tabSet h) hs]
      have hne : x ≠ a := fun e => h0 (by rw [Nat.add_zero, ha, e])
      exact tabGet_tabSet_other hne h
    · exact ih h hs

theorem hearthSet_wf {m : Memory} {c : CoreId} {slot i : Nat} {e : HElem} (h : tabWf 0 m = true) :
    tabWf 0 (hearthSet m c slot i e) = true := memWrite_wf h

theorem write_wf {s : State} {a : Nat} {bs : List Byte} (h : tabWf 0 s.mem = true) : tabWf 0 (s.write a bs).mem = true := memWrite_wf h

theorem clearMem_wf {s : State} {lo hi : Nat} (h : tabWf 0 s.mem = true) : tabWf 0 (s.clearMem lo hi).mem = true := tabWf_tabClear h

/-- A cleared byte reads 0. -/
theorem memByte_clearMem {s : State} {lo hi a : Nat} (h1 : lo ≤ a) (h2 : a < hi) : memByte (s.clearMem lo hi).mem a = 0 :=
  tabGet_tabClear_inside h1 h2 _

theorem hbmBytes_wf {n : PartId} {bs : List Byte} : ∀ {s : State} {off : Nat}, tabWf 0 s.mem = true →
    tabWf 0 (s.hbmBytes n off bs).mem = true := by
  induction bs with
  | nil => exact fun h => h
  | cons b bs ih =>
    intro s off h
    rw [State.hbmBytes]
    apply ih
    split
    · exact write_wf h
    · exact h

/-- Poison marks are no bytes of memory. -/
theorem hbmWrite_mem {s : State} {n : PartId} {off : Nat} {bs : List Byte} : (s.hbmWrite n off bs).mem = (s.hbmBytes n off bs).mem := by
  unfold State.hbmWrite
  dsimp only
  split <;> rfl

theorem hbmWrite_wf {s : State} {n : PartId} {off : Nat} {bs : List Byte} (h : tabWf 0 s.mem = true) :
    tabWf 0 (s.hbmWrite n off bs).mem = true := hbmWrite_mem ▸ hbmBytes_wf h

theorem clearUnit_wf {s : State} {u : Nat} {next : Option PartId} (h : tabWf 0 s.mem = true) : tabWf 0 (s.clearUnit u next).mem = true :=
  tabWf_tabClear h

theorem clearBank_wf {s : State} {m : CoreId} {b : BankIx} {next : BankParty} (h : tabWf 0 s.mem = true) :
    tabWf 0 (s.clearBank m b next).mem = true := tabWf_tabClear h

theorem clearSlot_wf {s : State} {c : CoreId} {x : SlotIx} (h : tabWf 0 s.mem = true) : tabWf 0 (s.clearSlot c x).mem = true :=
  tabWf_tabClear h

theorem reset_mem_wf : tabWf 0 State.reset.mem = true := rfl

end Sys2Proof.Machine
end

