-- ==== Sys2Proof/Laws/Rows.lean ====
section
/-!
SUPPORT. Every core instruction row is an offered word of its opcode (07 R165-R169), whatever its body does.
-/
namespace Sys2Proof.Machine

/-- The outcome is that of a word of the opcode offered for issue, with some check of its fields that raises ILL_FIELD alone. -/
def IssuesWord (x : Issue) (s : State) (opc : Nat) (o : Host.Outcome State Fault Refusal) : Prop :=
  ∃ il b, (∀ k w, il k w = none ∨ il k w = some illField) ∧ o = issue x s opc il b

theorem require_cases (l : List Bool) : require l = none ∨ require l = some illField := by
  unfold require; split <;> simp

theorem issuesWord_of {x : Issue} {s : State} {opc : Nat} {il b} (h : ∀ k w, il k w = none ∨ il k w = some illField) :
    IssuesWord x s opc (issue x s opc il b) := ⟨il, b, h, rfl⟩

/-- A row of a core instruction issues its word. -/
theorem exec_of_row {i : Instr} {x : Issue} {opc : Nat} {fields : List RowField} (s : State) (h : i.row = some (x, opc, fields)) :
    IssuesWord x s opc (exec i s) := by
  cases i <;> simp only [Instr.row, Option.some.injEq, Prod.mk.injEq, reduceCtorEq] at h
  all_goals obtain ⟨rfl, rfl, rfl⟩ := h
  all_goals simp only [exec]
  case nop =>
    delta execNop
    exact issuesWord_of fun k w => require_cases _
  case halt =>
    delta execHalt
    exact issuesWord_of fun k w => require_cases _
  case sync =>
    delta execSync
    exact issuesWord_of fun k w => require_cases _
  case tagi =>
    delta execTagi
    exact issuesWord_of fun k w => require_cases _
  case br =>
    delta execBr
    exact issuesWord_of fun k w => require_cases _
  case call =>
    delta execCall
    exact issuesWord_of fun k w => require_cases _
  case jr =>
    delta execJr
    exact issuesWord_of fun k w => require_cases _
  case loop =>
    delta execLoop
    exact issuesWord_of fun k w => require_cases _
  case lset =>
    delta execLset
    exact issuesWord_of fun k w => require_cases _
  case add =>
    delta execAdd
    delta scalarAB scalarOp
    exact issuesWord_of fun k w => require_cases _
  case sub =>
    delta execSub
    delta scalarAB scalarOp
    exact issuesWord_of fun k w => require_cases _
  case mul =>
    delta execMul
    delta scalarAB scalarOp
    exact issuesWord_of fun k w => require_cases _
  case and =>
    delta execAnd
    delta scalarAB scalarOp
    exact issuesWord_of fun k w => require_cases _
  case or =>
    delta execOr
    delta scalarAB scalarOp
    exact issuesWord_of fun k w => require_cases _
  case xor =>
    delta execXor
    delta scalarAB scalarOp
    exact issuesWord_of fun k w => require_cases _
  case shl =>
    delta execShl
    delta scalarAB scalarOp
    exact issuesWord_of fun k w => require_cases _
  case shr =>
    delta execShr
    delta scalarAB scalarOp
    exact issuesWord_of fun k w => require_cases _
  case sar =>
    delta execSar
    delta scalarAB scalarOp
    exact issuesWord_of fun k w => require_cases _
  case min =>
    delta execMin
    delta scalarAB scalarOp
    exact issuesWord_of fun k w => require_cases _
  case max =>
    delta execMax
    delta scalarAB scalarOp
    exact issuesWord_of fun k w => require_cases _
  case minu =>
    delta execMinu
    delta scalarAB scalarOp
    exact issuesWord_of fun k w => require_cases _
  case maxu =>
    delta execMaxu
    delta scalarAB scalarOp
    exact issuesWord_of fun k w => require_cases _
  case addi =>
    delta execAddi
    delta scalarOp
    exact issuesWord_of fun k w => require_cases _
  case movi =>
    delta execMovi
    delta scalarOp
    exact issuesWord_of fun k w => require_cases _
  case movhi =>
    delta execMovhi
    delta scalarOp
    exact issuesWord_of fun k w => require_cases _
  case cmpeq =>
    delta execCmpeq
    delta scalarCmp scalarAB scalarOp
    exact issuesWord_of fun k w => require_cases _
  case cmpne =>
    delta execCmpne
    delta scalarCmp scalarAB scalarOp
    exact issuesWord_of fun k w => require_cases _
  case cmplt =>
    delta execCmplt
    delta scalarCmp scalarAB scalarOp
    exact issuesWord_of fun k w => require_cases _
  case cmpltu =>
    delta execCmpltu
    delta scalarCmp scalarAB scalarOp
    exact issuesWord_of fun k w => require_cases _
  case cmple =>
    delta execCmple
    delta scalarCmp scalarAB scalarOp
    exact issuesWord_of fun k w => require_cases _
  case cmpleu =>
    delta execCmpleu
    delta scalarCmp scalarAB scalarOp
    exact issuesWord_of fun k w => require_cases _
  case pand =>
    delta execPand
    delta scalarPred scalarOp
    exact issuesWord_of fun k w => require_cases _
  case por =>
    delta execPor
    delta scalarPred scalarOp
    exact issuesWord_of fun k w => require_cases _
  case pxor =>
    delta execPxor
    delta scalarPred scalarOp
    exact issuesWord_of fun k w => require_cases _
  case ld =>
    delta execLd
    exact issuesWord_of fun k w => require_cases _
  case st =>
    delta execSt
    exact issuesWord_of fun k w => require_cases _
  case crr =>
    delta execCrr
    exact issuesWord_of fun k w => require_cases _
  case crw =>
    delta execCrw
    delta crw
    exact issuesWord_of fun k w => require_cases _
  case tld =>
    delta execTld
    exact issuesWord_of fun k w => require_cases _
  case tst =>
    delta execTst
    exact issuesWord_of fun k w => require_cases _
  case tset =>
    delta execTset
    exact issuesWord_of fun k w => require_cases _
  case tget =>
    delta execTget
    exact issuesWord_of fun k w => require_cases _
  case mma =>
    delta execMma
    exact issuesWord_of fun k w => require_cases _
  case hclr =>
    delta execHclr
    exact issuesWord_of fun k w => require_cases _
  case hld =>
    delta execHld
    exact issuesWord_of fun k w => require_cases _
  case hst =>
    delta execHst
    exact issuesWord_of fun k w => require_cases _
  case drn =>
    delta execDrn
    exact issuesWord_of fun k w => require_cases _
  case swap =>
    delta execSwap
    exact issuesWord_of fun k w => require_cases _
  case fold =>
    delta execFold
    exact issuesWord_of fun k w => require_cases _
  case agopen =>
    delta execAgopen
    exact issuesWord_of fun k w => require_cases _
  case agclose =>
    delta execAgclose
    exact issuesWord_of fun k w => require_cases _
  case agnCfgWrite =>
    delta execAgnCfgWrite
    delta crw
    exact issuesWord_of fun k w => require_cases _
  case credHearthSum =>
    delta execCredHearthSum
    delta credRun
    exact issuesWord_of fun k w => require_cases _
  case credMaximum =>
    delta execCredMaximum
    delta credRun
    exact issuesWord_of fun k w => require_cases _
  case credFp64Sum =>
    delta execCredFp64Sum
    delta credRun
    exact issuesWord_of fun k w => require_cases _
  case credVote =>
    delta execCredVote
    delta credRun
    exact issuesWord_of fun k w => require_cases _
  case credBroadcast =>
    delta execCredBroadcast
    delta credRun
    exact issuesWord_of fun k w => require_cases _
  case ewMul =>
    delta execEwMul
    delta elementwise
    exact issuesWord_of fun k w => require_cases _
  case ewDiv =>
    delta execEwDiv
    delta elementwise
    exact issuesWord_of fun k w => require_cases _
  case ewNeg =>
    delta execEwNeg
    delta elementwise
    exact issuesWord_of fun k w => require_cases _
  case ewAbs =>
    delta execEwAbs
    delta elementwise
    exact issuesWord_of fun k w => require_cases _
  case ewMax =>
    delta execEwMax
    delta elementwise
    exact issuesWord_of fun k w => require_cases _
  case ewMin =>
    delta execEwMin
    delta elementwise
    exact issuesWord_of fun k w => require_cases _
  case ewCmplt =>
    delta execEwCmplt
    delta elementwise
    exact issuesWord_of fun k w => require_cases _
  case ewCmpeq =>
    delta execEwCmpeq
    delta elementwise
    exact issuesWord_of fun k w => require_cases _
  case ewCvt =>
    delta execEwCvt
    delta elementwise
    exact issuesWord_of fun k w => require_cases _
  case ladd =>
    delta execLadd
    delta lanternTile
    exact issuesWord_of fun k w => require_cases _
  case lsub =>
    delta execLsub
    delta lanternTile
    exact issuesWord_of fun k w => require_cases _
  case exp =>
    delta execExp
    delta lanternOne lanternTile
    exact issuesWord_of fun k w => require_cases _
  case exp2 =>
    delta execExp2
    delta lanternOne lanternTile
    exact issuesWord_of fun k w => require_cases _
  case expd =>
    delta execExpd
    delta lanternTile
    exact issuesWord_of fun k w => require_cases _
  case ln =>
    delta execLn
    delta lanternOne lanternTile
    exact issuesWord_of fun k w => require_cases _
  case log2 =>
    delta execLog2
    delta lanternOne lanternTile
    exact issuesWord_of fun k w => require_cases _
  case sin =>
    delta execSin
    delta lanternOne lanternTile
    exact issuesWord_of fun k w => require_cases _
  case cos =>
    delta execCos
    delta lanternOne lanternTile
    exact issuesWord_of fun k w => require_cases _
  case gelu =>
    delta execGelu
    delta lanternOne lanternTile
    exact issuesWord_of fun k w => require_cases _
  case gelut =>
    delta execGelut
    delta lanternOne lanternTile
    exact issuesWord_of fun k w => require_cases _
  case sqrt =>
    delta execSqrt
    delta lanternOne lanternTile
    exact issuesWord_of fun k w => require_cases _
  case rsqrt =>
    delta execRsqrt
    delta lanternOne lanternTile
    exact issuesWord_of fun k w => require_cases _
  case utn =>
    delta execUtn
    delta lanternTile
    exact issuesWord_of fun k w => require_cases _
  case stati =>
    delta execStati
    exact issuesWord_of fun k w => require_cases _
  case stat1 =>
    delta execStat1
    delta statAccumulate
    exact issuesWord_of fun k w => require_cases _
  case stat2 =>
    delta execStat2
    delta statAccumulate
    exact issuesWord_of fun k w => require_cases _
  case statq =>
    delta execStatq
    delta statAccumulate
    exact issuesWord_of fun k w => require_cases _
  case statf =>
    delta execStatf
    exact issuesWord_of fun k w => require_cases _
  case norma =>
    delta execNorma
    exact issuesWord_of fun k w => require_cases _
  case statr =>
    delta execStatr
    exact issuesWord_of fun k w => require_cases _
  case statw =>
    delta execStatw
    exact issuesWord_of fun k w => require_cases _
  case ltload =>
    delta execLtload
    exact issuesWord_of fun k w => require_cases _
  case lntCfgWrite =>
    delta execLntCfgWrite
    delta crw
    exact issuesWord_of fun k w => require_cases _
  case fvAdd =>
    delta execFvAdd
    delta fvTile
    exact issuesWord_of fun k w => require_cases _
  case fvSub =>
    delta execFvSub
    delta fvTile
    exact issuesWord_of fun k w => require_cases _
  case fvMul =>
    delta execFvMul
    delta fvTile
    exact issuesWord_of fun k w => require_cases _
  case fvDiv =>
    delta execFvDiv
    delta fvTile
    exact issuesWord_of fun k w => require_cases _
  case fvSqrt =>
    delta execFvSqrt
    delta fvTile
    exact issuesWord_of fun k w => require_cases _
  case fvFma =>
    delta execFvFma
    delta fvTile
    exact issuesWord_of fun k w => require_cases _
  case fvMax =>
    delta execFvMax
    delta fvTile
    exact issuesWord_of fun k w => require_cases _
  case fvMin =>
    delta execFvMin
    delta fvTile
    exact issuesWord_of fun k w => require_cases _
  case fvCvt =>
    delta execFvCvt
    delta fvTile
    exact issuesWord_of fun k w => require_cases _
  case fvSsq =>
    delta execFvSsq
    exact issuesWord_of fun k w => require_cases _
  case fsAdd =>
    delta execFsAdd
    delta fsScalar
    exact issuesWord_of fun k w => require_cases _
  case fsSub =>
    delta execFsSub
    delta fsScalar
    exact issuesWord_of fun k w => require_cases _
  case fsMul =>
    delta execFsMul
    delta fsScalar
    exact issuesWord_of fun k w => require_cases _
  case fsDiv =>
    delta execFsDiv
    delta fsScalar
    exact issuesWord_of fun k w => require_cases _
  case fsSqrt =>
    delta execFsSqrt
    delta fsScalar
    exact issuesWord_of fun k w => require_cases _
  case fsFma =>
    delta execFsFma
    delta fsScalar
    exact issuesWord_of fun k w => require_cases _
  case fsMax =>
    delta execFsMax
    delta fsScalar
    exact issuesWord_of fun k w => require_cases _
  case fsMin =>
    delta execFsMin
    delta fsScalar
    exact issuesWord_of fun k w => require_cases _
  case fsCvt =>
    delta execFsCvt
    delta fsScalar
    exact issuesWord_of fun k w => require_cases _
  case fsCmplt =>
    delta execFsCmplt
    delta fsScalar
    exact issuesWord_of fun k w => require_cases _
  case fsCmpeq =>
    delta execFsCmpeq
    delta fsScalar
    exact issuesWord_of fun k w => require_cases _
  case cvti =>
    delta execCvti
    delta fsScalar
    exact issuesWord_of fun k w => require_cases _
  case cvtf =>
    delta execCvtf
    delta fsScalar
    exact issuesWord_of fun k w => require_cases _
  case shinit =>
    delta execShinit
    exact issuesWord_of fun k w => require_cases _
  case shobs =>
    delta execShobs
    exact issuesWord_of fun k w => require_cases _
  case shcmt =>
    delta execShcmt
    exact issuesWord_of fun k w => require_cases _
  case shdsc =>
    delta execShdsc
    exact issuesWord_of fun k w => require_cases _
  case shder =>
    delta execShder
    exact issuesWord_of fun k w => require_cases _
  case shanc =>
    delta execShanc
    exact issuesWord_of fun k w => require_cases _
  case shdirWrite =>
    delta execShdirWrite
    delta crw
    exact issuesWord_of fun k w => require_cases _
  case madd =>
    delta execMadd
    delta abIssue
    exact issuesWord_of fun k w => require_cases _
  case ntt =>
    delta execNtt
    delta abIssue
    exact issuesWord_of fun k w => require_cases _
  case intt =>
    delta execIntt
    delta abIssue
    exact issuesWord_of fun k w => require_cases _
  case auto =>
    delta execAuto
    delta abIssue
    exact issuesWord_of fun k w => require_cases _
  case kgen =>
    delta execKgen
    delta abIssue
    exact issuesWord_of fun k w => require_cases _
  case send =>
    delta execSend
    delta streamIssue
    exact issuesWord_of fun k w => require_cases _
  case recv =>
    delta execRecv
    delta streamIssue
    exact issuesWord_of fun k w => require_cases _
  case sclose =>
    delta execSclose
    delta streamIssue
    exact issuesWord_of fun k w => require_cases _
  case claim =>
    delta execClaim
    exact issuesWord_of fun k w => require_cases _
  case give =>
    delta execGive
    exact issuesWord_of fun k w => require_cases _
  case bankOwnGo =>
    delta execBankOwnGo
    delta crw
    exact issuesWord_of fun k w => require_cases _
  case free =>
    delta execFree
    exact issuesWord_of fun k w => require_cases _
  case pgo =>
    delta execPgo
    exact issuesWord_of fun k w => require_cases _
  case pwait =>
    delta execPwait
    exact issuesWord_of fun k w => require_cases _
  case pchGo =>
    delta execPchGo
    delta crw
    exact issuesWord_of fun k w => require_cases _
  case pchResume =>
    delta execPchResume
    delta crw
    exact issuesWord_of fun k w => require_cases _
  case pchAbort =>
    delta execPchAbort
    delta crw
    exact issuesWord_of fun k w => require_cases _
  case epb =>
    delta execEpb
    exact issuesWord_of fun k w => require_cases _
  case epc =>
    delta execEpc
    exact issuesWord_of fun k w => require_cases _
  case epd =>
    delta execEpd
    exact issuesWord_of fun k w => require_cases _
  case epochMaskWrite =>
    delta execEpochMaskWrite
    delta crw
    exact issuesWord_of fun k w => require_cases _
  case scoutCtlWrite =>
    delta execScoutCtlWrite
    delta crw
    exact issuesWord_of fun k w => require_cases _
  case stepnoWrite =>
    delta execStepnoWrite
    delta crw
    exact issuesWord_of fun k w => require_cases _
  case w1cStatusClear =>
    delta execW1cStatusClear
    delta crw
    exact issuesWord_of fun k w => require_cases _

end Sys2Proof.Machine
end

