-- ==== Sys2Proof/Laws/State.lean ====
section
/-!
SUPPORT. What each update of the state leaves of every field, so that no proof unfolds a record update; and what the
field that an update changes reads as afterwards.
-/
namespace Sys2Proof.Machine

/-! ## State.setCore -/

@[simp] theorem State.setCore_delivery (s : State) (c : CoreId) (k : Core) : (s.setCore c k).delivery = s.delivery := rfl
@[simp] theorem State.setCore_parts (s : State) (c : CoreId) (k : Core) : (s.setCore c k).parts = s.parts := rfl
@[simp] theorem State.setCore_mem (s : State) (c : CoreId) (k : Core) : (s.setCore c k).mem = s.mem := rfl
@[simp] theorem State.setCore_objs (s : State) (c : CoreId) (k : Core) : (s.setCore c k).objs = s.objs := rfl
@[simp] theorem State.setCore_banks (s : State) (c : CoreId) (k : Core) : (s.setCore c k).banks = s.banks := rfl
@[simp] theorem State.setCore_idleSince (s : State) (c : CoreId) (k : Core) : (s.setCore c k).idleSince = s.idleSince := rfl
@[simp] theorem State.setCore_ctxs (s : State) (c : CoreId) (k : Core) : (s.setCore c k).ctxs = s.ctxs := rfl
@[simp] theorem State.setCore_traffic (s : State) (c : CoreId) (k : Core) : (s.setCore c k).traffic = s.traffic := rfl
@[simp] theorem State.setCore_claims (s : State) (c : CoreId) (k : Core) : (s.setCore c k).claims = s.claims := rfl
@[simp] theorem State.setCore_handovers (s : State) (c : CoreId) (k : Core) : (s.setCore c k).handovers = s.handovers := rfl
@[simp] theorem State.setCore_gptr (s : State) (c : CoreId) (k : Core) : (s.setCore c k).gptr = s.gptr := rfl
@[simp] theorem State.setCore_tick (s : State) (c : CoreId) (k : Core) : (s.setCore c k).tick = s.tick := rfl
@[simp] theorem State.setCore_notes (s : State) (c : CoreId) (k : Core) : (s.setCore c k).notes = s.notes := rfl
@[simp] theorem State.setCore_faults (s : State) (c : CoreId) (k : Core) : (s.setCore c k).faults = s.faults := rfl
@[simp] theorem State.setCore_arrivals (s : State) (c : CoreId) (k : Core) : (s.setCore c k).arrivals = s.arrivals := rfl
@[simp] theorem State.setCore_attach (s : State) (c : CoreId) (k : Core) : (s.setCore c k).attach = s.attach := rfl
@[simp] theorem State.setCore_hbm (s : State) (c : CoreId) (k : Core) : (s.setCore c k).hbm = s.hbm := rfl
@[simp] theorem State.setCore_warden (s : State) (c : CoreId) (k : Core) : (s.setCore c k).warden = s.warden := rfl
@[simp] theorem State.setCore_power (s : State) (c : CoreId) (k : Core) : (s.setCore c k).power = s.power := rfl
@[simp] theorem State.setCore_boot (s : State) (c : CoreId) (k : Core) : (s.setCore c k).boot = s.boot := rfl
@[simp] theorem State.setCore_pins (s : State) (c : CoreId) (k : Core) : (s.setCore c k).pins = s.pins := rfl
@[simp] theorem State.setCore_links (s : State) (c : CoreId) (k : Core) : (s.setCore c k).links = s.links := rfl
@[simp] theorem State.setCore_fabric (s : State) (c : CoreId) (k : Core) : (s.setCore c k).fabric = s.fabric := rfl
@[simp] theorem State.setCore_canopy (s : State) (c : CoreId) (k : Core) : (s.setCore c k).canopy = s.canopy := rfl
@[simp] theorem State.setCore_patrol (s : State) (c : CoreId) (k : Core) : (s.setCore c k).patrol = s.patrol := rfl
@[simp] theorem State.setCore_callSeq (s : State) (c : CoreId) (k : Core) : (s.setCore c k).callSeq = s.callSeq := rfl
@[simp] theorem State.setCore_freeCount (s : State) (c : CoreId) (k : Core) : (s.setCore c k).freeCount = s.freeCount := rfl
@[simp] theorem State.setCore_out (s : State) (c : CoreId) (k : Core) : (s.setCore c k).out = s.out := rfl
@[simp] theorem State.setCore_pending (s : State) (c : CoreId) (k : Core) : (s.setCore c k).pending = s.pending := rfl

/-! ## State.modCore -/

@[simp] theorem State.modCore_delivery (s : State) (c : CoreId) (f : Core → Core) : (s.modCore c f).delivery = s.delivery := rfl
@[simp] theorem State.modCore_parts (s : State) (c : CoreId) (f : Core → Core) : (s.modCore c f).parts = s.parts := rfl
@[simp] theorem State.modCore_mem (s : State) (c : CoreId) (f : Core → Core) : (s.modCore c f).mem = s.mem := rfl
@[simp] theorem State.modCore_objs (s : State) (c : CoreId) (f : Core → Core) : (s.modCore c f).objs = s.objs := rfl
@[simp] theorem State.modCore_banks (s : State) (c : CoreId) (f : Core → Core) : (s.modCore c f).banks = s.banks := rfl
@[simp] theorem State.modCore_idleSince (s : State) (c : CoreId) (f : Core → Core) : (s.modCore c f).idleSince = s.idleSince := rfl
@[simp] theorem State.modCore_ctxs (s : State) (c : CoreId) (f : Core → Core) : (s.modCore c f).ctxs = s.ctxs := rfl
@[simp] theorem State.modCore_traffic (s : State) (c : CoreId) (f : Core → Core) : (s.modCore c f).traffic = s.traffic := rfl
@[simp] theorem State.modCore_claims (s : State) (c : CoreId) (f : Core → Core) : (s.modCore c f).claims = s.claims := rfl
@[simp] theorem State.modCore_handovers (s : State) (c : CoreId) (f : Core → Core) : (s.modCore c f).handovers = s.handovers := rfl
@[simp] theorem State.modCore_gptr (s : State) (c : CoreId) (f : Core → Core) : (s.modCore c f).gptr = s.gptr := rfl
@[simp] theorem State.modCore_tick (s : State) (c : CoreId) (f : Core → Core) : (s.modCore c f).tick = s.tick := rfl
@[simp] theorem State.modCore_notes (s : State) (c : CoreId) (f : Core → Core) : (s.modCore c f).notes = s.notes := rfl
@[simp] theorem State.modCore_faults (s : State) (c : CoreId) (f : Core → Core) : (s.modCore c f).faults = s.faults := rfl
@[simp] theorem State.modCore_arrivals (s : State) (c : CoreId) (f : Core → Core) : (s.modCore c f).arrivals = s.arrivals := rfl
@[simp] theorem State.modCore_attach (s : State) (c : CoreId) (f : Core → Core) : (s.modCore c f).attach = s.attach := rfl
@[simp] theorem State.modCore_hbm (s : State) (c : CoreId) (f : Core → Core) : (s.modCore c f).hbm = s.hbm := rfl
@[simp] theorem State.modCore_warden (s : State) (c : CoreId) (f : Core → Core) : (s.modCore c f).warden = s.warden := rfl
@[simp] theorem State.modCore_power (s : State) (c : CoreId) (f : Core → Core) : (s.modCore c f).power = s.power := rfl
@[simp] theorem State.modCore_boot (s : State) (c : CoreId) (f : Core → Core) : (s.modCore c f).boot = s.boot := rfl
@[simp] theorem State.modCore_pins (s : State) (c : CoreId) (f : Core → Core) : (s.modCore c f).pins = s.pins := rfl
@[simp] theorem State.modCore_links (s : State) (c : CoreId) (f : Core → Core) : (s.modCore c f).links = s.links := rfl
@[simp] theorem State.modCore_fabric (s : State) (c : CoreId) (f : Core → Core) : (s.modCore c f).fabric = s.fabric := rfl
@[simp] theorem State.modCore_canopy (s : State) (c : CoreId) (f : Core → Core) : (s.modCore c f).canopy = s.canopy := rfl
@[simp] theorem State.modCore_patrol (s : State) (c : CoreId) (f : Core → Core) : (s.modCore c f).patrol = s.patrol := rfl
@[simp] theorem State.modCore_callSeq (s : State) (c : CoreId) (f : Core → Core) : (s.modCore c f).callSeq = s.callSeq := rfl
@[simp] theorem State.modCore_freeCount (s : State) (c : CoreId) (f : Core → Core) : (s.modCore c f).freeCount = s.freeCount := rfl
@[simp] theorem State.modCore_out (s : State) (c : CoreId) (f : Core → Core) : (s.modCore c f).out = s.out := rfl
@[simp] theorem State.modCore_pending (s : State) (c : CoreId) (f : Core → Core) : (s.modCore c f).pending = s.pending := rfl

/-! ## State.modPart -/

@[simp] theorem State.modPart_delivery (s : State) (n : PartId) (f : Partition → Partition) : (s.modPart n f).delivery = s.delivery := rfl
@[simp] theorem State.modPart_cores (s : State) (n : PartId) (f : Partition → Partition) : (s.modPart n f).cores = s.cores := rfl
@[simp] theorem State.modPart_mem (s : State) (n : PartId) (f : Partition → Partition) : (s.modPart n f).mem = s.mem := rfl
@[simp] theorem State.modPart_objs (s : State) (n : PartId) (f : Partition → Partition) : (s.modPart n f).objs = s.objs := rfl
@[simp] theorem State.modPart_banks (s : State) (n : PartId) (f : Partition → Partition) : (s.modPart n f).banks = s.banks := rfl
@[simp] theorem State.modPart_idleSince (s : State) (n : PartId) (f : Partition → Partition) : (s.modPart n f).idleSince = s.idleSince := rfl
@[simp] theorem State.modPart_ctxs (s : State) (n : PartId) (f : Partition → Partition) : (s.modPart n f).ctxs = s.ctxs := rfl
@[simp] theorem State.modPart_traffic (s : State) (n : PartId) (f : Partition → Partition) : (s.modPart n f).traffic = s.traffic := rfl
@[simp] theorem State.modPart_claims (s : State) (n : PartId) (f : Partition → Partition) : (s.modPart n f).claims = s.claims := rfl
@[simp] theorem State.modPart_handovers (s : State) (n : PartId) (f : Partition → Partition) : (s.modPart n f).handovers = s.handovers := rfl
@[simp] theorem State.modPart_gptr (s : State) (n : PartId) (f : Partition → Partition) : (s.modPart n f).gptr = s.gptr := rfl
@[simp] theorem State.modPart_tick (s : State) (n : PartId) (f : Partition → Partition) : (s.modPart n f).tick = s.tick := rfl
@[simp] theorem State.modPart_notes (s : State) (n : PartId) (f : Partition → Partition) : (s.modPart n f).notes = s.notes := rfl
@[simp] theorem State.modPart_faults (s : State) (n : PartId) (f : Partition → Partition) : (s.modPart n f).faults = s.faults := rfl
@[simp] theorem State.modPart_arrivals (s : State) (n : PartId) (f : Partition → Partition) : (s.modPart n f).arrivals = s.arrivals := rfl
@[simp] theorem State.modPart_attach (s : State) (n : PartId) (f : Partition → Partition) : (s.modPart n f).attach = s.attach := rfl
@[simp] theorem State.modPart_hbm (s : State) (n : PartId) (f : Partition → Partition) : (s.modPart n f).hbm = s.hbm := rfl
@[simp] theorem State.modPart_warden (s : State) (n : PartId) (f : Partition → Partition) : (s.modPart n f).warden = s.warden := rfl
@[simp] theorem State.modPart_power (s : State) (n : PartId) (f : Partition → Partition) : (s.modPart n f).power = s.power := rfl
@[simp] theorem State.modPart_boot (s : State) (n : PartId) (f : Partition → Partition) : (s.modPart n f).boot = s.boot := rfl
@[simp] theorem State.modPart_pins (s : State) (n : PartId) (f : Partition → Partition) : (s.modPart n f).pins = s.pins := rfl
@[simp] theorem State.modPart_links (s : State) (n : PartId) (f : Partition → Partition) : (s.modPart n f).links = s.links := rfl
@[simp] theorem State.modPart_fabric (s : State) (n : PartId) (f : Partition → Partition) : (s.modPart n f).fabric = s.fabric := rfl
@[simp] theorem State.modPart_canopy (s : State) (n : PartId) (f : Partition → Partition) : (s.modPart n f).canopy = s.canopy := rfl
@[simp] theorem State.modPart_patrol (s : State) (n : PartId) (f : Partition → Partition) : (s.modPart n f).patrol = s.patrol := rfl
@[simp] theorem State.modPart_callSeq (s : State) (n : PartId) (f : Partition → Partition) : (s.modPart n f).callSeq = s.callSeq := rfl
@[simp] theorem State.modPart_freeCount (s : State) (n : PartId) (f : Partition → Partition) : (s.modPart n f).freeCount = s.freeCount := rfl
@[simp] theorem State.modPart_out (s : State) (n : PartId) (f : Partition → Partition) : (s.modPart n f).out = s.out := rfl
@[simp] theorem State.modPart_pending (s : State) (n : PartId) (f : Partition → Partition) : (s.modPart n f).pending = s.pending := rfl

/-! ## objSet -/

@[simp] theorem objSet_delivery (s : State) (q : Option PartId) (i j v : Nat) : (objSet s q i j v).delivery = s.delivery := rfl
@[simp] theorem objSet_cores (s : State) (q : Option PartId) (i j v : Nat) : (objSet s q i j v).cores = s.cores := rfl
@[simp] theorem objSet_parts (s : State) (q : Option PartId) (i j v : Nat) : (objSet s q i j v).parts = s.parts := rfl
@[simp] theorem objSet_mem (s : State) (q : Option PartId) (i j v : Nat) : (objSet s q i j v).mem = s.mem := rfl
@[simp] theorem objSet_banks (s : State) (q : Option PartId) (i j v : Nat) : (objSet s q i j v).banks = s.banks := rfl
@[simp] theorem objSet_idleSince (s : State) (q : Option PartId) (i j v : Nat) : (objSet s q i j v).idleSince = s.idleSince := rfl
@[simp] theorem objSet_ctxs (s : State) (q : Option PartId) (i j v : Nat) : (objSet s q i j v).ctxs = s.ctxs := rfl
@[simp] theorem objSet_traffic (s : State) (q : Option PartId) (i j v : Nat) : (objSet s q i j v).traffic = s.traffic := rfl
@[simp] theorem objSet_claims (s : State) (q : Option PartId) (i j v : Nat) : (objSet s q i j v).claims = s.claims := rfl
@[simp] theorem objSet_handovers (s : State) (q : Option PartId) (i j v : Nat) : (objSet s q i j v).handovers = s.handovers := rfl
@[simp] theorem objSet_gptr (s : State) (q : Option PartId) (i j v : Nat) : (objSet s q i j v).gptr = s.gptr := rfl
@[simp] theorem objSet_tick (s : State) (q : Option PartId) (i j v : Nat) : (objSet s q i j v).tick = s.tick := rfl
@[simp] theorem objSet_notes (s : State) (q : Option PartId) (i j v : Nat) : (objSet s q i j v).notes = s.notes := rfl
@[simp] theorem objSet_faults (s : State) (q : Option PartId) (i j v : Nat) : (objSet s q i j v).faults = s.faults := rfl
@[simp] theorem objSet_arrivals (s : State) (q : Option PartId) (i j v : Nat) : (objSet s q i j v).arrivals = s.arrivals := rfl
@[simp] theorem objSet_attach (s : State) (q : Option PartId) (i j v : Nat) : (objSet s q i j v).attach = s.attach := rfl
@[simp] theorem objSet_hbm (s : State) (q : Option PartId) (i j v : Nat) : (objSet s q i j v).hbm = s.hbm := rfl
@[simp] theorem objSet_warden (s : State) (q : Option PartId) (i j v : Nat) : (objSet s q i j v).warden = s.warden := rfl
@[simp] theorem objSet_power (s : State) (q : Option PartId) (i j v : Nat) : (objSet s q i j v).power = s.power := rfl
@[simp] theorem objSet_boot (s : State) (q : Option PartId) (i j v : Nat) : (objSet s q i j v).boot = s.boot := rfl
@[simp] theorem objSet_pins (s : State) (q : Option PartId) (i j v : Nat) : (objSet s q i j v).pins = s.pins := rfl
@[simp] theorem objSet_links (s : State) (q : Option PartId) (i j v : Nat) : (objSet s q i j v).links = s.links := rfl
@[simp] theorem objSet_fabric (s : State) (q : Option PartId) (i j v : Nat) : (objSet s q i j v).fabric = s.fabric := rfl
@[simp] theorem objSet_canopy (s : State) (q : Option PartId) (i j v : Nat) : (objSet s q i j v).canopy = s.canopy := rfl
@[simp] theorem objSet_patrol (s : State) (q : Option PartId) (i j v : Nat) : (objSet s q i j v).patrol = s.patrol := rfl
@[simp] theorem objSet_callSeq (s : State) (q : Option PartId) (i j v : Nat) : (objSet s q i j v).callSeq = s.callSeq := rfl
@[simp] theorem objSet_freeCount (s : State) (q : Option PartId) (i j v : Nat) : (objSet s q i j v).freeCount = s.freeCount := rfl
@[simp] theorem objSet_out (s : State) (q : Option PartId) (i j v : Nat) : (objSet s q i j v).out = s.out := rfl
@[simp] theorem objSet_pending (s : State) (q : Option PartId) (i j v : Nat) : (objSet s q i j v).pending = s.pending := rfl

/-! ## objBump -/

@[simp] theorem objBump_delivery (s : State) (q : Option PartId) (i j v : Nat) : (objBump s q i j v).delivery = s.delivery := rfl
@[simp] theorem objBump_cores (s : State) (q : Option PartId) (i j v : Nat) : (objBump s q i j v).cores = s.cores := rfl
@[simp] theorem objBump_parts (s : State) (q : Option PartId) (i j v : Nat) : (objBump s q i j v).parts = s.parts := rfl
@[simp] theorem objBump_mem (s : State) (q : Option PartId) (i j v : Nat) : (objBump s q i j v).mem = s.mem := rfl
@[simp] theorem objBump_banks (s : State) (q : Option PartId) (i j v : Nat) : (objBump s q i j v).banks = s.banks := rfl
@[simp] theorem objBump_idleSince (s : State) (q : Option PartId) (i j v : Nat) : (objBump s q i j v).idleSince = s.idleSince := rfl
@[simp] theorem objBump_ctxs (s : State) (q : Option PartId) (i j v : Nat) : (objBump s q i j v).ctxs = s.ctxs := rfl
@[simp] theorem objBump_traffic (s : State) (q : Option PartId) (i j v : Nat) : (objBump s q i j v).traffic = s.traffic := rfl
@[simp] theorem objBump_claims (s : State) (q : Option PartId) (i j v : Nat) : (objBump s q i j v).claims = s.claims := rfl
@[simp] theorem objBump_handovers (s : State) (q : Option PartId) (i j v : Nat) : (objBump s q i j v).handovers = s.handovers := rfl
@[simp] theorem objBump_gptr (s : State) (q : Option PartId) (i j v : Nat) : (objBump s q i j v).gptr = s.gptr := rfl
@[simp] theorem objBump_tick (s : State) (q : Option PartId) (i j v : Nat) : (objBump s q i j v).tick = s.tick := rfl
@[simp] theorem objBump_notes (s : State) (q : Option PartId) (i j v : Nat) : (objBump s q i j v).notes = s.notes := rfl
@[simp] theorem objBump_faults (s : State) (q : Option PartId) (i j v : Nat) : (objBump s q i j v).faults = s.faults := rfl
@[simp] theorem objBump_arrivals (s : State) (q : Option PartId) (i j v : Nat) : (objBump s q i j v).arrivals = s.arrivals := rfl
@[simp] theorem objBump_attach (s : State) (q : Option PartId) (i j v : Nat) : (objBump s q i j v).attach = s.attach := rfl
@[simp] theorem objBump_hbm (s : State) (q : Option PartId) (i j v : Nat) : (objBump s q i j v).hbm = s.hbm := rfl
@[simp] theorem objBump_warden (s : State) (q : Option PartId) (i j v : Nat) : (objBump s q i j v).warden = s.warden := rfl
@[simp] theorem objBump_power (s : State) (q : Option PartId) (i j v : Nat) : (objBump s q i j v).power = s.power := rfl
@[simp] theorem objBump_boot (s : State) (q : Option PartId) (i j v : Nat) : (objBump s q i j v).boot = s.boot := rfl
@[simp] theorem objBump_pins (s : State) (q : Option PartId) (i j v : Nat) : (objBump s q i j v).pins = s.pins := rfl
@[simp] theorem objBump_links (s : State) (q : Option PartId) (i j v : Nat) : (objBump s q i j v).links = s.links := rfl
@[simp] theorem objBump_fabric (s : State) (q : Option PartId) (i j v : Nat) : (objBump s q i j v).fabric = s.fabric := rfl
@[simp] theorem objBump_canopy (s : State) (q : Option PartId) (i j v : Nat) : (objBump s q i j v).canopy = s.canopy := rfl
@[simp] theorem objBump_patrol (s : State) (q : Option PartId) (i j v : Nat) : (objBump s q i j v).patrol = s.patrol := rfl
@[simp] theorem objBump_callSeq (s : State) (q : Option PartId) (i j v : Nat) : (objBump s q i j v).callSeq = s.callSeq := rfl
@[simp] theorem objBump_freeCount (s : State) (q : Option PartId) (i j v : Nat) : (objBump s q i j v).freeCount = s.freeCount := rfl
@[simp] theorem objBump_out (s : State) (q : Option PartId) (i j v : Nat) : (objBump s q i j v).out = s.out := rfl
@[simp] theorem objBump_pending (s : State) (q : Option PartId) (i j v : Nat) : (objBump s q i j v).pending = s.pending := rfl

/-! ## State.setBank -/

@[simp] theorem State.setBank_delivery (s : State) (m : CoreId) (b : BankIx) (x : BankState) : (s.setBank m b x).delivery = s.delivery := rfl
@[simp] theorem State.setBank_cores (s : State) (m : CoreId) (b : BankIx) (x : BankState) : (s.setBank m b x).cores = s.cores := rfl
@[simp] theorem State.setBank_parts (s : State) (m : CoreId) (b : BankIx) (x : BankState) : (s.setBank m b x).parts = s.parts := rfl
@[simp] theorem State.setBank_mem (s : State) (m : CoreId) (b : BankIx) (x : BankState) : (s.setBank m b x).mem = s.mem := rfl
@[simp] theorem State.setBank_objs (s : State) (m : CoreId) (b : BankIx) (x : BankState) : (s.setBank m b x).objs = s.objs := rfl
@[simp] theorem State.setBank_ctxs (s : State) (m : CoreId) (b : BankIx) (x : BankState) : (s.setBank m b x).ctxs = s.ctxs := rfl
@[simp] theorem State.setBank_traffic (s : State) (m : CoreId) (b : BankIx) (x : BankState) : (s.setBank m b x).traffic = s.traffic := rfl
@[simp] theorem State.setBank_claims (s : State) (m : CoreId) (b : BankIx) (x : BankState) : (s.setBank m b x).claims = s.claims := rfl
@[simp] theorem State.setBank_handovers (s : State) (m : CoreId) (b : BankIx) (x : BankState) : (s.setBank m b x).handovers = s.handovers := rfl
@[simp] theorem State.setBank_gptr (s : State) (m : CoreId) (b : BankIx) (x : BankState) : (s.setBank m b x).gptr = s.gptr := rfl
@[simp] theorem State.setBank_tick (s : State) (m : CoreId) (b : BankIx) (x : BankState) : (s.setBank m b x).tick = s.tick := rfl
@[simp] theorem State.setBank_notes (s : State) (m : CoreId) (b : BankIx) (x : BankState) : (s.setBank m b x).notes = s.notes := rfl
@[simp] theorem State.setBank_faults (s : State) (m : CoreId) (b : BankIx) (x : BankState) : (s.setBank m b x).faults = s.faults := rfl
@[simp] theorem State.setBank_arrivals (s : State) (m : CoreId) (b : BankIx) (x : BankState) : (s.setBank m b x).arrivals = s.arrivals := rfl
@[simp] theorem State.setBank_attach (s : State) (m : CoreId) (b : BankIx) (x : BankState) : (s.setBank m b x).attach = s.attach := rfl
@[simp] theorem State.setBank_hbm (s : State) (m : CoreId) (b : BankIx) (x : BankState) : (s.setBank m b x).hbm = s.hbm := rfl
@[simp] theorem State.setBank_warden (s : State) (m : CoreId) (b : BankIx) (x : BankState) : (s.setBank m b x).warden = s.warden := rfl
@[simp] theorem State.setBank_power (s : State) (m : CoreId) (b : BankIx) (x : BankState) : (s.setBank m b x).power = s.power := rfl
@[simp] theorem State.setBank_boot (s : State) (m : CoreId) (b : BankIx) (x : BankState) : (s.setBank m b x).boot = s.boot := rfl
@[simp] theorem State.setBank_pins (s : State) (m : CoreId) (b : BankIx) (x : BankState) : (s.setBank m b x).pins = s.pins := rfl
@[simp] theorem State.setBank_links (s : State) (m : CoreId) (b : BankIx) (x : BankState) : (s.setBank m b x).links = s.links := rfl
@[simp] theorem State.setBank_fabric (s : State) (m : CoreId) (b : BankIx) (x : BankState) : (s.setBank m b x).fabric = s.fabric := rfl
@[simp] theorem State.setBank_canopy (s : State) (m : CoreId) (b : BankIx) (x : BankState) : (s.setBank m b x).canopy = s.canopy := rfl
@[simp] theorem State.setBank_patrol (s : State) (m : CoreId) (b : BankIx) (x : BankState) : (s.setBank m b x).patrol = s.patrol := rfl
@[simp] theorem State.setBank_callSeq (s : State) (m : CoreId) (b : BankIx) (x : BankState) : (s.setBank m b x).callSeq = s.callSeq := rfl
@[simp] theorem State.setBank_freeCount (s : State) (m : CoreId) (b : BankIx) (x : BankState) : (s.setBank m b x).freeCount = s.freeCount := rfl
@[simp] theorem State.setBank_out (s : State) (m : CoreId) (b : BankIx) (x : BankState) : (s.setBank m b x).out = s.out := rfl
@[simp] theorem State.setBank_pending (s : State) (m : CoreId) (b : BankIx) (x : BankState) : (s.setBank m b x).pending = s.pending := rfl

/-! ## State.write -/

@[simp] theorem State.write_delivery (s : State) (a : Nat) (bs : List Byte) : (s.write a bs).delivery = s.delivery := rfl
@[simp] theorem State.write_cores (s : State) (a : Nat) (bs : List Byte) : (s.write a bs).cores = s.cores := rfl
@[simp] theorem State.write_parts (s : State) (a : Nat) (bs : List Byte) : (s.write a bs).parts = s.parts := rfl
@[simp] theorem State.write_objs (s : State) (a : Nat) (bs : List Byte) : (s.write a bs).objs = s.objs := rfl
@[simp] theorem State.write_banks (s : State) (a : Nat) (bs : List Byte) : (s.write a bs).banks = s.banks := rfl
@[simp] theorem State.write_idleSince (s : State) (a : Nat) (bs : List Byte) : (s.write a bs).idleSince = s.idleSince := rfl
@[simp] theorem State.write_ctxs (s : State) (a : Nat) (bs : List Byte) : (s.write a bs).ctxs = s.ctxs := rfl
@[simp] theorem State.write_traffic (s : State) (a : Nat) (bs : List Byte) : (s.write a bs).traffic = s.traffic := rfl
@[simp] theorem State.write_claims (s : State) (a : Nat) (bs : List Byte) : (s.write a bs).claims = s.claims := rfl
@[simp] theorem State.write_handovers (s : State) (a : Nat) (bs : List Byte) : (s.write a bs).handovers = s.handovers := rfl
@[simp] theorem State.write_gptr (s : State) (a : Nat) (bs : List Byte) : (s.write a bs).gptr = s.gptr := rfl
@[simp] theorem State.write_tick (s : State) (a : Nat) (bs : List Byte) : (s.write a bs).tick = s.tick := rfl
@[simp] theorem State.write_notes (s : State) (a : Nat) (bs : List Byte) : (s.write a bs).notes = s.notes := rfl
@[simp] theorem State.write_faults (s : State) (a : Nat) (bs : List Byte) : (s.write a bs).faults = s.faults := rfl
@[simp] theorem State.write_arrivals (s : State) (a : Nat) (bs : List Byte) : (s.write a bs).arrivals = s.arrivals := rfl
@[simp] theorem State.write_attach (s : State) (a : Nat) (bs : List Byte) : (s.write a bs).attach = s.attach := rfl
@[simp] theorem State.write_hbm (s : State) (a : Nat) (bs : List Byte) : (s.write a bs).hbm = s.hbm := rfl
@[simp] theorem State.write_warden (s : State) (a : Nat) (bs : List Byte) : (s.write a bs).warden = s.warden := rfl
@[simp] theorem State.write_power (s : State) (a : Nat) (bs : List Byte) : (s.write a bs).power = s.power := rfl
@[simp] theorem State.write_boot (s : State) (a : Nat) (bs : List Byte) : (s.write a bs).boot = s.boot := rfl
@[simp] theorem State.write_pins (s : State) (a : Nat) (bs : List Byte) : (s.write a bs).pins = s.pins := rfl
@[simp] theorem State.write_links (s : State) (a : Nat) (bs : List Byte) : (s.write a bs).links = s.links := rfl
@[simp] theorem State.write_fabric (s : State) (a : Nat) (bs : List Byte) : (s.write a bs).fabric = s.fabric := rfl
@[simp] theorem State.write_canopy (s : State) (a : Nat) (bs : List Byte) : (s.write a bs).canopy = s.canopy := rfl
@[simp] theorem State.write_patrol (s : State) (a : Nat) (bs : List Byte) : (s.write a bs).patrol = s.patrol := rfl
@[simp] theorem State.write_callSeq (s : State) (a : Nat) (bs : List Byte) : (s.write a bs).callSeq = s.callSeq := rfl
@[simp] theorem State.write_freeCount (s : State) (a : Nat) (bs : List Byte) : (s.write a bs).freeCount = s.freeCount := rfl
@[simp] theorem State.write_out (s : State) (a : Nat) (bs : List Byte) : (s.write a bs).out = s.out := rfl
@[simp] theorem State.write_pending (s : State) (a : Nat) (bs : List Byte) : (s.write a bs).pending = s.pending := rfl

/-! ## State.clearMem -/

@[simp] theorem State.clearMem_delivery (s : State) (lo hi : Nat) : (s.clearMem lo hi).delivery = s.delivery := rfl
@[simp] theorem State.clearMem_cores (s : State) (lo hi : Nat) : (s.clearMem lo hi).cores = s.cores := rfl
@[simp] theorem State.clearMem_parts (s : State) (lo hi : Nat) : (s.clearMem lo hi).parts = s.parts := rfl
@[simp] theorem State.clearMem_objs (s : State) (lo hi : Nat) : (s.clearMem lo hi).objs = s.objs := rfl
@[simp] theorem State.clearMem_banks (s : State) (lo hi : Nat) : (s.clearMem lo hi).banks = s.banks := rfl
@[simp] theorem State.clearMem_idleSince (s : State) (lo hi : Nat) : (s.clearMem lo hi).idleSince = s.idleSince := rfl
@[simp] theorem State.clearMem_ctxs (s : State) (lo hi : Nat) : (s.clearMem lo hi).ctxs = s.ctxs := rfl
@[simp] theorem State.clearMem_traffic (s : State) (lo hi : Nat) : (s.clearMem lo hi).traffic = s.traffic := rfl
@[simp] theorem State.clearMem_claims (s : State) (lo hi : Nat) : (s.clearMem lo hi).claims = s.claims := rfl
@[simp] theorem State.clearMem_handovers (s : State) (lo hi : Nat) : (s.clearMem lo hi).handovers = s.handovers := rfl
@[simp] theorem State.clearMem_gptr (s : State) (lo hi : Nat) : (s.clearMem lo hi).gptr = s.gptr := rfl
@[simp] theorem State.clearMem_tick (s : State) (lo hi : Nat) : (s.clearMem lo hi).tick = s.tick := rfl
@[simp] theorem State.clearMem_notes (s : State) (lo hi : Nat) : (s.clearMem lo hi).notes = s.notes := rfl
@[simp] theorem State.clearMem_faults (s : State) (lo hi : Nat) : (s.clearMem lo hi).faults = s.faults := rfl
@[simp] theorem State.clearMem_arrivals (s : State) (lo hi : Nat) : (s.clearMem lo hi).arrivals = s.arrivals := rfl
@[simp] theorem State.clearMem_attach (s : State) (lo hi : Nat) : (s.clearMem lo hi).attach = s.attach := rfl
@[simp] theorem State.clearMem_hbm (s : State) (lo hi : Nat) : (s.clearMem lo hi).hbm = s.hbm := rfl
@[simp] theorem State.clearMem_warden (s : State) (lo hi : Nat) : (s.clearMem lo hi).warden = s.warden := rfl
@[simp] theorem State.clearMem_power (s : State) (lo hi : Nat) : (s.clearMem lo hi).power = s.power := rfl
@[simp] theorem State.clearMem_boot (s : State) (lo hi : Nat) : (s.clearMem lo hi).boot = s.boot := rfl
@[simp] theorem State.clearMem_pins (s : State) (lo hi : Nat) : (s.clearMem lo hi).pins = s.pins := rfl
@[simp] theorem State.clearMem_links (s : State) (lo hi : Nat) : (s.clearMem lo hi).links = s.links := rfl
@[simp] theorem State.clearMem_fabric (s : State) (lo hi : Nat) : (s.clearMem lo hi).fabric = s.fabric := rfl
@[simp] theorem State.clearMem_canopy (s : State) (lo hi : Nat) : (s.clearMem lo hi).canopy = s.canopy := rfl
@[simp] theorem State.clearMem_patrol (s : State) (lo hi : Nat) : (s.clearMem lo hi).patrol = s.patrol := rfl
@[simp] theorem State.clearMem_callSeq (s : State) (lo hi : Nat) : (s.clearMem lo hi).callSeq = s.callSeq := rfl
@[simp] theorem State.clearMem_freeCount (s : State) (lo hi : Nat) : (s.clearMem lo hi).freeCount = s.freeCount := rfl
@[simp] theorem State.clearMem_out (s : State) (lo hi : Nat) : (s.clearMem lo hi).out = s.out := rfl
@[simp] theorem State.clearMem_pending (s : State) (lo hi : Nat) : (s.clearMem lo hi).pending = s.pending := rfl

/-! ## State.setCtx -/

@[simp] theorem State.setCtx_delivery (s : State) (key : Nat) (x : Ctx) : (s.setCtx key x).delivery = s.delivery := rfl
@[simp] theorem State.setCtx_cores (s : State) (key : Nat) (x : Ctx) : (s.setCtx key x).cores = s.cores := rfl
@[simp] theorem State.setCtx_parts (s : State) (key : Nat) (x : Ctx) : (s.setCtx key x).parts = s.parts := rfl
@[simp] theorem State.setCtx_mem (s : State) (key : Nat) (x : Ctx) : (s.setCtx key x).mem = s.mem := rfl
@[simp] theorem State.setCtx_objs (s : State) (key : Nat) (x : Ctx) : (s.setCtx key x).objs = s.objs := rfl
@[simp] theorem State.setCtx_banks (s : State) (key : Nat) (x : Ctx) : (s.setCtx key x).banks = s.banks := rfl
@[simp] theorem State.setCtx_idleSince (s : State) (key : Nat) (x : Ctx) : (s.setCtx key x).idleSince = s.idleSince := rfl
@[simp] theorem State.setCtx_traffic (s : State) (key : Nat) (x : Ctx) : (s.setCtx key x).traffic = s.traffic := rfl
@[simp] theorem State.setCtx_claims (s : State) (key : Nat) (x : Ctx) : (s.setCtx key x).claims = s.claims := rfl
@[simp] theorem State.setCtx_handovers (s : State) (key : Nat) (x : Ctx) : (s.setCtx key x).handovers = s.handovers := rfl
@[simp] theorem State.setCtx_gptr (s : State) (key : Nat) (x : Ctx) : (s.setCtx key x).gptr = s.gptr := rfl
@[simp] theorem State.setCtx_tick (s : State) (key : Nat) (x : Ctx) : (s.setCtx key x).tick = s.tick := rfl
@[simp] theorem State.setCtx_notes (s : State) (key : Nat) (x : Ctx) : (s.setCtx key x).notes = s.notes := rfl
@[simp] theorem State.setCtx_faults (s : State) (key : Nat) (x : Ctx) : (s.setCtx key x).faults = s.faults := rfl
@[simp] theorem State.setCtx_arrivals (s : State) (key : Nat) (x : Ctx) : (s.setCtx key x).arrivals = s.arrivals := rfl
@[simp] theorem State.setCtx_attach (s : State) (key : Nat) (x : Ctx) : (s.setCtx key x).attach = s.attach := rfl
@[simp] theorem State.setCtx_hbm (s : State) (key : Nat) (x : Ctx) : (s.setCtx key x).hbm = s.hbm := rfl
@[simp] theorem State.setCtx_warden (s : State) (key : Nat) (x : Ctx) : (s.setCtx key x).warden = s.warden := rfl
@[simp] theorem State.setCtx_power (s : State) (key : Nat) (x : Ctx) : (s.setCtx key x).power = s.power := rfl
@[simp] theorem State.setCtx_boot (s : State) (key : Nat) (x : Ctx) : (s.setCtx key x).boot = s.boot := rfl
@[simp] theorem State.setCtx_pins (s : State) (key : Nat) (x : Ctx) : (s.setCtx key x).pins = s.pins := rfl
@[simp] theorem State.setCtx_links (s : State) (key : Nat) (x : Ctx) : (s.setCtx key x).links = s.links := rfl
@[simp] theorem State.setCtx_fabric (s : State) (key : Nat) (x : Ctx) : (s.setCtx key x).fabric = s.fabric := rfl
@[simp] theorem State.setCtx_canopy (s : State) (key : Nat) (x : Ctx) : (s.setCtx key x).canopy = s.canopy := rfl
@[simp] theorem State.setCtx_patrol (s : State) (key : Nat) (x : Ctx) : (s.setCtx key x).patrol = s.patrol := rfl
@[simp] theorem State.setCtx_callSeq (s : State) (key : Nat) (x : Ctx) : (s.setCtx key x).callSeq = s.callSeq := rfl
@[simp] theorem State.setCtx_freeCount (s : State) (key : Nat) (x : Ctx) : (s.setCtx key x).freeCount = s.freeCount := rfl
@[simp] theorem State.setCtx_out (s : State) (key : Nat) (x : Ctx) : (s.setCtx key x).out = s.out := rfl
@[simp] theorem State.setCtx_pending (s : State) (key : Nat) (x : Ctx) : (s.setCtx key x).pending = s.pending := rfl

/-! ## State.emit -/

@[simp] theorem State.emit_delivery (s : State) (e : OutEvent) : (s.emit e).delivery = s.delivery := rfl
@[simp] theorem State.emit_cores (s : State) (e : OutEvent) : (s.emit e).cores = s.cores := rfl
@[simp] theorem State.emit_parts (s : State) (e : OutEvent) : (s.emit e).parts = s.parts := rfl
@[simp] theorem State.emit_mem (s : State) (e : OutEvent) : (s.emit e).mem = s.mem := rfl
@[simp] theorem State.emit_objs (s : State) (e : OutEvent) : (s.emit e).objs = s.objs := rfl
@[simp] theorem State.emit_banks (s : State) (e : OutEvent) : (s.emit e).banks = s.banks := rfl
@[simp] theorem State.emit_idleSince (s : State) (e : OutEvent) : (s.emit e).idleSince = s.idleSince := rfl
@[simp] theorem State.emit_ctxs (s : State) (e : OutEvent) : (s.emit e).ctxs = s.ctxs := rfl
@[simp] theorem State.emit_traffic (s : State) (e : OutEvent) : (s.emit e).traffic = s.traffic := rfl
@[simp] theorem State.emit_claims (s : State) (e : OutEvent) : (s.emit e).claims = s.claims := rfl
@[simp] theorem State.emit_handovers (s : State) (e : OutEvent) : (s.emit e).handovers = s.handovers := rfl
@[simp] theorem State.emit_gptr (s : State) (e : OutEvent) : (s.emit e).gptr = s.gptr := rfl
@[simp] theorem State.emit_tick (s : State) (e : OutEvent) : (s.emit e).tick = s.tick := rfl
@[simp] theorem State.emit_notes (s : State) (e : OutEvent) : (s.emit e).notes = s.notes := rfl
@[simp] theorem State.emit_faults (s : State) (e : OutEvent) : (s.emit e).faults = s.faults := rfl
@[simp] theorem State.emit_arrivals (s : State) (e : OutEvent) : (s.emit e).arrivals = s.arrivals := rfl
@[simp] theorem State.emit_attach (s : State) (e : OutEvent) : (s.emit e).attach = s.attach := rfl
@[simp] theorem State.emit_hbm (s : State) (e : OutEvent) : (s.emit e).hbm = s.hbm := rfl
@[simp] theorem State.emit_warden (s : State) (e : OutEvent) : (s.emit e).warden = s.warden := rfl
@[simp] theorem State.emit_power (s : State) (e : OutEvent) : (s.emit e).power = s.power := rfl
@[simp] theorem State.emit_boot (s : State) (e : OutEvent) : (s.emit e).boot = s.boot := rfl
@[simp] theorem State.emit_pins (s : State) (e : OutEvent) : (s.emit e).pins = s.pins := rfl
@[simp] theorem State.emit_links (s : State) (e : OutEvent) : (s.emit e).links = s.links := rfl
@[simp] theorem State.emit_fabric (s : State) (e : OutEvent) : (s.emit e).fabric = s.fabric := rfl
@[simp] theorem State.emit_canopy (s : State) (e : OutEvent) : (s.emit e).canopy = s.canopy := rfl
@[simp] theorem State.emit_patrol (s : State) (e : OutEvent) : (s.emit e).patrol = s.patrol := rfl
@[simp] theorem State.emit_callSeq (s : State) (e : OutEvent) : (s.emit e).callSeq = s.callSeq := rfl
@[simp] theorem State.emit_freeCount (s : State) (e : OutEvent) : (s.emit e).freeCount = s.freeCount := rfl
@[simp] theorem State.emit_pending (s : State) (e : OutEvent) : (s.emit e).pending = s.pending := rfl

/-! ## State.modLink -/

@[simp] theorem State.modLink_delivery (s : State) (p : PortIx) (f : Link → Link) : (s.modLink p f).delivery = s.delivery := rfl
@[simp] theorem State.modLink_cores (s : State) (p : PortIx) (f : Link → Link) : (s.modLink p f).cores = s.cores := rfl
@[simp] theorem State.modLink_parts (s : State) (p : PortIx) (f : Link → Link) : (s.modLink p f).parts = s.parts := rfl
@[simp] theorem State.modLink_mem (s : State) (p : PortIx) (f : Link → Link) : (s.modLink p f).mem = s.mem := rfl
@[simp] theorem State.modLink_objs (s : State) (p : PortIx) (f : Link → Link) : (s.modLink p f).objs = s.objs := rfl
@[simp] theorem State.modLink_banks (s : State) (p : PortIx) (f : Link → Link) : (s.modLink p f).banks = s.banks := rfl
@[simp] theorem State.modLink_idleSince (s : State) (p : PortIx) (f : Link → Link) : (s.modLink p f).idleSince = s.idleSince := rfl
@[simp] theorem State.modLink_ctxs (s : State) (p : PortIx) (f : Link → Link) : (s.modLink p f).ctxs = s.ctxs := rfl
@[simp] theorem State.modLink_traffic (s : State) (p : PortIx) (f : Link → Link) : (s.modLink p f).traffic = s.traffic := rfl
@[simp] theorem State.modLink_claims (s : State) (p : PortIx) (f : Link → Link) : (s.modLink p f).claims = s.claims := rfl
@[simp] theorem State.modLink_handovers (s : State) (p : PortIx) (f : Link → Link) : (s.modLink p f).handovers = s.handovers := rfl
@[simp] theorem State.modLink_gptr (s : State) (p : PortIx) (f : Link → Link) : (s.modLink p f).gptr = s.gptr := rfl
@[simp] theorem State.modLink_tick (s : State) (p : PortIx) (f : Link → Link) : (s.modLink p f).tick = s.tick := rfl
@[simp] theorem State.modLink_notes (s : State) (p : PortIx) (f : Link → Link) : (s.modLink p f).notes = s.notes := rfl
@[simp] theorem State.modLink_faults (s : State) (p : PortIx) (f : Link → Link) : (s.modLink p f).faults = s.faults := rfl
@[simp] theorem State.modLink_arrivals (s : State) (p : PortIx) (f : Link → Link) : (s.modLink p f).arrivals = s.arrivals := rfl
@[simp] theorem State.modLink_attach (s : State) (p : PortIx) (f : Link → Link) : (s.modLink p f).attach = s.attach := rfl
@[simp] theorem State.modLink_hbm (s : State) (p : PortIx) (f : Link → Link) : (s.modLink p f).hbm = s.hbm := rfl
@[simp] theorem State.modLink_warden (s : State) (p : PortIx) (f : Link → Link) : (s.modLink p f).warden = s.warden := rfl
@[simp] theorem State.modLink_power (s : State) (p : PortIx) (f : Link → Link) : (s.modLink p f).power = s.power := rfl
@[simp] theorem State.modLink_boot (s : State) (p : PortIx) (f : Link → Link) : (s.modLink p f).boot = s.boot := rfl
@[simp] theorem State.modLink_pins (s : State) (p : PortIx) (f : Link → Link) : (s.modLink p f).pins = s.pins := rfl
@[simp] theorem State.modLink_fabric (s : State) (p : PortIx) (f : Link → Link) : (s.modLink p f).fabric = s.fabric := rfl
@[simp] theorem State.modLink_canopy (s : State) (p : PortIx) (f : Link → Link) : (s.modLink p f).canopy = s.canopy := rfl
@[simp] theorem State.modLink_patrol (s : State) (p : PortIx) (f : Link → Link) : (s.modLink p f).patrol = s.patrol := rfl
@[simp] theorem State.modLink_callSeq (s : State) (p : PortIx) (f : Link → Link) : (s.modLink p f).callSeq = s.callSeq := rfl
@[simp] theorem State.modLink_freeCount (s : State) (p : PortIx) (f : Link → Link) : (s.modLink p f).freeCount = s.freeCount := rfl
@[simp] theorem State.modLink_out (s : State) (p : PortIx) (f : Link → Link) : (s.modLink p f).out = s.out := rfl
@[simp] theorem State.modLink_pending (s : State) (p : PortIx) (f : Link → Link) : (s.modLink p f).pending = s.pending := rfl

/-! ## State.modWarden -/

@[simp] theorem State.modWarden_delivery (s : State) (f : Warden → Warden) : (s.modWarden f).delivery = s.delivery := rfl
@[simp] theorem State.modWarden_cores (s : State) (f : Warden → Warden) : (s.modWarden f).cores = s.cores := rfl
@[simp] theorem State.modWarden_parts (s : State) (f : Warden → Warden) : (s.modWarden f).parts = s.parts := rfl
@[simp] theorem State.modWarden_mem (s : State) (f : Warden → Warden) : (s.modWarden f).mem = s.mem := rfl
@[simp] theorem State.modWarden_objs (s : State) (f : Warden → Warden) : (s.modWarden f).objs = s.objs := rfl
@[simp] theorem State.modWarden_banks (s : State) (f : Warden → Warden) : (s.modWarden f).banks = s.banks := rfl
@[simp] theorem State.modWarden_idleSince (s : State) (f : Warden → Warden) : (s.modWarden f).idleSince = s.idleSince := rfl
@[simp] theorem State.modWarden_ctxs (s : State) (f : Warden → Warden) : (s.modWarden f).ctxs = s.ctxs := rfl
@[simp] theorem State.modWarden_traffic (s : State) (f : Warden → Warden) : (s.modWarden f).traffic = s.traffic := rfl
@[simp] theorem State.modWarden_claims (s : State) (f : Warden → Warden) : (s.modWarden f).claims = s.claims := rfl
@[simp] theorem State.modWarden_handovers (s : State) (f : Warden → Warden) : (s.modWarden f).handovers = s.handovers := rfl
@[simp] theorem State.modWarden_gptr (s : State) (f : Warden → Warden) : (s.modWarden f).gptr = s.gptr := rfl
@[simp] theorem State.modWarden_tick (s : State) (f : Warden → Warden) : (s.modWarden f).tick = s.tick := rfl
@[simp] theorem State.modWarden_notes (s : State) (f : Warden → Warden) : (s.modWarden f).notes = s.notes := rfl
@[simp] theorem State.modWarden_faults (s : State) (f : Warden → Warden) : (s.modWarden f).faults = s.faults := rfl
@[simp] theorem State.modWarden_arrivals (s : State) (f : Warden → Warden) : (s.modWarden f).arrivals = s.arrivals := rfl
@[simp] theorem State.modWarden_attach (s : State) (f : Warden → Warden) : (s.modWarden f).attach = s.attach := rfl
@[simp] theorem State.modWarden_hbm (s : State) (f : Warden → Warden) : (s.modWarden f).hbm = s.hbm := rfl
@[simp] theorem State.modWarden_power (s : State) (f : Warden → Warden) : (s.modWarden f).power = s.power := rfl
@[simp] theorem State.modWarden_boot (s : State) (f : Warden → Warden) : (s.modWarden f).boot = s.boot := rfl
@[simp] theorem State.modWarden_pins (s : State) (f : Warden → Warden) : (s.modWarden f).pins = s.pins := rfl
@[simp] theorem State.modWarden_links (s : State) (f : Warden → Warden) : (s.modWarden f).links = s.links := rfl
@[simp] theorem State.modWarden_fabric (s : State) (f : Warden → Warden) : (s.modWarden f).fabric = s.fabric := rfl
@[simp] theorem State.modWarden_canopy (s : State) (f : Warden → Warden) : (s.modWarden f).canopy = s.canopy := rfl
@[simp] theorem State.modWarden_patrol (s : State) (f : Warden → Warden) : (s.modWarden f).patrol = s.patrol := rfl
@[simp] theorem State.modWarden_callSeq (s : State) (f : Warden → Warden) : (s.modWarden f).callSeq = s.callSeq := rfl
@[simp] theorem State.modWarden_freeCount (s : State) (f : Warden → Warden) : (s.modWarden f).freeCount = s.freeCount := rfl
@[simp] theorem State.modWarden_out (s : State) (f : Warden → Warden) : (s.modWarden f).out = s.out := rfl
@[simp] theorem State.modWarden_pending (s : State) (f : Warden → Warden) : (s.modWarden f).pending = s.pending := rfl

/-! ## State.modBoot -/

@[simp] theorem State.modBoot_delivery (s : State) (f : Boot → Boot) : (s.modBoot f).delivery = s.delivery := rfl
@[simp] theorem State.modBoot_cores (s : State) (f : Boot → Boot) : (s.modBoot f).cores = s.cores := rfl
@[simp] theorem State.modBoot_parts (s : State) (f : Boot → Boot) : (s.modBoot f).parts = s.parts := rfl
@[simp] theorem State.modBoot_mem (s : State) (f : Boot → Boot) : (s.modBoot f).mem = s.mem := rfl
@[simp] theorem State.modBoot_objs (s : State) (f : Boot → Boot) : (s.modBoot f).objs = s.objs := rfl
@[simp] theorem State.modBoot_banks (s : State) (f : Boot → Boot) : (s.modBoot f).banks = s.banks := rfl
@[simp] theorem State.modBoot_idleSince (s : State) (f : Boot → Boot) : (s.modBoot f).idleSince = s.idleSince := rfl
@[simp] theorem State.modBoot_ctxs (s : State) (f : Boot → Boot) : (s.modBoot f).ctxs = s.ctxs := rfl
@[simp] theorem State.modBoot_traffic (s : State) (f : Boot → Boot) : (s.modBoot f).traffic = s.traffic := rfl
@[simp] theorem State.modBoot_claims (s : State) (f : Boot → Boot) : (s.modBoot f).claims = s.claims := rfl
@[simp] theorem State.modBoot_handovers (s : State) (f : Boot → Boot) : (s.modBoot f).handovers = s.handovers := rfl
@[simp] theorem State.modBoot_gptr (s : State) (f : Boot → Boot) : (s.modBoot f).gptr = s.gptr := rfl
@[simp] theorem State.modBoot_tick (s : State) (f : Boot → Boot) : (s.modBoot f).tick = s.tick := rfl
@[simp] theorem State.modBoot_notes (s : State) (f : Boot → Boot) : (s.modBoot f).notes = s.notes := rfl
@[simp] theorem State.modBoot_faults (s : State) (f : Boot → Boot) : (s.modBoot f).faults = s.faults := rfl
@[simp] theorem State.modBoot_arrivals (s : State) (f : Boot → Boot) : (s.modBoot f).arrivals = s.arrivals := rfl
@[simp] theorem State.modBoot_attach (s : State) (f : Boot → Boot) : (s.modBoot f).attach = s.attach := rfl
@[simp] theorem State.modBoot_hbm (s : State) (f : Boot → Boot) : (s.modBoot f).hbm = s.hbm := rfl
@[simp] theorem State.modBoot_warden (s : State) (f : Boot → Boot) : (s.modBoot f).warden = s.warden := rfl
@[simp] theorem State.modBoot_power (s : State) (f : Boot → Boot) : (s.modBoot f).power = s.power := rfl
@[simp] theorem State.modBoot_pins (s : State) (f : Boot → Boot) : (s.modBoot f).pins = s.pins := rfl
@[simp] theorem State.modBoot_links (s : State) (f : Boot → Boot) : (s.modBoot f).links = s.links := rfl
@[simp] theorem State.modBoot_fabric (s : State) (f : Boot → Boot) : (s.modBoot f).fabric = s.fabric := rfl
@[simp] theorem State.modBoot_canopy (s : State) (f : Boot → Boot) : (s.modBoot f).canopy = s.canopy := rfl
@[simp] theorem State.modBoot_patrol (s : State) (f : Boot → Boot) : (s.modBoot f).patrol = s.patrol := rfl
@[simp] theorem State.modBoot_callSeq (s : State) (f : Boot → Boot) : (s.modBoot f).callSeq = s.callSeq := rfl
@[simp] theorem State.modBoot_freeCount (s : State) (f : Boot → Boot) : (s.modBoot f).freeCount = s.freeCount := rfl
@[simp] theorem State.modBoot_out (s : State) (f : Boot → Boot) : (s.modBoot f).out = s.out := rfl
@[simp] theorem State.modBoot_pending (s : State) (f : Boot → Boot) : (s.modBoot f).pending = s.pending := rfl

/-! ## State.setCanopy -/

@[simp] theorem State.setCanopy_delivery (s : State) (i : Fin 8) (x : CanopyCtx) : (s.setCanopy i x).delivery = s.delivery := rfl
@[simp] theorem State.setCanopy_cores (s : State) (i : Fin 8) (x : CanopyCtx) : (s.setCanopy i x).cores = s.cores := rfl
@[simp] theorem State.setCanopy_parts (s : State) (i : Fin 8) (x : CanopyCtx) : (s.setCanopy i x).parts = s.parts := rfl
@[simp] theorem State.setCanopy_mem (s : State) (i : Fin 8) (x : CanopyCtx) : (s.setCanopy i x).mem = s.mem := rfl
@[simp] theorem State.setCanopy_objs (s : State) (i : Fin 8) (x : CanopyCtx) : (s.setCanopy i x).objs = s.objs := rfl
@[simp] theorem State.setCanopy_banks (s : State) (i : Fin 8) (x : CanopyCtx) : (s.setCanopy i x).banks = s.banks := rfl
@[simp] theorem State.setCanopy_idleSince (s : State) (i : Fin 8) (x : CanopyCtx) : (s.setCanopy i x).idleSince = s.idleSince := rfl
@[simp] theorem State.setCanopy_ctxs (s : State) (i : Fin 8) (x : CanopyCtx) : (s.setCanopy i x).ctxs = s.ctxs := rfl
@[simp] theorem State.setCanopy_traffic (s : State) (i : Fin 8) (x : CanopyCtx) : (s.setCanopy i x).traffic = s.traffic := rfl
@[simp] theorem State.setCanopy_claims (s : State) (i : Fin 8) (x : CanopyCtx) : (s.setCanopy i x).claims = s.claims := rfl
@[simp] theorem State.setCanopy_handovers (s : State) (i : Fin 8) (x : CanopyCtx) : (s.setCanopy i x).handovers = s.handovers := rfl
@[simp] theorem State.setCanopy_gptr (s : State) (i : Fin 8) (x : CanopyCtx) : (s.setCanopy i x).gptr = s.gptr := rfl
@[simp] theorem State.setCanopy_tick (s : State) (i : Fin 8) (x : CanopyCtx) : (s.setCanopy i x).tick = s.tick := rfl
@[simp] theorem State.setCanopy_notes (s : State) (i : Fin 8) (x : CanopyCtx) : (s.setCanopy i x).notes = s.notes := rfl
@[simp] theorem State.setCanopy_faults (s : State) (i : Fin 8) (x : CanopyCtx) : (s.setCanopy i x).faults = s.faults := rfl
@[simp] theorem State.setCanopy_arrivals (s : State) (i : Fin 8) (x : CanopyCtx) : (s.setCanopy i x).arrivals = s.arrivals := rfl
@[simp] theorem State.setCanopy_attach (s : State) (i : Fin 8) (x : CanopyCtx) : (s.setCanopy i x).attach = s.attach := rfl
@[simp] theorem State.setCanopy_hbm (s : State) (i : Fin 8) (x : CanopyCtx) : (s.setCanopy i x).hbm = s.hbm := rfl
@[simp] theorem State.setCanopy_warden (s : State) (i : Fin 8) (x : CanopyCtx) : (s.setCanopy i x).warden = s.warden := rfl
@[simp] theorem State.setCanopy_power (s : State) (i : Fin 8) (x : CanopyCtx) : (s.setCanopy i x).power = s.power := rfl
@[simp] theorem State.setCanopy_boot (s : State) (i : Fin 8) (x : CanopyCtx) : (s.setCanopy i x).boot = s.boot := rfl
@[simp] theorem State.setCanopy_pins (s : State) (i : Fin 8) (x : CanopyCtx) : (s.setCanopy i x).pins = s.pins := rfl
@[simp] theorem State.setCanopy_links (s : State) (i : Fin 8) (x : CanopyCtx) : (s.setCanopy i x).links = s.links := rfl
@[simp] theorem State.setCanopy_fabric (s : State) (i : Fin 8) (x : CanopyCtx) : (s.setCanopy i x).fabric = s.fabric := rfl
@[simp] theorem State.setCanopy_patrol (s : State) (i : Fin 8) (x : CanopyCtx) : (s.setCanopy i x).patrol = s.patrol := rfl
@[simp] theorem State.setCanopy_callSeq (s : State) (i : Fin 8) (x : CanopyCtx) : (s.setCanopy i x).callSeq = s.callSeq := rfl
@[simp] theorem State.setCanopy_freeCount (s : State) (i : Fin 8) (x : CanopyCtx) : (s.setCanopy i x).freeCount = s.freeCount := rfl
@[simp] theorem State.setCanopy_out (s : State) (i : Fin 8) (x : CanopyCtx) : (s.setCanopy i x).out = s.out := rfl
@[simp] theorem State.setCanopy_pending (s : State) (i : Fin 8) (x : CanopyCtx) : (s.setCanopy i x).pending = s.pending := rfl

/-! ## State.setChan -/

@[simp] theorem State.setChan_delivery (s : State) (c : CoreId) (i : ChanIx) (x : Channel) : (s.setChan c i x).delivery = s.delivery := rfl
@[simp] theorem State.setChan_parts (s : State) (c : CoreId) (i : ChanIx) (x : Channel) : (s.setChan c i x).parts = s.parts := rfl
@[simp] theorem State.setChan_mem (s : State) (c : CoreId) (i : ChanIx) (x : Channel) : (s.setChan c i x).mem = s.mem := rfl
@[simp] theorem State.setChan_objs (s : State) (c : CoreId) (i : ChanIx) (x : Channel) : (s.setChan c i x).objs = s.objs := rfl
@[simp] theorem State.setChan_banks (s : State) (c : CoreId) (i : ChanIx) (x : Channel) : (s.setChan c i x).banks = s.banks := rfl
@[simp] theorem State.setChan_idleSince (s : State) (c : CoreId) (i : ChanIx) (x : Channel) : (s.setChan c i x).idleSince = s.idleSince := rfl
@[simp] theorem State.setChan_ctxs (s : State) (c : CoreId) (i : ChanIx) (x : Channel) : (s.setChan c i x).ctxs = s.ctxs := rfl
@[simp] theorem State.setChan_traffic (s : State) (c : CoreId) (i : ChanIx) (x : Channel) : (s.setChan c i x).traffic = s.traffic := rfl
@[simp] theorem State.setChan_claims (s : State) (c : CoreId) (i : ChanIx) (x : Channel) : (s.setChan c i x).claims = s.claims := rfl
@[simp] theorem State.setChan_handovers (s : State) (c : CoreId) (i : ChanIx) (x : Channel) : (s.setChan c i x).handovers = s.handovers := rfl
@[simp] theorem State.setChan_gptr (s : State) (c : CoreId) (i : ChanIx) (x : Channel) : (s.setChan c i x).gptr = s.gptr := rfl
@[simp] theorem State.setChan_tick (s : State) (c : CoreId) (i : ChanIx) (x : Channel) : (s.setChan c i x).tick = s.tick := rfl
@[simp] theorem State.setChan_notes (s : State) (c : CoreId) (i : ChanIx) (x : Channel) : (s.setChan c i x).notes = s.notes := rfl
@[simp] theorem State.setChan_faults (s : State) (c : CoreId) (i : ChanIx) (x : Channel) : (s.setChan c i x).faults = s.faults := rfl
@[simp] theorem State.setChan_arrivals (s : State) (c : CoreId) (i : ChanIx) (x : Channel) : (s.setChan c i x).arrivals = s.arrivals := rfl
@[simp] theorem State.setChan_attach (s : State) (c : CoreId) (i : ChanIx) (x : Channel) : (s.setChan c i x).attach = s.attach := rfl
@[simp] theorem State.setChan_hbm (s : State) (c : CoreId) (i : ChanIx) (x : Channel) : (s.setChan c i x).hbm = s.hbm := rfl
@[simp] theorem State.setChan_warden (s : State) (c : CoreId) (i : ChanIx) (x : Channel) : (s.setChan c i x).warden = s.warden := rfl
@[simp] theorem State.setChan_power (s : State) (c : CoreId) (i : ChanIx) (x : Channel) : (s.setChan c i x).power = s.power := rfl
@[simp] theorem State.setChan_boot (s : State) (c : CoreId) (i : ChanIx) (x : Channel) : (s.setChan c i x).boot = s.boot := rfl
@[simp] theorem State.setChan_pins (s : State) (c : CoreId) (i : ChanIx) (x : Channel) : (s.setChan c i x).pins = s.pins := rfl
@[simp] theorem State.setChan_links (s : State) (c : CoreId) (i : ChanIx) (x : Channel) : (s.setChan c i x).links = s.links := rfl
@[simp] theorem State.setChan_fabric (s : State) (c : CoreId) (i : ChanIx) (x : Channel) : (s.setChan c i x).fabric = s.fabric := rfl
@[simp] theorem State.setChan_canopy (s : State) (c : CoreId) (i : ChanIx) (x : Channel) : (s.setChan c i x).canopy = s.canopy := rfl
@[simp] theorem State.setChan_patrol (s : State) (c : CoreId) (i : ChanIx) (x : Channel) : (s.setChan c i x).patrol = s.patrol := rfl
@[simp] theorem State.setChan_callSeq (s : State) (c : CoreId) (i : ChanIx) (x : Channel) : (s.setChan c i x).callSeq = s.callSeq := rfl
@[simp] theorem State.setChan_freeCount (s : State) (c : CoreId) (i : ChanIx) (x : Channel) : (s.setChan c i x).freeCount = s.freeCount := rfl
@[simp] theorem State.setChan_out (s : State) (c : CoreId) (i : ChanIx) (x : Channel) : (s.setChan c i x).out = s.out := rfl
@[simp] theorem State.setChan_pending (s : State) (c : CoreId) (i : ChanIx) (x : Channel) : (s.setChan c i x).pending = s.pending := rfl

/-! ## State.setGroup -/

@[simp] theorem State.setGroup_delivery (s : State) (c : CoreId) (n : Fin 8) (g : Group) : (s.setGroup c n g).delivery = s.delivery := rfl
@[simp] theorem State.setGroup_parts (s : State) (c : CoreId) (n : Fin 8) (g : Group) : (s.setGroup c n g).parts = s.parts := rfl
@[simp] theorem State.setGroup_mem (s : State) (c : CoreId) (n : Fin 8) (g : Group) : (s.setGroup c n g).mem = s.mem := rfl
@[simp] theorem State.setGroup_objs (s : State) (c : CoreId) (n : Fin 8) (g : Group) : (s.setGroup c n g).objs = s.objs := rfl
@[simp] theorem State.setGroup_banks (s : State) (c : CoreId) (n : Fin 8) (g : Group) : (s.setGroup c n g).banks = s.banks := rfl
@[simp] theorem State.setGroup_idleSince (s : State) (c : CoreId) (n : Fin 8) (g : Group) : (s.setGroup c n g).idleSince = s.idleSince := rfl
@[simp] theorem State.setGroup_ctxs (s : State) (c : CoreId) (n : Fin 8) (g : Group) : (s.setGroup c n g).ctxs = s.ctxs := rfl
@[simp] theorem State.setGroup_traffic (s : State) (c : CoreId) (n : Fin 8) (g : Group) : (s.setGroup c n g).traffic = s.traffic := rfl
@[simp] theorem State.setGroup_claims (s : State) (c : CoreId) (n : Fin 8) (g : Group) : (s.setGroup c n g).claims = s.claims := rfl
@[simp] theorem State.setGroup_handovers (s : State) (c : CoreId) (n : Fin 8) (g : Group) : (s.setGroup c n g).handovers = s.handovers := rfl
@[simp] theorem State.setGroup_gptr (s : State) (c : CoreId) (n : Fin 8) (g : Group) : (s.setGroup c n g).gptr = s.gptr := rfl
@[simp] theorem State.setGroup_tick (s : State) (c : CoreId) (n : Fin 8) (g : Group) : (s.setGroup c n g).tick = s.tick := rfl
@[simp] theorem State.setGroup_notes (s : State) (c : CoreId) (n : Fin 8) (g : Group) : (s.setGroup c n g).notes = s.notes := rfl
@[simp] theorem State.setGroup_faults (s : State) (c : CoreId) (n : Fin 8) (g : Group) : (s.setGroup c n g).faults = s.faults := rfl
@[simp] theorem State.setGroup_arrivals (s : State) (c : CoreId) (n : Fin 8) (g : Group) : (s.setGroup c n g).arrivals = s.arrivals := rfl
@[simp] theorem State.setGroup_attach (s : State) (c : CoreId) (n : Fin 8) (g : Group) : (s.setGroup c n g).attach = s.attach := rfl
@[simp] theorem State.setGroup_hbm (s : State) (c : CoreId) (n : Fin 8) (g : Group) : (s.setGroup c n g).hbm = s.hbm := rfl
@[simp] theorem State.setGroup_warden (s : State) (c : CoreId) (n : Fin 8) (g : Group) : (s.setGroup c n g).warden = s.warden := rfl
@[simp] theorem State.setGroup_power (s : State) (c : CoreId) (n : Fin 8) (g : Group) : (s.setGroup c n g).power = s.power := rfl
@[simp] theorem State.setGroup_boot (s : State) (c : CoreId) (n : Fin 8) (g : Group) : (s.setGroup c n g).boot = s.boot := rfl
@[simp] theorem State.setGroup_pins (s : State) (c : CoreId) (n : Fin 8) (g : Group) : (s.setGroup c n g).pins = s.pins := rfl
@[simp] theorem State.setGroup_links (s : State) (c : CoreId) (n : Fin 8) (g : Group) : (s.setGroup c n g).links = s.links := rfl
@[simp] theorem State.setGroup_fabric (s : State) (c : CoreId) (n : Fin 8) (g : Group) : (s.setGroup c n g).fabric = s.fabric := rfl
@[simp] theorem State.setGroup_canopy (s : State) (c : CoreId) (n : Fin 8) (g : Group) : (s.setGroup c n g).canopy = s.canopy := rfl
@[simp] theorem State.setGroup_patrol (s : State) (c : CoreId) (n : Fin 8) (g : Group) : (s.setGroup c n g).patrol = s.patrol := rfl
@[simp] theorem State.setGroup_callSeq (s : State) (c : CoreId) (n : Fin 8) (g : Group) : (s.setGroup c n g).callSeq = s.callSeq := rfl
@[simp] theorem State.setGroup_freeCount (s : State) (c : CoreId) (n : Fin 8) (g : Group) : (s.setGroup c n g).freeCount = s.freeCount := rfl
@[simp] theorem State.setGroup_out (s : State) (c : CoreId) (n : Fin 8) (g : Group) : (s.setGroup c n g).out = s.out := rfl
@[simp] theorem State.setGroup_pending (s : State) (c : CoreId) (n : Fin 8) (g : Group) : (s.setGroup c n g).pending = s.pending := rfl

/-! ## State.cfgSet -/

@[simp] theorem State.cfgSet_delivery (s : State) (n : PartId) (r v : Nat) : (s.cfgSet n r v).delivery = s.delivery := rfl
@[simp] theorem State.cfgSet_cores (s : State) (n : PartId) (r v : Nat) : (s.cfgSet n r v).cores = s.cores := rfl
@[simp] theorem State.cfgSet_parts (s : State) (n : PartId) (r v : Nat) : (s.cfgSet n r v).parts = s.parts := rfl
@[simp] theorem State.cfgSet_mem (s : State) (n : PartId) (r v : Nat) : (s.cfgSet n r v).mem = s.mem := rfl
@[simp] theorem State.cfgSet_objs (s : State) (n : PartId) (r v : Nat) : (s.cfgSet n r v).objs = s.objs := rfl
@[simp] theorem State.cfgSet_banks (s : State) (n : PartId) (r v : Nat) : (s.cfgSet n r v).banks = s.banks := rfl
@[simp] theorem State.cfgSet_idleSince (s : State) (n : PartId) (r v : Nat) : (s.cfgSet n r v).idleSince = s.idleSince := rfl
@[simp] theorem State.cfgSet_ctxs (s : State) (n : PartId) (r v : Nat) : (s.cfgSet n r v).ctxs = s.ctxs := rfl
@[simp] theorem State.cfgSet_traffic (s : State) (n : PartId) (r v : Nat) : (s.cfgSet n r v).traffic = s.traffic := rfl
@[simp] theorem State.cfgSet_claims (s : State) (n : PartId) (r v : Nat) : (s.cfgSet n r v).claims = s.claims := rfl
@[simp] theorem State.cfgSet_handovers (s : State) (n : PartId) (r v : Nat) : (s.cfgSet n r v).handovers = s.handovers := rfl
@[simp] theorem State.cfgSet_gptr (s : State) (n : PartId) (r v : Nat) : (s.cfgSet n r v).gptr = s.gptr := rfl
@[simp] theorem State.cfgSet_tick (s : State) (n : PartId) (r v : Nat) : (s.cfgSet n r v).tick = s.tick := rfl
@[simp] theorem State.cfgSet_notes (s : State) (n : PartId) (r v : Nat) : (s.cfgSet n r v).notes = s.notes := rfl
@[simp] theorem State.cfgSet_faults (s : State) (n : PartId) (r v : Nat) : (s.cfgSet n r v).faults = s.faults := rfl
@[simp] theorem State.cfgSet_arrivals (s : State) (n : PartId) (r v : Nat) : (s.cfgSet n r v).arrivals = s.arrivals := rfl
@[simp] theorem State.cfgSet_hbm (s : State) (n : PartId) (r v : Nat) : (s.cfgSet n r v).hbm = s.hbm := rfl
@[simp] theorem State.cfgSet_warden (s : State) (n : PartId) (r v : Nat) : (s.cfgSet n r v).warden = s.warden := rfl
@[simp] theorem State.cfgSet_power (s : State) (n : PartId) (r v : Nat) : (s.cfgSet n r v).power = s.power := rfl
@[simp] theorem State.cfgSet_boot (s : State) (n : PartId) (r v : Nat) : (s.cfgSet n r v).boot = s.boot := rfl
@[simp] theorem State.cfgSet_pins (s : State) (n : PartId) (r v : Nat) : (s.cfgSet n r v).pins = s.pins := rfl
@[simp] theorem State.cfgSet_links (s : State) (n : PartId) (r v : Nat) : (s.cfgSet n r v).links = s.links := rfl
@[simp] theorem State.cfgSet_fabric (s : State) (n : PartId) (r v : Nat) : (s.cfgSet n r v).fabric = s.fabric := rfl
@[simp] theorem State.cfgSet_canopy (s : State) (n : PartId) (r v : Nat) : (s.cfgSet n r v).canopy = s.canopy := rfl
@[simp] theorem State.cfgSet_patrol (s : State) (n : PartId) (r v : Nat) : (s.cfgSet n r v).patrol = s.patrol := rfl
@[simp] theorem State.cfgSet_callSeq (s : State) (n : PartId) (r v : Nat) : (s.cfgSet n r v).callSeq = s.callSeq := rfl
@[simp] theorem State.cfgSet_freeCount (s : State) (n : PartId) (r v : Nat) : (s.cfgSet n r v).freeCount = s.freeCount := rfl
@[simp] theorem State.cfgSet_out (s : State) (n : PartId) (r v : Nat) : (s.cfgSet n r v).out = s.out := rfl
@[simp] theorem State.cfgSet_pending (s : State) (n : PartId) (r v : Nat) : (s.cfgSet n r v).pending = s.pending := rfl

/-! ## State.setDevState -/

@[simp] theorem State.setDevState_delivery (s : State) (v : Nat) : (s.setDevState v).delivery = s.delivery := rfl
@[simp] theorem State.setDevState_cores (s : State) (v : Nat) : (s.setDevState v).cores = s.cores := rfl
@[simp] theorem State.setDevState_parts (s : State) (v : Nat) : (s.setDevState v).parts = s.parts := rfl
@[simp] theorem State.setDevState_mem (s : State) (v : Nat) : (s.setDevState v).mem = s.mem := rfl
@[simp] theorem State.setDevState_banks (s : State) (v : Nat) : (s.setDevState v).banks = s.banks := rfl
@[simp] theorem State.setDevState_idleSince (s : State) (v : Nat) : (s.setDevState v).idleSince = s.idleSince := rfl
@[simp] theorem State.setDevState_ctxs (s : State) (v : Nat) : (s.setDevState v).ctxs = s.ctxs := rfl
@[simp] theorem State.setDevState_traffic (s : State) (v : Nat) : (s.setDevState v).traffic = s.traffic := rfl
@[simp] theorem State.setDevState_claims (s : State) (v : Nat) : (s.setDevState v).claims = s.claims := rfl
@[simp] theorem State.setDevState_handovers (s : State) (v : Nat) : (s.setDevState v).handovers = s.handovers := rfl
@[simp] theorem State.setDevState_gptr (s : State) (v : Nat) : (s.setDevState v).gptr = s.gptr := rfl
@[simp] theorem State.setDevState_tick (s : State) (v : Nat) : (s.setDevState v).tick = s.tick := rfl
@[simp] theorem State.setDevState_notes (s : State) (v : Nat) : (s.setDevState v).notes = s.notes := rfl
@[simp] theorem State.setDevState_faults (s : State) (v : Nat) : (s.setDevState v).faults = s.faults := rfl
@[simp] theorem State.setDevState_arrivals (s : State) (v : Nat) : (s.setDevState v).arrivals = s.arrivals := rfl
@[simp] theorem State.setDevState_attach (s : State) (v : Nat) : (s.setDevState v).attach = s.attach := rfl
@[simp] theorem State.setDevState_hbm (s : State) (v : Nat) : (s.setDevState v).hbm = s.hbm := rfl
@[simp] theorem State.setDevState_warden (s : State) (v : Nat) : (s.setDevState v).warden = s.warden := rfl
@[simp] theorem State.setDevState_power (s : State) (v : Nat) : (s.setDevState v).power = s.power := rfl
@[simp] theorem State.setDevState_boot (s : State) (v : Nat) : (s.setDevState v).boot = s.boot := rfl
@[simp] theorem State.setDevState_pins (s : State) (v : Nat) : (s.setDevState v).pins = s.pins := rfl
@[simp] theorem State.setDevState_links (s : State) (v : Nat) : (s.setDevState v).links = s.links := rfl
@[simp] theorem State.setDevState_fabric (s : State) (v : Nat) : (s.setDevState v).fabric = s.fabric := rfl
@[simp] theorem State.setDevState_canopy (s : State) (v : Nat) : (s.setDevState v).canopy = s.canopy := rfl
@[simp] theorem State.setDevState_patrol (s : State) (v : Nat) : (s.setDevState v).patrol = s.patrol := rfl
@[simp] theorem State.setDevState_callSeq (s : State) (v : Nat) : (s.setDevState v).callSeq = s.callSeq := rfl
@[simp] theorem State.setDevState_freeCount (s : State) (v : Nat) : (s.setDevState v).freeCount = s.freeCount := rfl
@[simp] theorem State.setDevState_out (s : State) (v : Nat) : (s.setDevState v).out = s.out := rfl
@[simp] theorem State.setDevState_pending (s : State) (v : Nat) : (s.setDevState v).pending = s.pending := rfl

/-! ## State.tapSelect -/

@[simp] theorem State.tapSelect_delivery (s : State) (r : TapReg) : (s.tapSelect r).delivery = s.delivery := rfl
@[simp] theorem State.tapSelect_cores (s : State) (r : TapReg) : (s.tapSelect r).cores = s.cores := rfl
@[simp] theorem State.tapSelect_parts (s : State) (r : TapReg) : (s.tapSelect r).parts = s.parts := rfl
@[simp] theorem State.tapSelect_mem (s : State) (r : TapReg) : (s.tapSelect r).mem = s.mem := rfl
@[simp] theorem State.tapSelect_objs (s : State) (r : TapReg) : (s.tapSelect r).objs = s.objs := rfl
@[simp] theorem State.tapSelect_banks (s : State) (r : TapReg) : (s.tapSelect r).banks = s.banks := rfl
@[simp] theorem State.tapSelect_idleSince (s : State) (r : TapReg) : (s.tapSelect r).idleSince = s.idleSince := rfl
@[simp] theorem State.tapSelect_ctxs (s : State) (r : TapReg) : (s.tapSelect r).ctxs = s.ctxs := rfl
@[simp] theorem State.tapSelect_traffic (s : State) (r : TapReg) : (s.tapSelect r).traffic = s.traffic := rfl
@[simp] theorem State.tapSelect_claims (s : State) (r : TapReg) : (s.tapSelect r).claims = s.claims := rfl
@[simp] theorem State.tapSelect_handovers (s : State) (r : TapReg) : (s.tapSelect r).handovers = s.handovers := rfl
@[simp] theorem State.tapSelect_gptr (s : State) (r : TapReg) : (s.tapSelect r).gptr = s.gptr := rfl
@[simp] theorem State.tapSelect_tick (s : State) (r : TapReg) : (s.tapSelect r).tick = s.tick := rfl
@[simp] theorem State.tapSelect_notes (s : State) (r : TapReg) : (s.tapSelect r).notes = s.notes := rfl
@[simp] theorem State.tapSelect_faults (s : State) (r : TapReg) : (s.tapSelect r).faults = s.faults := rfl
@[simp] theorem State.tapSelect_arrivals (s : State) (r : TapReg) : (s.tapSelect r).arrivals = s.arrivals := rfl
@[simp] theorem State.tapSelect_attach (s : State) (r : TapReg) : (s.tapSelect r).attach = s.attach := rfl
@[simp] theorem State.tapSelect_hbm (s : State) (r : TapReg) : (s.tapSelect r).hbm = s.hbm := rfl
@[simp] theorem State.tapSelect_warden (s : State) (r : TapReg) : (s.tapSelect r).warden = s.warden := rfl
@[simp] theorem State.tapSelect_power (s : State) (r : TapReg) : (s.tapSelect r).power = s.power := rfl
@[simp] theorem State.tapSelect_boot (s : State) (r : TapReg) : (s.tapSelect r).boot = s.boot := rfl
@[simp] theorem State.tapSelect_links (s : State) (r : TapReg) : (s.tapSelect r).links = s.links := rfl
@[simp] theorem State.tapSelect_fabric (s : State) (r : TapReg) : (s.tapSelect r).fabric = s.fabric := rfl
@[simp] theorem State.tapSelect_canopy (s : State) (r : TapReg) : (s.tapSelect r).canopy = s.canopy := rfl
@[simp] theorem State.tapSelect_patrol (s : State) (r : TapReg) : (s.tapSelect r).patrol = s.patrol := rfl
@[simp] theorem State.tapSelect_callSeq (s : State) (r : TapReg) : (s.tapSelect r).callSeq = s.callSeq := rfl
@[simp] theorem State.tapSelect_freeCount (s : State) (r : TapReg) : (s.tapSelect r).freeCount = s.freeCount := rfl
@[simp] theorem State.tapSelect_out (s : State) (r : TapReg) : (s.tapSelect r).out = s.out := rfl
@[simp] theorem State.tapSelect_pending (s : State) (r : TapReg) : (s.tapSelect r).pending = s.pending := rfl

/-! ## State.drawFree -/

@[simp] theorem State.drawFree_delivery (s : State) : (s.drawFree.2).delivery = s.delivery := rfl
@[simp] theorem State.drawFree_cores (s : State) : (s.drawFree.2).cores = s.cores := rfl
@[simp] theorem State.drawFree_parts (s : State) : (s.drawFree.2).parts = s.parts := rfl
@[simp] theorem State.drawFree_mem (s : State) : (s.drawFree.2).mem = s.mem := rfl
@[simp] theorem State.drawFree_objs (s : State) : (s.drawFree.2).objs = s.objs := rfl
@[simp] theorem State.drawFree_banks (s : State) : (s.drawFree.2).banks = s.banks := rfl
@[simp] theorem State.drawFree_idleSince (s : State) : (s.drawFree.2).idleSince = s.idleSince := rfl
@[simp] theorem State.drawFree_ctxs (s : State) : (s.drawFree.2).ctxs = s.ctxs := rfl
@[simp] theorem State.drawFree_traffic (s : State) : (s.drawFree.2).traffic = s.traffic := rfl
@[simp] theorem State.drawFree_claims (s : State) : (s.drawFree.2).claims = s.claims := rfl
@[simp] theorem State.drawFree_handovers (s : State) : (s.drawFree.2).handovers = s.handovers := rfl
@[simp] theorem State.drawFree_gptr (s : State) : (s.drawFree.2).gptr = s.gptr := rfl
@[simp] theorem State.drawFree_tick (s : State) : (s.drawFree.2).tick = s.tick := rfl
@[simp] theorem State.drawFree_notes (s : State) : (s.drawFree.2).notes = s.notes := rfl
@[simp] theorem State.drawFree_faults (s : State) : (s.drawFree.2).faults = s.faults := rfl
@[simp] theorem State.drawFree_arrivals (s : State) : (s.drawFree.2).arrivals = s.arrivals := rfl
@[simp] theorem State.drawFree_attach (s : State) : (s.drawFree.2).attach = s.attach := rfl
@[simp] theorem State.drawFree_hbm (s : State) : (s.drawFree.2).hbm = s.hbm := rfl
@[simp] theorem State.drawFree_warden (s : State) : (s.drawFree.2).warden = s.warden := rfl
@[simp] theorem State.drawFree_power (s : State) : (s.drawFree.2).power = s.power := rfl
@[simp] theorem State.drawFree_boot (s : State) : (s.drawFree.2).boot = s.boot := rfl
@[simp] theorem State.drawFree_pins (s : State) : (s.drawFree.2).pins = s.pins := rfl
@[simp] theorem State.drawFree_links (s : State) : (s.drawFree.2).links = s.links := rfl
@[simp] theorem State.drawFree_fabric (s : State) : (s.drawFree.2).fabric = s.fabric := rfl
@[simp] theorem State.drawFree_canopy (s : State) : (s.drawFree.2).canopy = s.canopy := rfl
@[simp] theorem State.drawFree_patrol (s : State) : (s.drawFree.2).patrol = s.patrol := rfl
@[simp] theorem State.drawFree_callSeq (s : State) : (s.drawFree.2).callSeq = s.callSeq := rfl
@[simp] theorem State.drawFree_out (s : State) : (s.drawFree.2).out = s.out := rfl
@[simp] theorem State.drawFree_pending (s : State) : (s.drawFree.2).pending = s.pending := rfl

/-! ## The field an update changes -/

@[simp] theorem State.core_setCore_same (s : State) (c : CoreId) (k : Core) : (s.setCore c k).core c = k := by
  simp [State.core, State.setCore]

@[simp] theorem State.core_setCore_other (s : State) {c d : CoreId} (h : d ≠ c) (k : Core) : (s.setCore c k).core d = s.core d := by
  have : c.val ≠ d.val := fun e => h (Fin.ext e.symm)
  simp [State.core, State.setCore, this]

@[simp] theorem State.core_modCore_same (s : State) (c : CoreId) (f : Core → Core) : (s.modCore c f).core c = f (s.core c) :=
  State.core_setCore_same s c _

@[simp] theorem State.core_modCore_other (s : State) {c d : CoreId} (h : d ≠ c) (f : Core → Core) : (s.modCore c f).core d = s.core d :=
  State.core_setCore_other s h _

@[simp] theorem State.parts_modPart_same (s : State) (n : PartId) (f : Partition → Partition) : (s.modPart n f).parts[n] = f s.parts[n] := by
  simp [State.modPart]

@[simp] theorem State.parts_modPart_other (s : State) {n m : PartId} (h : m ≠ n) (f : Partition → Partition) :
    (s.modPart n f).parts[m] = s.parts[m] := by
  have : n.val ≠ m.val := fun e => h (Fin.ext e.symm)
  simp [State.modPart, this]

@[simp] theorem State.link_modLink_same (s : State) (p : PortIx) (f : Link → Link) : (s.modLink p f).link p = f (s.link p) := by
  simp [State.link, State.modLink]

@[simp] theorem State.link_modLink_other (s : State) {p q : PortIx} (h : q ≠ p) (f : Link → Link) : (s.modLink p f).link q = s.link q := by
  have : p.val ≠ q.val := fun e => h (Fin.ext e.symm)
  simp [State.link, State.modLink, this]

@[simp] theorem State.canopy_setCanopy_same (s : State) (i : Fin 8) (x : CanopyCtx) : (s.setCanopy i x).canopy[i] = x := by
  simp [State.setCanopy]

@[simp] theorem objGet_objSet_same (s : State) (q : Option PartId) (i j v : Nat) : objGet (objSet s q i j v) q i j = v := by
  simp [objGet, objSet, tabGet_tabSet_value]

/-- Another key of the object store reads as before. -/
theorem objGet_objSet_other (s : State) {q r : Option PartId} {i j i' j' : Nat} (v : Nat) (h : objKey r i' j' ≠ objKey q i j) :
    objGet (objSet s q i j v) r i' j' = objGet s r i' j' := by
  simp [objGet, objSet, tabGet_tabSet_value_other (Nat.succ_ne_zero v) h]

@[simp] theorem objGet_objBump_same (s : State) (q : Option PartId) (i j v : Nat) :
    objGet (objBump s q i j v) q i j = min (objGet s q i j + v) (objMax i j) := objGet_objSet_same s q i j _

theorem objGet_objBump_other (s : State) {q r : Option PartId} {i j i' j' : Nat} (v : Nat) (h : objKey r i' j' ≠ objKey q i j) :
    objGet (objBump s q i j v) r i' j' = objGet s r i' j' := objGet_objSet_other s _ h

/-- Two keys of one scope are equal only where index and subindex are. -/
theorem objKey_inj {q : Option PartId} {i j i' j' : Nat} (h1 : j < 256) (h2 : j' < 256) (h : objKey q i j = objKey q i' j') : i = i' ∧ j = j' := by
  unfold objKey at h
  omega

/-- A key of the die and a key of a partition differ. -/
theorem objKey_scope {n : PartId} {i j i' j' : Nat} (h1 : i < 65536) (h2 : j < 256) : objKey none i j ≠ objKey (some n) i' j' := by
  unfold objKey
  simp only
  omega

/-- A bank that keeps its state keeps its idle time (22 R504). -/
@[simp] theorem State.setBank_idleSince_same (s : State) (m : CoreId) (b : BankIx) : (s.setBank m b (s.bank m b)).idleSince = s.idleSince := by
  simp [State.setBank]

/-- A bank state written reads back, whatever the table: writing LENT removes the entry of a canonical one. -/
theorem State.bank_setBank_same (s : State) (m : CoreId) (b : BankIx) (x : BankState) (h : tabWf .lent s.banks = true) :
    (s.setBank m b x).bank m b = x := tabGet_tabSet_same h

theorem State.bank_setBank_other (s : State) {m m' : CoreId} {b b' : BankIx} (x : BankState) (h : tabWf .lent s.banks = true)
    (hk : bankKey m' b' ≠ bankKey m b) : (s.setBank m b x).bank m' b' = s.bank m' b' := tabGet_tabSet_other hk h

end Sys2Proof.Machine
end

