-- ==== Sys2Proof/Tests/Slice0.lean ====
section
/-!
SUPPORT. Tests: ill-formed commands that WellFormed refuses, single steps whose expected results come from the spec, and for
every statement with hypotheses a concrete state and operands that meet them (names witness_<statement>).
-/
namespace Sys2Proof.Tests
open Sys2Proof.Machine
set_option Elab.async false

/-- The program word of an opcode with D, A, B, C and low bits. -/
def wd (opc d a b c low : Nat) : W64 :=
  BitVec.ofNat 64 (opc * 2 ^ 56 + d * 2 ^ 46 + a * 2 ^ 40 + b * 2 ^ 34 + c * 2 ^ 28 + low)

/-- A clean word offered to core 0. -/
def iss (w : W64) : Issue := ⟨0, w, .clean⟩

/-- The next state an outcome carries. -/
def nextOf : Host.Outcome State Fault Refusal → State
  | .next t => t
  | _ => State.reset

/-- Core 0 runs, in no partition. -/
def going : State := State.reset.modCore 0 fun k => { k with mode := .running, power := { k.power with state := 0 } }

/-- Core 0 runs and owns the first four banks of its own array, as its windows 0–3. -/
def owning : State :=
  let s := { going with banks := (List.range 4).foldl (fun m b => tabSet .lent m b (.owned 0)) [] }
  s.modCore 0 fun k => { k with windows := (List.range 4).foldl (fun v b => v.set (Fin.ofNat 32 b) (some 0)) k.windows }

/-- A state whose core 0 is changed. -/
def at0 (s : State) (f : Core → Core) : State := s.modCore 0 f

/-- Core 0 with registers written. -/
def setRegs (s : State) (rs : List (Nat × Nat)) : State :=
  at0 s fun k => rs.foldl (fun k e => k.setReg e.1 (BitVec.ofNat 64 e.2)) k

/-! ## Scalar and control instructions: values (07 R174, R175) -/

/-- R175: ADD wraps modulo 2^64. -/
theorem test_add_wraps : ((nextOf (exec (.add (iss (wd 0x10 3 1 2 0 0))) (setRegs going [(1, 5), (2, 2 ^ 64 - 2)]))).core 0).reg 3 = 3 := by decide

/-- R175: SUB writes into a register that is also a source. -/
theorem test_sub_same : ((nextOf (exec (.sub (iss (wd 0x11 1 1 2 0 0))) (setRegs going [(1, 5), (2, 7)]))).core 0).reg 1 = 0xFFFFFFFFFFFFFFFE := by decide

/-- R175: the shift amount is B modulo 64, SAR keeps the sign. -/
theorem test_sar_mod : ((nextOf (exec (.sar (iss (wd 0x18 3 1 2 0 0))) (setRegs going [(1, 2 ^ 64 - 16), (2, 66)]))).core 0).reg 3 = 0xFFFFFFFFFFFFFFFC := by decide

theorem test_shr_mod : ((nextOf (exec (.shr (iss (wd 0x17 3 1 2 0 0))) (setRegs going [(1, 2 ^ 64 - 16), (2, 68)]))).core 0).reg 3 = 0x0FFFFFFFFFFFFFFF := by decide

/-- R175: MIN compares signed, MINU unsigned. -/
theorem test_min_signed : ((nextOf (exec (.min (iss (wd 0x19 3 1 2 0 0))) (setRegs going [(1, 1), (2, 2 ^ 64 - 1)]))).core 0).reg 3 = 0xFFFFFFFFFFFFFFFF := by decide

theorem test_minu : ((nextOf (exec (.minu (iss (wd 0x1B 3 1 2 0 0))) (setRegs going [(1, 1), (2, 2 ^ 64 - 1)]))).core 0).reg 3 = 1 := by decide

/-- R175: ADDI sign-extends IMM40. -/
theorem test_addi_negative : ((nextOf (exec (.addi (iss (wd 0x1D 3 1 0 0 (2 ^ 40 - 1)))) (setRegs going [(1, 5)]))).core 0).reg 3 = 4 := by decide

/-- R170: a loop counter takes bits 31:0. -/
theorem test_lset_truncates : ((nextOf (exec (.lset (iss (wd 0x08 56 1 0 0 1))) (setRegs going [(1, 2 ^ 32 + 1)]))).core 0).reg 56 = 2 := by decide

/-- R140: p0 reads 1 whatever is written to it. -/
theorem test_p0_ignores_write : ((nextOf (exec (.cmpne (iss (wd 0x21 48 1 1 0 0))) going)).core 0).reg 48 = 1 := by decide

/-- R174: CALL writes the next PC and goes to TARGET. -/
theorem test_call : let k := (nextOf (exec (.call (iss (wd 0x05 7 0 0 0 100))) going)).core 0
    k.reg 7 = 1 ∧ k.pc = 100 := by decide

/-- R174: JR faults with ILL_PC past word 16,383: FREC0 holds class 1 and cause 3. -/
theorem test_jr_ill_pc : let k := (nextOf (exec (.jr (iss (wd 0x06 0 1 0 0 0))) (setRegs going [(1, 16384)]))).core 0
    k.mode = .faulted ∧ bits k.frec.toNat 15 0 = 0x301 := by decide

/-- R168: a false predicate moves the PC and writes nothing. -/
theorem test_predicate_false : let k := (nextOf (exec (.movi (iss (wd 0x1E 3 0 0 0 (1 * 2 ^ 53 + 9)))) going)).core 0
    k.reg 3 = 0 ∧ k.pc = 1 := by decide

/-- R169: a reserved bit that is not 0 is ILL_FIELD. -/
theorem test_ill_field : bits ((nextOf (exec (.nop (iss (wd 0 0 0 0 0 1))) going)).core 0).frec.toNat 15 0 = 0x201 := by decide

/-! ## Scratchpad, descriptors, control registers (07 R176–R178) -/

/-- R176: ST stores the low bytes little-endian, LD reads one back with its sign. -/
theorem test_store_load : let s := nextOf (exec (.st (iss (wd 0x2A 1 2 0 0 (1 * 2 ^ 38 + 4)))) (setRegs owning [(1, 0x80F1), (2, 16)]))
    ((nextOf (exec (.ld (iss (wd 0x29 3 2 0 0 (2 ^ 37 + 5)))) s)).core 0).reg 3 = 0xFFFFFFFFFFFFFF80 := by decide

/-- R176: an address that is not aligned is class 2 cause 3. -/
theorem test_misaligned : bits ((nextOf (exec (.ld (iss (wd 0x29 3 2 0 0 (1 * 2 ^ 38 + 1)))) owning)).core 0).frec.toNat 15 0 = 0x302 := by decide

/-- R177, R148: TSET writes one field of a descriptor, TGET reads it back. -/
theorem test_tset_tget : let s := nextOf (exec (.tset (iss (wd 0x32 0 1 0 0 (1 * 2 ^ 30)))) (setRegs owning [(1, 0x12345)]))
    ((nextOf (exec (.tget (iss (wd 0x33 3 0 0 0 (1 * 2 ^ 30)))) s)).core 0).reg 3 = 0x2345 := by decide

/-- R178: CRR of CORE_STAT reads the state code 3 of a running core in bits 18:15. -/
theorem test_crr_core_stat : bits ((nextOf (exec (.crr (iss (wd 0x2B 3 0 0 0 0))) going)).core 0).sreg[3].toNat 18 15 = 3 := by decide

/-! ## The spec's worked numbers -/

/-- Case 2.1: FP32 values into Poxel16. -/
theorem test_fp32_to_px16 :
    toPx16 (fp32Val 0x40400000) .rne = ⟨0x00CB, 0⟩ ∧ toPx16 (fp32Val 0xBDCCCCCD) .rne = ⟨0xFE57, 0⟩
    ∧ toPx16 (fp32Val 0x0000A000) .rne = ⟨0x4001, cvTail⟩ ∧ toPx16 (fp32Val 0x00000600) .rne = ⟨0x4000, cvUfz⟩
    ∧ toPx16 (fp32Val 0x7F7FFFFF) .rne = ⟨0x3FFF, cvInfOut⟩ := by decide

/-- Case 2.2: the block scale and the codes of a Poxel8 block. -/
theorem test_px8_block :
    blockScale [px16Val 1000, px16Val 500, px16Val 0xFF38, px16Val 0x7448 , .zero] (-256) = 6
    ∧ (toPx8 (px16Val 1000) 6 (-256) .rne).code = 0x3D ∧ (toPx8 (px16Val 500) 6 (-256) .rne).code = 0x7E
    ∧ toPx8 (px16Val 0xFF38) 6 (-256) .rne = ⟨0xC3, cvTail⟩ ∧ toPx8 (px16Val 0x7448) 6 (-256) .rne = ⟨0x40, cvUfz⟩ := by decide +kernel

/-- Case 2.3: an int8 weight expands with its zero point and scale. -/
theorem test_zero_point : zeroPointExpand 10 0x7C7C = ⟨0x7E25, 0⟩ := by decide

/-- Case 3.1: four products of a dot product, in order, in one Hearth element; drained it is 0x00A3. -/
theorem test_dot_product :
    let e := (passElement 0 [(0x0080, 0x0040), (0x7FC0, 0xFFC0), (0xFF38, 0xFF08), (0x7380, 0x0000)] ⟨0, 0⟩ ⟨false, false, false⟩).1
    e.word = 0x1355A35 ∧ (toPx16 (e.val 0) .rne).code = 0x00A3 := by decide

/-- Case 3.2: four products of ±2^46 in one chunk clamp and leave −1, marked SATURATED. -/
theorem test_saturation_in_one_chunk :
    (passElement 0 [(0x05C0, 0x05C0), (0x05C0, 0x05C0), (0x85C0, 0x05C0), (0x85C0, 0x05C0)] ⟨0, 0⟩ ⟨false, false, false⟩).1.word
      = 0x1FFFFFFFFFFFF := by decide

/-- Case 4.1: three residual adds. -/
theorem test_ladd :
    (toPx16 (((lnLadd false 0x0080 0x0000).flush (-16256)).val) .rne).code = 0x00CB
    ∧ (toPx16 (((lnLadd false 0x0080 0x8000).flush (-16256)).val) .rne).code = 0x0000
    ∧ (toPx16 (((lnLadd false 0x4001 0x4003).flush (-16256)).val) .rne).code = 0x4000
    ∧ toPx16 (((lnLadd false 0x4001 0x4003).flush (-16384)).val) .rne = ⟨0x4004, cvTail⟩ := by decide

/-- Case 7.1: the words of the drain's fields, the placement and two element addresses. -/
theorem test_drain_fields : let w := 0x4403001072B14000
    opcOf w = 0x44 ∧ fTD w = 3 ∧ fH w = 4 ∧ fP w = 7 ∧ bits w 25 22 = 10 ∧ bitOf w 21 = true ∧ bitOf w 20 = true ∧ bits w 17 14 = 5
    ∧ drnIllegal w = none ∧ (Place.of 0x200040).row0 = 64 ∧ (Place.of 0x200040).col0 = 32
    ∧ (Desc.addr ⟨0x20000, 95, 127, 192, 0, 0, 0, 0, 0, 0, 0⟩ 64 32) = 0x23040
    ∧ (Desc.addr ⟨0x20000, 95, 127, 192, 0, 0, 0, 0, 0, 0, 0⟩ 95 63) = 0x247BE := by decide

/-- Case 20.1: the draws of two neighbouring elements. -/
theorem test_dice : dice 0x123456789ABCDEF0 7204 0x0103 0x608 = 0x78C576C011B34AEB := by decide +kernel

/-- Case 21.1: σ_5 on a ring of 16 coefficients modulo 97, and in the evaluation domain. -/
theorem test_automorphism :
    autoCoeff 97 4 5 [2, 1, 0, 0, 10, 0, 0, 3, 0, 0, 0, 0, 0, 0, 0, 0] = [2, 0, 0, 3, 87, 1, 0, 0, 0, 0, 0, 0, 0, 0, 0, 0]
    ∧ (autoEval 97 4 5 (List.range 16)).take 2 = [4, 5] ∧ powMod 32 18 5 1 = 5 := by decide

/-- Case 21.1: the word of the AUTO is one of its row. -/
theorem test_auto_word : Instr.wf (.auto (iss 0x7002649403800001)) = true := by decide

/-- R330: the CRC of "123456789". -/
theorem test_crc16 : crc16 [0x31, 0x32, 0x33, 0x34, 0x35, 0x36, 0x37, 0x38, 0x39] = 0x29B1 := by decide +kernel

/-! ## Ill-formed commands are refused, one for each check -/

/-- A PDU with its operation, index and subindex; every other field 0. -/
def pdu (op index sub : Nat) (data : List Byte) : Pdu := ⟨2, op, 1, 0, 0, 0, index, sub, 0, data.length, 0, data⟩

/-- A request on the mailbox. -/
def req (op index sub : Nat) (data : List Byte) : Request := ⟨.mailbox, 0, 0, pdu op index sub data⟩

/-- A packet of a kind. -/
def pkt (kind arg : Nat) (body : List Byte) : Packet := ⟨1, 2, kind, 7, arg, body⟩

/-- A flit of a type that carries an acknowledgement of nothing. -/
def flit (typ fseq : Nat) (payload : List Byte) : Flit := ⟨typ, 0, 0, true, false, fseq, payload, 0, false, false, true⟩

theorem smoke_word_opcode : Instr.wf (.add (iss (wd 0x11 0 0 0 0 0))) = false := by decide
theorem smoke_word_field : Instr.wf (.ewDiv (iss (wd 0x50 0 0 0 0 0))) = false := by decide
theorem smoke_word_fits : Instr.wf (.add (iss (wd 0x10 0 0 0 0 0))) = true := by decide
theorem smoke_csr_field : Instr.wf (.epochMaskWrite (iss (wd 0x2C 0 0 0 0 (0x00C * 2 ^ 28)))) = false := by decide
theorem smoke_pdu_fields : Instr.wf (.read ⟨.mailbox, 0, 0, { pdu 1 0 0 [] with seq := 65536 }⟩) = false := by decide
theorem smoke_request_source : Instr.wf (.read ⟨.t1s, 2 ^ 48, 0, pdu 1 0 0 []⟩) = false := by decide
theorem smoke_request_tag : Instr.wf (.read ⟨.relay, 0, 2 ^ 32, pdu 1 0 0 []⟩) = false := by decide
theorem smoke_request_op : Instr.wf (.read (req 2 0x1000 1 [])) = false := by decide
theorem smoke_request_object : Instr.wf (.form (req 2 0x4100 0xE [0, 0])) = false := by decide
theorem smoke_restore_is_no_write : Instr.wf (.write (req 2 0x8300 1 [])) = false := by decide
theorem smoke_notification_read : Instr.wf (.notificationRead (req 1 0x1122 1 [])) = false := by decide
theorem smoke_aperture : Instr.wf (.apertureWrite (req 2 0xC030 1 [])) = false := by decide
theorem smoke_node_id : Instr.wf (.nodeIdWrite (req 2 0xD010 2 [])) = false := by decide
theorem smoke_duty_mode : Instr.wf (.dutyModeRequest (req 2 0x5700 1 [])) = false := by decide
theorem smoke_put_in_use : Instr.wf (.putInUse (req 2 0x7016 8 [])) = false := by decide
theorem smoke_packet_kind : Instr.wf (.resume (pkt 0x29 1 [])) = false := by decide
theorem smoke_packet_fields : Instr.wf (.present { pkt 0x18 0 [] with dst := 65536 }) = false := by decide
theorem smoke_flit_type : Instr.wf (.lctl 0 (flit 1 0 [])) = false := by decide
theorem smoke_flit_fields : Instr.wf (.flitReceive 0 (flit 4 0 [])) = false := by decide
theorem smoke_flit_payload : Instr.wf (.flitReceive 0 (flit 1 0 (List.replicate 117 0))) = false := by decide
theorem smoke_codeword_count : Instr.wf (.codewordReceive 0 0 ⟨false, false, 64, 0, []⟩) = false := by decide
theorem smoke_codeword_flits : Instr.wf (.codewordReceive 0 0 ⟨true, true, 0, 0, []⟩) = false := by decide
theorem smoke_training : Instr.wf (.portRetrain 0 ⟨4, 3, 0, true⟩) = false := by decide
theorem smoke_stage_work : Instr.wf (.startStageAdvance ⟨false, 0, [], [], [], List.replicate 7 ⟨4, 1, 0, true⟩⟩) = false := by decide
theorem smoke_image_slot : Instr.wf (.flashImageLoaded ⟨2, []⟩) = false := by decide
theorem smoke_frame : Instr.wf (.t1sFrameReceive ⟨2 ^ 48, 0, 0, true, []⟩) = false := by decide
theorem smoke_ucie_packet : Instr.wf (.ucieCpl ⟨64, 0, 0, false, 0, 0, []⟩) = false := by decide
theorem smoke_ucie_credits : Instr.wf (.ucieCrd ⟨65536, 0, 0, 0⟩) = false := by decide
theorem smoke_ucie_width : Instr.wf (.ucieLinkUp 4 16 ⟨16, 64, 16, 64⟩) = false := by decide
theorem smoke_stream_context : Instr.wf (.streamCreditArrive 0 65536) = false := by decide
theorem smoke_stream_words : Instr.wf (.streamMessageArrive 0 ⟨0, [0x8000]⟩) = false := by decide
theorem smoke_claim_requests : Instr.wf (.claimRequestArrive 0 0 []) = false := by decide
theorem smoke_porter_data : Instr.wf (.porterReadDataArrive 0 0 ⟨List.replicate 257 0, 0⟩) = false := by decide +kernel
theorem smoke_porter_corrected : Instr.wf (.porterReadDataArrive 0 0 ⟨[], 5⟩) = false := by decide
theorem smoke_porter_length : Instr.wf (.porterReadDataArrive 0 0 ⟨List.replicate 129 0, 0⟩) = false := by decide +kernel
theorem smoke_porter_port_a : Instr.wf (.porterBeat ⟨0, [0x8000], []⟩) = false := by decide
theorem smoke_porter_poisoned : Instr.wf (.porterBeat ⟨0, [], [0, 1, 2, 3]⟩) = false := by decide
theorem smoke_vector_offset : Instr.wf (.vectorControlWrite 0 0x1080 ⟨0, true⟩) = false := by decide
theorem smoke_register_offset : Instr.wf (.registerWrite 0 0x10000 (.write ⟨0, true⟩)) = false := by decide
theorem smoke_mailbox_offset : Instr.wf (.mailboxBufferWrite 0x2510 ⟨0, true⟩) = false := by decide
theorem smoke_scrub : Instr.wf (.hbmScrub [⟨4, true⟩]) = false := by decide
theorem smoke_thermal : Instr.wf (.thermalSample []) = false := by decide
theorem smoke_patrol_result : Instr.wf (.patrolSliceEnd [⟨0, none, 256, 0⟩]) = false := by decide

/-! ## Witnesses: every statement with hypotheses has a concrete state and operands that meet them -/

/-- A descriptor of BASE, DIM0, DIM1, STRIDE and FMT (06 R148). -/
def tdesc (base dim0 dim1 stride fmt : Nat) : Nat := base + dim0 * 2 ^ 32 + dim1 * 2 ^ 48 + stride * 2 ^ 64 + fmt * 2 ^ 96

/-- A state with descriptor register t of core 0 set. -/
def setT (s : State) (t : Fin 16) (v : Nat) : State := at0 s fun k => { k with treg := k.treg.set t (BitVec.ofNat 256 v) }

theorem witness_EmptyQueueTick : State.reset.pending = [] := rfl

theorem witness_RegisterWrite : (3 < 60 ∧ 3 < 48) ∧ (48 < 55 ∧ 55 < 56) ∧ (56 ≤ 59 ∧ 59 < 60) := by decide

theorem witness_SequencerRules_idle :
    (Instr.nop (iss 0)).row = some (iss 0, 0, []) ∧ (State.reset.core 0).mode ≠ .running := by decide

theorem witness_SequencerRules_illegal :
    (Instr.add (iss 0)).row = some (iss 0, 0x10, []) ∧ (going.core 0).mode = .running ∧ (going.core 0).wait = none
    ∧ (going.core 0).epoch.discarding = false ∧ (going.core 0).power.held = false ∧ (going.core 0).power.state = 0
    ∧ (iss 0).ecc = .clean ∧ opcOf (iss 0).word.toNat ≠ 0x10 := by decide

theorem witness_SequencerRules_ecc :
    (Instr.nop ⟨0, 0, .double⟩).row = some (⟨0, 0, .double⟩, 0, []) ∧ (going.core 0).mode = .running ∧ (⟨0, 0, .double⟩ : Issue).ecc = .double := by decide

theorem witness_SequencerRules_predicate :
    (Instr.nop (iss (2 ^ 53))).row = some (iss (2 ^ 53), 0, []) ∧ Sequences (iss (2 ^ 53)) going ∧ opcOf (iss (2 ^ 53)).word.toNat = 0
    ∧ going.unready 0 [48 + bits (2 ^ 53) 55 53] = false ∧ (going.core 0).executes (2 ^ 53) = false := by unfold Sequences; decide

theorem witness_SequencerRules_next : (going.core 0).mode = .running ∧ (going.core 0).pc + 1 < 16384 ∧ (going.core 0).scout.running = false := by decide

theorem witness_SequencerRules_last :
    ((at0 going fun k => { k with pc := 16383 }).core 0).mode = .running ∧ 16384 ≤ ((at0 going fun k => { k with pc := 16383 }).core 0).pc + 1 := by decide

/-- A word of the form D, A, B issues on the running core. -/
theorem witness_ScalarInstructions_dab : let x := iss (wd 0x10 59 1 55 0 0)
    formSDAB x.word.toNat = none ∧ going.unready 0 [fD x.word.toNat, fA x.word.toNat, fB x.word.toNat] = false ∧ Issues x going 0x10 := by
  unfold Issues Sequences; decide

theorem witness_ScalarInstructions_compare : let x := iss (wd 0x22 48 1 55 0 0)
    formSDAB x.word.toNat = none ∧ going.unready 0 [fD x.word.toNat, fA x.word.toNat, fB x.word.toNat] = false ∧ Issues x going 0x22 := by
  unfold Issues Sequences; decide

theorem witness_ScalarInstructions_immediates :
    (isReg (fD (wd 0x1D 3 1 0 0 9).toNat) = true ∧ isReg (fA (wd 0x1D 3 1 0 0 9).toNat) = true ∧ going.unready 0 [3, 1] = false
      ∧ Issues (iss (wd 0x1D 3 1 0 0 9)) going 0x1D)
    ∧ (isReg (fD (wd 0x1E 3 0 0 0 9).toNat) = true ∧ going.unready 0 [3] = false ∧ Issues (iss (wd 0x1E 3 0 0 0 9)) going 0x1E)
    ∧ (isReg (fD (wd 0x1F 3 0 0 0 9).toNat) = true ∧ bits (wd 0x1F 3 0 0 0 9).toNat 45 18 = 0 ∧ Issues (iss (wd 0x1F 3 0 0 0 9)) going 0x1F) := by
  unfold Issues Sequences; decide

theorem witness_ScalarInstructions_predicates : let x := iss (wd 0x28 49 50 48 0 0)
    isPred (fD x.word.toNat) = true ∧ isPred (fA x.word.toNat) = true ∧ isPred (fB x.word.toNat) = true ∧ bits x.word.toNat 33 0 = 0
    ∧ going.unready 0 [fD x.word.toNat, fA x.word.toNat, fB x.word.toNat] = false ∧ Issues x going 0x28 := by unfold Issues Sequences; decide

theorem witness_ControlInstructions_halt : let x := iss (wd 0x01 0 0 0 0 0)
    Issues x going 0x01 ∧ bits x.word.toNat 51 0 = 0 ∧ going.allRetired 0 = true ∧ (going.core 0).pc + 1 < 16384 := by unfold Issues Sequences; decide

theorem witness_ControlInstructions_plain :
    Issues (iss 0) going 0 ∧ Issues (iss (wd 0x02 0 0 0 0 1)) going 0x02 ∧ (going.core 0).porterActive = false
    ∧ Issues (iss (wd 0x03 0 0 0 0 7)) going 0x03 ∧ Issues (iss (wd 0x08 56 1 0 0 7)) going 0x08 := by unfold Issues Sequences; decide

theorem witness_ControlInstructions_branches :
    Issues (iss (wd 0x04 0 0 0 0 7)) going 0x04 ∧ bits (wd 0x04 0 0 0 0 7).toNat 45 44 = 0 ∧ bits (wd 0x04 0 0 0 0 7).toNat 42 14 = 0
    ∧ Issues (iss (wd 0x05 3 0 0 0 7)) going 0x05 ∧ bits (wd 0x05 3 0 0 0 7).toNat 45 14 = 0 := by unfold Issues Sequences; decide

theorem witness_ControlInstructions_jr : let x := iss (wd 0x06 0 1 0 0 0)
    Issues x going 0x06 ∧ isReg (fA x.word.toNat) = true ∧ bits x.word.toNat 39 0 = 0 ∧ ((going.core 0).reg (fA x.word.toNat)).toNat < 16384
    ∧ 16384 ≤ (((setRegs going [(1, 16384)]).core 0).reg (fA x.word.toNat)).toNat := by unfold Issues Sequences; decide

theorem witness_ControlInstructions_loop : let x := iss (wd 0x07 0 0 0 0 7)
    let n (v : Nat) : Nat := (((setRegs going [(56, v)]).core 0).reg (56 + bits x.word.toNat 45 44)).toNat
    Issues x (setRegs going [(56, 2)]) 0x07 ∧ bits x.word.toNat 43 14 = 0 ∧ n 0 = 0 ∧ n 1 = 1 ∧ 2 ≤ n 2 := by unfold Issues Sequences; decide

theorem witness_ScalarFrame : (going.core 0).mode = .running ∧ (going.core 0).scout.running = false ∧ (going.core 0).pc + 1 < 16384
    ∧ fD (wd 0x10 3 1 2 0 0).toNat < 60 := by decide

theorem witness_ScratchpadStore : tabWf 0 owning.mem = true ∧ 0x20000 - 1 + [(1 : Byte), 2].length ≤ 0x400000
    ∧ (∀ i, i < 2 → (scratchAddr (owning.core 0) (0x20000 - 1 + i)).isSome = true) := by decide

theorem witness_LoadsAndStores : let x := iss (wd 0x2A 1 2 0 0 (3 * 2 ^ 38))
    let s := setRegs owning [(2, 0x7FFF8)]
    Issues x s 0x2A ∧ s.heldAll 0 [(0x7FFF8, 0x80000)] = .owned ∧ (s.core 0).rangeBusy [(0x7FFF8, 0x80000)] = false
    ∧ (s.core 0).epochHolds [(0x7FFF8, 0x80000)] = false
    ∧ ((s.core 0).reg (fA x.word.toNat) + BitVec.ofInt 64 (signed 37 x.word.toNat)).toNat = 0x7FFF8 := by unfold Issues Sequences; decide

theorem witness_LoadsAndStores_ld : let x := iss (wd 0x29 3 2 0 0 (3 * 2 ^ 38 + 2 ^ 37))
    Issues x owning 0x29 ∧ owning.heldAll 0 [(0, 8)] = .owned ∧ (owning.core 0).rangeBusy [(0, 8)] = false ∧ bitOf x.word.toNat 37 = true := by
  unfold Issues Sequences; decide

theorem witness_LoadsAndStores_faults :
    (let s := setRegs owning [(2, 0x3FFFFF)]; Issues (iss (wd 0x29 3 2 0 0 (1 * 2 ^ 38))) s 0x29 ∧ 0x400000 < ((s.core 0).reg 2).toNat + 2)
    ∧ (let s := setRegs owning [(2, 1)]; Issues (iss (wd 0x29 3 2 0 0 (1 * 2 ^ 38))) s 0x29 ∧ ((s.core 0).reg 2).toNat % 2 ≠ 0)
    ∧ (let s := setRegs owning [(2, 0x80000)]; Issues (iss (wd 0x29 3 2 0 0 (1 * 2 ^ 38))) s 0x29 ∧ s.heldAll 0 [(0x80000, 0x80002)] = .no) := by
  unfold Issues Sequences; decide

theorem witness_DescriptorRows_move :
    Issues (iss (wd 0x30 4 1 0 0 0)) owning 0x30 ∧ Issues (iss (wd 0x31 4 1 0 0 0)) owning 0x31 ∧ bits (wd 0x30 4 1 0 0 0).toNat 51 50 = 0
    ∧ owning.heldAll 0 [(0, 32)] = .owned ∧ (owning.core 0).rangeBusy [(0, 32)] = false ∧ (owning.core 0).epochHolds [(0, 32)] = false := by
  unfold Issues Sequences; decide

theorem witness_DescriptorRows_field :
    Issues (iss (wd 0x32 4 1 0 0 (8 * 2 ^ 30))) going 0x32 ∧ bits (wd 0x32 4 1 0 0 (8 * 2 ^ 30)).toNat 33 30 = 8
    ∧ bits (wd 0x32 4 1 0 0 (8 * 2 ^ 30)).toNat 29 0 = 0 ∧ Issues (iss (wd 0x33 4 1 0 0 (8 * 2 ^ 30))) going 0x33
    ∧ bits (wd 0x33 4 1 0 0 (8 * 2 ^ 30)).toNat 45 44 = 0 := by unfold Issues Sequences; decide

/-- The word of a CRR or CRW of a control register. -/
def csr (opc d a r : Nat) : W64 := wd opc d a 0 0 (r * 2 ^ 28)

theorem witness_ControlRegisterAccess_read :
    Issues (iss (csr 0x2B 3 0 0x0D)) going 0x2B ∧ csrDefined 0x0D = true ∧ (going.core 0).csrBusy 0x0D = false ∧ bits (csr 0x2B 3 0 0x0D).toNat 39 28 = 0x0D := by
  unfold Issues Sequences; decide

theorem witness_ControlRegisterAccess_write :
    (∀ r ∈ [0x009, 0x00E, 0x020, 0x00D, 0x005, 0x080, 0x08F, 0x00C, 0x008, 0x00A, 0x00B], Issues (iss (csr 0x2C 0 1 r)) going 0x2C
      ∧ (going.core 0).csrBusy r = false) ∧ (going.core 0).epoch.opened = false ∧ (going.core 0).part = none := by
  unfold Issues Sequences; decide

theorem witness_ControlRegisterAccess_ranges :
    (let v := (((setRegs going [(1, 64 * 2 ^ 22)]).core 0).reg 1).toNat; Issues (iss (csr 0x2C 0 1 8)) (setRegs going [(1, 64 * 2 ^ 22)]) 0x2C ∧ bits v 28 22 ≤ 64)
    ∧ (let v := (((setRegs going [(1, 2 ^ 16 - 1024)]).core 0).reg 1).toNat; -16384 ≤ signed 16 v ∧ signed 16 v ≤ -1024)
    ∧ (let v := (((setRegs going [(1, 0)]).core 0).reg 1).toNat; Issues (iss (csr 0x2C 0 1 3)) going 0x2C ∧ -1024 < signed 16 v)
    ∧ (let v := (((setRegs going [(1, 3)]).core 0).reg 1).toNat; Issues (iss (csr 0x2C 0 1 7)) (setRegs going [(1, 3)]) 0x2C ∧ 1 ≤ bits v 7 1 ∧ bits v 7 1 ≤ 64) := by
  unfold Issues Sequences; decide

theorem witness_ControlRegisterAccess_more :
    (Issues (iss (csr 0x2C 0 1 0x0A)) (at0 going fun k => { k with epoch := { k.epoch with opened := true } }) 0x2C)
    ∧ csrStatus 0x001 = true ∧ Issues (iss (csr 0x2C 0 1 0x10)) going 0x2C ∧ ((going.core 0).groups[(0 : Fin 8)]).opened = false
    ∧ Issues (iss (csr 0x2C 0 1 0x180)) going 0x2C ∧ going.bankOwnWrite 0 0 (2 ^ 29) ≠ .stall := by unfold Issues Sequences; decide

theorem witness_ControlRegisterAccess_channels :
    (let s := setRegs going [(1, 1)]; Issues (iss (csr 0x2C 0 1 0x103)) s 0x2C ∧ (s.core 0).csrBusy 0x103 = false
      ∧ ((s.core 0).chans[(0 : Fin 16)]).state.isActive = false ∧ bitOf ((s.core 0).reg 1).toNat 0 = true ∧ bitOf ((s.core 0).reg 1).toNat 1 = false)
    ∧ (let s := at0 (setRegs going [(1, 0x404)]) fun k => { k with chans := k.chans.set (0 : Fin 16) { k.chans[(0 : Fin 16)] with state := .active } }
      Issues (iss (csr 0x2C 0 1 0x103)) s 0x2C ∧ ((s.core 0).chans[(0 : Fin 16)]).state.isActive = true ∧ bitOf ((s.core 0).reg 1).toNat 2 = true
      ∧ bitOf ((s.core 0).reg 1).toNat 10 = ((s.core 0).chans[(0 : Fin 16)]).regs.ns ∧ bits ((s.core 0).reg 1).toNat 5 4 = 0) := by
  unfold Issues Sequences; decide

theorem witness_GroupRows_open : let x := iss (wd 0x47 0 1 0 0 (3 * 2 ^ 25))
    let s := setRegs going [(1, 4 + 2 * 2 ^ 11 + 2 ^ 28)]
    let g := ((s.core 0).groups[(3 : Fin 8)]).fields ((s.core 0).reg 1).toNat
    Issues x s 0x47 ∧ Fin.ofNat 8 (bits x.word.toNat 27 25) = 3 ∧ ((s.core 0).groups[(3 : Fin 8)]).opened = false ∧ g.badConfig false = false
    ∧ (g.slotIxs.any fun h => ((s.core 0).slots[h]).group.isSome) = false
    ∧ (g.slotIxs.any fun h => (s.core 0).slotBusy h.val || (g.init && (s.core 0).epochHoldsSlot h.val)) = false := by
  unfold Issues Sequences; decide

/-- Core 0 with group 3 open over slots 4 and 5, in a mode, and split. -/
def grouped (mode : Nat) (splint : Bool) : State :=
  going.acceptOpen 0 3 { Group.reset with base := 4, count := 2, mode := mode, anchor := -6 } splint

theorem witness_GroupRows_refused :
    ((Group.reset.fields (2 ^ 64 - 1)).badConfig false = true)
    ∧ (let g := { Group.reset with base := 4 }
      g.badConfig false = false ∧ (g.slotIxs.any fun h => (((grouped 0 false).core 0).slots[h]).group.isSome) = true) := by decide

theorem witness_GroupRows_covers : ({ Group.reset with base := 4, count := 2 } : Group).covers (4 : SlotIx).val = true
    ∧ ({ Group.reset with base := 4, count := 2 } : Group).covers (6 : SlotIx).val = false := by decide

theorem witness_GroupRows_close : let s := grouped 0 false
    let x := iss (wd 0x48 0 0 0 0 (3 * 2 ^ 25))
    let g := (s.core 0).groups[(3 : Fin 8)]
    Issues x s 0x48 ∧ bits x.word.toNat 51 28 = 0 ∧ bits x.word.toNat 24 0 = 0 ∧ g.opened = true ∧ g.swapPend = false ∧ g.fields g.cfg = g
    ∧ (g.slotIxs.any fun h => (s.core 0).inflight.any fun i => i.slots.contains h.val) = false := by unfold Issues Sequences; decide

theorem witness_GroupRows_clear : let s := grouped 0 false
    let k := s.core 0
    Issues (iss (wd 0x41 0 0 4 0 0)) s 0x41 ∧ k.isPairTop 4 = false ∧ k.swapping 4 = false ∧ k.slotBusy (k.fillSlot 4) = false
    ∧ k.epochHoldsSlot (k.fillSlot 4) = false := by unfold Issues Sequences; decide

theorem witness_GroupRows_swap : let s := grouped 1 false
    let k := s.core 0
    Issues (iss (wd 0x45 0 0 4 0 0)) s 0x45 ∧ k.groupBased 4 (fun g => g.mode == 1) = some 3 ∧ (k.groups[(3 : Fin 8)]).swapPend = false
    ∧ ((k.groups[(3 : Fin 8)]).init && k.epochHoldsSlot (k.drainSlot (k.groups[(3 : Fin 8)]).base)) = false := by unfold Issues Sequences; decide

theorem witness_GroupRows_swap_end : let k := (at0 (grouped 1 false) fun k => { k with groups := k.groups.set (3 : Fin 8) { k.groups[(3 : Fin 8)] with swapPend := true } }).core 0
    k.groupBased (4 : SlotIx).val (fun g => g.mode == 1 && g.swapPend) = some 3
    ∧ (k.inflight.any fun i => i.readSlots.contains (k.drainSlot 4) || i.slots.contains (k.drainSlot 4)) = false
    ∧ (k.creds.any fun q => q.mode == 0 && q.slot == k.drainSlot 4) = false ∧ k.drainSlot 4 < 64 := by decide

theorem witness_HearthMemory : tabWf 0 State.reset.mem = true := by decide

/-- A 32 × 32 tile of Poxel16 in t0 at 0 and in t1 at 0x1000, Hearth elements in t7 at 0x20000, FP64 in t8 at 0x40000. -/
def tiled (s : State) : State :=
  setT (setT (setT (setT s 0 (tdesc 0 31 31 64 0)) 1 (tdesc 0x1000 31 31 64 0)) 7 (tdesc 0x20000 31 31 256 7)) 8 (tdesc 0x40000 31 31 256 3)

theorem witness_HearthTiles : let s := tiled owning
    let k := s.core 0
    let p := Place.of (k.regNat 1)
    let od := tileOperand k 7 [7] p.row0 p.col0 32 32 true
    let oa := tileOperand k 7 [7] p.row0 p.col0 32 32 false
    Issues (iss (wd 0x42 28 0 4 1 0)) s 0x42 ∧ Issues (iss (wd 0x43 28 0 4 1 0)) s 0x43 ∧ fTD (wd 0x43 28 0 4 1 0).toNat = 7
    ∧ bits (wd 0x43 28 0 4 1 0).toNat 47 40 = 0 ∧ s.checkOperands 0 [od] [] p.ok = .ok ∧ s.checkOperands 0 [oa] [] p.ok = .ok
    ∧ k.slotBusy (k.drainSlot 4) = false ∧ k.blocked (allRanges [od] []) (writtenRanges [od] []) = false
    ∧ k.rangeBusy (allRanges [oa] []) = false := by unfold Issues Sequences; decide +kernel

theorem witness_HearthTiles_fold : let s := grouped 0 true
    let k := s.core 0
    Issues (iss (wd 0x46 0 0 4 0 0)) s 0x46 ∧ k.groupBased 4 (·.splint) = some 3 ∧ k.slotBusy 4 = false ∧ k.slotBusy 5 = false
    ∧ k.epochHoldsSlot 4 = false ∧ k.epochHoldsSlot 5 = false := by unfold Issues Sequences; decide +kernel

theorem witness_LatticeLaunch_mma : let s := tiled (at0 owning fun _ => (grouped 0 false).core 0 |> fun k => { k with windows := (owning.core 0).windows })
    let k := s.core 0
    let w := (wd 0x40 0 4 4 1 0).toNat
    let oa := tileOperand k (fTA w) [0, 1, 2] 0 0 32 32 false
    let ob0 := tileOperand k (fTB w) [0, 1, 2, 4, 5, 6] 0 0 32 32 false
    let ob := { ob0 with pieces := ob0.pieces ++ weightPieces ob0.desc 0 false }
    Issues (iss (wd 0x40 0 4 4 1 0)) s 0x40 ∧ mmaIllegal k w = none ∧ bitOf w 26 = false ∧ k.isPairTop 4 = false ∧ k.swapping 4 = false
    ∧ s.checkOperands 0 [oa, ob] [] true = .ok ∧ k.rangeBusy (allRanges [oa, ob] []) = false ∧ scaleFault [oa, ob] = none
    ∧ weightFault s.mem k ob 0 false = none ∧ (k.groupOf 4).isSome = true ∧ k.unitFull .lattice = false
    ∧ k.epochHoldsSlot (k.fillSlot 4) = false ∧ (k.slots[(Fin.ofNat 64 (k.fillSlot 4) : SlotIx)]).clearing = false
    ∧ (k.inflight.any fun i => i.unit != .lattice && i.slots.contains (k.fillSlot 4)) = false := by unfold Issues Sequences; decide +kernel

theorem witness_LatticeLaunch_drn : let s := tiled owning
    let k := s.core 0
    let x := iss (wd 0x44 0 0 4 1 (2 ^ 21))
    let o := tileOperand k (fTD x.word.toNat) [0, 1, 2] 0 0 32 32 true
    Issues x s 0x44 ∧ drnIllegal x.word.toNat = none ∧ bitOf x.word.toNat 20 = false ∧ bitOf x.word.toNat 19 = false ∧ bitOf x.word.toNat 18 = false
    ∧ (Place.of (k.regNat 1)).ok = true ∧ s.checkOperands 0 [o] [] true = .ok ∧ k.rangeBusy (allRanges [o] []) = false ∧ scaleFault [o] = none
    ∧ k.slotBusy (k.drainSlot 4) = false ∧ k.unitFull .drain = false ∧ k.epochHolds (writtenRanges [o] []) = false := by
  unfold Issues Sequences; decide +kernel

theorem witness_ElementwiseLaunch : let s := tiled owning
    let k := s.core 0
    let x := iss (wd 0x50 0 0 0 1 (31 * 2 ^ 13 + 31 * 2 ^ 8 + 16 * 2 ^ 40))
    let ta := tileOperand k 1 [0, 1] 0 0 32 32 false
    let td := tileOperand k 0 [0, 1] 0 0 32 32 true
    Issues x s 0x50 ∧ ewIllegal ⟨0, true, true, [0, 1], [0, 1], false⟩ x.word.toNat = none ∧ fTA x.word.toNat = 1 ∧ fTB x.word.toNat = 0
    ∧ UnitReady s 0 .elementwise [td, ta, tileOperand k 0 [0, 1] 0 0 32 32 false] [] true := by
  unfold Issues Sequences UnitReady; decide +kernel

theorem witness_ElementwiseLaunch_smoothing : let s := tiled owning
    let k := s.core 0
    let x := iss (wd 0x50 0 0 0 1 (8 * 2 ^ 24 + 31 * 2 ^ 13 + 31 * 2 ^ 8 + 16 * 2 ^ 40 + 2 ^ 6))
    let td := tileOperand k 0 [0, 1, 2, 3] 0 0 32 32 true
    let sv := (k.areg[(0 : Fin 16)]).toNat
    Issues x s 0x50 ∧ ewIllegal ⟨8, false, true, [0, 1, 2, 3], [0, 1, 2, 3], false⟩ x.word.toNat = none ∧ s.unready 0 [fP x.word.toNat, 32] = false
    ∧ smoothFault s.mem k sv 0 (td.desc.colsInside 0 32) = false
    ∧ UnitReady s 0 .elementwise [td, tileOperand k 1 [0, 1, 2, 3] 0 0 32 32 false] [⟨sv, sv + 2 * td.desc.colsInside 0 32, 2, false⟩] true := by
  unfold Issues Sequences UnitReady; decide +kernel

/-- The word of a Lantern function on 32 × 32 elements of t1 into t0, placed by s1. -/
def lnt (fn low : Nat) : W64 := wd 0x58 0 16 0 1 (fn * 2 ^ 22 + 31 * 2 ^ 17 + 31 * 2 ^ 12 + low)

theorem witness_LanternRows_tile : let s := tiled owning
    let k := s.core 0
    let td := tileOperand k 0 [0, 1] 0 0 32 32 true
    let ta := tileOperand k 1 [0, 1] 0 0 32 32 false
    Issues (iss (lnt 0x02 0)) s 0x58 ∧ tileFnIllegal (· == 0x02) false false (lnt 0x02 0).toNat = none ∧ UnitReady s 0 .lantern [td, ta] [] true
    ∧ Issues (iss (lnt 0x04 0)) s 0x58 ∧ tileFnIllegal (· == 0x04) false true (lnt 0x04 0).toNat = none
    ∧ UnitReady s 0 .lantern [td, ta] [⟨0x40000, 0x40000 + 64, 1, false⟩] true := by
  unfold Issues Sequences UnitReady; decide +kernel

theorem witness_LanternRows_utn : let s := at0 (tiled owning) fun k => { k with ltd := k.ltd.set (0 : Fin 16) (BitVec.ofNat 64 (2 * 2 ^ 39)) }
    let k := s.core 0
    Issues (iss (lnt 0x10 0)) s 0x58 ∧ tileFnIllegal (fun g => 0x10 ≤ g && g < 0x20) false false (lnt 0x10 0).toNat = none
    ∧ (k.inflight.any fun (q : InFlight) => q.table) = false ∧ (utDesc k (lnt 0x10 0).toNat).bad = false := by
  unfold Issues Sequences; decide +kernel

theorem witness_LanternRows_sets : let s := tiled owning
    let k := s.core 0
    let w (fn : Nat) : W64 := wd 0x58 0 0 0 1 (fn * 2 ^ 22)
    k.unitFull .lantern = false ∧ k.setBusy 0 = false ∧ Issues (iss (w 0x20)) s 0x58 ∧ plainIllegal 0x20 false true true (w 0x20).toNat = none
    ∧ plainIllegal 0x24 true true true (w 0x24).toNat = none ∧ s.checkOperands 0 [] [⟨0, 192, 64, true⟩] = .ok ∧ k.blocked [(0, 192)] [(0, 192)] = false
    ∧ isScale 0 = true ∧ plainIllegal 0x26 true false true (wd 0x58 0 0 0 0 (0x26 * 2 ^ 22)).toNat = none
    ∧ s.checkOperands 0 [] [⟨0, 1024, 32, true⟩] = .ok ∧ k.blocked [(0, 1024)] [(0, 1024)] = false
    ∧ plainIllegal 0x27 true false true (wd 0x58 0 0 0 0 (0x27 * 2 ^ 22)).toNat = none ∧ s.checkOperands 0 [] [⟨0, 1024, 32, false⟩] = .ok := by
  unfold Issues Sequences; decide +kernel

theorem witness_LanternRows_ltload : let s := setRegs owning [(1, 4095 + 1 * 2 ^ 16)]
    let k := s.core 0
    let x := iss (wd 0x58 0 0 0 1 (0x28 * 2 ^ 22))
    Issues x s 0x58 ∧ plainIllegal 0x28 true true false x.word.toNat = none ∧ (k.inflight.any fun (q : InFlight) => q.table) = false
    ∧ k.epoch.opened = false ∧ 1 ≤ bits (k.regNat 1) 28 16 ∧ bits (k.regNat 1) 11 0 + bits (k.regNat 1) 28 16 ≤ 4096
    ∧ s.checkOperands 0 [] [⟨0, 4, 1, false⟩] = .ok ∧ k.blocked [(0, 4)] [] = false := by unfold Issues Sequences; decide +kernel

/-- Whether the input of a statistic or NORMA is accepted. -/
def accepted : StatInput → Bool
  | .ok _ _ _ _ => true
  | _ => false

theorem witness_LanternRows_statistics : let s := tiled owning
    accepted (s.statInput 0 (lnt 0x21 0).toNat []) = true ∧ statIllegal 0x21 (lnt 0x21 0).toNat = none
    ∧ accepted (s.statInput 0 (lnt 0x25 0).toNat [tileOperand (s.core 0) 0 [0, 1] 0 0 32 32 true]) = true ∧ isS (fP (lnt 0x25 0).toNat) = true
    ∧ lFN (lnt 0x25 0).toNat = 0x25 ∧ fTB (lnt 0x25 0).toNat = 0 ∧ fH (lnt 0x25 0).toNat = 0 ∧ ((s.core 0).stats[(0 : Fin 2)]).done = false := by
  decide +kernel

theorem witness_IeeeRows_fv : let s := setT owning 0 (tdesc 0x40000 31 31 128 2)
    let k := s.core 0
    let x := iss (wd 0x60 0 0 0 1 (31 * 2 ^ 19 + 31 * 2 ^ 14))
    let td := tileOperand k 0 [2, 3] 0 0 32 32 true
    let ta := tileOperand k 0 [2] 0 0 32 32 false
    Issues x s 0x60 ∧ fvIllegal ⟨0, true, false⟩ x.word.toNat = none ∧ UnitReady s 0 .ieee [td, ta, ta] [] true := by
  unfold Issues Sequences UnitReady; decide +kernel

theorem witness_IeeeRows_ssq : let s := setT owning 0 (tdesc 0x40000 31 31 128 2)
    let k := s.core 0
    let x := iss (wd 0x60 0 0 0 1 (9 * 2 ^ 24 + 31 * 2 ^ 19 + 31 * 2 ^ 14 + 5))
    Issues x s 0x60 ∧ fvOp x.word.toNat = 9 ∧ fH x.word.toNat = 0 ∧ bits x.word.toNat 13 6 = 0 ∧ isS (bits x.word.toNat 5 0) = true
    ∧ UnitReady s 0 .ieee [tileOperand k 0 [2, 3] 0 0 32 32 false] [] true := by unfold Issues Sequences UnitReady; decide +kernel

theorem witness_IeeeRows_fs : let x := iss (wd 0x61 3 1 2 0 (12 * 2 ^ 30))
    let y := iss (wd 0x61 3 1 2 0 (5 * 2 ^ 30))
    Issues (iss (wd 0x61 3 1 0 0 (12 * 2 ^ 30))) going 0x61 ∧ bits x.word.toNat 33 30 = 12 ∧ Issues y going 0x61 ∧ bits y.word.toNat 33 30 = 5
    ∧ isReg (fB y.word.toNat) = true ∧ bits y.word.toNat 28 0 = 0 ∧ going.unready 0 [3, 1, 2] = false ∧ (going.core 0).unitFull .ieee = false := by
  unfold Issues Sequences; decide +kernel

/-- Core 0 with s31, a0, a1 at 0, 0x100 and 0x200: two descriptors and a chain. -/
def ringed : State := setRegs owning [(32, 0x100), (33, 0x200)]

theorem witness_AbacusLaunch : let s := ringed
    let x := iss (wd 0x70 3 32 33 0 (3 * 2 ^ 24 + 2 ^ 23 + 1))
    let w := x.word.toNat
    let k := s.core 0
    Issues x s 0x70 ∧ abIllegal 3 false (bits w 22 18 == 0) w = none ∧ s.unready 0 [3, 32, 33] = false ∧ k.unitFull .abacus = false
    ∧ s.checkOperands 0 [] [⟨0x100, 0x120, 32, false⟩, ⟨0x200, 0x220, 32, false⟩] = .ok ∧ k.rangeBusy [(0x100, 0x120), (0x200, 0x220)] = false
    ∧ (autoPlan 0 w s).code ≠ 0 := by unfold Issues Sequences; decide +kernel

/-- An operation in flight that writes s5 when it retires. -/
def waitingOp : InFlight := ⟨.ieee, 0, 0, none, [.reg 5 7], [], [], [], [5], [], false, [], 0⟩

theorem witness_Retirement : let s := at0 going fun k => { k with inflight := [] ++ waitingOp :: [] }
    (s.core 0).inflight = [] ++ waitingOp :: [] ∧ (∀ q ∈ ([] : List InFlight), q.unit ≠ ExecUnit.ieee) ∧ waitingOp ∉ ([] : List InFlight)
    ∧ waitingOp.unit = .ieee ∧ (∀ op ∈ (going.core 0).inflight, op.unit ≠ ExecUnit.ieee) := by decide

theorem test_retire_writes : ((nextOf (exec (.ieeeRetire 0) (at0 going fun k => { k with inflight := [waitingOp] }))).core 0).reg 5 = 7 := by decide

theorem witness_Retirement_drain : (going.core 0).drnNf = false ∧ ((at0 going fun k => { k with drnNf := true }).core 0).drnNf = true := by decide

/-- Partition 0 is FORMED with cores 0 and 1, eight contexts, rings of 16 entries, an aperture of 1 MiB at 0 and Bus Master Enable;
core 0 runs and owns four banks, four banks of core 1 are FREE. -/
def formed : State :=
  let s := owning.modCore 0 fun k => { k with part := some 0 }
  let s := s.modCore 1 fun k => { k with part := some 0, mode := .halted, power := { k.power with state := 0 } }
  let s := objSet (objSet (objSet (objSet s (some 0) 0x4010 7 2) (some 0) 0x4050 1 8) (some 0) 0x4010 0xD 16) (some 0) 0x4010 0xA 0x10000
  let s := objSet s (some 0) 0x4010 1 3
  let s := (objSet s (some 0) 0xC031 1 (2 ^ 84 + 3)).cfgSet 0 1 4
  (List.range 4).foldl (fun s b => s.setBank 1 (Fin.ofNat 32 (b + 8)) .free) s

/-- A scale history record at 0 whose length is 16. -/
def recorded : State := owning.shWrite 0 0 { ShRec.ofNat 0 with len := 16 }

theorem witness_ScaleHistory : let s := recorded
    let k := s.core 0
    let x := iss (wd 0x6A 0 1 2 0 0)
    Issues x s 0x6A ∧ s.unready 0 [fD x.word.toNat, fA x.word.toNat, fB x.word.toNat, fC x.word.toNat] = false ∧ k.regNat 1 % 128 = 0
    ∧ s.heldAll 0 [(0, 128)] = .owned ∧ k.rangeBusy [(0, 128)] = false ∧ k.shder = none ∧ (s.shRead 0 0).bad = false ∧ (owning.shRead 0 0).bad = true
    ∧ Issues (iss (wd 0x68 0 1 0 0 16)) s 0x68 ∧ Issues (iss (wd 0x69 0 1 0 0 7)) s 0x69 ∧ k.amxBusy 7 = false
    ∧ Issues (iss (wd 0x6B 0 1 2 0 0)) s 0x6B ∧ Issues (iss (wd 0x6D 3 1 2 4 0)) (setRegs s [(4, 1)]) 0x6D := by unfold Issues Sequences; decide +kernel

theorem witness_ScaleHistory_misplaced : (setRegs recorded [(1, 64)]).core 0 |>.regNat 1 |> (· % 128 ≠ 0) := by decide

theorem witness_ScaleHistory_records : let r : ShRec := ({ ShRec.ofNat 0 with step0 := 3 }).valid true false
    r.ent.length = 32 ∧ r.head < 32 ∧ r.p0v = true ∧ r.step0 = 3 ∧ (ShRec.ofNat 0).p0v = false ∧ (ShRec.ofNat 0).p1v = false
    ∧ (ShRec.ofNat 0).nval = 0 ∧ 0 < ({ ShRec.ofNat 0 with nval := 1, cstep := 5 } : ShRec).nval := by decide +kernel

theorem witness_ScaleDerive : let s := recorded
    let k := s.core 0
    let x := iss (wd 0x6C 3 1 0 0 0)
    Issues x s 0x6C ∧ s.unready 0 [3, 1] = false ∧ k.shder = none ∧ s.heldAll 0 [(0, 128)] = .owned ∧ k.rangeBusy [(0, 128)] = false
    ∧ (s.shRead 0 0).bad = false ∧ s.scaleMarionette 0 = false := by unfold Issues Sequences; decide +kernel

/-- The SCALE duty of the formed partition at Marionette, a HOST aperture from 0, a record whose host address is HOST 0x1000. -/
def scaleAtHost : State :=
  objSet (formed.shWrite 0 0 { ShRec.ofNat 0 with len := 16, haddr := 2 ^ 60 + 0x1000 }) (some 0) 0x5100 2 1

theorem witness_ScaleDerive_host : let s := scaleAtHost
    let x := iss (wd 0x6C 3 1 0 0 0)
    Issues x s 0x6C ∧ s.scaleMarionette 0 = true ∧ (s.shRead 0 0).bad = false
    ∧ s.shHostOk 0 (2 ^ 60 + 0x1000) 0 8 false = true ∧ s.shHostOk 0 (2 ^ 60 + 2 ^ 20) 0 8 false = false := by unfold Issues Sequences; decide +kernel

theorem witness_ScaleDerive_arrival : let q : ShderWait := ⟨3, 0, 0, 0, 0, 0, 0, 0, .asked 4, 0⟩
    let s := at0 recorded fun k => { k with shder := some q }
    (s.core 0).shder = some q ∧ q.phase = .asked 4 ∧ bits (leNat (List.replicate 8 (0 : Byte))) 63 32 = q.step.toNat
    ∧ bits (leNat (List.replicate 8 (0 : Byte))) 15 0 < 0x8000 ∧ isScale (bits (leNat (List.replicate 8 (0 : Byte))) 15 0) = true
    ∧ bits (leNat (List.replicate 8 (0 : Byte))) 15 0 = q.derived ∧ bits (leNat ((0 : Byte) :: 0 :: 0 :: 0 :: 1 :: [])) 63 32 ≠ q.step.toNat
    ∧ ({ q with phase := .pause } : ShderWait).phase = .pause ∧ ∀ tag, ({ q with phase := .pause } : ShderWait).phase ≠ .asked tag := by
  refine ⟨by decide +kernel, by decide +kernel, by decide +kernel, by decide +kernel, by decide +kernel, by decide +kernel, by decide +kernel,
    by decide +kernel, fun _ h => nomatch h⟩

/-- A CRED of a mode on local context 2 by s1, its outcome to s5. -/
def cred (mode low : Nat) : W64 := wd 0x49 0 0 0 1 (2 * 2 ^ 25 + mode * 2 ^ 22 + low + 5)

theorem witness_CredInstructions : let s := formed
    let w := (cred 3 (2 ^ 13)).toNat
    Issues (iss (cred 3 (2 ^ 13))) s 0x49 ∧ credIllegal 3 w = none ∧ s.unready 0 ([fP w, credOreg w] ++ [48 + credSreg w]) = false
    ∧ (s.core 0).part = some 0 ∧ (s.parts[(0 : PartId)]).canopy.find? (fun (e : Nat × Fin 8) => e.1 == bits w 27 25) = none := by
  unfold Issues Sequences; decide +kernel

theorem witness_CredInstructions_context : let s := formed.modPart 0 fun p => { p with canopy := [(2, 4)] }
    let w := (cred 3 (2 ^ 13)).toNat
    Issues (iss (cred 3 (2 ^ 13))) s 0x49 ∧ (s.parts[(0 : PartId)]).canopy.find? (fun (e : Nat × Fin 8) => e.1 == bits w 27 25) = some (bits w 27 25, 4)
    ∧ (s.canopy[(4 : Fin 8)]).settled ≤ tabGet 0 (s.canopy[(4 : Fin 8)]).counts 0
    ∧ ¬(4 ≤ ((s.canopy[(4 : Fin 8)]).reds.filter fun (r : Reduction) => r.issued != []).length) := by unfold Issues Sequences; decide +kernel

theorem witness_CredInstructions_hearth : let k := formed.core 0
    let w := (cred 0 0).toNat
    Issues (iss (cred 0 0)) formed 0x49 ∧ credIllegal 0 w = none ∧ k.isPairTop (fH w) = false ∧ k.groupOf (bits (k.regNat (fP w)) 45 40) = none
    ∧ k.swapping (fH w) = false ∧ k.slotBusy (k.drainSlot (fH w)) = false ∧ k.slotBusy 0 = false ∧ k.epochHoldsSlot 0 = false
    ∧ Issues (iss (cred 1 (2 * 2 ^ 19))) formed 0x49 ∧ k.amxBusy 2 = false := by unfold Issues Sequences; decide +kernel

theorem witness_BankInstructions_claim : let x := iss (wd 0x80 3 0 0 0 0)
    Issues x formed 0x80 ∧ (formed.core 0).epoch.opened = false ∧ formed.bankBusy 0 = false ∧ formed.adoptClaim 0 0 3 = none
    ∧ formed.candidates 0 ≠ [] ∧ owning.candidates 0 = [] ∧ Issues x owning 0x80 := by unfold Issues Sequences; decide +kernel

theorem witness_BankInstructions_give : let x := iss (wd 0x81 3 1 2 0 0)
    Issues x (setRegs formed [(2, 1)]) 0x81 ∧ formed.inTransit 0 0 = false ∧ (formed.core 0).windows[(0 : BankIx)] = some 0
    ∧ formed.giveReady 0 0 (formed.core 0).issued ((formed.core 0).chansIn 0) = true ∧ (formed.core 0).windows[(9 : BankIx)] = none ∧ 31 < ((setRegs formed [(1, 32)]).core 0).regNat 1 := by
  unfold Issues Sequences; decide +kernel

theorem witness_BankInstructions_free : let x := iss (wd 0x82 3 1 0 0 0)
    Issues x formed 0x82 ∧ formed.inTransit 0 0 = false ∧ (formed.core 0).windows[(0 : BankIx)] = some 0 ∧ formed.giveReady 0 0 (formed.core 0).issued ((formed.core 0).chansIn 0) = true := by
  unfold Issues Sequences; decide +kernel

/-- Case 8.1: counting up from 40, the ring engine of P3 at position 67 comes before core 17. -/
theorem test_contest : contestWinner 40 [.core 17, .ring 3] = some (.ring 3) := by decide

/-- Core 0 asks for bank 8 of core 1, and a handover of its bank 0 to core 1 is under way. -/
def aClaim : Claim := ⟨.core 0, 0, 3, [(1, 8)], 0, 0⟩
def aHandover : Handover := ⟨0, 0, some 0, 1, .give 3, false, false, 0, 0, []⟩

theorem witness_BankMoves_claim : let s := { formed with claims := [aClaim] }
    (s.claims.filter fun r => [Requester.core 0].contains r.who && r.cands.head? == some (1, 8)) = [aClaim]
    ∧ ((s.core aClaim.target).windows[(8 : BankIx)]) = none ∧ s.bank 1 8 = .free ∧ s.unitGated 1 8 = false := by decide +kernel

theorem witness_BankMoves_handover : let s := { formed with handovers := [aHandover] }
    s.handovers.find? (fun g => g.home == 0 && g.bank == 0 && !g.sent) = some aHandover ∧ s.giveReady 0 0 0 [] = true
    ∧ s.handoverRefusal aHandover = none ∧ s.handoverRefusal { aHandover with target := 5 } = some 3
    ∧ s.handoverRefusal ⟨0, 0, none, 1, .ring 0, false, false, 0, 0, []⟩ = none := by decide +kernel

theorem witness_BankMoves_later : let h := { aHandover with sent := true }
    [h].find? (fun g => g.home == 0 && g.bank == 0 && g.sent && !g.recorded) = some h
    ∧ [{ h with recorded := true }].find? (fun g => g.home == 0 && g.bank == 0 && g.recorded) = some { h with recorded := true }
    ∧ [h].find? (fun g => g.home == 0 && g.bank == 0 && g.sent) = some h ∧ h.source = some 0
    ∧ (formed.setBank 0 0 (.clearing .pool)).bank 0 0 = .clearing .pool := by decide +kernel

/-- Context 1 of the formed partition: OPEN from core 0 to core 0, one credit, slots of 256 bytes in a ring of two at 0x20000. -/
def openCtx : Ctx := { Ctx.reset with state := 1, ring := 0x800, slotExp := 2, depthExp := 1, cred := 1 }
def streamed : State := formed.setCtx 1 openCtx

theorem witness_StreamRows : let s := setRegs streamed [(1, 1), (3, 200)]
    let x := iss (wd 0x78 4 1 2 3 0)
    let isDone : StreamResult → Bool := fun r => match r with | .done _ _ => true | _ => false
    Issues x s 0x78 ∧ s.checkOperands 0 [] [⟨0, 200, 1, false⟩] = .ok ∧ (s.core 0).rangeBusy [(0, 200)] = false
    ∧ isDone (s.streamTry 0 x.word.toNat) = true ∧ isDone (s.streamTry 0 (wd 0x79 4 1 2 3 0).toNat) = false
    ∧ Issues (iss (wd 0x79 4 1 2 3 0)) s 0x79 ∧ s.checkOperands 0 [] [⟨0, 200, 1, true⟩] = .ok
    ∧ Issues (iss (wd 0x7A 4 1 0 0 0)) s 0x7A ∧ isDone (s.streamTry 0 (wd 0x7A 4 1 0 0 0).toNat) = true := by
  unfold Issues Sequences; decide +kernel

theorem witness_StreamRows_context : streamed.ctxOf 0 1 = some (1, openCtx) ∧ openCtx.clearing = false ∧ openCtx.sends 0 = true ∧ openCtx.receives 0 = true
    ∧ 1 ≤ 248 ∧ 248 ≤ openCtx.slotBytes - 8 ∧ openCtx.slotBytes - 8 < 249 ∧ openCtx.cred ≠ 0 ∧ openCtx.remote = false
    ∧ bitOf (streamed.slotHdr openCtx (openCtx.rcvd.toNat + openCtx.ercvd)) 24 = false := by decide +kernel

theorem witness_StreamRows_message : let s := { streamed with mem := scratchWrite streamed.mem (streamed.core 0) 0x20000 (leBytes 8 (2 ^ 24 + 200)) }
    bitOf (s.slotHdr openCtx (openCtx.rcvd.toNat + openCtx.ercvd)) 24 = true ∧ bitOf (s.slotHdr openCtx (openCtx.rcvd.toNat + openCtx.ercvd)) 25 = false
    ∧ bits (s.slotHdr openCtx (openCtx.rcvd.toNat + openCtx.ercvd)) 23 0 = 200 ∧ (s.core 0).epoch.opened = false := by decide +kernel

theorem witness_StreamArrivals : streamed.ctxOf 0 1 = some (1, openCtx)
    ∧ takeTraffic (isMsg 0 1) (sameData openCtx) [.credit 0 1 1 0 0, .msg 0 1 0 none [1] 0 0] = some (.msg 0 1 0 none [1] 0 0, [.credit 0 1 1 0 0])
    ∧ takeTraffic (isMsg 0 1) (sameData openCtx) [.msg 0 2 0 none [1] 0 0, .msg 0 1 0 none [1] 0 0] = none
    ∧ takeTraffic (isCredit 0 1) (sameControl openCtx) [.credit 0 1 1 0 0] = some (.credit 0 1 1 0 0, [])
    ∧ openCtx.state ≠ 0 := by decide +kernel

theorem witness_EpochRows : let s := setRegs going [(1, 7)]
    let k := s.core 0
    Issues (iss (wd 0x88 0 1 0 0 0)) s 0x88 ∧ k.epoch.opened = false ∧ k.inflight = [] ∧ k.shder = none ∧ s.bankRegs 0 = []
    ∧ s.verdictPassed 0 ((k.reg 1).truncate 32) = false ∧ k.part = none ∧ k.epochNamed (wd 0x89 0 1 0 0 0).toNat = false
    ∧ Issues (iss (wd 0x89 0 1 0 0 0)) s 0x89 ∧ Issues (iss (wd 0x8A 0 1 0 0 0)) s 0x8A := by unfold Issues Sequences; decide +kernel

theorem witness_EpochRows_open : let s := nextOf (exec (.epb (iss (wd 0x88 0 1 0 0 0))) (setRegs going [(1, 7)]))
    let k := s.core 0
    k.epoch.opened = true ∧ k.epochNamed (wd 0x89 0 1 0 0 0).toNat = true ∧ Issues (iss (wd 0x89 0 1 0 0 0)) s 0x89
    ∧ Issues (iss (wd 0x8A 0 1 0 0 0)) s 0x8A ∧ k.epoch.snapshot.isSome = true ∧ k.inflight = [] ∧ k.scout.running = false := by
  unfold Issues Sequences; decide +kernel

theorem witness_EpochRows_scout : (going.core 0).scoutEn = true ∧ (going.core 0).mode = .running ∧ (going.core 0).epoch.discarding = false
    ∧ (iss 0).ecc ≠ .double ∧ (going.core 0).scout.running = false
    ∧ ((going.modCore 0 fun k => { k with mode := .clearing }).core 0).mode = .clearing := by decide

theorem witness_PorterInstructions : let x := iss (wd 0x83 4 1 2 3 (2 * 2 ^ 24))
    Issues x going 0x83 ∧ bits x.word.toNat 23 0 = 0 ∧ going.unready 0 [4, 1, 2, 3] = false ∧ going.adoptTransfer 0 2 = none
    ∧ ((going.core 0).chans[(2 : ChanIx)]).state.isActive = false
    ∧ (going.core 0).epochHoldsStart (((going.core 0).chans[(2 : ChanIx)]).pgo 0 0 0 0).regs = false
    ∧ Issues (iss (wd 0x84 4 0 0 0 (2 * 2 ^ 24))) going 0x84 := by unfold Issues Sequences; decide +kernel

/-- Core 0 with a copy of 8 bytes from 0x100 to 0x206 queued on channel 0. -/
def copying (src : Nat) : State := setRegs owning [(1, src), (2, 0x206), (3, 8), (4, 1)] |> fun s => nextOf (exec (.pgo (iss (wd 0x83 4 1 2 3 0))) s)

theorem witness_PorterEngine : let ch := ((copying 0x100).core 0).chans[(0 : ChanIx)]
    ch.state = .queued ∧ ch.checked = false ∧ ch.checkStatic = 0 ∧ (copying 0x100).checkAccess 0 0 ch = some 0 ∧ spaceOf ch.regs.dstAddr ≠ 2
    ∧ (((copying (2 ^ 63)).core 0).chans[(0 : ChanIx)]).checkStatic ≠ 0 ∧ (((copying 0x100).core 0).porterActive = true)
    ∧ (∀ j : ChanIx, (((copying 0x100).core 0).chans[j]).aborting = false) ∧ (going.core 0).pickChan (going.beatReady 0) = none := by decide +kernel

theorem witness_PorterEngine_beat : let s := nextOf (exec (.porterChecksDone 0 0) (copying 0x100))
    (((s.core 0).pickChan (s.beatReady 0)).map (·.1)) = some 0 := by decide +kernel

theorem witness_PorterCopyBeat : let s := nextOf (exec (.porterChecksDone 0 0) (copying 0x100))
    let g := ((s.core 0).chans[(0 : ChanIx)]).regs
    g.mode = 0 ∧ spaceOf g.srcAddr = 0 ∧ spaceOf (g.dstAddr + ((s.core 0).chans[(0 : ChanIx)]).wdone) = 0
    ∧ ((s.core 0).chans[(0 : ChanIx)]).spec = false ∧ (s.core 0).part = none := by decide +kernel

/-- 09 R228: the beat ends at the 8-byte boundary the transfer's end is not behind: all 8 bytes go out at once as the last beat. -/
theorem test_copy_beat : let s := nextOf (exec (.porterChecksDone 0 0) (copying 0x100))
    let t := nextOf (exec (.porterBeat ⟨0, [], []⟩) { s with mem := scratchWrite s.mem (s.core 0) 0x100 [1, 2, 3, 4, 5, 6, 7, 8] })
    scratchBytes t.mem (t.core 0) 0x206 8 = [1, 2, 3, 4, 5, 6, 7, 8] ∧ ((t.core 0).chans[(0 : ChanIx)]).state = .done := by decide +kernel

/-- A command of an opcode with a payload, fetched and at a stage; it arrived first. -/
def cmdOf (opc : Nat) (payload : List Byte) (stage : CmdStage) : Command := ⟨0, opc, 1, 9, 5, 8, payload, 0, 0, true, stage, 0, 0, false, none, 0, none⟩

/-- The formed partition on a KV2-P that has started: its link is up, its camp is 7, this die is rank 0 at seat and coordinate 0 of a 2 × 1 × 1 torus. -/
def live : State :=
  let s := { formed with pins := { formed.pins with mainPg := true, perst := false }, boot := { formed.boot with due := false } }
  let s := objSet (objSet (objSet (objSet s none 0x3000 2 7) none 0x2000 2 4) none 0xC010 2 16) none 0x4000 1 1
  let s := objSet (objSet (objSet s (some 0) 0x4010 0xB 16) (some 0) 0x4010 8 7) (some 0) 0x7100 7 2
  objSet (objSet (objSet (objSet s none 0x7000 1 1) none 0x7000 2 0) none 0x7000 3 0) (some 0) 0x7100 6 0

/-- The same die as a KV2-C. -/
def chiplet : State := { live with delivery := .kv2c }

theorem witness_RingPage : live.power.entering = .nothing ∧ ({ live.power with entering := .nap } : Power).entering ≠ .nothing ∧ (⟨5, true⟩ : RegAccess).aligned = true ∧ (⟨5, false⟩ : RegAccess).aligned = false ∧ live.partState 0 = 2 ∧ live.partState 1 ≠ 2
    ∧ live.cmdDbOk 0 5 = true ∧ live.cmdDbOk 0 16 = false ∧ live.delivery = .kv2p ∧ bits 5 31 16 = 0 ∧ bits 5 15 0 < objGet live (some 0) 0x4010 0xD
    ∧ (live.parts[(0 : PartId)]).unread < 5 ∧ (live.parts[(0 : PartId)]).vecPending = 0 ∧ 0x1000 ≤ 0x107C ∧ 0x107C < 0x1080 := by decide +kernel

theorem witness_RingPage_holdoff : let s := live.modPart 0 fun p => { p with intMod := 0x10000, unsignalled := 3 }
    bits ((s.parts[(0 : PartId)]).intMod).toNat 23 8 ≠ 0 ∧ (s.parts[(0 : PartId)]).unsignalled ≠ 0 := by decide +kernel

theorem witness_RingEngine_fetch : let s := live.modPart 0 fun p => { p with observed := 1 }
    let p := s.parts[(0 : PartId)]
    s.partState 0 = 2 ∧ p.fetching = false ∧ (p.commands.any fun (c : Command) => c.stage == .waiting) = false ∧ objGet s (some 0) 0x4010 0xE ≠ p.observed
    ∧ s.busMaster 0 = true ∧ s.readRoom = true ∧ s.cplFree 0 = true ∧ (s.modPart 0 fun p => { p with unread := 16 }).cplFree 0 = false ∧ p.fullWait = false := by
  decide +kernel

theorem witness_RingEngine_timeout : let c := cmdOf 0 [] .waiting
    ([c].find? fun (c : Command) => c.stage == .waiting) = some c ∧ (List.replicate 64 (0 : Byte)).length = 64 := by decide

theorem witness_RingEngine_record : objGet live (some 0) 0x4010 0xF < objGet live (some 0) 0x4010 0xD ∧ objGet live (some 0) 0x4010 0xD ≤ 32768
    ∧ tabWf 0 live.objs = true := by decide +kernel

/-- The partition with one command admitted and next to start. -/
def commanded (opc : Nat) (payload : List Byte) (stage : CmdStage) : State := live.modPart 0 fun p => { p with commands := [cmdOf opc payload stage] }

/-- The payload of a START of core 1 at word 0. -/
def startPayload : List Byte := 2 :: List.replicate 47 0

theorem witness_RingCommands_start : let s := commanded 1 startPayload .admitted
    let c := cmdOf 1 startPayload .admitted
    (s.parts[(0 : PartId)]).nextStart 1 = some c ∧ s.startWaits 0 c = false ∧ s.progBusy 0 c = false ∧ s.coreStateBad c = false
    ∧ c.named = [1] := by decide +kernel

theorem witness_RingCommands_next : ∀ opc ∈ [0, 2, 3, 4, 5, 6, 7], let c := cmdOf opc startPayload .admitted
    ([c].find? fun (c : Command) => c.stage == .admitted) = some c ∧ (opc ≠ 0 → ({ Partition.reset with commands := [c] } : Partition).nextStart opc = some c) := by decide +kernel

theorem witness_RingCommands_contexts : let s := commanded 6 (List.replicate 48 0) .admitted
    s.ctxBad 0 (cmdOf 6 (List.replicate 48 0) .admitted) = false ∧ s.freeCanopy = some 0
    ∧ ((s.modPart 0 fun p => { p with canopy := [(0, 3)] }).ctxBad 0 (cmdOf 7 (List.replicate 48 0) .admitted)) = false := by decide +kernel

/-- STREAM_OPEN of context 1 between core 0 and core 0: slots of 64 bytes, one slot, at 0. -/
def openPayload : List Byte := leBytes 4 1 ++ [0, 0, 0, 0] ++ List.replicate 40 0

theorem witness_RingCommands_open : let c := cmdOf 4 openPayload .admitted
    live.openOrder 0 c = 0 ∧ live.ctxOf 0 (c.field 16 4) = some (1, Ctx.reset) ∧ live.openOrder 0 (cmdOf 4 (leBytes 4 8 ++ List.replicate 44 0) .admitted) ≠ 0 := by
  decide +kernel

theorem witness_RingCommands_running : let s := commanded 1 startPayload .running
    let c := cmdOf 1 startPayload .running
    (s.parts[(0 : PartId)]).runningStart = some c ∧ (∀ k ∈ c.named, (s.core k).mode = .halted) ∧ s.channelsRun 0 = false ∧ c.ended = none
    ∧ ({ c with ended := some (5, 2, 0) } : Command).ended = some (5, 2, 0)
    ∧ (s.modCore 0 fun q => { q with chans := q.chans.set (0 : Fin 16) { q.chans[(0 : Fin 16)] with state := .active } }).channelsRun 0 = true
    ∧ c.run ≠ 0 ∧ (∀ k ∈ c.named, ((s.modCore k fun q => { q with mode := .running }).core k).mode = .running) := by decide +kernel

theorem witness_RingCommands_stage : let c := { cmdOf 5 (List.replicate 4 0 ++ leBytes 4 4 ++ leBytes 8 (2 ^ 60)) .running with work := some (1, 8), asked := 4 }
    let s := live.modPart 0 fun p => { p with commands := [c] }
    s.filling 0 = some (c, 1, 8) ∧ spaceOf (c.field 24 8) = 1 ∧ c.field 20 4 = 4 ∧ c.field 20 4 ≤ c.asked ∧ s.delivery = .kv2p := by decide +kernel

/-- A request with its CRC right. -/
def goodReq (op index sub : Nat) (data : List Byte) : Request :=
  let p := { pdu op index sub data with die := 0x8000 }
  ⟨.mailbox, 0, 0, { p with crc := crc16 ((pduBytes p).take 14 ++ data) }⟩

theorem witness_GuylineRequests : let r := goodReq 1 0x1000 1 []
    let s := { live with warden := { live.warden with queue := [r] } }
    r.pdu.op = 1 ∧ s.nextRequest = some r ∧ live.nextRequest ≠ some r ∧ r ∉ live.warden.queue ∧ (live.comesIn r).nextRequest = some r
    ∧ isWrite (goodReq 2 0x8300 1 []) 0x8300 1 = true ∧ pduCrcOk r.pdu = true := by decide +kernel

theorem witness_RequestEffects : let r := goodReq 1 0x1000 1 []
    live.elsewhere r = false ∧ blockOnly r.pdu = false ∧ r.pdu.data = [] ∧ (live.checkAccessTo r false).1 = 0
    ∧ (live.checkAccessTo (goodReq 1 0x0FFF 1 []) false).1 ≠ 0 ∧ (live.checkAccessTo (goodReq 2 0x1000 1 [0]) true).1 ≠ 0 := by decide +kernel

theorem witness_RequestEffects_codes : live.formCode 0 ≠ 0 ∧ live.hostActive 0 = false ∧ live.partState 0 = 2 ∧ live.partState 1 = 0 ∧ live.campOf 0 ≠ 0 ∧ live.emberRefusal ≠ 0
    ∧ live.inBivouac = false ∧ live.patrol.running = false ∧ live.patrol.banks = [] ∧ live.patrol.cores = [] := by decide +kernel

/-- The form values of 12 R291 for a partition of core 2. -/
def forming : State := objSet (objSet (objSet (objSet live none 0x4100 2 4) none 0x4000 2 0xFFFFFFFFFFFFFFFF) none 0x4100 0xB 1) none 0x4100 3 1

theorem witness_RequestEffects_ember : let s := { State.reset with pins := { State.reset.pins with mainPg := true, perst := true } }
    let t := objSet s none 0x2000 2 4
    t.emberRefusal = 0 ∧ t.devState ≠ 1 ∧ t.patrol.running = false := by decide +kernel

theorem witness_Formation : let s := objSet live (some 0) 0x4010 7 1
    s.partState 0 = 1 ∧ live.partState 0 ≠ 1 ∧ s.allClear 0 = true ∧ (s.modCore 1 fun k => { k with mode := .clearing }).allClear 0 = false := by decide +kernel

theorem witness_PcieRows : let s := (live.cfgSet 0 8 1).cfgSet 0 9 1
    s.pcieUp = true ∧ s.functionThere 1 = true ∧ live.functionThere 1 = false ∧ bitOf (s.cfgGet 0 8) 0 = true ∧ (s.cfgSet 1 5 3).cfgGet 1 5 = 3
    ∧ live.delivery = .kv2p ∧ live.linkUp = true ∧ (live.core 0).part = some 0 ∧ bitOf (live.cfgGet 0 3) 4 = false
    ∧ live.pins.mainPg = true ∧ live.pins.perst = false ∧ live.inBivouac = false ∧ 2 ≤ objGet live none 0x3000 2 := by decide +kernel

/-- A packet of page 3, offset 0x14; an answer with a tag and data. -/
def pagePacket : UciePacket := ⟨3, 0, 0, false, 4, 0x30014, [1, 2, 3, 4]⟩
def aRead : HostRead := ⟨5, 0, 0x1000, 4, [], .fetch⟩

theorem witness_UcieRows : chiplet.ucieUp = true ∧ ucieTarget pagePacket = some (3, 0x14) ∧ ucieTarget { pagePacket with len := 8 } = none
    ∧ pagePacket.payload.length = 4 ∧ chiplet.readOf 5 = none
    ∧ ({ chiplet with attach := { chiplet.attach with reads := [aRead] } } : State).readOf 5 = some aRead
    ∧ (let h : UciePacket := ⟨0, 5, 0, false, 4, 0x1000, [1, 2, 3, 4]⟩
       h.part = aRead.part.val ∧ h.payload.length = h.len ∧ h.len ≠ 0 ∧ h.addr = aRead.addr + aRead.data.length ∧ aRead.data.length + h.len = aRead.len
        ∧ h.status = 0 ∧ h.poison = false ∧ h.tag < 1024) := by decide +kernel

theorem witness_UcieRows_fence : let s := chiplet.modPart 0 fun p => { p with fenceWait := true, cmdDb := 0x10003 }
    s.delivery = .kv2c ∧ (1 : W16) ≠ 0 ∧ (s.parts[(0 : PartId)]).fenceWait = true ∧ fenceCovers 1 (bits ((s.parts[(0 : PartId)]).cmdDb).toNat 31 16) = true
    ∧ s.pins.mainPg = true ∧ s.inBivouac = false
    ∧ (let t := objSet chiplet none 0x2000 2 1; t.devState = 1 ∧ t.booted = true ∧ t.power.exitWait = false ∧ t.power.entering = .nothing)
    ∧ ([(0, some 0)] : List (Nat × Option PartId)).find? (fun e => e.1 == 0) = some (0, some 0) := by decide +kernel

theorem witness_I3cRows : let s := objSet live none 0xD020 1 9
    let x : I3cTransfer := ⟨9, true, pduBytes (goodReq 1 0x1000 1 []).pdu⟩
    live.i3cAddress = 0 ∧ i3cAssignable 8 = true ∧ s.i3cAddress ≠ 0 ∧ ((1040 : W16).toNat = 1040) ∧ s.warden.i3cAnswers = []
    ∧ x.ok = true ∧ x.address.toNat = s.i3cAddress ∧ x.bytes.length = 16 ∧ pduCrcOk (pduOf x.bytes false) = true
    ∧ pduCrcOk (pduOf (List.replicate 16 0) false) = false ∧ (0x31 : BitVec 7).toNat = 0x31 := by decide +kernel

theorem witness_CarrierRows_frame : let f : T1sFrame := ⟨live.mac, 1, objGet live none 0xD010 4, true, pduBytes (goodReq 1 0x1000 1 []).pdu ++ List.replicate 30 0⟩
    f.payload.length = 46 ∧ f.dst = live.mac ∧ (pduOf f.payload true).op ≠ 0x0A ∧ pduCrcOk (pduOf f.payload true) = true ∧ live.mac ≠ broadcastMac
    ∧ pduCrcOk (pduOf (List.replicate 46 0) true) = false ∧ (pduOf (List.replicate 46 0) true).op ≠ 0x0A := by decide +kernel

theorem witness_CarrierRows_mailbox : let a : RegAccess := ⟨1, true⟩
    a.aligned = true ∧ bitOf a.value.toNat 0 = true ∧ bitOf a.value.toNat 1 = false ∧ live.warden.mbReq = false ∧ live.warden.mbRsp = false
    ∧ bitOf (2 : W32).toNat 1 = true ∧ 0x250C % 4 = 0 ∧ 0x2100 ≤ 0x250C ∧ 0x250C < 0x2510 ∧ tabWf 0 live.warden.mbRequest = true := by decide +kernel

theorem witness_CarrierRows_notify : let r : Request := ⟨.t1s, 1, 0, pduSealed { pdu 0x0A 0 0 [] with flags := 1 }⟩
    let x : Note := ⟨1, 1, 0, 0, 0, 0⟩
    let s := ((objSet live none 0xD000 5 1).modPart 0 fun p => { p with notes := ⟨2, [x], 0⟩ }).modWarden fun w => { w with notifyOut := some (1, some 0, x) }
    r.pdu.op = 0x0A ∧ bitOf r.pdu.flags 0 = true ∧ r.port = .t1s ∧ pduCrcOk r.pdu = true ∧ pduCrcOk (pdu 0x0A 0 0 []) = false ∧ bitOf (pduSealed (pdu 0x0A 0 0 [])).flags 0 = false
    ∧ s.pushed (some 0) = true ∧ objGet s none 0xD010 5 = 255 ∧ objGet (objSet s none 0xD010 5 3) none 0xD010 5 ≠ 255
    ∧ s.warden.notifyOut = some (1, some 0, x) ∧ x ∈ (s.noteQueue (some 0)).items ∧ (pkt 8 0 []).kind = 8 ∧ (pkt 9 0 []).kind = 9 := by decide +kernel

theorem witness_CarrierRows_relay : let e : Relay := ⟨4, req 1 0x1000 1 []⟩
    ([e].find? fun (x : Relay) => x.tag == (4 : W32).toNat) = some e ∧ ({ live.warden with restarting := true } : Warden).restarting = true := by decide +kernel

theorem witness_PowerRows : (live.core 1).level ≠ 3 ∧ (live.core 1).part.isSome = true ∧ (live.core 1).mode = .halted ∧ (live.core 1).power.state = 0
    ∧ (live.core 0).mode ≠ .halted ∧ ((live.modCore 1 fun q => { q with power := { q.power with state := 2 } }).core 1).power.state = 2
    ∧ (∀ i, i < 4 → live.bank 1 (Fin.ofNat 32 (4 * (2 : Fin 8).val + i)) = .free) ∧ bitOf (live.core 1).power.gated (2 : Fin 8).val = false := by decide +kernel

/-- A started device with no partition, its setting at Run. -/
def quiet : State := objSet (objSet (objSet { State.reset with pins := { State.reset.pins with mainPg := true, perst := false } } none 0x3000 2 7) none 0x2000 1 4) none 0x2000 2 4

theorem witness_PowerRows_device : quiet.booted = true ∧ objGet quiet none 0x2000 1 = 4 ∧ quiet.power.entering = .nothing ∧ quiet.patrol.running = false
    ∧ quiet.devState = 4 ∧ (∀ d : CoreId, 1 ≤ (quiet.core d).level ∨ (quiet.core d).part = none) ∧ quiet.anyChannel = false ∧ quiet.anyCommand = false
    ∧ quiet.power.doorbells = [] ∧ quiet.traffic = [] ∧ quiet.claims = [] ∧ quiet.handovers = [] ∧ (objSet quiet none 0x2000 2 3).devState = 3 ∧ quiet.anyCamp = false
    ∧ (∀ p : PortIx, quiet.portState p ≠ 3) ∧ objGet quiet none 0x5600 3 = 0 ∧ objGet quiet none 0x2010 1 = 0 := by decide +kernel

theorem witness_PowerRows_entering : ({ quiet.power with entering := .nap } : Power).entering = .nap ∧ ({ quiet.power with entering := .ember } : Power).entering = .ember
    ∧ (-40 ≤ (150 : Int) ∧ (150 : Int) ≤ 150) ∧ ((-41 : Int) < -40) := by decide

theorem witness_StartAndTapRows_pins : State.reset.power.exitWait = false ∧ live.pins.mainPg = true ∧ live.emberState = false ∧ live.delivery = .kv2p
    ∧ live.pins.perst = false ∧ State.reset.pins.perst = true ∧ live.devState = 4 ∧ live.booted = true
    ∧ (let s := objSet State.reset none 0x3000 2 1; s.stage = 1 ∧ s.boot.cold = true ∧ s.tick = 0) := by decide +kernel

/-- A start under way at a stage. -/
def starting (stage : Nat) : State := objSet { live with boot := { live.boot with running := true } } none 0x3000 2 stage

theorem witness_StartAndTapRows_start : let s := { live with boot := { live.boot with due := true } }
    s.boot.due = true ∧ s.pins.mainPg = true ∧ s.inFundamentalReset = false ∧ s.power.tripped = false
    ∧ (∀ n ∈ [2, 3, 4, 5, 6, 7], (starting n).stage = n ∧ (starting n).boot.running = true) ∧ (starting 4).boot.waiting = false
    ∧ (⟨0, []⟩ : FlashImage).slot = (starting 4).boot.slot ∧ (starting 4).imageCause [] ≠ 0
    ∧ ({ starting 4 with boot := { (starting 4).boot with waiting := true } } : State).boot.waiting = true := by decide +kernel

theorem witness_StartAndTapRows_fuses : let r := req 2 0x3030 1 [1, 5]
    ({ live.boot with programming := some (1, 5) } : Boot).programming = some (1, 5) ∧ ({ live.warden with current := some r } : Warden).current = some r
    ∧ objGet (objSet live none 0x3000 0xB 1) none 0x3000 0xB = 1 ∧ objGet live none 0x3000 0xB ≠ 1 ∧ chiplet.delivery = .kv2c := by decide +kernel

/-- The started die with port 0 in a state. -/
def ported (state : Nat) : State := objSet live none 0x7010 1 state

theorem witness_PortRows_training : live.delivery = .kv2p ∧ live.booted = true ∧ live.portState 0 = 0 ∧ live.mySeat ≠ 0x8000
    ∧ (⟨4, 1, live.nextSeat live.mySeat 0, true⟩ : PortTraining).seat = live.nextSeat live.mySeat 0 ∧ live.nextSeat live.mySeat 0 ≠ 5
    ∧ (objSet live none 0x7000 3 0x8000).mySeat = 0x8000 := by decide +kernel

theorem witness_PortRows_states : (ported 1).portState 0 < 2 ∧ 2 ≤ (ported 2).portState 0 ∧ (ported 3).portState 0 = 3 ∧ (ported 2).portState 0 ≠ 3
    ∧ (let s := (ported 3).modLink 0 fun l => { l with queue := [(0, flit 1 0 [])] }
       ∃ e ∈ (s.link 0).queue, (s.link 0).credits[(Fin.ofNat 16 (flitClass e.2) : Fin 16)] = 0) := by decide +kernel

theorem witness_PortRows_codeword : let w : Codeword := ⟨true, true, 0, 3, []⟩
    (ported 1).portState 0 ≠ 0 ∧ live.portState 0 = 0
    ∧ (∃ j : Fin 4, j ≠ 2 ∧ ∀ e ∈ ((ported 1).link 0).deskew, ¬(e.1 = w.cwseq % 64 ∧ e.2.1 = j.val)) ∧ w.decodes = true
    ∧ (⟨3, 0, false⟩ : Lane).good = 3 ∧ (⟨0, 3, true⟩ : Lane).bad = 3 ∧ (⟨2, 0, false⟩ : Lane).good < 3 := by decide +kernel

theorem witness_FlitRows_receive : let s := ported 3
    2 ≤ s.portState 0 ∧ (flit 1 0 []).typ = 1 ∧ ({ flit 1 0 [] with crcOk := false } : Flit).crcOk = false ∧ (flit 1 0 []).ackV = false
    ∧ (flit 1 9 []).fseq ≠ (s.link 0).expected ∧ (flit 1 0 []).fseq = (s.link 0).expected ∧ (flit 2 0 []).typ = 2 ∧ (flit 0 0 []).typ = 0
    ∧ (flit 1 0 []).sop = true ∧ (flit 1 0 []).eop = false ∧ (s.link 0).asm.find? (fun (e : Nat × List Byte × Nat) => e.1 == flitClass (flit 1 0 [])) = none := by
  decide +kernel

theorem witness_FlitRows_send : let s := ported 3
    let sent := s.modLink 0 fun l => { l with unacked := [flit 1 0 []] }
    (s.link 0).unacked = [] ∧ (sent.link 0).unacked ≠ [] ∧ (sent.link 0).resends < 16 ∧ (∀ n ∈ (s.link 0).owed.toList, n = 0)
    ∧ (∃ n ∈ ((s.modLink 0 fun l => { l with owed := l.owed.set 6 1 }).link 0).owed.toList, n ≠ 0) ∧ (s.link 0).resend = []
    ∧ (s.link 0).unacked.length < 1024 ∧ (s.link 0).lctlDue = false ∧ s.pickVc 0 = none
    ∧ ((s.modLink 0 fun l => { l with lctlDue := true }).link 0).lctlDue = true ∧ ((s.modLink 0 fun l => { l with resend := [flit 1 0 []] }).link 0).resend = flit 1 0 [] :: []
    ∧ ((s.modLink 0 fun l => { l with unacked := [flit 1 0 []], resends := 16 }).link 0).resends = 16 := by decide +kernel

theorem witness_FlitRows_data : let f := { flit 1 0 [] with vc := 3, eop := true }
    let s := (ported 3).modLink 0 fun l => { l with queue := [(0, f)], credits := fullBuffers }
    s.pickVc 0 = some (3, (4, 2, 1)) ∧ s.readyClass 0 3 = some (6, [(0, f)]) ∧ (s.link 0).credits[(6 : Fin 16)] ≠ 0 := by decide +kernel

/-- 18 R409: FAULT's VC 5 waits behind CANOPY, DATA and STASH unless 63 flits have passed it; a flit of VC 0 goes first of all. -/
theorem test_rotation : let put (vcs : List (Fin 8)) : State := (ported 3).modLink 0 fun l =>
      { l with queue := vcs.map fun vc => (0, { flit 1 0 [] with vc := vc, eop := true }), credits := fullBuffers }
    ((put [5, 3, 0]).pickVc 0).map (·.1) = some 0 ∧ ((put [5, 3]).pickVc 0).map (·.1) = some 3 ∧ ((put [5]).pickVc 0).map (·.1) = some 5 := by decide +kernel

/-- A packet for this die, of the partition's camp, from the die at coordinate 1. -/
def mine (kind arg : Nat) (body : List Byte) : Packet := ⟨0, 1, kind, 7, arg, body⟩

theorem witness_PacketRows : let k := mine 0x26 1 []
    live.delivery = .kv2p ∧ k.kind = 0x26 ∧ live.seatOf k.dst = live.mySeat ∧ live.campPart k.camp = some 0
    ∧ live.seatOf ({ k with dst := 1 } : Packet).dst ≠ live.mySeat ∧ live.campPart ({ k with camp := 8 } : Packet).camp = none ∧ chiplet.delivery = .kv2c := by decide +kernel

theorem witness_PacketRows_streams : let x : Ctx := { openCtx with remote := true, side := true }
    let s := live.setCtx 1 x
    s.ctxOf 0 (mine 1 1 (List.replicate 8 0)).arg = some (1, x) ∧ x.remote = true ∧ x.side = true ∧ x.state = 1
    ∧ bitOf (leNat ((mine 1 1 (List.replicate 8 0)).body.take 8)) 25 = false ∧ ({ x with side := false } : Ctx).side = false := by decide +kernel

theorem witness_PacketRows_notices : let k := mine 0x1A 3 [0, 0]
    (live.fabric.seen.any fun (e : Nat × Nat × Nat) => e.1 == k.src && e.2.2 == k.arg) = false
    ∧ (([(1, 0x1A, 3)] : List (Nat × Nat × Nat)).any fun e => e.1 == k.src && e.2.2 == k.arg) = true ∧ live.fabric.remap.length < 256
    ∧ (live.myCoord ≠ 0x8000) ∧ (objSet live none 0x7000 2 0x8000).myCoord = 0x8000 := by decide +kernel

/-- A broadcast begun on the camp's context 0, local number 0: no node yet. -/
def aRed : Reduction := ⟨0, 3, 2, 0, 0, [], [(0, 0)], [], [], none, none, none, none, [], [], []⟩

/-- The camp's context 0 with that reduction in flight. -/
def reducing (r : Reduction) : State :=
  let s := live.modPart 0 fun p => { p with canopy := [(0, 0)] }
  { s with canopy := s.canopy.set (0 : Fin 8) { s.canopy[(0 : Fin 8)] with owner := some 0, camp := true, reds := [r] } }

/-- A child's vote for the reduction's chunk 0. -/
def voteBody : CanopyBody := ⟨0, 3, 0, 0, 0, 2, 0, 0, .vote true⟩

theorem witness_Reductions_child : let s := reducing aRed
    let k := mine 0x10 0 voteBody.bytes
    let b := canopyBody k.body
    s.campCtxOf 0 = some 0 ∧ s.seatOf k.dst = s.mySeat ∧ s.campPart k.camp = some 0 ∧ (s.canopy[(0 : Fin 8)]).settled ≤ fullRseq (s.canopy[(0 : Fin 8)]).settled b.rseq
    ∧ b.level < 0x80 ∧ (s.canopy[(0 : Fin 8)]).reds.find? (fun (q : Reduction) => q.rseq == fullRseq (s.canopy[(0 : Fin 8)]).settled b.rseq) = some aRed
    ∧ aRed.fail = none ∧ aRed.mode = b.mode ∧ aRed.nchunk = b.nchunk ∧ aRed.q = b.q ∧ aRed.verdict = none
    ∧ ({ aRed with nchunk := 3 } : Reduction).nchunk ≠ b.nchunk := by decide +kernel

theorem witness_Reductions_down : let r := { aRed with nodes := [(rootLevel 2, 0, CVal.vote true)] }
    let s := objSet (reducing r) (some 0) 0x7100 6 0
    (s.canopy[(0 : Fin 8)]).owner = some 0 ∧ (s.canopy[(0 : Fin 8)]).reds = r :: [] ∧ r.rootValue (s.ctxRank 0 0) = some (.vote true) ∧ s.withheld 0 0 r = false
    ∧ (s.canopy[(0 : Fin 8)]).reds.find? (fun (q : Reduction) => q.issued != []) = some r ∧ ({ r with fail := some 2 } : Reduction).fail = some 2
    ∧ (live.canopy[(0 : Fin 8)]).reds = [] := by decide +kernel

theorem witness_Reductions_delivery : let w : CredWait := ⟨0, 0, 3, 0, 2, 5, 0, 0, 0, 0, false, 0⟩
    w.oreg < 48 ∧ tabWf 0 live.mem = true ∧ 0 < w.sreg ∧ w.sreg < 8 ∧ w.sreg ≠ w.oreg ∧ 3 ≠ anchorFail
    ∧ w ∈ ((at0 live fun k => { k with creds := [w] }).core 0).creds ∧ (∀ q ∈ ((at0 live fun k => { k with creds := [w] }).core 0).creds, q = w)
    ∧ (List.replicate 1024 ((0 : Int), (0 : Nat))).length = 1024 := by decide +kernel

theorem witness_StashRows : let k := mine 0x20 5 (leBytes 8 100 ++ List.replicate 48 0)
    live.seatOf k.dst = live.mySeat ∧ live.campPart k.camp = some 0 ∧ live.openStatus 0 100 0 ≠ 0
    ∧ (let s := live.modPart 0 fun p => { p with camp := { p.camp with wardFill := some (0, 5, 100), wardSealed := [(1, 4)], pull := some (5, 10) } }
       (s.parts[(0 : PartId)]).camp.wardFill = some (0, 5, 100) ∧ leNat (k.body.take 8) + (List.replicate 0 (0 : Byte)).length ≤ 100
        ∧ (s.parts[(0 : PartId)]).camp.wardSealed.find? (fun (e : Nat × Nat) => e.2 == 4) = some (1, 4) ∧ (s.parts[(0 : PartId)]).camp.pull = some (5, 10)
        ∧ bodyField (mine 0x25 5 (List.replicate 9 0)) 0 8 = (s.parts[(0 : PartId)]).camp.pulled.length ∧ (mine 0x25 5 (List.replicate 9 0)).body.drop 8 ≠ []) := by
  decide +kernel

theorem witness_StashRows_open : let s := objSet (objSet live (some 0) 0x8200 4 0x20000) (some 0) 0x8200 3 0
    let t := s.modPart 0 fun p => { p with hbmUnits := [0] }
    t.openStatus 0 100 (objGet t (some 0) 0x8100 3) = 0 := by decide +kernel

theorem witness_StashRows_ack : let q : Stash := ⟨5, [], true, none⟩
    let s := live.modPart 0 fun p => { p with train := { p.train with stash := some q } }
    (s.parts[(0 : PartId)]).train.stash = some q ∧ s.buddyRank 0 = some 1 ∧ q.host = none ∧ q.step = (mine 0x23 5 [0]).arg ∧ q.sealing = true
    ∧ s.rankCoord 1 = 1 ∧ leNat ((mine 0x23 5 [0]).body.take 1) = 0 ∧ (live.parts[(0 : PartId)]).train.stash = none := by decide +kernel

theorem witness_RecoveryRows_members : live.rankOf 0 = 0 ∧ (objSet live (some 0) 0x7100 6 1).rankOf 0 ≠ 0 ∧ objGet live (some 0) 0x4010 9 ≠ 1
    ∧ (let s := (objSet live (some 0) 0x4010 9 1).modPart 0 fun p => { p with camp := { p.camp with members := 1 } }
       objGet s (some 0) 0x4010 9 = 1 ∧ 1 ∉ (s.parts[(0 : PartId)]).camp.present ∧ (s.parts[(0 : PartId)]).camp.present.length + 1 = (s.parts[(0 : PartId)]).camp.members
        ∧ s.recoveryState 0 ≠ 4) := by decide +kernel

theorem witness_RecoveryRows_packets : let s := objSet (objSet live (some 0) 0x8400 3 4) (some 0) 0x8400 1 3
    let c := (s.modPart 0 fun p => { p with camp := { p.camp with coordinator := true } }).parts[(0 : PartId)]
    (mine 0x26 3 []).arg < s.recoveryNo 0 ∧ s.recoveryNo 0 ≤ (mine 0x26 4 []).arg ∧ (s.parts[(0 : PartId)]).camp.coordinator = false
    ∧ s.recoveryState 0 = 3 ∧ c.camp.coordinator = true ∧ (∀ e ∈ c.camp.reports, e.1 ≠ s.packetRank (mine 0x27 4 [])) ∧ c.camp.reports.length + 1 < s.members 0
    ∧ (mine 0x28 4 [0xFF, 0xFF, 0xFF, 0xFF]).body.length = 4 ∧ bodyField (mine 0x28 4 [0xFF, 0xFF, 0xFF, 0xFF]) 0 4 = noStep
    ∧ (objSet s (some 0) 0x8400 1 4).recoveryState 0 = 4 ∧ bodyField (mine 0x29 4 [1]) 0 1 ≠ 0 ∧ bodyField (mine 0x29 4 [0]) 0 1 = 0 := by decide +kernel

theorem witness_RecoveryRows_settle : let s := objSet live (some 0) 0x8400 1 1
    live.recoveryState 0 ≠ 1 ∧ s.recoveryState 0 = 1 ∧ s.coordinatorRank 0 = some (s.rankOf 0) ∧ (live.parts[(0 : PartId)]).camp.coordinator = false
    ∧ (1 : Nat) ∉ (live.parts[(0 : PartId)]).camp.failed ∧ 1 ∈ live.rankedCoords 0 ∧ live.campOf 0 ≠ 0 ∧ (live.parts[(0 : PartId)]).train.stash = none
    ∧ (live.parts[(0 : PartId)]).camp.proposals = [] := by decide +kernel

theorem witness_RecoveryRows_reports : let s := (objSet live (some 0) 0x8400 1 3).modPart 0 fun p => { p with camp := { p.camp with coordinator := true, reports := [(0, [])] } }
    (s.parts[(0 : PartId)]).camp.coordinator = true ∧ s.recoveryState 0 = 3
    ∧ (List.range (s.members 0)).filter (fun x => !((s.parts[(0 : PartId)]).camp.reports.any fun (e : Nat × List Byte) => e.1 == x)) = [1] := by decide +kernel

theorem witness_LateCallsAndPatrol_calls : (objSet live (some 0) 0x5200 8 1).callOut (some 0) 2 = true ∧ live.callOut (some 0) 2 = false
    ∧ (let s := (objSet live none 0x5400 8 1).modPart 0 fun p => { p with camp := { p.camp with proposals := [(1, 0x11)], called := true } }
       s.callOut none 4 = true ∧ (s.lateCall none 4).remapping = some 0 ∧ ((s.lateCall none 4).parts[(0 : PartId)]).camp.proposals = (1, 0x11) :: []) := by decide +kernel

theorem witness_LateCallsAndPatrol_slice : let s := objSet quiet none 0xB000 1 1
    objGet s none 0xB000 1 = 1 ∧ s.booted = true ∧ s.devState = 4 ∧ s.patrol.running = false ∧ (s.auditAll s.books).1 = true
    ∧ (s.auditAll s.books).2.sweepDone.marionette none 5 = false ∧ objGet (objSet quiet none 0xB000 1 0) none 0xB000 1 ≠ 1
    ∧ ({ quiet.patrol with running := true } : Patrol).running = true := by decide +kernel

theorem witness_HearthElementLayout : -(2 ^ 47) ≤ (2 ^ 47 - 1 : Int) ∧ (2 ^ 47 - 1 : Int) < 2 ^ 47 ∧ 3 < 4 ∧ 2 ^ 63 < 2 ^ 64 := by decide

theorem witness_PduCrc : let f : T1sFrame := ⟨0, 0, 0, true, List.replicate 46 0⟩
    f.fcsOk = true ∧ 46 ≤ f.payload.length ∧ f.payload.length ≤ 1500 ∧ pduCrcOk (pduOf f.payload true) = false
    ∧ pduCrcOk (pduOf (List.replicate 16 0) false) = false ∧ (List.replicate 16 (0 : Byte)).length = 16
    ∧ pduCrcOk (pduOf ((List.range 1040).map fun i => tabGet 0 live.warden.mbRequest i) true) = false
    ∧ (pkt 8 0 (List.replicate 16 0)).kind = 8 ∧ 16 ≤ (pkt 8 0 (List.replicate 16 0)).body.length := by decide +kernel

theorem witness_CountsSaturate : (objRow 0xC020 1).isSome = true ∧ objGet live none 0xC020 1 ≤ 2 ^ 32 - 1 := by decide +kernel

theorem witness_DoorbellOfUnformed : (⟨5, true⟩ : RegAccess).aligned = true ∧ live.power.entering = .nothing ∧ live.partState 1 ≠ 2 ∧ live.notes.items.length < 31 := by decide +kernel

theorem witness_Encodings : (goodReq 1 0x1000 1 []).pdu.fits = true ∧ (goodReq 1 0x1000 1 []).pdu.len = (goodReq 1 0x1000 1 []).pdu.data.length
    ∧ (pkt 8 0 [1]).fits = true ∧ (ShRec.ofNat 0).ent.length = 32 ∧ (∀ e ∈ (ShRec.ofNat 0).ent, e < 2 ^ 16) ∧ (ShRec.ofNat 0).rest < 2 ^ 192
    ∧ voteBody.rseq < 2 ^ 16 ∧ voteBody.status ≤ 4 ∧ -(2 ^ 15) ≤ voteBody.anchor ∧ voteBody.mode = 3 ∧ voteBody.value = .vote true
    ∧ (List.replicate 1024 ((2 ^ 63 - 1 : Int), (3 : Nat))).length = 1024 := by decide +kernel

theorem witness_StepKeepsMemoryCanonical : tabWf 0 State.reset.mem = true ∧ (match step State.reset with | .next _ => true | _ => false) = true := by decide +kernel

/-! ## Witnesses of further clauses -/

theorem witness_awake : going.napping 0 [(0, 8), (0x7FFF8, 0x80000)] = false ∧ owning.napping 0 [(0, 0x80000)] = false
    ∧ (setRegs owning [(2, 0x7FFF8)]).napping 0 [(0x7FFF8, 0x80000)] = false ∧ formed.napping 0 [(0x20000, 0x20100)] = false := by decide +kernel

theorem witness_GroupRows_marks :
    ((going.core 0).openOverlaps { Group.reset with base := 4, count := 2 } = false)
    ∧ (((grouped 0 false).core 0).openOverlaps { Group.reset with base := 4, count := 2 } = true)
    ∧ ({ Group.reset with base := 4, count := 2 } : Group).badConfig false = false := by decide

theorem witness_GroupRows_swap_init : let k := (at0 (grouped 1 false) fun k => { k with
      groups := k.groups.set (3 : Fin 8) { k.groups[(3 : Fin 8)] with swapPend := true, init := true } }).core 0
    k.groupBased (4 : SlotIx).val (fun g => g.mode == 1 && g.swapPend) = some 3 ∧ (k.groups[(3 : Fin 8)]).init = true
    ∧ (k.inflight.any fun i => i.readSlots.contains (k.drainSlot 4)) = false ∧ (k.creds.any fun q => q.mode == 0 && q.slot == k.drainSlot 4) = false
    ∧ k.slotBusy (k.drainSlot 4) = false ∧ k.drainSlot 4 < 64 := by decide

/-- The nine words of EW with the operation each stands for, on 32 × 32 elements of t1 (and t0 where it takes two) into t0. -/
def ewWords : List (EwOp × W64) :=
  [(ewMulOp, 0), (ewDivOp, 1), (ewNegOp, 2), (ewAbsOp, 3), (ewMaxOp, 4), (ewMinOp, 5), (ewCmpltOp, 6), (ewCmpeqOp, 7), (ewCvtOp, 8)].map
    fun (e : EwOp × Nat) => (e.1, wd 0x50 0 0 0 1 (e.2 * 2 ^ 24 + 31 * 2 ^ 13 + 31 * 2 ^ 8 + 16 * 2 ^ 40))

theorem witness_ElementwiseCompletes : let s := tiled owning
    ∀ e ∈ ewWords, let q := ewJob (s.core 0) e.2.toNat e.1
      Issues (iss e.2) s 0x50 ∧ ewIllegal e.1 e.2.toNat = none ∧ s.unready 0 [fP e.2.toNat] = false ∧ bitOf e.2.toNat 6 = false
      ∧ UnitReady s 0 .elementwise q.ops q.areas q.place.ok := by unfold Issues Sequences UnitReady; decide +kernel

theorem witness_ElementwiseCompletes_smoothing : let s := tiled owning
    let w := (wd 0x50 0 0 0 1 (8 * 2 ^ 24 + 31 * 2 ^ 13 + 31 * 2 ^ 8 + 16 * 2 ^ 40 + 2 ^ 6)).toNat
    let q := ewJob (s.core 0) w ewCvtOp
    ewIllegal ewCvtOp w = none ∧ bitOf w 6 = true ∧ s.unready 0 (fP w :: [32 + bits w 5 2]) = false
    ∧ UnitReady s 0 .elementwise q.ops q.areas q.place.ok ∧ smoothFault s.mem (s.core 0) q.smoothAt q.place.col0 q.inside = false := by
  unfold UnitReady; decide +kernel

theorem witness_IeeeScalarCompletes :
    (∀ n ∈ [0, 1, 2, 3, 5, 6, 7, 9, 10], let x := iss (wd 0x61 3 1 2 0 (n * 2 ^ 30))
      Issues x going 0x61 ∧ bits x.word.toNat 33 30 = n ∧ bits x.word.toNat 28 0 = 0 ∧ isReg (fD x.word.toNat) = true ∧ isReg (fA x.word.toNat) = true
      ∧ isReg (fB x.word.toNat) = true ∧ going.unready 0 [fD x.word.toNat, fA x.word.toNat, fB x.word.toNat] = false)
    ∧ (∀ n ∈ [4, 8, 11, 12], let x := iss (wd 0x61 3 1 0 0 (n * 2 ^ 30))
      Issues x going 0x61 ∧ bits x.word.toNat 33 30 = n ∧ bits x.word.toNat 28 0 = 0 ∧ isReg (fD x.word.toNat) = true ∧ isReg (fA x.word.toNat) = true
      ∧ fB x.word.toNat = 0 ∧ going.unready 0 [fD x.word.toNat, fA x.word.toNat] = false)
    ∧ (going.core 0).unitFull .ieee = false := by unfold Issues Sequences; decide +kernel

theorem witness_ScaleHistory_faults :
    (let s := setRegs recorded [(1, 0x400000 - 64)]; Issues (iss (wd 0x6A 0 1 2 0 0)) s 0x6A ∧ 0x400000 < (s.core 0).regNat 1 + 128)
    ∧ (let s := setRegs recorded [(1, 0x80000)]; Issues (iss (wd 0x6A 0 1 2 0 0)) s 0x6A ∧ s.heldAll 0 [(0x80000, 0x80080)] = .no)
    ∧ (let s := setRegs recorded [(1, 64)]; Issues (iss (wd 0x6A 0 1 2 0 0)) s 0x6A ∧ s.heldAll 0 [(64, 192)] = .owned ∧ (s.core 0).regNat 1 % 128 ≠ 0) := by
  unfold Issues Sequences; decide +kernel

theorem witness_ScaleDerive_phases : let q : ShderWait := ⟨3, 0, 0, 0, 0, 0, 0, 0, .pause, 0⟩
    let s := at0 recorded fun k => { k with shder := some q }
    (s.core 0).shder = some q ∧ q.phase = .pause ∧ q.phase ≠ .asked 4 := by decide +kernel

theorem witness_BankInstructions_drop : let u := formed.dropClaim 0 0
    u.candidates 0 ≠ [] ∧ (owning.dropClaim 0 0).candidates 0 = [] ∧ owning.adoptClaim 0 0 3 = none
    ∧ formed.unready 0 [3, 0, 0] = false ∧ ((setRegs formed [(2, 1)]).core 0).regNat 2 ≠ (0 : CoreId).val := by decide +kernel

theorem witness_BankMoves_window : ({ formed with claims := [aClaim] }).windowTaken aClaim.target 8 = false := by decide +kernel

theorem witness_BankMoves_request : let s := { formed with handovers := [aHandover] }
    (s.core 0).windows[aHandover.bank] = some aHandover.home ∧ s.giveReady 0 aHandover.bank aHandover.order aHandover.waits = true
    ∧ (let t := s.loseWindow 0 0
      (t.core 0).windows[aHandover.bank] ≠ some aHandover.home ∧ t.bank aHandover.home aHandover.bank ≠ .transit aHandover.target
      ∧ (t.handovers.any fun g => g.home == aHandover.home && g.bank == aHandover.bank && g.sent) = false
      ∧ t.handovers.find? (fun g => g.home == aHandover.home && g.bank == aHandover.bank && !g.sent) = some aHandover) := by decide +kernel

theorem witness_StreamRows_wait : let q : StreamWait := ⟨wd 0x79 4 1 2 3 0, 0, 5⟩
    let s := at0 (setRegs streamed [(1, 1), (3, 200)]) fun k => { k with mode := .waiting, wait := some q }
    let waits : StreamResult → Bool := fun r => match r with | .wait => true | _ => false
    (s.core 0).wait = some q ∧ waits (s.streamTry 0 q.word.toNat) = true ∧ s.tick < q.due ∧ q.due ≤ ({ s with tick := 5 } : State).tick := by decide +kernel

theorem witness_StreamRows_far : streamed.farLost openCtx openCtx.far = false
    ∧ live.farLost { openCtx with remote := true, side := true } 5 = true ∧ openCtx.unread = false ∧ ({ openCtx with sent := 1 } : Ctx).unread = true
    ∧ (let pos := openCtx.rcvd.toNat + openCtx.ercvd
       streamed.napping 0 [(openCtx.slotOff pos, openCtx.slotOff pos + 8 + 248)] = false) := by decide +kernel

theorem witness_StreamArrivals_states : ({ openCtx with remote := true, state := 5 } : Ctx).state = 5 ∧ Ctx.reset.state = 0
    ∧ streamed.ctxOf 0 2 = some (2, Ctx.reset) := by decide +kernel

theorem witness_EpochRows_powered : ∀ m : CoreId, (going.core m).power.gated = 0 := by decide +kernel

/-- Core 0 with a copy of 8 bytes from 0x100 to 0x206 that has passed its checks: the word at 0x206 lies in Bank 0. -/
def checked : State := nextOf (exec (.porterChecksDone 0 0) (copying 0x100))

theorem witness_PorterCopyBeat_collision : let k := checked.core 0
    let ch := k.chans[(0 : ChanIx)]
    let g := ch.regs
    let n := ch.beatSpan ch.consumed
    let a := g.dstAddr + ch.wdone
    let all := ch.held ++ scratchBytes checked.mem k (offsetOf g.srcAddr + ch.consumed) n
    g.mode = 0 ∧ spaceOf g.srcAddr = 0 ∧ spaceOf a = 0 ∧ ch.spec = false ∧ k.part = none ∧ ch.consumed + n = g.cnt.toNat ∧ tabWf 0 checked.mem = true
    ∧ offsetOf a + all.length ≤ 0x400000 ∧ 0x41 * 8 < 0x40000 ∧ k.windows[(Fin.ofNat 32 (0x41 * 8 / 0x20000) : BankIx)] = some 0
    ∧ 0 < all.length ∧ 0x41 * 8 < offsetOf a + all.length ∧ offsetOf a < 0x41 * 8 + 8 := by decide +kernel

theorem witness_PorterEngine_empty : let s := setRegs owning [(1, 0x100), (2, 0x206), (3, 0), (4, 1)] |> fun s => nextOf (exec (.pgo (iss (wd 0x83 4 1 2 3 0))) s)
    let ch := (s.core 0).chans[(0 : ChanIx)]
    ch.state = .queued ∧ ch.checked = false ∧ ch.checkStatic = 0 ∧ s.checkAccess 0 0 ch = some 0 ∧ ch.regs.length ≤ ch.wdone
    ∧ ((copying 0x100).core 0).chans[(0 : ChanIx)].wdone < ((copying 0x100).core 0).chans[(0 : ChanIx)].regs.length
    ∧ ((copying 0x100).core 0).late = [] := by decide +kernel

theorem witness_PorterEngine_hbm : let ch := ((copying (2 ^ 61)).core 0).chans[(0 : ChanIx)]
    (ch.regs.remoteReads.any fun a => spaceOf a == 2) = true ∧ live.delivery = .kv2p ∧ chiplet.delivery = .kv2c ∧ (4 : Nat) ≠ 0
    ∧ ((((copying 0x100).core 0).chans[(0 : ChanIx)]).regs.remoteReads.all fun a => spaceOf a != 2) = true := by decide +kernel

theorem witness_RingEngine_full : let s := live.modPart 0 fun p => { p with observed := 1, unread := 16, fullWait := true }
    s.cplFree 0 = false ∧ (s.parts[(0 : PartId)]).fullWait = true ∧ s.busMaster 0 = true ∧ s.readRoom = true := by decide +kernel

theorem witness_RingCommands_stage_hbm : let c := { cmdOf 5 (List.replicate 4 0 ++ leBytes 4 4 ++ leBytes 8 (2 ^ 61)) .running with work := some (1, 8) }
    let s := live.modPart 0 fun p => { p with commands := [c], hbmUnits := [0] }
    s.filling 0 = some (c, 1, 8) ∧ spaceOf (c.field 24 8) = 2 ∧ s.hbmReady 0 (offsetOf (c.field 24 8)) (c.field 20 4) = true
    ∧ s.hbmPoisoned 0 (offsetOf (c.field 24 8)) (c.field 20 4) = false := by decide +kernel

theorem witness_RequestEffects_views : live.viewGranted (goodReq 9 0 0 []) = true ∧ (goodReq 0xB 0 0 []).pdu.op = 0xB
    ∧ live.viewGranted (⟨.mailbox, 0, 0, { pdu 9 0 0 [] with view := 0x40 }⟩ : Request) = false := by decide +kernel

theorem witness_RequestEffects_host :
    let s := live.modCore 0 fun q => { q with chans := q.chans.set (0 : Fin 16) { q.chans[(0 : Fin 16)] with state := .active, regs := { (q.chans[(0 : Fin 16)]).regs with src := BitVec.ofNat 64 (2 ^ 60) } } }
    s.hostActive 0 = true ∧ live.hostActive 0 = false := by decide +kernel

theorem witness_PcieRows_timeout : let r : HostRead := ⟨5, 0, 0x1000, 64, [], .chan 0⟩
    live.partOf 0 = some 0 ∧ live.readAt 0 0 0x1000 = none
    ∧ ({ live with attach := { live.attach with reads := [r] } } : State).readAt 0 0 0x1000 = some r := by decide +kernel

theorem witness_StartAndTapRows_rates : trainedRate ⟨false, 0, [], [], [5000], []⟩ = none ∧ trainedRate ⟨false, 0, [], [], [6400, 9200], []⟩ = some 9200 := by decide +kernel

theorem witness_CarrierRows_read : 0x10 % 4 = 0 ∧ (⟨2, true⟩ : RegAccess).aligned = true := by decide

theorem witness_PowerRows_awake : (live.core 0).power.state ≠ 2 ∧ (live.core 0).mode ≠ .halted := by decide +kernel

theorem witness_PacketRows_broken : ({ openCtx with remote := true, state := 5 } : Ctx).state = 5
    ∧ ({ openCtx with remote := true, state := 5 } : Ctx).remote = true := by decide

/-! ## More single steps -/

/-- 18 R405: the fourth good codeword in a row locks a lane. -/
theorem test_lane_locks : ((⟨3, 0, false⟩ : Lane).next true).locked = true ∧ ((⟨2, 0, false⟩ : Lane).next true).locked = false := by decide

/-- 01 R25, 11 R266: a doorbell of an unformed partition counts in obj C020.01. -/
theorem test_lost_doorbell : objGet (nextOf (exec (.cmdDbWrite 3 ⟨1, true⟩) live)) none 0xC020 1 = 1 := by decide +kernel

/-- Case 13.1, step 1 (13 R319): a write of obj 6000.02 = 9 is RANGE. -/
theorem test_range_refused : (objRow 0x6000 2).map (fun row => live.checkValue (some 0) row [9]) = some 8 := by decide +kernel

/-- 14 R346: a target without a dynamic address NACKs GETPID. -/
theorem test_getpid_nack : (nextOf (exec .getpid live)).out = [.i3cNack] := by decide +kernel

/-- 12 R299: the record of the ring's last entry turns PHASE. -/
theorem test_phase_turns : let s := objSet live (some 0) 0x4010 0xF 15
    ((s.writeRecord 0 ⟨0, 0, 0, 0, false, 0, 0, 0, 0, 0⟩).parts[(0 : PartId)]).phase = false := by decide +kernel

end Sys2Proof.Tests
end

section
/-!
SUPPORT. What the Vorum's telling the outside leaves unchanged (11 R267, R270, R281; 13 R325, R326; 14 R341): a posted write, a vector and
a notification change the outputs, the credit books, the warden's NOTIFY, the pending vectors, the queue posted to and a few counters.
-/
namespace Sys2Proof.Machine

/-- The objects that count what was told: the drops and merges of the notification queues (13 R326), and the vectors a ring page sent or
found outside its apertures (11 R267). -/
def countsTelling (index sub : Nat) : Bool :=
  index == 0x1120 || index == 0x1121 || (index == 0xC020 && (sub == 4 || sub == 5))

/-- From s to t the Vorum has only told the outside something: the state but partitions, objects, attachment, warden and outputs is as
before, and of these the outstanding host reads, every partition but its pending vectors, and every object that does not count telling. -/
structure OnlyTells (s t : State) : Prop where
  rest : t = { s with parts := t.parts, objs := t.objs, attach := t.attach, warden := t.warden, out := t.out }
  reads : t.attach.reads = s.attach.reads
  parts : ∀ m : PartId, ∃ v, t.parts[m] = { s.parts[m] with vecPending := v }
  objs : ∀ (q : Option PartId) (index sub : Nat), index < 65536 → sub < 256 → countsTelling index sub = false →
    objGet t q index sub = objGet s q index sub

/-- Objects of different index or subindex have different keys, whatever their scopes. -/
theorem objKey_ne {q r : Option PartId} {i j i' j' : Nat} (hi : i < 65536) (hj : j < 256) (hi' : i' < 65536) (hj' : j' < 256)
    (h : ¬(i = i' ∧ j = j')) : objKey q i j ≠ objKey r i' j' := by
  cases q <;> cases r <;> simp only [objKey] <;> omega

namespace OnlyTells

variable {s t u : State}

theorem cores (h : OnlyTells s t) : t.cores = s.cores := by rw [h.rest]
theorem mem (h : OnlyTells s t) : t.mem = s.mem := by rw [h.rest]
theorem notes (h : OnlyTells s t) : t.notes = s.notes := by rw [h.rest]

protected theorem refl (s : State) : OnlyTells s s := ⟨rfl, rfl, fun _ => ⟨_, rfl⟩, fun _ _ _ _ _ _ => rfl⟩

protected theorem trans (h : OnlyTells s t) (k : OnlyTells t u) : OnlyTells s u where
  rest := k.rest.trans (by rw [h.rest])
  reads := k.reads.trans h.reads
  parts m := by
    obtain ⟨v, hv⟩ := h.parts m
    obtain ⟨w, hw⟩ := k.parts m
    exact ⟨w, by rw [hw, hv]⟩
  objs q i j hi hj hc := (k.objs q i j hi hj hc).trans (h.objs q i j hi hj hc)

/-- Sending one thing after another tells only, where sending each does. -/
theorem foldl {α : Type} {f : State → α → State} (h : ∀ s e, OnlyTells s (f s e)) : ∀ (l : List α) (s : State), OnlyTells s (l.foldl f s)
  | [], s => .refl s
  | e :: l, s => (h s e).trans (foldl h l (f s e))

/-- Outputs, the warden and the attachment's books may change; the outstanding reads stay. -/
theorem books (s : State) {a : Attach} (h : a.reads = s.attach.reads) (w : Warden) (o : List OutEvent) :
    OnlyTells s { s with attach := a, warden := w, out := o } :=
  ⟨rfl, h, fun _ => ⟨_, rfl⟩, fun _ _ _ _ _ _ => rfl⟩

theorem emit (s : State) (e : OutEvent) : OnlyTells s (s.emit e) := books s rfl s.warden _

theorem objBump (s : State) (q : Option PartId) {index sub : Nat} (n : Nat) (hi : index < 65536) (hj : sub < 256)
    (h : countsTelling index sub = true) : OnlyTells s (objBump s q index sub n) where
  rest := rfl
  reads := rfl
  parts _ := ⟨_, rfl⟩
  objs r i j hi' hj' hc := by
    refine objGet_objBump_other s n (objKey_ne hi' hj' hi hj ?_)
    rintro ⟨rfl, rfl⟩
    simp [h] at hc

theorem setPending (s : State) (n : PartId) (f : Partition → Nat) : OnlyTells s (s.modPart n fun p => { p with vecPending := f p }) where
  rest := rfl
  reads := rfl
  parts m := by
    by_cases hm : m = n
    · subst hm
      exact ⟨_, State.parts_modPart_same s m _⟩
    · exact ⟨_, State.parts_modPart_other s hm _⟩
  objs _ _ _ _ _ _ := rfl

end OnlyTells

/-! ## Packets to the host (11 R270, R281) -/

/-- A packet that takes its credits leaves the outstanding reads. -/
theorem Attach.pay_reads {a b : Attach} {e : OutEvent} (h : a.pay e = some b) : b.reads = a.reads := by
  unfold Attach.pay at h
  dsimp only at h
  split at h <;> split at h <;> cases h <;> rfl

/-- So do all the packets that may be sent. -/
theorem sendable_reads (a : Attach) (before : List Nat) (es : List OutEvent) : (sendable a before es).1.reads = a.reads := by
  induction es generalizing a before with
  | nil => rfl
  | cons e es ih =>
    unfold sendable
    split
    next b hb =>
      have hpay : a.pay e = some b := by
        split at hb
        · cases hb
        · exact hb
      exact (ih b before).trans (Attach.pay_reads hpay)
    next => exact ih a _

theorem State.flushTx_onlyTells (s : State) : OnlyTells s s.flushTx := by
  unfold State.flushTx
  split
  · exact .refl s
  · exact .books s (a := { (sendable s.attach [] s.attach.txq).1 with txq := (sendable s.attach [] s.attach.txq).2.1 })
      (sendable_reads s.attach [] s.attach.txq) s.warden _

theorem State.transmit_onlyTells (s : State) (e : OutEvent) : OnlyTells s (s.transmit e) := by
  unfold State.transmit
  split
  · exact .emit s e
  · exact (OnlyTells.books s (a := { s.attach with txq := s.attach.txq ++ [e] }) rfl s.warden s.out).trans (State.flushTx_onlyTells _)

theorem State.hostPost_onlyTells (s : State) (n : PartId) (addr : Nat) (bs : List Byte) (ns : Bool) : OnlyTells s (s.hostPost n addr bs ns) := by
  unfold State.hostPost
  split
  · exact .refl s
  · dsimp only
    split
    · exact .foldl (fun s _ => .emit s _) _ s
    · exact .foldl (fun s _ => s.transmit_onlyTells _) _ s

/-! ## Vectors and notifications (11 R267; 13 R325, R326; 14 R341) -/

theorem State.raiseVector_onlyTells (s : State) (n : PartId) (v : Fin 8) : OnlyTells s (s.raiseVector n v) := by
  unfold State.raiseVector
  dsimp only
  split
  · exact .setPending s n _
  · split
    · exact (OnlyTells.setPending s n _).trans (.objBump _ _ 1 (by decide) (by decide) rfl)
    · exact ((OnlyTells.setPending s n _).trans (State.hostPost_onlyTells _ n _ _ _)).trans (.objBump _ _ 1 (by decide) (by decide) rfl)

theorem State.pushNotify_onlyTells (s : State) : OnlyTells s s.pushNotify := by
  unfold State.pushNotify
  dsimp only
  split
  · exact .refl s
  · split
    · exact .refl s
    · exact .books s rfl _ _

theorem State.noteRing_onlyTells (s : State) (q : Option PartId) : OnlyTells s (s.noteRing q) := by
  unfold State.noteRing
  dsimp only
  refine .trans ?_ (State.pushNotify_onlyTells _)
  split_ifs
  · exact (State.raiseVector_onlyTells s _ 1).trans (.emit _ _)
  · exact State.raiseVector_onlyTells s _ 1

theorem State.setNoteQueue_noteQueue (s : State) (q : Option PartId) : s.setNoteQueue q (s.noteQueue q) = s := by
  cases q with
  | none => rfl
  | some n => exact congrArg (fun ps => { s with parts := ps }) (Vector.set_getElem_self n.isLt)

theorem countsTelling_noteIndex (q : Option PartId) (sub : Nat) : countsTelling (noteIndex q) sub = true := by
  cases q <;> rfl

theorem noteIndex_lt (q : Option PartId) : noteIndex q < 65536 := by
  cases q with
  | none => decide
  | some n => exact (by decide : (0x1120 : Nat) < 65536)

/-- The three ways a notification can go (13 R325, R326): coalesced, dropped, queued. -/
theorem State.notePost_eq (s : State) (q : Option PartId) (reason item data : Nat) :
    s.notePost q reason item data =
      if (s.noteQueue q).items.any (fun e => e.reason == reason && e.part == partByte q && e.item == item) then objBump s q (noteIndex q) 4
      else if 31 ≤ (s.noteQueue q).items.length then
        objBump (s.setNoteQueue q { s.noteQueue q with lost := (s.noteQueue q).lost + 1 }) q (noteIndex q) 3
      else (s.setNoteQueue q ((s.noteQueue q).put reason (partByte q) item data s.tick)).noteRing q := by
  cases q <;> rfl

/-- A notification changes its queue and tells; where the queue has room, the queue then holds one of its REASON, PART and ITEM, the new
record or the one it was coalesced with. -/
theorem State.notePost_onlyTells (s : State) (q : Option PartId) (reason item data : Nat) :
    ∃ x : NoteQueue, OnlyTells (s.setNoteQueue q x) (s.notePost q reason item data)
      ∧ ((s.noteQueue q).items.length < 31 → ∃ e ∈ x.items, e.reason = reason ∧ e.part = partByte q ∧ e.item = item) := by
  rw [State.notePost_eq]
  split
  next hmerged =>
    refine ⟨s.noteQueue q, ?_, fun _ => ?_⟩
    · rw [State.setNoteQueue_noteQueue]
      exact .objBump s q 1 (noteIndex_lt q) (by decide) (countsTelling_noteIndex q 4)
    · obtain ⟨e, he, hm⟩ := List.any_eq_true.mp hmerged
      simp only [Bool.and_eq_true, beq_iff_eq] at hm
      obtain ⟨⟨hreason, hpart⟩, hitem⟩ := hm
      exact ⟨e, he, hreason, hpart, hitem⟩
  next =>
    split
    next hfull => exact ⟨_, .objBump _ q 1 (noteIndex_lt q) (by decide) (countsTelling_noteIndex q 3), fun hroom => absurd hfull (by omega)⟩
    next => exact ⟨_, State.noteRing_onlyTells _ q, fun _ => ⟨_, List.mem_append_right _ (List.mem_singleton.mpr rfl), rfl, rfl, rfl⟩⟩

/-! ## Doorbells of partitions that are not formed (01 R25; 11 R265) -/

theorem State.cmdDbWritten_of_unformed {s : State} {n : PartId} {a : RegAccess} (ha : a.aligned = true) (hn : s.partState n ≠ 2) :
    s.cmdDbWritten n a = s.doorbellLost := by
  simp [State.cmdDbWritten, State.sized, ha, hn]

theorem State.cplDbWritten_of_unformed {s : State} {n : PartId} {a : RegAccess} (ha : a.aligned = true) (hn : s.partState n ≠ 2) :
    s.cplDbWritten n a = s.doorbellLost := by
  simp [State.cplDbWritten, State.sized, ha, hn]

/-- Outside a power entry either doorbell of a partition that is not formed is lost. -/
theorem exec_doorbell_of_unformed {s : State} {n : PartId} {a : RegAccess} (ha : a.aligned = true) (hp : s.power.entering = .nothing)
    (hn : s.partState n ≠ 2) {i : Instr} (hi : i ∈ [Instr.cmdDbWrite n a, .cplDbWrite n a]) : exec i s = .next s.doorbellLost := by
  rcases List.mem_pair.mp hi with rfl | rfl
  · show execCmdDbWrite n a s = _
    simp [execCmdDbWrite, hp, State.cmdDbWritten_of_unformed ha hn]
  · show execCplDbWrite n a s = _
    simp [execCplDbWrite, hp, State.cplDbWritten_of_unformed ha hn]

/-- A lost doorbell is counted in obj C020.01, posts its notification, and does no more. -/
theorem State.doorbellLost_onlyTells (s : State) :
    ∃ x : NoteQueue, OnlyTells { objBump s none 0xC020 1 with notes := x } s.doorbellLost
      ∧ (s.notes.items.length < 31 → ∃ e ∈ x.items, e.reason = reasonChange ∧ e.part = 255 ∧ e.item = itemOf 0xC020 1) :=
  State.notePost_onlyTells (objBump s none 0xC020 1) none reasonChange (itemOf 0xC020 1) _

/-- Settles O58: the lost doorbell is counted first, and all that follows it only tells. -/
theorem doorbellOfUnformed : Obligations.DoorbellOfUnformed := by
  unfold Obligations.DoorbellOfUnformed
  intro s n a ha hp hn i hi
  obtain ⟨x, htell, hnote⟩ := s.doorbellLost_onlyTells
  have hmax : objMax 0xC020 1 = 2 ^ 32 - 1 := by decide
  have hcount : objGet s.doorbellLost none 0xC020 1 = min (objGet s none 0xC020 1 + 1) (objMax 0xC020 1) :=
    (htell.objs none 0xC020 1 (by decide) (by decide) rfl).trans (objGet_objBump_same s none 0xC020 1 1)
  refine ⟨s.doorbellLost, exec_doorbell_of_unformed ha hp hn hi, hmax ▸ hcount, fun hroom => ?_, htell.reads, htell.mem, htell.cores, fun m => ?_⟩
  · rw [htell.notes]
    exact hnote hroom
  · obtain ⟨v, hv⟩ := htell.parts m
    have hplace : objGet s.doorbellLost (some m) 0x4010 0xF = objGet s (some m) 0x4010 0xF :=
      (htell.objs (some m) 0x4010 0xF (by decide) (by decide) rfl).trans
        (objGet_objBump_other s 1 (objKey_ne (by decide) (by decide) (by decide) (by decide) (by decide)))
    rw [hv]
    exact ⟨rfl, rfl, rfl, rfl, rfl, rfl, hplace⟩

end Sys2Proof.Machine
end

section
/-!
SUPPORT. Two's complement as `signed` and `unsigned` read and write it, the number at an address of which every byte reads 0, and
the fields of the word of a Hearth element (03 R68).
-/
namespace Sys2Proof.Machine

/-! ## Two's complement -/

/-- `signed` is the library's balanced residue, for which its laws are proved. -/
theorem signed_eq_bmod {w : Nat} (hw : 0 < w) (n : Nat) : signed w n = (n : Int).bmod (2 ^ w) := by
  obtain ⟨k, rfl⟩ := Nat.exists_eq_add_one.mpr hw
  have hhalf : (((2 ^ (k + 1) : Nat) : Int) + 1) / 2 = (2 ^ k : Nat) := by omega
  simp only [signed, Int.bmod, hhalf, ← Int.natCast_emod, Int.ofNat_lt, Nat.add_sub_cancel]

theorem natCast_unsigned (w : Nat) (v : Int) : (unsigned w v : Int) = v % (2 ^ w : Nat) :=
  Int.toNat_of_nonneg (Int.emod_nonneg v (by positivity))

theorem unsigned_lt (w : Nat) (v : Int) : unsigned w v < 2 ^ w := by
  have hlt := Int.emod_lt_of_pos v (b := (2 ^ w : Nat)) (by positivity)
  rw [← natCast_unsigned] at hlt
  exact_mod_cast hlt

/-- Only the low w bits count. -/
theorem signed_mod (w n : Nat) : signed w (n % 2 ^ w) = signed w n := by
  simp only [signed, Nat.mod_mod]

/-- A value in the range of w bits reads back from its pattern. -/
theorem signed_unsigned {w : Nat} (hw : 0 < w) {v : Int} (hlo : -(2 ^ (w - 1)) ≤ v) (hhi : v < 2 ^ (w - 1)) :
    signed w (unsigned w v) = v := by
  obtain ⟨k, rfl⟩ := Nat.exists_eq_add_one.mpr hw
  rw [signed_eq_bmod hw, natCast_unsigned, Int.emod_bmod]
  rw [Nat.add_sub_cancel] at hlo hhi
  apply Int.bmod_eq_of_le <;> push_cast <;> omega

/-- A pattern reads back from its value. -/
theorem unsigned_signed {w : Nat} (hw : 0 < w) (n : Nat) : unsigned w (signed w n) = n % 2 ^ w := by
  rw [unsigned, signed_eq_bmod hw, Int.bmod_emod, ← Int.natCast_emod, Int.toNat_natCast]

/-! ## Numbers in memory -/

theorem memNat_eq_zero {m : Memory} {n : Nat} : ∀ {a : Nat}, (∀ i, i < n → memByte m (a + i) = 0) → memNat m a n = 0 := by
  induction n with
  | zero => exact fun _ => rfl
  | succ n ih =>
    intro a h
    have hhead : memByte m a = 0 := h 0 n.succ_pos
    have htail : leNat (memBytes m (a + 1) n) = 0 := ih fun i hi => by
      rw [Nat.add_right_comm]
      exact h (i + 1) (Nat.succ_lt_succ hi)
    simp [memNat, memBytes, leNat, hhead, htail]

/-- An element of which every byte reads 0 has V 0 and ST 0. -/
theorem hearthGet_eq_zero {m : Memory} {c : CoreId} {slot i : Nat} (h : ∀ j, j < 8 → memByte m (hearthAddr c slot i + j) = 0) :
    hearthGet m c slot i = ⟨0, 0⟩ := by
  rw [hearthGet, memNat_eq_zero h]
  decide

/-! ## The word of a Hearth element (03 R68) -/

namespace HElem

theorem word_lt (e : HElem) : e.word < 2 ^ 50 := by
  have hv := unsigned_lt 48 e.v
  rw [word]
  omega

theorem bits_word_v (e : HElem) : bits e.word 47 0 = unsigned 48 e.v := by
  have hv := unsigned_lt 48 e.v
  simp only [bits, word]
  omega

theorem bits_word_st (e : HElem) : bits e.word 49 48 = e.st % 4 := by
  have hv := unsigned_lt 48 e.v
  simp only [bits, word]
  omega

/-- V of the element a word holds is the word's bits 47:0 in two's complement. -/
theorem ofWord_v (w : Nat) : (ofWord w).v = signed 48 (bits w 47 0) := by
  simpa [ofWord, bits] using (signed_mod 48 w).symm

/-- An element whose V is a 48-bit value and whose ST has 2 bits reads back from its word. -/
theorem ofWord_word {e : HElem} (hlo : -(2 ^ 47) ≤ e.v) (hhi : e.v < 2 ^ 47) (hst : e.st < 4) : ofWord e.word = e := by
  have hv : (ofWord e.word).v = e.v := by
    rw [ofWord_v, bits_word_v]
    exact signed_unsigned (by decide) hlo hhi
  have hs : (ofWord e.word).st = e.st := (bits_word_st e).trans (Nat.mod_eq_of_lt hst)
  calc ofWord e.word = ⟨(ofWord e.word).v, (ofWord e.word).st⟩ := rfl
    _ = e := by rw [hv, hs]

/-- A word reads back from its element but for the reserved bits, which then read 0. -/
theorem word_ofWord (w : Nat) : (ofWord w).word = w % 2 ^ 50 := by
  have hv : unsigned 48 (ofWord w).v = w % 2 ^ 48 := unsigned_signed (by decide) w
  have hs : (ofWord w).st = w / 2 ^ 48 % 4 := rfl
  rw [word, hv, hs]
  omega

end HElem

/-- Settles O55: the fields of an element's word, the two round trips, and the element of an unwritten memory. -/
theorem hearthElementLayout : Obligations.HearthElementLayout := by
  unfold Obligations.HearthElementLayout
  refine ⟨fun v st hlo hhi hst => ?_, fun w _ => HElem.word_ofWord w, ?_, ?_, rfl, rfl, ?_, rfl, fun c slot i => ?_⟩
  · refine ⟨HElem.word_lt _, ?_, ?_, HElem.ofWord_word hlo hhi hst⟩
    · exact (HElem.bits_word_st _).trans (Nat.mod_eq_of_lt hst)
    · rw [HElem.bits_word_v]
      exact signed_unsigned (by decide) hlo hhi
  · exact (HElem.bits_word_v _).trans (by decide)
  · exact (HElem.bits_word_v _).trans (by decide)
  · exact (HElem.bits_word_v _).trans (by decide)
  · exact hearthGet_eq_zero fun _ _ => rfl

end Sys2Proof.Machine
end

section
/-!
SUPPORT. The dictionary's counts, which saturate (13 R321), and the Scout counters, which wrap (06 R154).
-/
namespace Sys2Proof.Machine

/-! ## Counts of the dictionary (13 R321) -/

/-- The largest value of a listed object is the one its row's length gives. -/
theorem objMax_of_objRow {index sub : Nat} {row : ObjRow} (h : objRow index sub = some row) :
    objMax index sub = 2 ^ (8 * row.len) - 1 := by
  rw [objMax, h]

/-- A count within its type never goes down. -/
theorem objGet_le_objGet_objBump (s : State) (q : Option PartId) {index sub : Nat} (n : Nat)
    (h : objGet s q index sub ≤ objMax index sub) : objGet s q index sub ≤ objGet (objBump s q index sub n) q index sub := by
  rw [objGet_objBump_same]
  exact le_min (Nat.le_add_right _ n) h

/-! ## Scout counters (06 R154) -/

/-- The counter that counts holds the sum modulo 2³². -/
theorem Core.scoutCounts_scoutCount_same (k : Core) (i : Fin 6) (n : Nat) :
    (k.scoutCount i n).scoutCounts[i] = k.scoutCounts[i] + BitVec.ofNat 32 n := by
  simp [Core.scoutCount]

/-- The other counters are as before. -/
theorem Core.scoutCounts_scoutCount_other (k : Core) {i j : Fin 6} (h : j ≠ i) (n : Nat) :
    (k.scoutCount i n).scoutCounts[j] = k.scoutCounts[j] :=
  Vector.getElem_set_ne i.isLt j.isLt (Fin.val_ne_of_ne h.symm)

/-- Settles O57: a count is bounded by its row's largest value, and a Scout counter is a sum of 32-bit words. -/
theorem countsSaturate : Obligations.CountsSaturate := by
  unfold Obligations.CountsSaturate
  refine ⟨fun s q index sub n row hrow => ?_, fun k i n => ⟨?_, fun j hj => k.scoutCounts_scoutCount_other hj n⟩⟩
  · rw [← objMax_of_objRow hrow]
    exact ⟨objGet_objBump_same s q index sub n, objGet_le_objGet_objBump s q n, objBump_mem s q index sub n, objBump_cores s q index sub n⟩
  · rw [Core.scoutCounts_scoutCount_same, BitVec.toNat_add, BitVec.toNat_ofNat, Nat.add_mod_mod]

end Sys2Proof.Machine
end

section
/-!
SUPPORT. The CRC of a PDU (14 R330): the register that takes a whole byte does what the serial one does bit by bit, where the CRC
stands among the bytes of a PDU, and what each carrier of Guyline does with a PDU whose CRC fails.
-/
namespace Sys2Proof.Machine

/-! ## The CRC register -/

theorem bitOf_eq_testBit (n i : Nat) : bitOf n i = n.testBit i := by
  rw [bitOf, Nat.testBit_eq_decide_div_mod_eq]
  rfl

theorem bitOf_xor (m n i : Nat) : bitOf (m ^^^ n) i = (bitOf m i != bitOf n i) := by
  simp only [bitOf_eq_testBit, Nat.testBit_xor, Bool.bne_eq_xor]

/-- Doubling a 16-bit register distributes over exclusive or. -/
theorem xor_mul_two_mod (m n : Nat) : (m ^^^ n) * 2 % 65536 = (m * 2 % 65536) ^^^ (n * 2 % 65536) := by
  have hmul : (m ^^^ n) * 2 = m * 2 ^^^ n * 2 := by simpa [Nat.shiftLeft_eq] using Nat.shiftLeft_xor_distrib (a := m) (b := n) (i := 1)
  rw [hmul]
  exact Nat.xor_mod_two_pow (n := 16)

/-- One step of the register as `crc16Byte` takes it: the whole byte stands in the register already. -/
def crcShift (c : Nat) : Nat := if bitOf c 15 then (c * 2 % 65536) ^^^ 0x1021 else c * 2

/-- One step of the serial register, which takes one bit of the message. -/
def crcFeed (c : Nat) (x : Bool) : Nat := if bitOf c 15 != x then (c * 2 % 65536) ^^^ 0x1021 else c * 2 % 65536

theorem crc16Byte_eq (c : Nat) (b : Byte) : crc16Byte c b = (List.range 8).foldl (fun c _ => crcShift c) (c ^^^ b.toNat * 256) := rfl

theorem crcFeed_lt (c : Nat) (x : Bool) : crcFeed c x < 65536 := by
  have hdouble : c * 2 % 65536 < 2 ^ 16 := Nat.mod_lt _ (by decide)
  unfold crcFeed
  split
  · exact Nat.xor_lt_two_pow hdouble (by decide)
  · exact hdouble

/-- A register of 16 bits shifts as if it were fed a 0. -/
theorem crcShift_eq_crcFeed {c : Nat} (hc : c < 65536) : crcShift c = crcFeed c false := by
  unfold crcShift crcFeed
  cases htop : bitOf c 15 with
  | true => rfl
  | false =>
    have hlow : c * 2 < 65536 := by
      simp only [bitOf, beq_eq_false_iff_ne] at htop
      omega
    exact (Nat.mod_eq_of_lt hlow).symm

/-- The register is linear: message bits that stand in it act as they do when they are fed. -/
theorem crcShift_xor {c m : Nat} (hc : c < 65536) (hm : m < 65536) :
    crcShift (c ^^^ m) = crcFeed c (bitOf m 15) ^^^ (m * 2 % 65536) := by
  rw [crcShift_eq_crcFeed (Nat.xor_lt_two_pow (n := 16) hc hm), crcFeed, crcFeed, bitOf_xor, xor_mul_two_mod, Bool.bne_false]
  split
  · exact Nat.xor_right_comm _ _ _
  · rfl

/-- The serial register after the first n bits of a byte, most significant first. -/
def crcSerial (b : Byte) (c n : Nat) : Nat := (List.range n).foldl (fun c i => crcFeed c (bitOf b.toNat (7 - i))) c

theorem crcSerial_succ (b : Byte) (c n : Nat) : crcSerial b c (n + 1) = crcFeed (crcSerial b c n) (bitOf b.toNat (7 - n)) := by
  simp [crcSerial, List.range_succ]

theorem crcSerial_lt (b : Byte) {c : Nat} (hc : c < 65536) : ∀ n, crcSerial b c n < 65536
  | 0 => hc
  | n + 1 => by
    rw [crcSerial_succ]
    exact crcFeed_lt _ _

/-- After n steps the bit of the byte that is due stands on top of the register. -/
theorem bitOf_shifted_top (b n : Nat) (hn : n < 8) : bitOf (b * 2 ^ (8 + n) % 65536) 15 = bitOf b (7 - n) := by
  have htop : 15 - (8 + n) = 7 - n := by omega
  rw [bitOf_eq_testBit, bitOf_eq_testBit, show 65536 = 2 ^ 16 from rfl, Nat.testBit_mod_two_pow, Nat.testBit_mul_two_pow, htop]
  simp only [show 15 < 16 by decide, show 8 + n ≤ 15 by omega, decide_true, Bool.true_and]

/-- After n steps the register holds the serial one, and over it what is left of the byte. -/
theorem crcShift_iterate (b : Byte) {c : Nat} (hc : c < 65536) {n : Nat} (hn : n ≤ 8) :
    (List.range n).foldl (fun c _ => crcShift c) (c ^^^ b.toNat * 256) = crcSerial b c n ^^^ (b.toNat * 2 ^ (8 + n) % 65536) := by
  induction n with
  | zero =>
    have hbyte : b.toNat * 256 < 65536 := Nat.mul_lt_mul_of_pos_right b.isLt (by decide)
    simp [crcSerial, Nat.mod_eq_of_lt hbyte]
  | succ n ih =>
    have hrest : b.toNat * 2 ^ (8 + n) % 65536 * 2 % 65536 = b.toNat * 2 ^ (8 + (n + 1)) % 65536 := by
      rw [Nat.mod_mul_mod, Nat.mul_assoc, ← Nat.pow_succ, ← Nat.add_succ]
    rw [List.range_succ, List.foldl_append, ih (by omega), List.foldl_cons, List.foldl_nil,
      crcShift_xor (crcSerial_lt b hc n) (Nat.mod_lt _ (by decide)), bitOf_shifted_top _ n hn, ← crcSerial_succ, hrest]

/-- After 8 steps nothing of the byte is left. -/
theorem crc16Byte_eq_crcSerial (b : Byte) {c : Nat} (hc : c < 65536) : crc16Byte c b = crcSerial b c 8 := by
  have hgone : b.toNat * 2 ^ (8 + 8) % 65536 = 0 := Nat.mul_mod_left _ _
  rw [crc16Byte_eq, crcShift_iterate b hc (Nat.le_refl 8), hgone, Nat.xor_zero]

theorem crc16_append_singleton (bs : List Byte) (b : Byte) : crc16 (bs ++ [b]) = crc16Byte (crc16 bs) b := by
  simp [crc16]

theorem crc16_lt (bs : List Byte) : crc16 bs < 65536 := by
  induction bs using List.reverseRecOn with
  | nil => decide
  | append_singleton bs b ih =>
    rw [crc16_append_singleton, crc16Byte_eq_crcSerial b ih]
    exact crcSerial_lt b ih 8

/-! ## The bytes of a PDU (14 R329) -/

@[simp] theorem length_leBytes (k n : Nat) : (leBytes k n).length = k := by
  induction k generalizing n with
  | zero => rfl
  | succ k ih => exact congrArg (· + 1) (ih (n / 256))

theorem length_pduHead (p : Pdu) : (pduHead p).length = 14 := by
  simp [pduHead]

theorem take_pduBytes (p : Pdu) : (pduBytes p).take 14 = pduHead p := by
  rw [pduBytes, List.append_assoc, List.take_left' (length_pduHead p)]

theorem drop_pduBytes (p : Pdu) : (pduBytes p).drop 14 = leBytes 2 p.crc ++ p.data := by
  rw [pduBytes, List.append_assoc, List.drop_left' (length_pduHead p)]

theorem pduCrcOk_iff (p : Pdu) : pduCrcOk p = true ↔ p.crc = crc16 (pduHead p ++ p.data.take p.len) := beq_iff_eq

/-! ## PDUs whose CRC fails (14 R330, R339) -/

/-- A frame is dropped by the filters before the CRC or by the CRC itself; that it came in shows PLCA active either way (log 44). -/
theorem exec_t1sFrameReceive_of_badCrc (s : State) {f : T1sFrame} (h : pduCrcOk (pduOf f.payload true) = false) :
    ∃ sub, exec (.t1sFrameReceive f) s = .next ((objSet s none 0xD010 6 1).countPort .t1s sub) := by
  show ∃ sub, execT1sFrameReceive f s = _
  simp only [execT1sFrameReceive, h, Bool.not_false, if_true]
  split
  · exact ⟨2, rfl⟩
  · split
    · exact ⟨2, rfl⟩
    · exact ⟨3, rfl⟩

theorem exec_i3cPrivateWrite_of_badCrc (s : State) {x : I3cTransfer} (h : pduCrcOk (pduOf x.bytes false) = false) :
    ∃ sub, exec (.i3cPrivateWrite x) s = .next (s.countPort .i3c sub) := by
  show ∃ sub, execI3cPrivateWrite x s = _
  simp only [execI3cPrivateWrite, h, Bool.not_false, if_true]
  split
  · exact ⟨2, rfl⟩
  · exact ⟨3, rfl⟩

/-- The PDU that stands in the mailbox's request buffer. -/
def Warden.mailboxPdu (w : Warden) : Pdu := pduOf ((List.range 1040).map fun i => tabGet 0 w.mbRequest i) true

/-- A dropped mailbox PDU leaves REQ clear (log 81). -/
theorem State.takeMailbox_of_badCrc (s : State) (h : pduCrcOk s.warden.mailboxPdu = false) :
    ∃ sub, s.takeMailbox = (s.modWarden fun w => { w with mbReq := false }).countPort .mailbox sub := by
  unfold Warden.mailboxPdu at h
  simp only [State.takeMailbox, h, Bool.not_false, if_true]
  split
  · exact ⟨2, rfl⟩
  · exact ⟨3, rfl⟩

/-- REQ set and cleared again, where it was clear, is as before. -/
theorem State.modWarden_mbReq_set_clear {s : State} (h : s.warden.mbReq = false) :
    ((s.modWarden fun w => { w with mbReq := true }).modWarden fun w => { w with mbReq := false }) = s := by
  show { s with warden := { s.warden with mbReq := false } } = s
  rw [← h]

theorem exec_mbReq_of_badCrc {s : State} {a : RegAccess} (ha : a.aligned = true) (hreq : bitOf a.value.toNat 0 = true)
    (hrsp : bitOf a.value.toNat 1 = false) (hidle : s.warden.mbReq = false) (hfree : s.warden.mbRsp = false)
    (h : pduCrcOk s.warden.mailboxPdu = false) : ∃ sub, exec (.mbReq a) s = .next (s.countPort .mailbox sub) := by
  have htake : exec (.mbReq a) s = .next (s.modWarden fun w => { w with mbReq := true }).takeMailbox := by
    show execMbReq a s = _
    simp [execMbReq, State.mailboxSized, State.mbCtlWrite, ha, hreq, hrsp, hidle, hfree]
  obtain ⟨sub, hdrop⟩ := (s.modWarden fun w => { w with mbReq := true }).takeMailbox_of_badCrc h
  exact ⟨sub, by rw [htake, hdrop, State.modWarden_mbReq_set_clear hidle]⟩

theorem exec_mgmtReq_of_badCrc (s : State) {k : Packet} (hkind : k.kind = 8) (h : pduCrcOk (pduOf k.body false) = false) :
    ∃ sub, exec (.mgmtReq k) s = .next (s.countPort .relay sub) := by
  show ∃ sub, execMgmtReq k s = _
  simp only [execMgmtReq, State.mgmtReq, hkind, h, BEq.rfl, Bool.not_false, if_true]
  split
  · exact ⟨2, rfl⟩
  · exact ⟨3, rfl⟩

/-- Settles O56: the register is linear in the message, the CRC stands behind a head of 14 bytes, and every carrier only counts a PDU
whose CRC fails; that the mailbox has REQ clear at once is log 81 (DEDUCED). -/
theorem pduCrc : Obligations.PduCrc := by
  unfold Obligations.PduCrc
  refine ⟨by decide +kernel, rfl, fun bs b => ?_, fun p => ?_, fun p => ?_, fun s f _ _ _ h => ?_, fun s x _ _ h => ?_,
    fun s a ha hreq hrsp hidle hfree h => ?_, fun s k hkind _ h => ?_⟩
  · exact (crc16_append_singleton bs b).trans (crc16Byte_eq_crcSerial b (crc16_lt bs))
  · rw [take_pduBytes]
    exact pduCrcOk_iff p
  · rw [drop_pduBytes, List.take_left' (length_leBytes 2 _)]
  · obtain ⟨sub, hdrop⟩ := exec_t1sFrameReceive_of_badCrc s h
    exact ⟨_, hdrop, rfl, rfl, rfl⟩
  · obtain ⟨sub, hdrop⟩ := exec_i3cPrivateWrite_of_badCrc s h
    exact ⟨_, hdrop, rfl, rfl, rfl⟩
  · obtain ⟨sub, hdrop⟩ := exec_mbReq_of_badCrc ha hreq hrsp hidle hfree h
    exact ⟨_, hdrop, rfl, rfl, rfl⟩
  · obtain ⟨sub, hdrop⟩ := exec_mgmtReq_of_badCrc s hkind h
    exact ⟨_, hdrop, rfl, rfl, rfl, rfl⟩

end Sys2Proof.Machine
end

/-!
# Every step keeps memory canonical (O60)

Memory is a sparse table whose canonical form is the model's own (log 3). Most functions of the model do not touch memory: for those one lemma
says so (`…_mem`). The others write through `scratchWrite`, `hearthSet`, `State.write`, `State.clearMem` and `State.hbmWrite`, which keep the form
(`Laws/Memory`): for those one lemma says that the form is kept (`…_memOk`). Each lemma is proved from those of the functions it calls.
-/

namespace Sys2Proof.Machine

/-! ## Functions that do not touch memory -/

/-- A fold whose steps leave memory as it is leaves memory as it is. -/
theorem foldl_mem {α : Type} {f : State → α → State} (h : ∀ s x, (f s x).mem = s.mem) (l : List α) (s : State) :
    (l.foldl f s).mem = s.mem := by
  induction l generalizing s with
  | nil => rfl
  | cons x xs ih => rw [List.foldl_cons, ih, h]

/-- The same of a fold that carries a value before the state. -/
theorem foldl_snd_mem {α β : Type} {f : β × State → α → β × State} (h : ∀ a x, (f a x).2.mem = a.2.mem) (l : List α) (a : β × State) :
    (l.foldl f a).2.mem = a.2.mem := by
  induction l generalizing a with
  | nil => rfl
  | cons x xs ih => rw [List.foldl_cons, ih, h]

/-! ### Dictionary: memory is left as it is -/

@[simp] theorem bumpOf_mem (s : State) (c : CoreId) (index sub : Nat) (by_ : Nat) : (bumpOf s c index sub by_).mem = s.mem := by
  unfold bumpOf
  split <;> simp

@[simp] theorem State.clearPartObjs_mem (s : State) (n : PartId) (keep : Nat → Nat → Bool) :
    (s.clearPartObjs n keep).mem = s.mem := rfl

/-! ### Notify: memory is left as it is -/

@[simp] theorem State.sendCrd_mem (s : State) : s.sendCrd.mem = s.mem := by simp [State.sendCrd, apply_ite State.mem]

@[simp] theorem State.owe_mem (s : State) (pHdr pDat npHdr : Nat) : (s.owe pHdr pDat npHdr).mem = s.mem := by simp [State.owe]

@[simp] theorem State.flushTx_mem (s : State) : s.flushTx.mem = s.mem := by simp [State.flushTx, apply_ite State.mem]

@[simp] theorem State.transmit_mem (s : State) (e : OutEvent) : (s.transmit e).mem = s.mem := by
  simp [State.transmit, apply_ite State.mem]

@[simp] theorem State.hostPost_mem (s : State) (n : PartId) (addr : Nat) (bs : List Byte) (noSnoop : Bool) :
    (s.hostPost n addr bs noSnoop).mem = s.mem := by simp -implicitDefEqProofs [State.hostPost, foldl_mem, apply_ite State.mem]

@[simp] theorem State.hostAsk_mem (s : State) (n : PartId) (addr len : Nat) (use : ReadUse) (noSnoop : Bool) :
    (s.hostAsk n addr len use noSnoop).2.mem = s.mem := by simp [State.hostAsk]

@[simp] theorem State.hostAskAll_mem (s : State) (n : PartId) (addr len : Nat) (use : ReadUse) (noSnoop : Bool) :
    (s.hostAskAll n addr len use noSnoop).2.mem = s.mem := by
  unfold State.hostAskAll
  split
  refine foldl_snd_mem (fun r e => ?_) _ _
  exact State.hostAsk_mem r.2 n e.1 e.2 use noSnoop

@[simp] theorem State.abandonReads_mem (s : State) (p : HostRead → Bool) : (s.abandonReads p).mem = s.mem := by
  simp [State.abandonReads, apply_ite State.mem]

@[simp] theorem State.raiseVector_mem (s : State) (n : PartId) (v : Fin 8) : (s.raiseVector n v).mem = s.mem := by
  simp [State.raiseVector, apply_ite State.mem]

@[simp] theorem State.setNoteQueue_mem (s : State) (q : Option PartId) (x : NoteQueue) : (s.setNoteQueue q x).mem = s.mem := by
  unfold State.setNoteQueue
  split <;> simp

@[simp] theorem State.writePlca_mem (s : State) : s.writePlca.mem = s.mem := rfl

@[simp] theorem State.pushNotify_mem (s : State) : s.pushNotify.mem = s.mem := by
  unfold State.pushNotify
  split <;> simp [apply_ite State.mem]

@[simp] theorem State.noteRing_mem (s : State) (q : Option PartId) : (s.noteRing q).mem = s.mem := by
  simp [State.noteRing, apply_ite State.mem]

@[simp] theorem State.notePost_mem (s : State) (q : Option PartId) (reason item data : Nat) :
    (s.notePost q reason item data).mem = s.mem := by simp [State.notePost, apply_ite State.mem]

@[simp] theorem State.noteTake_mem (s : State) (q : Option PartId) : (s.noteTake q).2.mem = s.mem := by
  unfold State.noteTake
  dsimp only
  repeat' split
  all_goals simp

@[simp] theorem State.noteChange_mem (s : State) (q : Option PartId) (index sub : Nat) : (s.noteChange q index sub).mem = s.mem := by
  simp [State.noteChange]

@[simp] theorem countIgnored_mem (s : State) (c : CoreId) (csr v : Nat) : (countIgnored s c csr v).mem = s.mem := by
  simp [countIgnored]

@[simp] theorem State.recordEvent_mem (s : State) (code : Nat) (part : Option PartId) (core : Option CoreId) (detail : Nat) :
    (s.recordEvent code part core detail).mem = s.mem := by
  unfold State.recordEvent
  repeat' split
  all_goals simp -implicitDefEqProofs [apply_ite State.mem]

/-! ### Store: memory is left as it is -/

@[simp] theorem State.gateCore_mem (s : State) (c : CoreId) : (s.gateCore c).mem = s.mem := rfl

@[simp] theorem State.wakeCore_mem (s : State) (m : CoreId) : (s.wakeCore m).mem = s.mem := by
  simp [State.wakeCore, apply_ite State.mem]

@[simp] theorem State.wakeBanks_mem (s : State) (c : CoreId) (rs : List (Nat × Nat)) : (s.wakeBanks c rs).mem = s.mem := by
  unfold State.wakeBanks
  refine foldl_mem (fun s b => ?_) _ _
  split <;> simp

/-! ### Records: memory is left as it is -/

@[simp] theorem State.setBlock_mem (s : State) (n : PartId) (v : Nat) : (s.setBlock n v).mem = s.mem := rfl

@[simp] theorem State.latchStepConfig_mem (s : State) (n : PartId) : (s.latchStepConfig n).mem = s.mem := rfl

@[simp] theorem State.resetTraining_mem (s : State) (n : PartId) : (s.resetTraining n).mem = s.mem := by
  simp [State.resetTraining]

@[simp] theorem State.wakeHistories_mem (s : State) (n : PartId) : (s.wakeHistories n).mem = s.mem := by
  unfold State.wakeHistories
  refine foldl_mem (fun s e => ?_) _ _
  split <;> simp

@[simp] theorem State.stashState_mem (s : State) (n : PartId) (v : Nat) : (s.stashState n v).mem = s.mem := rfl

@[simp] theorem State.setPrevOk_mem (s : State) (n : PartId) (b : Bool) : (s.setPrevOk n b).mem = s.mem := rfl

@[simp] theorem State.transferStarts_mem (s : State) (n : PartId) (lo hi : Nat) : (s.transferStarts n lo hi).mem = s.mem := by
  simp [State.transferStarts, apply_ite State.mem]

/-! ### Rings: memory is left as it is -/

@[simp] theorem State.takeTokens_mem (s : State) (n : PartId) (d : Nat) : (s.takeTokens n d).mem = s.mem := rfl

@[simp] theorem State.giveTokens_mem (s : State) (n : PartId) (d : Nat) : (s.giveTokens n d).mem = s.mem := rfl

@[simp] theorem State.recomputeShares_mem (s : State) : s.recomputeShares.mem = s.mem := by
  simp -implicitDefEqProofs [State.recomputeShares, foldl_mem]

@[simp] theorem State.modCommand_mem (s : State) (n : PartId) (a : Nat) (f : Command → Command) :
    (s.modCommand n a f).mem = s.mem := rfl

@[simp] theorem State.moderate_mem (s : State) (n : PartId) : (s.moderate n).mem = s.mem := by
  simp [State.moderate, apply_ite State.mem]

@[simp] theorem State.writeRecord_mem (s : State) (n : PartId) (r : Record) : (s.writeRecord n r).mem = s.mem := by
  simp [State.writeRecord]

/-! ### Duties: memory is left as it is -/

@[simp] theorem State.dutySwitch_mem (s : State) (q : Option PartId) (k : Nat) : (s.dutySwitch q k).mem = s.mem := by
  simp [State.dutySwitch, apply_ite State.mem]

@[simp] theorem State.stepBoundary_mem (s : State) (n : PartId) : (s.stepBoundary n).mem = s.mem := by simp [State.stepBoundary]

@[simp] theorem State.takeCallSeq_mem (s : State) (q : Option PartId) (k : Nat) : (s.takeCallSeq q k).2.mem = s.mem := by
  unfold State.takeCallSeq
  repeat' split
  all_goals simp

@[simp] theorem State.postCall_mem (s : State) (q : Option PartId) (k : Nat) (body : List Byte) :
    (s.postCall q k body).mem = s.mem := by simp [State.postCall]

@[simp] theorem State.endCall_mem (s : State) (q : Option PartId) (k : Nat) : (s.endCall q k).mem = s.mem := rfl

@[simp] theorem State.lateCall_mem (s : State) (q : Option PartId) (k : Nat) : (s.lateCall q k).mem = s.mem := rfl

@[simp] theorem State.withdrawCalls_mem (s : State) (n : PartId) : (s.withdrawCalls n).mem = s.mem := by
  simp [State.withdrawCalls, apply_ite State.mem]

/-! ### Fabric: memory is left as it is -/

@[simp] theorem State.queueOn_mem (s : State) (p : PortIx) (dl camp : Nat) (k : Packet) : (s.queueOn p dl camp k).mem = s.mem := by
  simp [State.queueOn, apply_ite State.mem]

@[simp] theorem State.sendPacket_mem (s : State) (k : Packet) : (s.sendPacket k).mem = s.mem := by
  unfold State.sendPacket
  split <;> simp

@[simp] theorem State.forwardNotice_mem (s : State) (k : Packet) (except_ : Option PortIx) :
    (s.forwardNotice k except_).mem = s.mem := by simp -implicitDefEqProofs [State.forwardNotice, foldl_mem, apply_ite State.mem]

@[simp] theorem State.flood_mem (s : State) (kind camp : Nat) (body : List Byte) : (s.flood kind camp body).mem = s.mem := by
  simp [State.flood]

@[simp] theorem State.floodFault_mem (s : State) (camp : Nat) : (s.floodFault camp).mem = s.mem := by simp [State.floodFault]

/-! ### Ops: memory is left as it is -/

@[simp] theorem State.countAbacus_mem (s : State) (c : CoreId) (op outcome elems : Nat) :
    (s.countAbacus c op outcome elems).mem = s.mem := by
  unfold State.countAbacus
  dsimp only
  repeat' split
  all_goals simp

@[simp] theorem State.breakCtx_mem (s : State) (key cause : Nat) : (s.breakCtx key cause).mem = s.mem := by
  simp [State.breakCtx, apply_ite State.mem]

@[simp] theorem State.breakStreams_mem (s : State) (c : CoreId) (cause : Nat) (p : Ctx → Bool) :
    (s.breakStreams c cause p).mem = s.mem := by simp -implicitDefEqProofs [State.breakStreams, foldl_mem, apply_ite State.mem]

@[simp] theorem State.dropReads_mem (s : State) (c : CoreId) (i : ChanIx) : (s.dropReads c i).mem = s.mem := by
  simp [State.dropReads, apply_ite State.mem]

@[simp] theorem State.unspeculate_mem (s : State) (c : CoreId) (i : ChanIx) : (s.unspeculate c i).mem = s.mem := by
  simp [State.unspeculate]

@[simp] theorem State.countNan_mem (s : State) (n : PartId) (k : Nat) : (s.countNan n k).mem = s.mem := by
  simp [State.countNan, apply_ite State.mem]

@[simp] theorem State.credsEnd_mem (s : State) (p : CredWait → Bool) (code : Nat) : (s.credsEnd p code).mem = s.mem := rfl

/-! ### Lattice: memory is left as it is -/

@[simp] theorem State.launch_mem (s : State) (c : CoreId) (i : InFlight) : (s.launch c i).mem = s.mem := rfl

/-! ### Stream: memory is left as it is -/

@[simp] theorem State.campPacket_mem (s : State) (n : PartId) (far kind arg : Nat) (body : List Byte) :
    (s.campPacket n far kind arg body).mem = s.mem := by simp [State.campPacket]

@[simp] theorem State.returnCredit_mem (s : State) (n : PartId) (i count : Nat) (x : Ctx) :
    (s.returnCredit n i count x).mem = s.mem := by simp [State.returnCredit, apply_ite State.mem]

@[simp] theorem State.streamEnd_mem (s : State) (c : CoreId) (w d : Nat) : (s.streamEnd c w d).mem = s.mem := rfl

@[simp] theorem State.dropTraffic_mem (s : State) (n : PartId) (i : Nat) : (s.dropTraffic n i).mem = s.mem := rfl

/-! ### Bank: memory is left as it is -/

@[simp] theorem State.setOutc_mem (s : State) (c : CoreId) (b : BankIx) (code : Nat) : (s.setOutc c b code).mem = s.mem := rfl

@[simp] theorem State.countRefusal_mem (s : State) (c : CoreId) (code : Nat) : (s.countRefusal c code).mem = s.mem := by
  simp [State.countRefusal, apply_ite State.mem]

@[simp] theorem State.setWindow_mem (s : State) (c : CoreId) (b : BankIx) (h : Option CoreId) :
    (s.setWindow c b h).mem = s.mem := rfl

@[simp] theorem State.loseWindow_mem (s : State) (c : CoreId) (b : BankIx) : (s.loseWindow c b).mem = s.mem := by
  simp [State.loseWindow]

@[simp] theorem State.bumpClaim_mem (s : State) (q : Claim) (sub : Nat) : (s.bumpClaim q sub).mem = s.mem := by
  unfold State.bumpClaim
  split <;> simp

@[simp] theorem State.revoke_mem (s : State) (d : CoreId) (m : CoreId) (b : BankIx) : (s.revoke d m b).mem = s.mem := by
  simp -implicitDefEqProofs [State.revoke, foldl_mem]

@[simp] theorem State.giveEnd_mem (s : State) (c : CoreId) (b : Nat) (how : Giver) (code : Nat) :
    (s.giveEnd c b how code).mem = s.mem := by
  unfold State.giveEnd
  repeat' split
  all_goals simp

@[simp] theorem State.dropHandover_mem (s : State) (h : Handover) : (s.dropHandover h).mem = s.mem := rfl

/-! ### Porter: memory is left as it is -/

@[simp] theorem State.freshChan_mem (s : State) (c : CoreId) (i : ChanIx) : (s.freshChan c i).mem = s.mem := rfl

@[simp] theorem State.askBeat_mem (s : State) (c : CoreId) (i : ChanIx) : (s.askBeat c i).mem = s.mem := by
  unfold State.askBeat
  split
  · rfl
  · refine Eq.trans (b := (List.foldl _ _ _ : List ReadAsked × State).2.mem) rfl (foldl_snd_mem (fun a x => ?_) _ _)
    split
    · exact State.hostAskAll_mem _ _ _ _ _ _
    · rfl

@[simp] theorem State.askAhead_mem (s : State) (c : CoreId) (i : ChanIx) (f : Nat) : (s.askAhead c i f).mem = s.mem := by
  induction f generalizing s with
  | zero => rfl
  | succ f ih =>
    unfold State.askAhead
    split
    · rw [ih, State.askBeat_mem]
    · rfl

@[simp] theorem State.issueReads_mem (s : State) (c : CoreId) : (s.issueReads c).mem = s.mem := by
  unfold State.issueReads
  exact foldl_mem (fun s i => State.askAhead_mem s c i 64) _ _

@[simp] theorem State.aperturesGoOn_mem (s : State) (n : PartId) : (s.aperturesGoOn n).mem = s.mem := by
  simp -implicitDefEqProofs [State.aperturesGoOn, foldl_mem, apply_ite State.mem]

@[simp] theorem State.porterGoesOn_mem (s : State) (c : CoreId) : (s.porterGoesOn c).mem = s.mem := by
  unfold State.porterGoesOn
  dsimp only
  repeat' split
  all_goals simp -implicitDefEqProofs [foldl_mem]

@[simp] theorem State.stopChan_mem (s : State) (c : CoreId) (i : ChanIx) (st : ChanState) (cause : Nat) :
    (s.stopChan c i st cause).mem = s.mem := by simp [State.stopChan, apply_ite State.mem]

@[simp] theorem State.stopEngine_mem (s : State) (c : CoreId) : (s.stopEngine c).mem = s.mem := by
  simp -implicitDefEqProofs [State.stopEngine, foldl_mem, apply_ite State.mem]

@[simp] theorem State.recordBusError_mem (s : State) (c : CoreId) (space kind addr : Nat) :
    (s.recordBusError c space kind addr).mem = s.mem := by
  unfold State.recordBusError
  split <;> simp

@[simp] theorem State.noteReadError_mem (s : State) (n : Option PartId) (kind : Nat) : (s.noteReadError n kind).mem = s.mem := by
  unfold State.noteReadError
  repeat' split
  all_goals simp

@[simp] theorem State.lateError_mem (s : State) (c : CoreId) (p : ReadAsked → Bool) : (s.lateError c p).mem = s.mem := by
  simp [State.lateError]

@[simp] theorem State.beatBooks_mem (s : State) (c : CoreId) (spec : Bool) (consumed written : Nat) :
    (s.beatBooks c spec consumed written).mem = s.mem := by simp [State.beatBooks, apply_ite State.mem]

@[simp] theorem State.compareBeat_mem (s : State) (c : CoreId) (i : ChanIx) (ch : Channel) (n : Nat) (xs ys : List Byte) :
    (s.compareBeat c i ch n xs ys).mem = s.mem := by
  unfold State.compareBeat
  split <;> simp

/-! ### Abacus: memory is left as it is -/

@[simp] theorem State.abEnds_mem (s : State) (c : CoreId) (i : InFlight) (outcome : Nat) :
    (s.abEnds c i outcome).mem = s.mem := by
  unfold State.abEnds
  refine (foldl_mem (fun s e => ?_) _ _).trans (State.modCore_mem _ _ _)
  split <;> simp

/-! ### ScaleHistory: memory is left as it is -/

@[simp] theorem State.shLate_mem (s : State) (c : CoreId) : (s.shLate c).mem = s.mem := by simp [State.shLate]

@[simp] theorem State.endShRead_mem (s : State) (c : CoreId) : (s.endShRead c).mem = s.mem := rfl

@[simp] theorem State.dropShRead_mem (s : State) (c : CoreId) : (s.dropShRead c).mem = s.mem := by simp [State.dropShRead]

/-! ### Epoch: memory is left as it is -/

@[simp] theorem State.stopMarked_mem (s : State) (c : CoreId) : (s.stopMarked c).mem = s.mem := by
  simp -implicitDefEqProofs [State.stopMarked, foldl_mem, apply_ite State.mem]

@[simp] theorem State.dropShder_mem (s : State) (c : CoreId) : (s.dropShder c).mem = s.mem := by
  unfold State.dropShder
  split <;> simp

@[simp] theorem epochMisused_mem (s : State) (c : CoreId) : (epochMisused s c).mem = s.mem := rfl

@[simp] theorem State.resetChans_mem (s : State) (c : CoreId) : (s.resetChans c).mem = s.mem := by
  simp -implicitDefEqProofs [State.resetChans, foldl_mem]

/-! ### Partition: memory is left as it is -/

@[simp] theorem State.powerUpOp_mem (s : State) (c : CoreId) (was : Nat) (mode : CoreMode) : (s.powerUpOp c was mode).mem = s.mem := by
  simp [State.powerUpOp, apply_ite State.mem]

@[simp] theorem State.takeCanopy_mem (s : State) (n : PartId) (local_ : Nat) (camp : Bool) (i : Fin 8) :
    (s.takeCanopy n local_ camp i).mem = s.mem := rfl

@[simp] theorem State.dropCanopy_mem (s : State) (n : PartId) (local_ : Nat) : (s.dropCanopy n local_).mem = s.mem := by
  unfold State.dropCanopy
  split <;> simp

@[simp] theorem State.clearPorterObjs_mem (s : State) (n : PartId) : (s.clearPorterObjs n).mem = s.mem := by
  simp -implicitDefEqProofs [State.clearPorterObjs, foldl_mem]

@[simp] theorem State.freeStreams_mem (s : State) (n : PartId) : (s.freeStreams n).mem = s.mem := rfl

@[simp] theorem State.resetCanopy_mem (s : State) (n : PartId) : (s.resetCanopy n).mem = s.mem := by
  simp -implicitDefEqProofs [State.resetCanopy, foldl_mem, apply_ite State.mem]

@[simp] theorem State.clearRings_mem (s : State) (n : PartId) : (s.clearRings n).mem = s.mem := rfl

@[simp] theorem State.formed_mem (s : State) (n : PartId) : (s.formed n).mem = s.mem := by
  simp [State.formed, apply_ite State.mem]

/-! ### Canopy: memory is left as it is -/

@[simp] theorem State.putReduction_mem (s : State) (i : Fin 8) (r : Reduction) : (s.putReduction i r).mem = s.mem := rfl

@[simp] theorem State.sendCanopy_mem (s : State) (n : PartId) (kind rank : Nat) (b : CanopyBody) :
    (s.sendCanopy n kind rank b).mem = s.mem := by simp [State.sendCanopy]

@[simp] theorem State.growReduction_mem (s : State) (n : PartId) (i : Fin 8) (r : Reduction) : (s.growReduction n i r).mem = s.mem := by
  simp -implicitDefEqProofs [State.growReduction, foldl_mem, apply_ite State.mem]

@[simp] theorem State.joinReduction_mem (s : State) (n : PartId) (i : Fin 8) (c : CoreId) (rseq mode chunk nchunk : Nat) (anchor : Int) (v : CVal) :
    (s.joinReduction n i c rseq mode chunk nchunk anchor v).mem = s.mem := by simp [State.joinReduction]

/-! ### Commands: memory is left as it is -/

@[simp] theorem State.nowRuns_mem (s : State) (n : PartId) (c : Command) : (s.nowRuns n c).mem = s.mem := rfl

@[simp] theorem State.endStageReads_mem (s : State) (n : PartId) : (s.endStageReads n).mem = s.mem := rfl

/-! ### Bank: memory is left as it is -/

@[simp] theorem State.stageAsk_mem (s : State) (n : PartId) (f : Nat) : (s.stageAsk n f).mem = s.mem := by
  induction f generalizing s with
  | zero => rfl
  | succ f ih =>
    unfold State.stageAsk
    split
    · dsimp only
      split
      · rfl
      · split
        · rw [ih]; simp
        · rfl
    · rfl

/-! ### Commands: memory is left as it is -/

@[simp] theorem State.stageFilled_mem (s : State) (n : PartId) (c : Command) (m : CoreId) (b : BankIx) :
    (s.stageFilled n c m b).mem = s.mem := by
  unfold State.stageFilled
  simp

/-! ### Fuse: memory is left as it is -/

@[simp] theorem State.compareFuses_mem (s : State) (array : Tab Nat) : (s.compareFuses array).mem = s.mem := by
  simp -implicitDefEqProofs [State.compareFuses, foldl_mem, apply_ite State.mem]

@[simp] theorem State.latchFuses_mem (s : State) (array : Tab Nat) : (s.latchFuses array).mem = s.mem := rfl

/-! ### Stash: memory is left as it is -/

@[simp] theorem State.sendRank_mem (s : State) (n : PartId) (rank kind arg : Nat) (body : List Byte) :
    (s.sendRank n rank kind arg body).mem = s.mem := by simp [State.sendRank]

@[simp] theorem State.releaseNorms_mem (s : State) (n : PartId) : (s.releaseNorms n).mem = s.mem := by
  simp -implicitDefEqProofs [State.releaseNorms, foldl_mem]

@[simp] theorem State.stashEnds_mem (s : State) (n : PartId) : (s.stashEnds n).mem = s.mem := by simp [State.stashEnds]

@[simp] theorem State.stashSealed_mem (s : State) (n : PartId) : (s.stashSealed n).mem = s.mem := by
  unfold State.stashSealed
  repeat' split
  all_goals simp

@[simp] theorem State.sendStash_mem (s : State) (n : PartId) (b : Nat) (q : Stash) : (s.sendStash n b q).mem = s.mem := by
  simp -implicitDefEqProofs [State.sendStash, foldl_mem]

@[simp] theorem State.modCamp_mem (s : State) (n : PartId) (f : Camp → Camp) : (s.modCamp n f).mem = s.mem := rfl

@[simp] theorem State.showWard_mem (s : State) (n : PartId) : (s.showWard n).mem = s.mem := rfl

@[simp] theorem State.sendAck_mem (s : State) (k : Packet) (status : Nat) : (s.sendAck k status).mem = s.mem := by
  simp [State.sendAck]

/-! ### Verdict: memory is left as it is -/

@[simp] theorem State.controlBoundary_mem (s : State) (n : PartId) : (s.controlBoundary n).mem = s.mem := by
  simp [State.controlBoundary, apply_ite State.mem]

@[simp] theorem State.raiseStepno_mem (s : State) (n : PartId) (next : Nat) : (s.raiseStepno n next).mem = s.mem := by
  simp -implicitDefEqProofs [State.raiseStepno, foldl_mem]

@[simp] theorem State.passDown_mem (s : State) (n : PartId) (ranks : List Nat) (r : Reduction) (level code : Nat) (v : CVal) :
    (s.passDown n ranks r level code v).mem = s.mem := by
  simp -implicitDefEqProofs [State.passDown, foldl_mem, apply_ite State.mem]

@[simp] theorem State.reductionOver_mem (s : State) (n : PartId) (i : Fin 8) (r : Reduction) (code : Nat) :
    (s.reductionOver n i r code).mem = s.mem := rfl

@[simp] theorem State.voteTimed_mem (s : State) (n : PartId) (i : Fin 8) (r : Reduction) : (s.voteTimed n i r).mem = s.mem := by
  simp [State.voteTimed, apply_ite State.mem]

/-! ### Recovery: memory is left as it is -/

@[simp] theorem State.setRecovery_mem (s : State) (n : PartId) (v : Nat) : (s.setRecovery n v).mem = s.mem := rfl

@[simp] theorem State.remapOver_mem (s : State) : s.remapOver.mem = s.mem := by simp [State.remapOver, apply_ite State.mem]

@[simp] theorem State.settle_mem (s : State) (n : PartId) : (s.settle n).mem = s.mem := by simp [State.settle]

@[simp] theorem State.degrade_mem (s : State) (n : PartId) : (s.degrade n).mem = s.mem := by
  simp [State.degrade, apply_ite State.mem]

@[simp] theorem State.campActive_mem (s : State) (n : PartId) : (s.campActive n).mem = s.mem := by
  simp [State.campActive, apply_ite State.mem]

@[simp] theorem State.sendActive_mem (s : State) (n : PartId) : (s.sendActive n).mem = s.mem := by
  simp -implicitDefEqProofs [State.sendActive, foldl_mem]

@[simp] theorem State.restoreBlock_mem (s : State) (n : PartId) (v : Nat) (resumed : Bool) :
    (s.restoreBlock n v resumed).mem = s.mem := rfl

@[simp] theorem State.unrecoverable_mem (s : State) (n : PartId) : (s.unrecoverable n).mem = s.mem := by
  simp [State.unrecoverable]

@[simp] theorem State.sendRanked_mem (s : State) (n : PartId) (kind arg : Nat) (body : List Byte) :
    (s.sendRanked n kind arg body).mem = s.mem := by simp -implicitDefEqProofs [State.sendRanked, foldl_mem, apply_ite State.mem]

@[simp] theorem State.giveUp_mem (s : State) (n : PartId) : (s.giveUp n).mem = s.mem := by simp [State.giveUp]

@[simp] theorem State.resumeAnswered_mem (s : State) (n : PartId) (rank status : Nat) :
    (s.resumeAnswered n rank status).mem = s.mem := by simp [State.resumeAnswered, apply_ite State.mem]

@[simp] theorem State.sendDone_mem (s : State) (n : PartId) (status : Nat) : (s.sendDone n status).mem = s.mem := by
  unfold State.sendDone
  repeat' split
  all_goals simp

@[simp] theorem State.pullMore_mem (s : State) (n : PartId) (step : Nat) : (s.pullMore n step).mem = s.mem := by
  unfold State.pullMore
  split <;> simp

@[simp] theorem State.postRemap_mem (s : State) : s.postRemap.mem = s.mem := by
  unfold State.postRemap
  repeat' split
  all_goals simp

@[simp] theorem State.remapDeferred_mem (s : State) (n : PartId) : (s.remapDeferred n).mem = s.mem := by
  simp [State.remapDeferred]

@[simp] theorem State.callDecidesNothing_mem (s : State) : s.callDecidesNothing.mem = s.mem := by
  simp [State.callDecidesNothing]

/-! ### RingPage: memory is left as it is -/

@[simp] theorem State.doorbellLost_mem (s : State) : s.doorbellLost.mem = s.mem := by simp [State.doorbellLost]

@[simp] theorem State.doorbellBad_mem (s : State) (n : PartId) : (s.doorbellBad n).mem = s.mem := by simp [State.doorbellBad]

@[simp] theorem State.cmdDbAccept_mem (s : State) (n : PartId) (v : W32) : (s.cmdDbAccept n v).mem = s.mem := rfl

@[simp] theorem State.holdDoorbell_mem (s : State) (cpl : Bool) (n : PartId) (a : RegAccess) :
    (s.holdDoorbell cpl n a).mem = s.mem := rfl

theorem State.sized_mem {s : State} {n : PartId} {a : RegAccess} {body : State} (h : body.mem = s.mem) :
    (s.sized n a body).mem = s.mem := by
  unfold State.sized
  split
  · exact h
  · rfl

@[simp] theorem State.cmdDbWritten_mem (s : State) (n : PartId) (a : RegAccess) : (s.cmdDbWritten n a).mem = s.mem := by
  unfold State.cmdDbWritten
  apply State.sized_mem
  split
  · simp
  · split <;> simp

@[simp] theorem State.cplDbWritten_mem (s : State) (n : PartId) (a : RegAccess) : (s.cplDbWritten n a).mem = s.mem := by
  unfold State.cplDbWritten
  apply State.sized_mem
  split
  · simp
  · split <;> simp

@[simp] theorem State.backInRun_mem (s : State) : s.backInRun.mem = s.mem := by
  unfold State.backInRun
  refine (foldl_mem (fun s e => ?_) _ _).trans rfl
  split <;> simp

@[simp] theorem State.ringRegWrite_mem (s : State) (n : PartId) (offset : Nat) (value : W32) :
    (s.ringRegWrite n offset value).mem = s.mem := by simp [State.ringRegWrite, apply_ite State.mem]

/-! ### Warden: memory is left as it is -/

@[simp] theorem State.countPort_mem (s : State) (p : Port) (sub : Nat) : (s.countPort p sub).mem = s.mem := rfl

@[simp] theorem State.transmitAnswer_mem (s : State) (r : Request) (a : Pdu) : (s.transmitAnswer r a).mem = s.mem := by
  unfold State.transmitAnswer
  split <;> simp [apply_ite State.mem]

@[simp] theorem State.sendAnswer_mem (s : State) (r : Request) (status : Nat) (data : List Byte) :
    (s.sendAnswer r status data).mem = s.mem := by simp [State.sendAnswer]

@[simp] theorem State.busyPort_mem (s : State) (r : Request) : (s.busyPort r).mem = s.mem := by simp [State.busyPort]

@[simp] theorem State.arrive_mem (s : State) (r : Request) : (s.arrive r).mem = s.mem := by
  unfold State.arrive
  repeat' split
  all_goals simp

@[simp] theorem State.notifyAck_mem (s : State) (seq : Nat) : (s.notifyAck seq).mem = s.mem := by
  unfold State.notifyAck
  split <;> simp [apply_ite State.mem]

@[simp] theorem State.discardI3c_mem (s : State) : s.discardI3c.mem = s.mem := rfl

@[simp] theorem State.i3cGet_mem (s : State) (bs : List Byte) : (s.i3cGet bs).mem = s.mem := rfl

@[simp] theorem State.takeMailbox_mem (s : State) : s.takeMailbox.mem = s.mem := by
  simp [State.takeMailbox, apply_ite State.mem]

@[simp] theorem State.mbCtlWrite_mem (s : State) (v : Nat) : (s.mbCtlWrite v).mem = s.mem := by
  simp [State.mbCtlWrite, apply_ite State.mem]

@[simp] theorem State.mbBufferWrite_mem (s : State) (offset v : Nat) : (s.mbBufferWrite offset v).mem = s.mem := by
  simp [State.mbBufferWrite, apply_ite State.mem]

@[simp] theorem State.mbStatWrite_mem (s : State) (v : Nat) : (s.mbStatWrite v).mem = s.mem := rfl

@[simp] theorem State.relay_mem (s : State) (r : Request) : (s.relay r).mem = s.mem := by simp [State.relay, apply_ite State.mem]

@[simp] theorem State.mgmtReq_mem (s : State) (k : Packet) : (s.mgmtReq k).mem = s.mem := by
  simp [State.mgmtReq, apply_ite State.mem]

@[simp] theorem State.mgmtAns_mem (s : State) (k : Packet) : (s.mgmtAns k).mem = s.mem := by
  unfold State.mgmtAns
  split <;> simp [apply_ite State.mem]

@[simp] theorem State.wardenReset_mem (s : State) : s.wardenReset.mem = s.mem := by
  unfold State.wardenReset
  split <;> simp

/-! ### Links: memory is left as it is -/

@[simp] theorem State.sendSequenced_mem (s : State) (p : PortIx) (f : Flit) : (s.sendSequenced p f).mem = s.mem := rfl

@[simp] theorem State.trainPort_mem (s : State) (p : PortIx) (t : PortTraining) : (s.trainPort p t).mem = s.mem := by
  unfold State.trainPort
  split <;> simp

@[simp] theorem State.putInUse_mem (s : State) (p : PortIx) : (s.putInUse p).mem = s.mem := rfl

@[simp] theorem State.dropPacket_mem (s : State) : s.dropPacket.mem = s.mem := rfl

@[simp] theorem State.forwardPacket_mem (s : State) (k : Packet) (from_ : PortIx) (dl : Nat) :
    (s.forwardPacket k from_ dl).mem = s.mem := by
  unfold State.forwardPacket
  split <;> simp

@[simp] theorem State.sendData_mem (s : State) (p : PortIx) (cls : Nat) (k : List (Nat × Flit)) :
    (s.sendData p cls k).mem = s.mem := by
  unfold State.sendData
  split <;> simp

/-! ### Power: memory is left as it is -/

@[simp] theorem State.countWake_mem (s : State) (source : Nat) : (s.countWake source).mem = s.mem := rfl

@[simp] theorem State.setHeld_mem (s : State) (held : List CoreId) : (s.setHeld held).mem = s.mem := by simp [State.setHeld]

@[simp] theorem State.setCeilings_mem (s : State) (f : CoreId → Nat → Nat) : (s.setCeilings f).mem = s.mem := by
  simp [State.setCeilings]

@[simp] theorem State.liftCap_mem (s : State) : s.liftCap.mem = s.mem := by simp [State.liftCap]

@[simp] theorem State.rotateHeld_mem (s : State) : s.rotateHeld.mem = s.mem := by simp [State.rotateHeld]

@[simp] theorem State.capChanged_mem (s : State) : s.capChanged.mem = s.mem := rfl

@[simp] theorem State.capDecide_mem (s : State) (pm : Nat) : (s.capDecide pm).mem = s.mem := by
  unfold State.capDecide
  repeat' split
  all_goals simp -implicitDefEqProofs [apply_ite State.mem]

@[simp] theorem State.powerCall_mem (s : State) (pm : Nat) : (s.powerCall pm).mem = s.mem := by simp [State.powerCall]

@[simp] theorem State.applyAnswer_mem (s : State) (mask op : Nat) : (s.applyAnswer mask op).mem = s.mem := by
  simp [State.applyAnswer]

@[simp] theorem State.capMarionette_mem (s : State) (pm : Nat) (due : Bool) : (s.capMarionette pm due).mem = s.mem := by
  unfold State.capMarionette
  split <;> simp [apply_ite State.mem]

@[simp] theorem State.powerEdge_mem (s : State) : s.powerEdge.mem = s.mem := by simp [State.powerEdge, apply_ite State.mem]

@[simp] theorem State.powerCallOver_mem (s : State) : s.powerCallOver.mem = s.mem := by
  simp [State.powerCallOver, apply_ite State.mem]

@[simp] theorem State.powerAnswered_mem (s : State) (mask op : Nat) : (s.powerAnswered mask op).mem = s.mem := by
  simp [State.powerAnswered]

@[simp] theorem State.emberTick_mem (s : State) : s.emberTick.mem = s.mem := by simp [State.emberTick]

@[simp] theorem State.countLimiter_mem (s : State) : s.countLimiter.mem = s.mem := by
  simp [State.countLimiter, apply_ite State.mem]

@[simp] theorem State.warnSensor_mem (s : State) (i : Fin 16) : (s.warnSensor i).mem = s.mem := by
  simp -implicitDefEqProofs [State.warnSensor, foldl_mem, apply_ite State.mem]

/-! ### Patrol: memory is left as it is -/

@[simp] theorem State.setAudit_mem (s : State) (b : Book) (tick : Nat) : (s.setAudit b tick).mem = s.mem := rfl

@[simp] theorem State.auditDeferred_mem (s : State) (b : Book) : (s.auditDeferred b).mem = s.mem := by
  unfold State.auditDeferred
  dsimp only
  repeat' split
  all_goals simp

@[simp] theorem State.sweepDone_mem (s : State) : s.sweepDone.mem = s.mem := by simp [State.sweepDone, apply_ite State.mem]

@[simp] theorem State.takeUnits_mem (s : State) (lent : CoreId → Bool) : (s.takeUnits lent).mem = s.mem := by
  simp -implicitDefEqProofs [State.takeUnits, foldl_mem]

@[simp] theorem State.patrolAnswered_mem (s : State) (grant : Bool) (mask : Nat) : (s.patrolAnswered grant mask).mem = s.mem := by
  simp [State.patrolAnswered, apply_ite State.mem]

/-! ### Start: memory is left as it is -/

@[simp] theorem State.setStage_mem (s : State) (v : Nat) : (s.setStage v).mem = s.mem := rfl

@[simp] theorem State.bootRecord_mem (s : State) (cause detail : Nat) (bivouac : Bool) :
    (s.bootRecord cause detail bivouac).mem = s.mem := by simp [State.bootRecord]

@[simp] theorem State.readFuses_mem (s : State) (f : FuseReads) : (s.readFuses f).mem = s.mem := by
  simp -implicitDefEqProofs [State.readFuses, apply_ite State.mem]

@[simp] theorem State.enterBivouac_mem (s : State) : s.enterBivouac.mem = s.mem := by simp [State.enterBivouac]

@[simp] theorem State.guylineWait_mem (s : State) : s.guylineWait.mem = s.mem := rfl

@[simp] theorem State.beginFetch_mem (s : State) : s.beginFetch.mem = s.mem := by simp [State.beginFetch, apply_ite State.mem]

@[simp] theorem State.train_mem (s : State) (w : StageWork) (rate : Nat) : (s.train w rate).mem = s.mem := by
  unfold State.train
  refine (foldl_mem (fun s p => ?_) _ _).trans (objSet_mem _ _ _ _ _)
  split <;> simp

@[simp] theorem State.acceptImage_mem (s : State) (bs : List Byte) : (s.acceptImage bs).mem = s.mem := rfl

@[simp] theorem State.imageWrite_mem (s : State) (bs : List Byte) : (s.imageWrite bs).2.mem = s.mem := by
  unfold State.imageWrite
  repeat' split
  all_goals simp

@[simp] theorem State.reportFatal_mem (s : State) : s.reportFatal.mem = s.mem := by
  unfold State.reportFatal
  split <;> simp [apply_ite State.mem]

@[simp] theorem State.fuseWrite_mem (s : State) (r : Request) (v : Nat) : (s.fuseWrite r v).mem = s.mem := by
  unfold State.fuseWrite
  split <;> simp

/-! ### Access: memory is left as it is -/

@[simp] theorem State.readNote_mem (s : State) (q : Option PartId) : (s.readNote q).2.mem = s.mem := by simp [State.readNote]

@[simp] theorem State.readStored_mem (s : State) (q : Option PartId) (row : ObjRow) : (s.readStored q row).2.mem = s.mem := by
  simp [State.readStored, apply_ite State.mem]

@[simp] theorem State.readObject_mem (s : State) (q : Option PartId) (row : ObjRow) : (s.readObject q row).2.mem = s.mem := by
  unfold State.readObject
  dsimp only
  repeat' split
  all_goals simp

/-! ### Guyline: memory is left as it is -/

@[simp] theorem State.bookRefusal_mem (s : State) (p : Pdu) (abort : Nat) (value : List Byte) :
    (s.bookRefusal p abort value).mem = s.mem := by
  unfold State.bookRefusal
  split <;> simp [apply_ite State.mem]

@[simp] theorem State.refuse_mem (s : State) (r : Request) (abort : Nat) (value : List Byte) :
    (s.refuse r abort value).mem = s.mem := by simp [State.refuse]

@[simp] theorem State.requestMode_mem (s : State) (q : Option PartId) (k v : Nat) : (s.requestMode q k v).mem = s.mem := by
  unfold State.requestMode
  repeat' split
  all_goals simp -implicitDefEqProofs [apply_ite State.mem]

@[simp] theorem State.armTrap_mem (s : State) (n : PartId) (v : Nat) : (s.armTrap n v).mem = s.mem := by
  simp [State.armTrap, apply_ite State.mem]

@[simp] theorem State.stepStateWritten_mem (s : State) (n : PartId) (v : Nat) : (s.stepStateWritten n v).mem = s.mem := rfl

@[simp] theorem State.serveRead_mem (s : State) (r : Request) : (s.serveRead r).mem = s.mem := by
  unfold State.serveRead
  dsimp only
  repeat' split
  all_goals simp

@[simp] theorem State.dropBlock_mem (s : State) (r : Request) : (s.dropBlock r).mem = s.mem := rfl

@[simp] theorem State.setBlockOf_mem (s : State) (r : Request) (b : Block) : (s.setBlockOf r b).mem = s.mem := rfl

@[simp] theorem State.refuseBlock_mem (s : State) (r : Request) (abort : Nat) : (s.refuseBlock r abort).mem = s.mem := by
  simp [State.refuseBlock, apply_ite State.mem]

@[simp] theorem State.serveBrinit_mem (s : State) (r : Request) : (s.serveBrinit r).mem = s.mem := by
  unfold State.serveBrinit
  dsimp only
  repeat' split
  all_goals simp

@[simp] theorem State.serveBrseg_mem (s : State) (r : Request) : (s.serveBrseg r).mem = s.mem := by
  unfold State.serveBrseg
  split <;> simp [apply_ite State.mem]

@[simp] theorem State.serveBwinit_mem (s : State) (r : Request) : (s.serveBwinit r).mem = s.mem := by
  unfold State.serveBwinit
  dsimp only
  repeat' split
  all_goals simp

@[simp] theorem State.serveBwseg_mem (s : State) (r : Request) : (s.serveBwseg r).mem = s.mem := by
  unfold State.serveBwseg
  split <;> simp [apply_ite State.mem]

@[simp] theorem State.serveBabort_mem (s : State) (r : Request) : (s.serveBabort r).mem = s.mem := by
  unfold State.serveBabort
  split <;> simp [apply_ite State.mem]

@[simp] theorem State.comesIn_mem (s : State) (r : Request) : (s.comesIn r).mem = s.mem := by
  unfold State.comesIn
  split <;> simp [apply_ite State.mem]

/-! ### HostLink: memory is left as it is -/

@[simp] theorem State.endRead_mem (s : State) (tag : Nat) : (s.endRead tag).mem = s.mem := rfl

@[simp] theorem State.functionReset_mem (s : State) (f : PartId) : (s.functionReset f).mem = s.mem := rfl

@[simp] theorem State.vfsGone_mem (s : State) : s.vfsGone.mem = s.mem := by
  simp -implicitDefEqProofs [State.vfsGone, foldl_mem, apply_ite State.mem]

@[simp] theorem State.ucieError_mem (s : State) : s.ucieError.mem = s.mem := rfl

/-! ### Lantern: memory is left as it is -/

@[simp] theorem State.launchLantern_mem (s : State) (c : CoreId) (w : Nat) (td : Operand) (p : Place) (own : Rounding) (na : Bool) (inCvt : Nat) (f : Nat → Nat → LRes) (readSlots : List Nat) (reads : List (Nat × Nat)) :
    (s.launchLantern c w td p own na inCvt f readSlots reads).mem = s.mem := rfl

/-! ### Pins: memory is left as it is -/

@[simp] theorem State.tapLocked_mem (s : State) (locked : Bool) (r : TapReg) : (s.tapLocked locked r).mem = s.mem := rfl

/-! ### Scout: memory is left as it is -/

@[simp] theorem State.setScout_mem (s : State) (c : CoreId) (q : Scout) : (s.setScout c q).mem = s.mem := rfl

@[simp] theorem State.scoutRead_mem (s : State) (c : CoreId) (w : Nat) : (s.scoutRead c w).mem = s.mem := by
  simp [State.scoutRead, apply_ite State.mem]

@[simp] theorem State.scoutStart_mem (s : State) (c : CoreId) : (s.scoutStart c).mem = s.mem := by
  simp [State.scoutStart, apply_ite State.mem]

@[simp] theorem State.asScout_mem (s : State) (c : CoreId) : (s.asScout c).mem = s.mem := by
  simp -implicitDefEqProofs [State.asScout, foldl_mem]

/-! ## The canonical form

`MemOk` and `OutMemOk` say the form of a state and of an outcome; one lemma per function and per instruction says that it is kept. -/

/-- Memory is in its canonical form (log 3), as a proposition that `simp` leaves closed. -/
def MemOk (m : Memory) : Prop := tabWf 0 m = true

/-- A choice between two states has canonical memory where the branch taken has. -/
theorem memOk_ite {p : Prop} [Decidable p] {a b : State} :
    MemOk (if p then a else b).mem ↔ (p → MemOk a.mem) ∧ (¬p → MemOk b.mem) := by
  split <;> simp_all

/-- A fold whose steps keep memory canonical keeps it canonical. -/
theorem foldl_memOk {α : Type} {f : State → α → State} (hf : ∀ s x, MemOk s.mem → MemOk (f s x).mem) (l : List α)
    {s : State} (h : MemOk s.mem) : MemOk (l.foldl f s).mem := by
  induction l generalizing s with
  | nil => exact h
  | cons x xs ih => exact ih (hf s x h)

/-- The same of a fold that carries a value behind the state. -/
theorem foldl_fst_memOk {α β : Type} {f : State × β → α → State × β} (hf : ∀ a x, MemOk a.1.mem → MemOk (f a x).1.mem)
    (l : List α) {a : State × β} (h : MemOk a.1.mem) : MemOk (l.foldl f a).1.mem := by
  induction l generalizing a with
  | nil => exact h
  | cons x xs ih => exact ih (hf a x h)

/-! ### Store: memory stays canonical -/

theorem scratchWrite_memOk {m : Memory} {k : Core} {off : Nat} {bs : List Byte} (h : MemOk m) : MemOk (scratchWrite m k off bs) :=
  scratchWrite_wf h

/-! ### Ops: memory stays canonical -/

theorem hearthSet_memOk {m : Memory} {c : CoreId} {slot i : Nat} {e : HElem} (h : MemOk m) : MemOk (hearthSet m c slot i e) :=
  hearthSet_wf h

/-! ### Store: memory stays canonical -/

@[simp] theorem State.write_memOk {s : State} {a : Nat} {bs : List Byte} (h : MemOk s.mem) :
    MemOk (s.write a bs).mem := write_wf h

@[simp] theorem State.clearMem_memOk {s : State} {lo hi : Nat} (h : MemOk s.mem) : MemOk (s.clearMem lo hi).mem := clearMem_wf h

@[simp] theorem State.hbmBytes_memOk {s : State} {n : PartId} {off : Nat} {bs : List Byte} (h : MemOk s.mem) :
    MemOk (s.hbmBytes n off bs).mem := hbmBytes_wf h

@[simp] theorem State.hbmWrite_memOk {s : State} {n : PartId} {off : Nat} {bs : List Byte} (h : MemOk s.mem) :
    MemOk (s.hbmWrite n off bs).mem := hbmWrite_wf h

@[simp] theorem State.clearUnit_memOk {s : State} {u : Nat} {next : Option PartId} (h : MemOk s.mem) :
    MemOk (s.clearUnit u next).mem := clearUnit_wf h

/-! ### Ops: memory stays canonical -/

@[simp] theorem State.clearBank_memOk {s : State} {m : CoreId} {b : BankIx} {next : BankParty} (h : MemOk s.mem) :
    MemOk (s.clearBank m b next).mem := clearBank_wf h

@[simp] theorem State.clearSlot_memOk {s : State} {c : CoreId} {x : SlotIx} (h : MemOk s.mem) : MemOk (s.clearSlot c x).mem :=
  clearSlot_wf h

@[simp] theorem reset_memOk : MemOk State.reset.mem := reset_mem_wf

/-- Where the outcome is a next state, its memory is canonical. -/
def OutMemOk (o : Host.Outcome State Fault Refusal) : Prop := ∀ t, o = .next t → MemOk t.mem

@[simp] theorem outMemOk_next {t : State} : OutMemOk (.next t) ↔ MemOk t.mem := by
  simp [OutMemOk]

theorem outMemOk_ite {p : Prop} [Decidable p] {a b : Host.Outcome State Fault Refusal} :
    OutMemOk (if p then a else b) ↔ (p → OutMemOk a) ∧ (¬p → OutMemOk b) := by
  split <;> simp_all

theorem nextOr_memOk {s : State} {o : Host.Outcome State Fault Refusal} (h : MemOk s.mem) (ho : OutMemOk o) :
    MemOk (nextOr s o).mem := by
  cases o with
  | next t => exact ho t rfl
  | fault f => exact h
  | refused r => exact h

/-- Every state that what an instruction does leads to has canonical memory. -/
def Act.MemOk : Act → Prop
  | .stall => True
  | .fault _ => True
  | .done s => Sys2Proof.Machine.MemOk s.mem
  | .jump s _ => Sys2Proof.Machine.MemOk s.mem
  | .hold s => Sys2Proof.Machine.MemOk s.mem

@[simp] theorem Act.memOk_stall : Act.stall.MemOk := trivial
@[simp] theorem Act.memOk_fault {f : CoreFault} : (Act.fault f).MemOk := trivial
@[simp] theorem Act.memOk_done {s : State} : (Act.done s).MemOk ↔ Sys2Proof.Machine.MemOk s.mem := Iff.rfl
@[simp] theorem Act.memOk_jump {s : State} {pc : Nat} : (Act.jump s pc).MemOk ↔ Sys2Proof.Machine.MemOk s.mem := Iff.rfl
@[simp] theorem Act.memOk_hold {s : State} : (Act.hold s).MemOk ↔ Sys2Proof.Machine.MemOk s.mem := Iff.rfl

theorem Act.memOk_ite {p : Prop} [Decidable p] {a b : Act} : (if p then a else b).MemOk ↔ (p → a.MemOk) ∧ (¬p → b.MemOk) := by
  split <;> simp_all

/-! ### RingPage: memory stays canonical -/

@[simp] theorem State.sized_memOk {s : State} {n : PartId} {a : RegAccess} {body : State} (h : MemOk s.mem) (hb : MemOk body.mem) :
    MemOk (s.sized n a body).mem := by
  unfold State.sized
  exact memOk_ite.2 ⟨fun _ => hb, fun _ => by simpa using h⟩

/-! ### Warden: memory stays canonical -/

@[simp] theorem State.mailboxSized_memOk {s : State} {a : RegAccess} {body : State} (h : MemOk s.mem) (hb : MemOk body.mem) :
    MemOk (s.mailboxSized a body).mem := by
  unfold State.mailboxSized
  exact memOk_ite.2 ⟨fun _ => hb, fun _ => by simpa using State.sized_memOk h h⟩

/-! ### Recovery: memory is left as it is -/

@[simp] theorem State.installRemap_mem (s : State) (camp coord seat : Nat) : (s.installRemap camp coord seat).mem = s.mem := by
  unfold State.installRemap
  dsimp only
  repeat' split
  all_goals simp

theorem State.installRemap_memOk {s : State} {camp coord seat : Nat} (h : MemOk s.mem) :
    MemOk (s.installRemap camp coord seat).mem := by
  simpa using h

/-! ### Dictionary: memory stays canonical -/

@[simp] theorem State.deviceReset_memOk {s : State} (_h : MemOk s.mem) : MemOk s.deviceReset.mem := by
  unfold State.deviceReset
  dsimp only
  split <;> exact reset_memOk

/-! ### Notify: memory stays canonical -/

@[simp] theorem State.fatal_memOk {s : State} {code : Nat} {part : Option PartId} {core : Option CoreId} {detail : Nat} (h : MemOk s.mem) :
    MemOk (s.fatal code part core detail).mem := by simp [State.fatal, memOk_ite, h]

@[simp] theorem postEvent_memOk {s : State} {code : Nat} {part : Option PartId} {core : Option CoreId} {detail : Nat} (h : MemOk s.mem) :
    MemOk (postEvent s code part core detail).mem := by simp [postEvent, memOk_ite, h]

/-! ### Records: memory stays canonical -/

@[simp] theorem State.writeStepBlock_memOk {s : State} {n : PartId} (h : MemOk s.mem) : MemOk (s.writeStepBlock n).mem := by
  unfold State.writeStepBlock
  refine foldl_memOk (fun s c hs => ?_) _ h
  dsimp only
  split
  · exact scratchWrite_memOk (by simpa using hs)
  · exact hs

@[simp] theorem State.put_memOk {s : State} {n : PartId} {a : Nat} {bs : List Byte} (h : MemOk s.mem) : MemOk (s.put n a bs).mem := by
  simp [State.put, memOk_ite, h]

@[simp] theorem State.recordLost_memOk {s : State} {n : PartId} {step : Nat} (h : MemOk s.mem) : MemOk (s.recordLost n step).mem := by
  simp -implicitDefEqProofs +contextual [State.recordLost, h]

@[simp] theorem State.openRecord_memOk {s : State} {n : PartId} {step : Nat} (h : MemOk s.mem) :
    MemOk (s.openRecord n step).mem := by
  unfold State.openRecord
  grind [State.modPart_mem, State.put_memOk, State.recordLost_memOk, State.wakeHistories_mem]

@[simp] theorem State.closeRecord_memOk {s : State} {n : PartId} {step verdict ssum : Nat} (h : MemOk s.mem) :
    MemOk (s.closeRecord n step verdict ssum).mem := by
  unfold State.closeRecord
  grind [State.modPart_mem, State.put_memOk, State.recordLost_memOk, State.wakeBanks_mem, objBump_mem, objSet_mem]

@[simp] theorem State.startAdmitted_memOk {s : State} {n : PartId} (h : MemOk s.mem) : MemOk (s.startAdmitted n).mem := by
  unfold State.startAdmitted
  split <;> simp [memOk_ite, h]

/-! ### Rings: memory stays canonical -/

@[simp] theorem State.admission_memOk {s : State} {n : PartId} {c : Command} {late : Bool} (h : MemOk s.mem) :
    MemOk (s.admission n c late).mem := by simp -implicitDefEqProofs +contextual [State.admission, memOk_ite, h]

@[simp] theorem State.considerWaiting_memOk (f : Nat) {s : State} (h : MemOk s.mem) : MemOk (State.considerWaiting f s).mem := by
  induction f generalizing s with
  | zero => exact h
  | succ f ih =>
    unfold State.considerWaiting
    split
    · exact h
    · exact ih (State.admission_memOk h)

@[simp] theorem State.reconsider_memOk {s : State} (h : MemOk s.mem) : MemOk s.reconsider.mem := by simp [State.reconsider, h]

@[simp] theorem State.meetAdmission_memOk {s : State} {n : PartId} {c : Command} (h : MemOk s.mem) :
    MemOk (s.meetAdmission n c).mem := by simp -implicitDefEqProofs +contextual [State.meetAdmission, memOk_ite, h]

@[simp] theorem State.finish_memOk {s : State} {n : PartId} {c : Command} {outcome cause detail result : Nat} (h : MemOk s.mem) :
    MemOk (s.finish n c outcome cause detail result).mem := by simp [State.finish, memOk_ite, h]

@[simp] theorem State.endStart_memOk {s : State} {n : PartId} {outcome cause detail : Nat} (h : MemOk s.mem) :
    MemOk (s.endStart n outcome cause detail).mem := by
  unfold State.endStart
  split <;> simp [memOk_ite, h]

@[simp] theorem commandFaulted_memOk {s : State} {n : PartId} {detail : Nat} (h : MemOk s.mem) :
    MemOk (commandFaulted s n detail).mem := by simp [commandFaulted, h]

/-! ### Ops: memory stays canonical -/

/-- One element of a pass keeps memory canonical. -/
theorem passStep_memOk {c : CoreId} {p : Pass} {a : Memory × HSlot × Option Nat} {i : Nat} (h : MemOk a.1) :
    MemOk (passStep c p a i).1 := by
  unfold passStep
  dsimp only
  split
  · exact h
  · exact hearthSet_memOk h

/-- Every element of a pass keeps memory canonical. -/
theorem foldl_passStep_memOk {c : CoreId} {p : Pass} (l : List Nat) {a : Memory × HSlot × Option Nat} (h : MemOk a.1) :
    MemOk (l.foldl (passStep c p) a).1 := by
  induction l generalizing a with
  | nil => exact h
  | cons i is ih => exact ih (passStep_memOk h)

@[simp] theorem State.applyPass_memOk {s : State} {c : CoreId} {p : Pass} (h : MemOk s.mem) : MemOk (s.applyPass c p).1.mem := by
  unfold State.applyPass
  have hf := foldl_passStep_memOk (c := c) (p := p) (List.range 1024) (a := (s.mem, (s.core c).slots[p.slot], none)) h
  generalize (List.range 1024).foldl (passStep c p) (s.mem, (s.core c).slots[p.slot], none) = r at hf ⊢
  exact hf

@[simp] theorem State.applyEffect_memOk {s : State} {c : CoreId} {e : Effect} (h : MemOk s.mem) :
    MemOk (s.applyEffect c e).mem := by
  cases e
  case store a bs => exact State.write_memOk h
  case clear x => exact State.clearSlot_memOk h
  case tableRam first ws => exact State.write_memOk h
  all_goals simpa [State.applyEffect] using h

@[simp] theorem State.retire_memOk {s : State} {c : CoreId} {i : InFlight} (h : MemOk s.mem) : MemOk (s.retire c i).1.mem := by
  unfold State.retire
  refine foldl_memOk (fun s e hs => State.applyEffect_memOk hs) _ ?_
  split
  · rename_i p _
    have hp := State.applyPass_memOk (c := c) (p := p) h
    generalize s.applyPass c p = r at hp ⊢
    exact hp
  · exact h

@[simp] theorem State.abandon_memOk {s : State} {c : CoreId} {i : InFlight} (h : MemOk s.mem) : MemOk (s.abandon c i).mem := by
  unfold State.abandon
  rw [bumpOf_mem]
  refine foldl_memOk (fun s e hs => ?_) _ (foldl_memOk (fun s r hs => scratchWrite_memOk hs) _ h)
  split <;> simp [hs]

@[simp] theorem State.retireAll_memOk {s : State} {c : CoreId} (h : MemOk s.mem) : MemOk (s.retireAll c).1.mem := by
  unfold State.retireAll
  dsimp only
  have h1 : MemOk (List.foldl (fun (a : State × List NanEvent) (i : InFlight) =>
      match a with | (s, ev) => match s.retire c i with | (s, e) => (s, ev ++ e))
      (s.modCore c fun k => { k with inflight := [] }, []) ((s.core c).inflight.filter fun i => i.unit != .abacus)).1.mem := by
    refine foldl_fst_memOk (fun a i ha => ?_) _ h
    have hr := State.retire_memOk (c := c) (i := i) ha
    generalize hq : a.1.retire c i = q at hr
    simpa [hq] using hr
  split
  · exact State.abandon_memOk h1
  · exact h1

@[simp] theorem State.yieldBank_memOk {s : State} {m : CoreId} {b : BankIx} {next : BankParty} {count : Bool} (h : MemOk s.mem) :
    MemOk (s.yieldBank m b next count).mem := by
  unfold State.yieldBank
  dsimp only
  repeat' split
  all_goals simp [h]

@[simp] theorem State.patrolYieldTo_memOk {s : State} {work : CoreId → Option BankIx → Bool} {next : BankParty} (h : MemOk s.mem) :
    MemOk (s.patrolYieldTo work next).mem := by
  unfold State.patrolYieldTo
  dsimp only
  split
  · exact h
  · rw [State.dutySwitch_mem]
    refine foldl_memOk (fun s c hs => ?_) _ (foldl_memOk (fun s e hs => State.yieldBank_memOk hs) _ h)
    split <;> simpa using hs

@[simp] theorem State.patrolYield_memOk {s : State} {mine : CoreId → Bool} (h : MemOk s.mem) : MemOk (s.patrolYield mine).mem := by
  simp [State.patrolYield, h]

@[simp] theorem State.scoutCancel_memOk {s : State} {c : CoreId} (h : MemOk s.mem) : MemOk (s.scoutCancel c).mem := by
  unfold State.scoutCancel
  dsimp only
  split
  · exact h
  · refine foldl_memOk (fun s e hs => by simpa using hs) _ (foldl_memOk (fun s e hs => ?_) _ h)
    split
    · exact State.clearBank_memOk hs
    · exact hs

@[simp] theorem State.scoutFollow_memOk {s : State} {c : CoreId} {old new : Nat} (h : MemOk s.mem) :
    MemOk (s.scoutFollow c old new).mem := by
  unfold State.scoutFollow
  dsimp only
  repeat' split
  all_goals simp [h]

@[simp] theorem State.stopCore_memOk {s : State} {c : CoreId} (h : MemOk s.mem) : MemOk (s.stopCore c).1.mem := by
  unfold State.stopCore
  dsimp only
  repeat' split
  all_goals simp [h]

@[simp] theorem State.stopOthers_memOk {s : State} {n : PartId} {c : CoreId} (h : MemOk s.mem) :
    MemOk (s.stopOthers n c).1.mem := by
  unfold State.stopOthers
  refine foldl_fst_memOk (fun a d ha => ?_) _ h
  split
  · exact ha
  · exact State.stopCore_memOk ha

@[simp] theorem State.fireTrap_memOk {s : State} {n : PartId} {c : CoreId} {e : NanEvent} (h : MemOk s.mem) :
    MemOk (s.fireTrap n c e).mem := by
  unfold State.fireTrap
  grind [State.countNan_mem, State.stopCore_memOk, State.stopOthers_memOk, commandFaulted_memOk, objSet_mem, postEvent_memOk]

@[simp] theorem State.nanTake_memOk {s : State} {n : PartId} {evs : List (CoreId × NanEvent)} (h : MemOk s.mem) :
    MemOk (s.nanTake n evs).mem := by
  unfold State.nanTake
  split <;> simp [memOk_ite, h]

@[simp] theorem State.nanReport_memOk {s : State} {c : CoreId} {evs : List NanEvent} (h : MemOk s.mem) :
    MemOk (s.nanReport c evs).mem := by
  unfold State.nanReport
  split <;> simp [h]

@[simp] theorem State.takeFaultAt_memOk {s : State} {c : CoreId} {f : CoreFault} {pc : Nat} {tag : W16} (h : MemOk s.mem) :
    MemOk (s.takeFaultAt c f pc tag).mem := by
  unfold State.takeFaultAt
  grind [State.breakStreams_mem, State.modCore_mem, State.nanTake_memOk, State.retireAll_memOk, State.scoutCancel_memOk, State.stopOthers_memOk, commandFaulted_memOk, postEvent_memOk]

@[simp] theorem State.takeFault_memOk {s : State} {c : CoreId} {f : CoreFault} (h : MemOk s.mem) : MemOk (s.takeFault c f).mem := by
  simp [State.takeFault, h]

@[simp] theorem State.goto_memOk {s : State} {c : CoreId} {pc : Nat} (h : MemOk s.mem) : MemOk (s.goto c pc).mem := by
  simp [State.goto, h]

@[simp] theorem State.advance_memOk {s : State} {c : CoreId} (h : MemOk s.mem) : MemOk (s.advance c).mem := by
  simp [State.advance, memOk_ite, h]

/-- An offered word keeps memory canonical where its body does. -/
theorem issue_memOk {x : Issue} {s : State} {opc : Nat} {il : Core → Nat → Option CoreFault} {body : CoreId → Nat → State → Act}
    (h : MemOk s.mem) (hb : ∀ s, MemOk s.mem → (body x.core x.word.toNat s).MemOk) : OutMemOk (issue x s opc il body) := by
  unfold issue
  dsimp only
  split
  · simp [h]
  · split
    · simp [h]
    · generalize hu : (if (x.ecc == Ecc.corrected) = true then s.modCore x.core fun k => { k with ecc1 := true } else s) = u
      have hm : MemOk u.mem := by
        subst hu
        split <;> simpa using h
      have hbu := hb u hm
      split
      · simp [hm]
      · split
        · simp [hm]
        · split
          · simp [hm]
          · split
            · simp [hm]
            · split <;> simp_all

/-! ### Hearth: memory stays canonical -/

@[simp] theorem State.acceptOpen_memOk {s : State} {c : CoreId} {n : Fin 8} {g : Group} {splint : Bool} (h : MemOk s.mem) :
    MemOk (s.acceptOpen c n g splint).mem := by
  unfold State.acceptOpen
  refine foldl_memOk (fun s x hs => ?_) _ h
  dsimp only
  split
  · exact State.clearSlot_memOk hs
  · exact hs

@[simp] theorem State.groupWrite_memOk {s : State} {c : CoreId} {n : Fin 8} {v : Nat} {opening splint : Bool} (h : MemOk s.mem) :
    (s.groupWrite c n v opening splint).MemOk := by
  have hf (t : State) (l : List SlotIx) (f : HSlot → HSlot) :
      (l.foldl (fun (s : State) (h : SlotIx) => s.modCore c fun k => k.modSlot h f) t).mem = t.mem :=
    foldl_mem (fun _ _ => State.modCore_mem _ _ _) l t
  unfold State.groupWrite
  dsimp only
  repeat' split
  all_goals simp -implicitDefEqProofs [h, hf]

@[simp] theorem execAgopen_memOk {x : Issue} {s : State} (h : MemOk s.mem) : OutMemOk (execAgopen x s) := by
  unfold execAgopen
  refine issue_memOk h fun s h => ?_
  simp [Act.memOk_ite, h]

@[simp] theorem execAgclose_memOk {x : Issue} {s : State} (h : MemOk s.mem) : OutMemOk (execAgclose x s) := by
  unfold execAgclose
  refine issue_memOk h fun s h => ?_
  simp [h]

@[simp] theorem execHclr_memOk {x : Issue} {s : State} (h : MemOk s.mem) : OutMemOk (execHclr x s) := by
  unfold execHclr
  refine issue_memOk h fun s h => ?_
  simp [Act.memOk_ite, h]

/-- A fold over memory whose steps keep it canonical keeps it canonical. -/
theorem foldl_fun_memOk {α : Type} {f : Memory → α → Memory} (hf : ∀ m a, MemOk m → MemOk (f m a)) (l : List α) {m : Memory}
    (h : MemOk m) : MemOk (l.foldl f m) := by
  induction l generalizing m with
  | nil => exact h
  | cons e es ih => exact ih (hf _ _ h)

@[simp] theorem execHld_memOk {x : Issue} {s : State} (h : MemOk s.mem) : OutMemOk (execHld x s) := by
  unfold execHld
  refine issue_memOk h fun s h => Act.memOk_ite.2 ⟨fun _ => trivial, fun _ => ?_⟩
  extract_lets k p o
  split
  · trivial
  · trivial
  · refine Act.memOk_ite.2 ⟨fun _ => trivial, fun _ => Act.memOk_ite.2 ⟨fun _ => trivial, fun _ => Act.memOk_done.2 ?_⟩⟩
    generalize tileAddrs o.desc p = l
    exact foldl_fun_memOk (fun m a hm => scratchWrite_memOk hm) _ h

@[simp] theorem execHst_memOk {x : Issue} {s : State} (h : MemOk s.mem) : OutMemOk (execHst x s) := by
  unfold execHst
  refine issue_memOk h fun s h => Act.memOk_ite.2 ⟨fun _ => trivial, fun _ => ?_⟩
  extract_lets k p o
  split
  · trivial
  · trivial
  · rename_i hh f elems m sl _ _
    have hm : MemOk m := foldl_fun_memOk (fun m a hm => hearthSet_memOk hm) elems h
    clear_value m
    refine Act.memOk_ite.2 ⟨fun _ => trivial, fun _ => Act.memOk_ite.2 ⟨fun _ => trivial, fun _ => Act.memOk_done.2 ?_⟩⟩
    rw [State.modCore_mem]
    exact hm

@[simp] theorem execSwap_memOk {x : Issue} {s : State} (h : MemOk s.mem) : OutMemOk (execSwap x s) := by
  unfold execSwap
  refine issue_memOk h fun s h => ?_
  dsimp only
  repeat' split
  all_goals simp [h]

@[simp] theorem execSwapComplete_memOk {c : CoreId} {base : SlotIx} {s : State} (h : MemOk s.mem) :
    OutMemOk (execSwapComplete c base s) := by
  unfold execSwapComplete
  dsimp only
  repeat' split
  all_goals simp -implicitDefEqProofs [h]

@[simp] theorem execHearthClearDone_memOk {c : CoreId} {group : Fin 16} {s : State} (h : MemOk s.mem) :
    OutMemOk (execHearthClearDone c group s) := by
  unfold execHearthClearDone
  rw [outMemOk_next]
  refine foldl_memOk (fun s x hs => ?_) _ h
  split
  · exact hs
  · exact hs

/-- Folding an element of the low slot into the high one keeps memory canonical. -/
theorem foldl_foldStep_memOk {c : CoreId} {hi lo : Nat} (l : List Nat) {a : Memory × HSlot × Option Nat} (h : MemOk a.1) :
    MemOk (l.foldl (foldStep c hi lo) a).1 := by
  induction l generalizing a with
  | nil => exact h
  | cons i is ih =>
    refine ih ?_
    unfold foldStep
    exact hearthSet_memOk h

@[simp] theorem execFold_memOk {x : Issue} {s : State} (h : MemOk s.mem) : OutMemOk (execFold x s) := by
  unfold execFold
  refine issue_memOk h fun s h => ?_
  dsimp only
  split
  · trivial
  · split
    · trivial
    · rw [Act.memOk_done]
      have hf := foldl_foldStep_memOk (c := x.core) (hi := fH x.word.toNat) (lo := fH x.word.toNat + 1) (List.range 1024)
        (a := (s.mem, (s.core x.core).slots[(Fin.ofNat 64 (fH x.word.toNat) : SlotIx)], none)) h
      generalize List.foldl (foldStep _ _ _) _ (List.range 1024) = r at hf ⊢
      exact State.nanReport_memOk (State.clearSlot_memOk hf)

/-! ### Lattice: memory stays canonical -/

@[simp] theorem State.retireUnit_memOk {s : State} {c : CoreId} {u : ExecUnit} (h : MemOk s.mem) :
    MemOk (s.retireUnit c u).mem := by
  unfold State.retireUnit
  split <;> simp -implicitDefEqProofs +contextual [h]

@[simp] theorem execMma_memOk {x : Issue} {s : State} (h : MemOk s.mem) : OutMemOk (execMma x s) := by
  unfold execMma
  refine issue_memOk h fun s h => ?_
  dsimp only
  repeat' split
  all_goals simp [h]

@[simp] theorem execLatticePassRetire_memOk {c : CoreId} {s : State} (h : MemOk s.mem) : OutMemOk (execLatticePassRetire c s) := by
  simp [execLatticePassRetire, h]

@[simp] theorem execDrn_memOk {x : Issue} {s : State} (h : MemOk s.mem) : OutMemOk (execDrn x s) := by
  unfold execDrn
  refine issue_memOk h fun s h => Act.memOk_ite.2 ⟨fun _ => trivial, fun _ => ?_⟩
  extract_lets p o areas sv
  split
  · trivial
  · trivial
  · refine Act.memOk_ite.2 ⟨fun _ => trivial, fun _ => ?_⟩
    split
    · trivial
    · refine Act.memOk_ite.2 ⟨fun _ => trivial, fun _ => Act.memOk_ite.2 ⟨fun _ => trivial, fun _ =>
        Act.memOk_ite.2 ⟨fun _ => trivial, fun _ => h⟩⟩⟩

@[simp] theorem execDrainRetire_memOk {c : CoreId} {s : State} (h : MemOk s.mem) : OutMemOk (execDrainRetire c s) := by
  simp [execDrainRetire, h]

/-! ### Stream: memory stays canonical -/

@[simp] theorem State.collide_memOk {s : State} {c : CoreId} {chan : Nat} {old : Memory} {off len w : Nat} (h : MemOk s.mem) :
    MemOk (s.collide c chan old off len w).mem := postEvent_memOk (by simpa using scratchWrite_memOk h)

@[simp] theorem State.setSlotHdr_memOk {s : State} {x : Ctx} {i v : Nat} (h : MemOk s.mem) :
    MemOk (s.setSlotHdr x i v).mem := scratchWrite_memOk h

@[simp] theorem State.clearRing_memOk {s : State} {x : Ctx} (h : MemOk s.mem) : MemOk (s.clearRing x).mem := by
  simp -implicitDefEqProofs +contextual [State.clearRing, memOk_ite, foldl_memOk, h]

@[simp] theorem State.endWait_memOk {s : State} {c : CoreId} {w d : Nat} (h : MemOk s.mem) : MemOk (s.endWait c w d).mem := by
  simp -implicitDefEqProofs +contextual [State.endWait, h]

/-- A stream instruction that completes leaves memory canonical. -/
def StreamResult.MemOk : StreamResult → Prop
  | .done t _ => Sys2Proof.Machine.MemOk t.mem
  | _ => True

@[simp] theorem StreamResult.memOk_done {t : State} {d : Nat} :
    (StreamResult.done t d).MemOk ↔ Sys2Proof.Machine.MemOk t.mem := Iff.rfl

@[simp] theorem StreamResult.memOk_wait : StreamResult.wait.MemOk := trivial

@[simp] theorem StreamResult.memOk_stall : StreamResult.stall.MemOk := trivial

theorem StreamResult.memOk_ite {p : Prop} [Decidable p] {a b : StreamResult} :
    (if p then a else b).MemOk ↔ (p → a.MemOk) ∧ (¬p → b.MemOk) := by
  split <;> simp_all

theorem State.sendTry_memOk {s : State} {c : CoreId} {n : PartId} {i addr len : Nat} (h : MemOk s.mem) :
    (s.sendTry c n i addr len).MemOk := by
  unfold State.sendTry
  split
  · exact h
  · simp [StreamResult.memOk_ite, memOk_ite, h]

theorem State.recvTry_memOk {s : State} {c : CoreId} {n : PartId} {i addr cap : Nat} (h : MemOk s.mem) :
    (s.recvTry c n i addr cap).MemOk := by
  have hw (k : Core) (off : Nat) (bs : List Byte) : MemOk (scratchWrite s.mem k off bs) := scratchWrite_memOk h
  unfold State.recvTry
  split
  · exact h
  · simp [StreamResult.memOk_ite, h, hw]

theorem State.closeTry_memOk {s : State} {c : CoreId} {n : PartId} {i : Nat} (h : MemOk s.mem) : (s.closeTry c n i).MemOk := by
  unfold State.closeTry
  split
  · exact h
  · simp [StreamResult.memOk_ite, memOk_ite, h]

theorem State.streamTry_memOk {s : State} {c : CoreId} {w : Nat} (h : MemOk s.mem) : (s.streamTry c w).MemOk := by
  unfold State.streamTry
  dsimp only
  split
  · exact h
  · split
    · exact State.sendTry_memOk h
    · exact State.recvTry_memOk h
    · exact State.closeTry_memOk h

@[simp] theorem State.retryWait_memOk {s : State} {c : CoreId} (h : MemOk s.mem) : MemOk (s.retryWait c).mem := by
  unfold State.retryWait
  split
  · exact h
  · rename_i q _
    have hd := State.streamTry_memOk (c := c) (w := q.word.toNat) h
    split
    · rename_i ht
      rw [ht] at hd
      exact State.endWait_memOk hd
    · exact h

@[simp] theorem State.retryEnds_memOk {s : State} {x : Ctx} (h : MemOk s.mem) : MemOk (s.retryEnds x).mem := by
  simp [State.retryEnds, memOk_ite, h]

@[simp] theorem State.retryAll_memOk {s : State} (h : MemOk s.mem) : MemOk s.retryAll.mem := by
  simp -implicitDefEqProofs +contextual [State.retryAll, foldl_memOk, h]

@[simp] theorem streamIssue_memOk {x : Issue} {s : State} {opc : Nat} {illegal : Nat → Option CoreFault} {payload : Bool} (h : MemOk s.mem) :
    OutMemOk (streamIssue x s opc illegal payload) := by
  unfold streamIssue
  refine issue_memOk h fun s h => Act.memOk_ite.2 ⟨fun _ => trivial, fun _ => ?_⟩
  split
  · trivial
  · trivial
  · refine Act.memOk_ite.2 ⟨fun _ => trivial, fun _ => ?_⟩
    have ht := State.streamTry_memOk (c := x.core) (w := x.word.toNat) h
    split
    · trivial
    · rename_i hr
      rw [hr] at ht
      exact State.retryAll_memOk ht
    · exact h

@[simp] theorem execSend_memOk {x : Issue} {s : State} (h : MemOk s.mem) : OutMemOk (execSend x s) := streamIssue_memOk h

@[simp] theorem execRecv_memOk {x : Issue} {s : State} (h : MemOk s.mem) : OutMemOk (execRecv x s) := streamIssue_memOk h

@[simp] theorem execSclose_memOk {x : Issue} {s : State} (h : MemOk s.mem) : OutMemOk (execSclose x s) := streamIssue_memOk h

@[simp] theorem execStreamWaitTimeout_memOk {c : CoreId} {s : State} (h : MemOk s.mem) :
    OutMemOk (execStreamWaitTimeout c s) := by
  unfold execStreamWaitTimeout
  dsimp only
  repeat' split
  all_goals simp [h]

/-- Every collision of a beat keeps memory canonical. -/
theorem foldl_collide_memOk {c : CoreId} {chan off len : Nat} {old : Memory} (l : List Nat) {s : State} (h : MemOk s.mem) :
    MemOk (l.foldl (fun (t : State) (w : Nat) => t.collide c chan old off len w) s).mem :=
  foldl_memOk (fun _ _ hs => State.collide_memOk hs) l h

@[simp] theorem State.landMessage_memOk {s : State} {key : Nat} {x : Ctx} {index hdr : Nat} {payload : List Byte} {portA : List Nat} (h : MemOk s.mem) :
    MemOk (s.landMessage key x index hdr payload portA).mem := by
  unfold State.landMessage
  split
  · exact h
  · have hw (k : Core) (off : Nat) : MemOk (scratchWrite s.mem k off payload) := scratchWrite_memOk h
    refine State.retryEnds_memOk ?_
    rw [State.setCtx_mem]
    refine State.setSlotHdr_memOk (foldl_collide_memOk _ ?_)
    simpa using hw _ _

@[simp] theorem execStreamMessageArrive_memOk {n : PartId} {m : MessageArrival} {s : State} (h : MemOk s.mem) :
    OutMemOk (execStreamMessageArrive n m s) := by
  unfold execStreamMessageArrive
  repeat' split
  all_goals simp [h]

@[simp] theorem execStreamCreditArrive_memOk {n : PartId} {i : Nat} {s : State} (h : MemOk s.mem) :
    OutMemOk (execStreamCreditArrive n i s) := by
  unfold execStreamCreditArrive
  repeat' split
  all_goals simp -implicitDefEqProofs [h]

@[simp] theorem State.closeArrives_memOk {s : State} {n : PartId} {i : Nat} (h : MemOk s.mem) :
    MemOk (s.closeArrives n i).mem := by
  unfold State.closeArrives
  split <;> simp -implicitDefEqProofs +contextual [memOk_ite, h]

@[simp] theorem execStreamCloseNoticeArrive_memOk {n : PartId} {i : Nat} {s : State} (h : MemOk s.mem) :
    OutMemOk (execStreamCloseNoticeArrive n i s) := by simp [execStreamCloseNoticeArrive, h]

@[simp] theorem State.remoteMessage_memOk {s : State} {n : PartId} {i : Nat} {body : List Byte} (h : MemOk s.mem) :
    MemOk (s.remoteMessage n i body).mem := by
  unfold State.remoteMessage
  split <;> simp [memOk_ite, h]

@[simp] theorem State.remoteCredit_memOk {s : State} {n : PartId} {i count : Nat} (h : MemOk s.mem) :
    MemOk (s.remoteCredit n i count).mem := by
  unfold State.remoteCredit
  split <;> simp -implicitDefEqProofs +contextual [memOk_ite, h]

@[simp] theorem State.mapHeaders_memOk {s : State} {x : Ctx} {f : Nat → Nat} (h : MemOk s.mem) : MemOk (s.mapHeaders x f).mem := by
  simp -implicitDefEqProofs +contextual [State.mapHeaders, memOk_ite, foldl_memOk, h]

@[simp] theorem State.commitCtx_memOk {s : State} {n : PartId} {i : Nat} {key : Nat} {x : Ctx} {who : Option CoreId} {e : W32} (h : MemOk s.mem) :
    MemOk (s.commitCtx n i key x who e).mem := by
  simp -implicitDefEqProofs +contextual [State.commitCtx, memOk_ite, foldl_memOk, h]

@[simp] theorem State.discardCtx_memOk {s : State} {n : PartId} {key : Nat} {x : Ctx} {who : Option CoreId} {e : W32} (h : MemOk s.mem) :
    MemOk (s.discardCtx n key x who e).mem := by simp [State.discardCtx, memOk_ite, h]

@[simp] theorem State.streamsCommit_memOk {s : State} {n : PartId} {who : Option CoreId} {e : W32} (h : MemOk s.mem) :
    MemOk (s.streamsCommit n who e).mem := by
  unfold State.streamsCommit
  exact State.retryAll_memOk (foldl_memOk (fun s ik hs => State.commitCtx_memOk hs) _ h)

@[simp] theorem State.streamsDiscard_memOk {s : State} {n : PartId} {who : Option CoreId} {e : W32} (h : MemOk s.mem) :
    MemOk (s.streamsDiscard n who e).mem := by
  unfold State.streamsDiscard
  exact State.retryAll_memOk (foldl_memOk (fun s ik hs => State.discardCtx_memOk hs) _ h)

/-! ### Bank: memory stays canonical -/

@[simp] theorem State.setOwned_memOk {s : State} {m : CoreId} {b : BankIx} {c : CoreId} (h : MemOk s.mem) :
    MemOk (s.setOwned m b c).mem := by simp -implicitDefEqProofs +contextual [State.setOwned, foldl_memOk, h]

@[simp] theorem State.stageRefused_memOk {s : State} {n : PartId} {code : Nat} (h : MemOk s.mem) :
    MemOk (s.stageRefused n code).mem := by
  unfold State.stageRefused
  split <;> simp [h]

@[simp] theorem State.ringClaim_memOk {s : State} {n : PartId} {f : Nat} (h : MemOk s.mem) : MemOk (s.ringClaim n f).mem := by
  induction f generalizing s with
  | zero => exact h
  | succ f ih =>
    unfold State.ringClaim
    split
    · exact h
    · split
      · exact h
      · split
        · exact ih (State.stageRefused_memOk (by simpa using h))
        · exact h

@[simp] theorem State.ringNext_memOk {s : State} {n : PartId} (h : MemOk s.mem) : MemOk (s.ringNext n).mem := by
  simp [State.ringNext, h]

@[simp] theorem State.claimRefused_memOk {s : State} {q : Claim} {code : Nat} {b : Option BankIx} (h : MemOk s.mem) :
    MemOk (s.claimRefused q code b).mem := by
  unfold State.claimRefused
  repeat' split
  all_goals simp [h]

@[simp] theorem State.grant_memOk {s : State} {q : Claim} {m : CoreId} {b : BankIx} (h : MemOk s.mem) :
    MemOk (s.grant q m b).mem := by
  unfold State.grant
  dsimp only
  repeat' split
  all_goals simp [h]

@[simp] theorem State.ungate_memOk {s : State} {m : CoreId} {b : BankIx} (h : MemOk s.mem) : MemOk (s.ungate m b).mem := by
  simp -implicitDefEqProofs +contextual [State.ungate, memOk_ite, foldl_memOk, h]

@[simp] theorem State.take_memOk {s : State} {q : Claim} {m : CoreId} {b : BankIx} (h : MemOk s.mem) :
    MemOk (s.take q m b).mem := by
  unfold State.take
  split <;> simp [memOk_ite, h]

@[simp] theorem State.nextCandidate_memOk {s : State} {q : Claim} {b : BankIx} {lost : Bool} (h : MemOk s.mem) :
    MemOk (s.nextCandidate q b lost).mem := by
  unfold State.nextCandidate
  split <;> simp [h]

/-- Claims that go on to their next candidate keep memory canonical. -/
theorem foldl_nextCandidate_memOk {b : BankIx} {out : Bool} (l : List Claim) {s : State} (h : MemOk s.mem) :
    MemOk (l.foldl (fun (s : State) (q : Claim) => s.nextCandidate q b out) s).mem :=
  foldl_memOk (fun _ _ hs => State.nextCandidate_memOk hs) l h

@[simp] theorem execClaimRequestArrive_memOk {home : CoreId} {b : BankIx} {who : List Requester} {s : State} (h : MemOk s.mem) :
    OutMemOk (execClaimRequestArrive home b who s) := by
  unfold execClaimRequestArrive
  dsimp only
  split
  · exact outMemOk_next.2 (foldl_nextCandidate_memOk _ h)
  · rw [outMemOk_next, memOk_ite]
    have hs (l : List Claim) (w : Claim) (k : List Claim) :
        MemOk (k.foldl (fun (s : State) (q : Claim) => s.nextCandidate q b true)
          ((l.foldl (fun (s : State) (q : Claim) => s.nextCandidate q b false) s).take w home b)).mem :=
      foldl_nextCandidate_memOk _ (State.take_memOk (foldl_nextCandidate_memOk _ h))
    split
    · exact ⟨fun _ => hs _ _ _, fun _ => hs _ _ _⟩
    · have hn (l k : List Claim) := foldl_nextCandidate_memOk (b := b) (out := true) k (foldl_nextCandidate_memOk (b := b) (out := false) l h)
      exact ⟨fun _ => hn _ _, fun _ => hn _ _⟩

@[simp] theorem State.dropClaim_memOk {s : State} {c : CoreId} {pc : Nat} (h : MemOk s.mem) : MemOk (s.dropClaim c pc).mem := by
  unfold State.dropClaim
  split <;> simp [memOk_ite, h]

theorem State.adoptClaim_memOk {s t : State} {c : CoreId} {pc dreg : Nat} (h : MemOk s.mem)
    (ht : s.adoptClaim c pc dreg = some t) : MemOk t.mem := by
  unfold State.adoptClaim at ht
  split at ht
  · split at ht
    · cases ht
      simp -implicitDefEqProofs [h]
    · cases ht
  · cases ht

@[simp] theorem execClaim_memOk {x : Issue} {s : State} (h : MemOk s.mem) : OutMemOk (execClaim x s) := by
  unfold execClaim
  refine issue_memOk h fun s h => ?_
  split
  · trivial
  · split
    · rename_i ht
      exact State.adoptClaim_memOk h ht
    · simp [Act.memOk_ite, h]

@[simp] theorem execGive_memOk {x : Issue} {s : State} (h : MemOk s.mem) : OutMemOk (execGive x s) := by
  unfold execGive
  refine issue_memOk h fun s h => ?_
  dsimp only
  repeat' split
  all_goals simp [h]

@[simp] theorem execHandoverRequestArrive_memOk {home : CoreId} {b : BankIx} {s : State} (h : MemOk s.mem) :
    OutMemOk (execHandoverRequestArrive home b s) := by
  unfold execHandoverRequestArrive
  repeat' split
  all_goals simp [h]

@[simp] theorem execHandoverBankArrive_memOk {home : CoreId} {b : BankIx} {s : State} (h : MemOk s.mem) :
    OutMemOk (execHandoverBankArrive home b s) := by
  unfold execHandoverBankArrive
  split <;> simp [h]

@[simp] theorem State.stageDone_memOk {s : State} {n : PartId} {m : CoreId} {b : BankIx} (h : MemOk s.mem) :
    MemOk (s.stageDone n m b).mem := by
  unfold State.stageDone
  split <;> simp [h]

@[simp] theorem execHandoverAckArrive_memOk {home : CoreId} {b : BankIx} {s : State} (h : MemOk s.mem) :
    OutMemOk (execHandoverAckArrive home b s) := by
  unfold execHandoverAckArrive
  repeat' split
  all_goals simp -implicitDefEqProofs [h]

@[simp] theorem execHandoverTimeout_memOk {home : CoreId} {b : BankIx} {s : State} (h : MemOk s.mem) :
    OutMemOk (execHandoverTimeout home b s) := by
  unfold execHandoverTimeout
  repeat' split
  all_goals simp -implicitDefEqProofs [h]

@[simp] theorem execFree_memOk {x : Issue} {s : State} (h : MemOk s.mem) : OutMemOk (execFree x s) := by
  unfold execFree
  refine issue_memOk h fun s h => ?_
  dsimp only
  repeat' split
  all_goals simp [h]

@[simp] theorem execBankClearDone_memOk {home : CoreId} {b : BankIx} {s : State} (h : MemOk s.mem) :
    OutMemOk (execBankClearDone home b s) := by
  unfold execBankClearDone
  repeat' split
  all_goals simp [h]

@[simp] theorem State.bankOwnWrite_memOk {s : State} {c : CoreId} {b : BankIx} {v : Nat} (h : MemOk s.mem) :
    (s.bankOwnWrite c b v).MemOk := by
  unfold State.bankOwnWrite
  dsimp only
  repeat' split
  all_goals simp [h]

/-! ### Control: memory stays canonical -/

@[simp] theorem execNop_memOk {x : Issue} {s : State} (h : MemOk s.mem) : OutMemOk (execNop x s) := by
  unfold execNop
  refine issue_memOk h fun s h => ?_
  simp [h]

@[simp] theorem execHalt_memOk {x : Issue} {s : State} (h : MemOk s.mem) : OutMemOk (execHalt x s) := by
  unfold execHalt
  refine issue_memOk h fun s h => ?_
  simp [Act.memOk_ite, h]

@[simp] theorem execSync_memOk {x : Issue} {s : State} (h : MemOk s.mem) : OutMemOk (execSync x s) := by
  unfold execSync
  refine issue_memOk h fun s h => ?_
  simp [Act.memOk_ite, h]

@[simp] theorem execTagi_memOk {x : Issue} {s : State} (h : MemOk s.mem) : OutMemOk (execTagi x s) := by
  unfold execTagi
  refine issue_memOk h fun s h => ?_
  simp [h]

@[simp] theorem execBr_memOk {x : Issue} {s : State} (h : MemOk s.mem) : OutMemOk (execBr x s) := by
  unfold execBr
  refine issue_memOk h fun s h => ?_
  simp [h]

@[simp] theorem execCall_memOk {x : Issue} {s : State} (h : MemOk s.mem) : OutMemOk (execCall x s) := by
  unfold execCall
  refine issue_memOk h fun s h => ?_
  simp [Act.memOk_ite, h]

@[simp] theorem execJr_memOk {x : Issue} {s : State} (h : MemOk s.mem) : OutMemOk (execJr x s) := by
  unfold execJr
  refine issue_memOk h fun s h => ?_
  simp [Act.memOk_ite, h]

@[simp] theorem execLoop_memOk {x : Issue} {s : State} (h : MemOk s.mem) : OutMemOk (execLoop x s) := by
  unfold execLoop
  refine issue_memOk h fun s h => ?_
  simp [Act.memOk_ite, h]

@[simp] theorem execLset_memOk {x : Issue} {s : State} (h : MemOk s.mem) : OutMemOk (execLset x s) := by
  unfold execLset
  refine issue_memOk h fun s h => ?_
  simp [Act.memOk_ite, h]

/-! ### Porter: memory stays canonical -/

@[simp] theorem State.chanWrite_memOk {s : State} {c : CoreId} {i : ChanIx} {r v : Nat} (h : MemOk s.mem) :
    (s.chanWrite c i r v).MemOk := by simp [State.chanWrite, Act.memOk_ite, memOk_ite, h]

theorem State.adoptTransfer_mem {s t : State} {c : CoreId} {i : ChanIx} (ht : s.adoptTransfer c i = some t) : t.mem = s.mem := by
  unfold State.adoptTransfer at ht
  dsimp only at ht
  split at ht
  · cases ht
    simp
  · cases ht

@[simp] theorem execPgo_memOk {x : Issue} {s : State} (h : MemOk s.mem) : OutMemOk (execPgo x s) := by
  unfold execPgo
  refine issue_memOk h fun s h => ?_
  dsimp only
  split
  · trivial
  · split
    · rename_i ht
      rw [Act.memOk_done, State.adoptTransfer_mem ht]
      exact h
    · simp [Act.memOk_ite, h]

@[simp] theorem execPwait_memOk {x : Issue} {s : State} (h : MemOk s.mem) : OutMemOk (execPwait x s) := by
  unfold execPwait
  refine issue_memOk h fun s h => ?_
  simp [Act.memOk_ite, h]

@[simp] theorem execPorterChecksDone_memOk {c : CoreId} {i : ChanIx} {s : State} (h : MemOk s.mem) :
    OutMemOk (execPorterChecksDone c i s) := by
  unfold execPorterChecksDone
  dsimp only
  repeat' split
  all_goals simp [h]

@[simp] theorem State.busStop_memOk {s : State} {c : CoreId} {space kind addr : Nat} (h : MemOk s.mem) :
    MemOk (s.busStop c space kind addr).mem := by simp [State.busStop, h]

@[simp] theorem State.busErrorOf_memOk {s : State} {c : CoreId} {space kind addr : Nat} {p : ReadAsked → Bool} (h : MemOk s.mem) :
    MemOk (s.busErrorOf c space kind addr p).mem := by simp [State.busErrorOf, memOk_ite, h]

@[simp] theorem State.busError_memOk {s : State} {c : CoreId} {space kind addr : Nat} (h : MemOk s.mem) :
    MemOk (s.busError c space kind addr).mem := by simp [State.busError, h]

@[simp] theorem execPorterBusError_memOk {c : CoreId} {e : BusError} {s : State} (h : MemOk s.mem) :
    OutMemOk (execPorterBusError c e s) := by simp [execPorterBusError, h]

@[simp] theorem State.readArrives_memOk {s : State} {c : CoreId} {i : ChanIx} {data : List Byte} (h : MemOk s.mem) :
    MemOk (s.readArrives c i data).mem := by
  unfold State.readArrives
  split <;> simp [memOk_ite, h]

@[simp] theorem execPorterReadDataArrive_memOk {c : CoreId} {i : ChanIx} {r : ReadArrival} {s : State} (h : MemOk s.mem) :
    OutMemOk (execPorterReadDataArrive c i r s) := by simp [execPorterReadDataArrive, memOk_ite, h]

@[simp] theorem State.porterWrite_memOk {s : State} {c : CoreId} {a : Nat} {bs : List Byte} {ns spec : Bool} (h : MemOk s.mem) :
    MemOk (s.porterWrite c a bs ns spec).mem := by
  unfold State.porterWrite
  split
  · exact scratchWrite_memOk h
  · split <;> simp [h]
  · exact State.hbmWrite_memOk h
  · exact State.write_memOk h
  · exact h

@[simp] theorem State.poison_memOk {s : State} {c : CoreId} {a len : Nat} {bad : List Nat} (h : MemOk s.mem) :
    MemOk (s.poison c a len bad).mem := by
  unfold State.poison
  split
  · refine foldl_memOk (fun s g hs => ?_) _ h
    split
    · exact postEvent_memOk (by simpa using hs)
    · exact hs
  · exact h

@[simp] theorem State.moveBeat_memOk {s : State} {c : CoreId} {i : ChanIx} {r : BeatReport} (h : MemOk s.mem) :
    MemOk (s.moveBeat c i r).mem := by
  unfold State.moveBeat
  dsimp only
  split
  · simpa using h
  · rw [State.setChan_mem, State.beatBooks_mem]
    split
    · exact State.poison_memOk (foldl_collide_memOk _ (State.porterWrite_memOk h))
    · exact State.poison_memOk (foldl_collide_memOk _ (State.porterWrite_memOk h))

/-- Channels that are aborted at the boundary of a beat leave memory as it is. -/
theorem foldl_abortChans_mem {c : CoreId} (l : List ChanIx) (s : State) :
    (l.foldl (fun (s : State) (i : ChanIx) =>
      if ((s.core c).chans[i]).aborting && ((s.core c).chans[i]).state.isActive then s.stopChan c i .aborted 0x11 else s) s).mem = s.mem := by
  refine foldl_mem (fun s i => ?_) l s
  split <;> simp

@[simp] theorem execPorterBeat_memOk {b : Beat} {s : State} (h : MemOk s.mem) : OutMemOk (execPorterBeat b s) := by
  have hs := (foldl_abortChans_mem (c := b.core) (List.finRange 16) s).symm ▸ h
  unfold execPorterBeat
  dsimp only
  generalize List.foldl _ s (List.finRange 16) = u at hs ⊢
  split <;> simp -implicitDefEqProofs [hs]

/-! ### Abacus: memory stays canonical -/

@[simp] theorem abIssue_memOk {x : Issue} {s : State} {illegal : Nat → Option CoreFault} {useC : Bool} {chains : Nat → List Nat} {plan : CoreId → Nat → State → AbPlan} (h : MemOk s.mem) :
    OutMemOk (abIssue x s illegal useC chains plan) := by
  unfold abIssue
  refine issue_memOk h fun s h => ?_
  dsimp only
  repeat' split
  all_goals simp [h]

@[simp] theorem execMadd_memOk {x : Issue} {s : State} (h : MemOk s.mem) : OutMemOk (execMadd x s) := by simp [execMadd, h]

@[simp] theorem execNtt_memOk {x : Issue} {s : State} (h : MemOk s.mem) : OutMemOk (execNtt x s) := by simp [execNtt, h]

@[simp] theorem execIntt_memOk {x : Issue} {s : State} (h : MemOk s.mem) : OutMemOk (execIntt x s) := by simp [execIntt, h]

@[simp] theorem execAuto_memOk {x : Issue} {s : State} (h : MemOk s.mem) : OutMemOk (execAuto x s) := by simp [execAuto, h]

@[simp] theorem execKgen_memOk {x : Issue} {s : State} (h : MemOk s.mem) : OutMemOk (execKgen x s) := by simp [execKgen, h]

@[simp] theorem State.abNext_memOk {s : State} {c : CoreId} (h : MemOk s.mem) : MemOk (s.abNext c).mem := by
  unfold State.abNext
  dsimp only
  repeat' split
  all_goals simp [h]

@[simp] theorem execAbExecutionComplete_memOk {c : CoreId} {s : State} (h : MemOk s.mem) : OutMemOk (execAbExecutionComplete c s) := by
  simp [execAbExecutionComplete, h]

/-! ### Ieee: memory stays canonical -/

@[simp] theorem fvTile_memOk {x : Issue} {s : State} {o : FvOp} {f : FpFmt → FpFmt → Nat → Nat → Nat → Nat → FpRes} (h : MemOk s.mem) :
    OutMemOk (fvTile x s o f) := by
  unfold fvTile
  refine issue_memOk h fun s h => Act.memOk_ite.2 ⟨fun _ => trivial, fun _ => ?_⟩
  extract_lets p rows cols fd same td ta tb ops
  split
  · trivial
  · trivial
  · exact Act.memOk_ite.2 ⟨fun _ => trivial, fun _ => h⟩

@[simp] theorem execFvAdd_memOk {x : Issue} {s : State} (h : MemOk s.mem) : OutMemOk (execFvAdd x s) := by simp [execFvAdd, h]

@[simp] theorem execFvSub_memOk {x : Issue} {s : State} (h : MemOk s.mem) : OutMemOk (execFvSub x s) := by simp [execFvSub, h]

@[simp] theorem execFvMul_memOk {x : Issue} {s : State} (h : MemOk s.mem) : OutMemOk (execFvMul x s) := by simp [execFvMul, h]

@[simp] theorem execFvDiv_memOk {x : Issue} {s : State} (h : MemOk s.mem) : OutMemOk (execFvDiv x s) := by simp [execFvDiv, h]

@[simp] theorem execFvSqrt_memOk {x : Issue} {s : State} (h : MemOk s.mem) : OutMemOk (execFvSqrt x s) := by simp [execFvSqrt, h]

@[simp] theorem execFvFma_memOk {x : Issue} {s : State} (h : MemOk s.mem) : OutMemOk (execFvFma x s) := by simp [execFvFma, h]

@[simp] theorem execFvMax_memOk {x : Issue} {s : State} (h : MemOk s.mem) : OutMemOk (execFvMax x s) := by simp [execFvMax, h]

@[simp] theorem execFvMin_memOk {x : Issue} {s : State} (h : MemOk s.mem) : OutMemOk (execFvMin x s) := by simp [execFvMin, h]

@[simp] theorem execFvCvt_memOk {x : Issue} {s : State} (h : MemOk s.mem) : OutMemOk (execFvCvt x s) := by simp [execFvCvt, h]

@[simp] theorem execFvSsq_memOk {x : Issue} {s : State} (h : MemOk s.mem) : OutMemOk (execFvSsq x s) := by
  unfold execFvSsq
  refine issue_memOk h fun s h => ?_
  dsimp only
  repeat' split
  all_goals simp [h]

@[simp] theorem fsScalar_memOk {x : Issue} {s : State} {op : Nat} {binary reads : Bool} {f : FpFmt → Nat → Nat → Nat → Nat → FpRes} (h : MemOk s.mem) :
    OutMemOk (fsScalar x s op binary reads f) := by
  unfold fsScalar
  refine issue_memOk h fun s h => ?_
  simp [Act.memOk_ite, h]

@[simp] theorem execFsAdd_memOk {x : Issue} {s : State} (h : MemOk s.mem) : OutMemOk (execFsAdd x s) := by simp [execFsAdd, h]

@[simp] theorem execFsSub_memOk {x : Issue} {s : State} (h : MemOk s.mem) : OutMemOk (execFsSub x s) := by simp [execFsSub, h]

@[simp] theorem execFsMul_memOk {x : Issue} {s : State} (h : MemOk s.mem) : OutMemOk (execFsMul x s) := by simp [execFsMul, h]

@[simp] theorem execFsDiv_memOk {x : Issue} {s : State} (h : MemOk s.mem) : OutMemOk (execFsDiv x s) := by simp [execFsDiv, h]

@[simp] theorem execFsSqrt_memOk {x : Issue} {s : State} (h : MemOk s.mem) : OutMemOk (execFsSqrt x s) := by simp [execFsSqrt, h]

@[simp] theorem execFsFma_memOk {x : Issue} {s : State} (h : MemOk s.mem) : OutMemOk (execFsFma x s) := by simp [execFsFma, h]

@[simp] theorem execFsMax_memOk {x : Issue} {s : State} (h : MemOk s.mem) : OutMemOk (execFsMax x s) := by simp [execFsMax, h]

@[simp] theorem execFsMin_memOk {x : Issue} {s : State} (h : MemOk s.mem) : OutMemOk (execFsMin x s) := by simp [execFsMin, h]

@[simp] theorem execFsCvt_memOk {x : Issue} {s : State} (h : MemOk s.mem) : OutMemOk (execFsCvt x s) := by simp [execFsCvt, h]

@[simp] theorem execFsCmplt_memOk {x : Issue} {s : State} (h : MemOk s.mem) : OutMemOk (execFsCmplt x s) := by
  simp [execFsCmplt, h]

@[simp] theorem execFsCmpeq_memOk {x : Issue} {s : State} (h : MemOk s.mem) : OutMemOk (execFsCmpeq x s) := by
  simp [execFsCmpeq, h]

@[simp] theorem execCvti_memOk {x : Issue} {s : State} (h : MemOk s.mem) : OutMemOk (execCvti x s) := by simp [execCvti, h]

@[simp] theorem execCvtf_memOk {x : Issue} {s : State} (h : MemOk s.mem) : OutMemOk (execCvtf x s) := by simp [execCvtf, h]

@[simp] theorem execIeeeRetire_memOk {c : CoreId} {s : State} (h : MemOk s.mem) : OutMemOk (execIeeeRetire c s) := by
  simp [execIeeeRetire, h]

/-! ### ScaleHistory: memory stays canonical -/

@[simp] theorem State.shWrite_memOk {s : State} {c : CoreId} {at_ : Nat} {r : ShRec} (h : MemOk s.mem) :
    MemOk (s.shWrite c at_ r).mem := by
  unfold State.shWrite
  dsimp only
  exact scratchWrite_memOk h

@[simp] theorem State.shCommit_memOk {s : State} {c : CoreId} {at_ step : Nat} (h : MemOk s.mem) :
    MemOk (s.shCommit c at_ step).mem := by
  unfold State.shCommit
  dsimp only
  repeat' split
  all_goals simp [h]

@[simp] theorem State.shDiscard_memOk {s : State} {c : CoreId} {at_ step : Nat} (h : MemOk s.mem) :
    MemOk (s.shDiscard c at_ step).mem := by simp [State.shDiscard, h]

@[simp] theorem State.shSkip_memOk {s : State} {c : CoreId} {at_ : Nat} (h : MemOk s.mem) : MemOk (s.shSkip c at_).mem := by
  simp [State.shSkip, h]

@[simp] theorem State.shWalk_memOk {s : State} {c : CoreId} {step : Nat} {commit : Bool} (h : MemOk s.mem) :
    MemOk (s.shWalk c step commit).mem := by simp -implicitDefEqProofs +contextual [State.shWalk, memOk_ite, foldl_memOk, h]

theorem State.shCheck_memOk {s : State} {c : CoreId} {at_ : List Nat} {reads : Bool} {go : Unit → Act} (h : (go ()).MemOk) :
    (s.shCheck c at_ reads go).MemOk := by
  unfold State.shCheck
  refine Act.memOk_ite.2 ⟨fun _ => trivial, fun _ => ?_⟩
  split
  · trivial
  · trivial
  · exact Act.memOk_ite.2 ⟨fun _ => trivial, fun _ => Act.memOk_ite.2 ⟨fun _ => trivial, fun _ =>
      Act.memOk_ite.2 ⟨fun _ => trivial, fun _ => h⟩⟩⟩

@[simp] theorem execShinit_memOk {x : Issue} {s : State} (h : MemOk s.mem) : OutMemOk (execShinit x s) := by
  unfold execShinit
  refine issue_memOk h fun s h => Act.memOk_ite.2 ⟨fun _ => trivial, fun _ => State.shCheck_memOk ?_⟩
  simp -implicitDefEqProofs [h]

@[simp] theorem execShobs_memOk {x : Issue} {s : State} (h : MemOk s.mem) : OutMemOk (execShobs x s) := by
  unfold execShobs
  refine issue_memOk h fun s h => Act.memOk_ite.2 ⟨fun _ => trivial, fun _ => State.shCheck_memOk ?_⟩
  simp -implicitDefEqProofs [memOk_ite, h]

@[simp] theorem execShcmt_memOk {x : Issue} {s : State} (h : MemOk s.mem) : OutMemOk (execShcmt x s) := by
  unfold execShcmt
  refine issue_memOk h fun s h => Act.memOk_ite.2 ⟨fun _ => trivial, fun _ => State.shCheck_memOk ?_⟩
  simp -implicitDefEqProofs [h]

@[simp] theorem execShdsc_memOk {x : Issue} {s : State} (h : MemOk s.mem) : OutMemOk (execShdsc x s) := by
  unfold execShdsc
  refine issue_memOk h fun s h => Act.memOk_ite.2 ⟨fun _ => trivial, fun _ => State.shCheck_memOk ?_⟩
  simp -implicitDefEqProofs [h]

@[simp] theorem State.shFinish_memOk {s : State} {c : CoreId} {dreg at_ : Nat} {r : ShRec} {scale : Nat} (h : MemOk s.mem) :
    MemOk (s.shFinish c dreg at_ r scale).mem := by simp [State.shFinish, h]

@[simp] theorem execShder_memOk {x : Issue} {s : State} (h : MemOk s.mem) : OutMemOk (execShder x s) := by
  unfold execShder
  refine issue_memOk h fun s h => Act.memOk_ite.2 ⟨fun _ => trivial, fun _ => State.shCheck_memOk ?_⟩
  simp -implicitDefEqProofs [Act.memOk_ite, h]

@[simp] theorem State.shAnswered_memOk {s : State} {c : CoreId} {answer : ReadAnswer} (h : MemOk s.mem) :
    MemOk (s.shAnswered c answer).mem := by
  unfold State.shAnswered
  repeat' split
  all_goals simp -implicitDefEqProofs +contextual [memOk_ite, h]

@[simp] theorem execShderHostDataArrive_memOk {c : CoreId} {answer : ReadAnswer} {s : State} (h : MemOk s.mem) :
    OutMemOk (execShderHostDataArrive c answer s) := by simp [execShderHostDataArrive, h]

@[simp] theorem execShderHostRetry_memOk {c : CoreId} {s : State} (h : MemOk s.mem) : OutMemOk (execShderHostRetry c s) := by
  simp [execShderHostRetry, h]

@[simp] theorem execShderHostTimeout_memOk {c : CoreId} {s : State} (h : MemOk s.mem) : OutMemOk (execShderHostTimeout c s) := by
  unfold execShderHostTimeout
  split <;> simp [h]

@[simp] theorem execShanc_memOk {x : Issue} {s : State} (h : MemOk s.mem) : OutMemOk (execShanc x s) := by
  unfold execShanc
  refine issue_memOk h fun s h => Act.memOk_ite.2 ⟨fun _ => trivial, fun _ => State.shCheck_memOk ?_⟩
  simp -implicitDefEqProofs [Act.memOk_ite, h]

/-! ### Epoch: memory stays canonical -/

@[simp] theorem State.clearMarked_memOk {s : State} {c : CoreId} (h : MemOk s.mem) : MemOk (s.clearMarked c).mem := by
  unfold State.clearMarked
  rw [State.breakStreams_mem]
  refine foldl_memOk (fun s b hs => ?_) _ (foldl_memOk (fun s x hs => ?_) _ h)
  · split
    · split
      · exact State.clearBank_memOk hs
      · exact hs
    · exact hs
  · split
    · exact State.clearSlot_memOk hs
    · exact hs

@[simp] theorem State.discardCore_memOk {s : State} {c : CoreId} {runs : Bool} (h : MemOk s.mem) :
    MemOk (s.discardCore c runs).1.mem := by
  unfold State.discardCore
  grind [State.clearMarked_memOk, State.dropShder_mem, State.modCore_mem, State.retireAll_memOk, State.scoutCancel_memOk, State.stopMarked_mem]

@[simp] theorem execEpb_memOk {x : Issue} {s : State} (h : MemOk s.mem) : OutMemOk (execEpb x s) := by
  unfold execEpb
  refine issue_memOk h fun s h => ?_
  simp [Act.memOk_ite, h]

@[simp] theorem execEpc_memOk {x : Issue} {s : State} (h : MemOk s.mem) : OutMemOk (execEpc x s) := by
  unfold execEpc
  refine issue_memOk h fun s h => ?_
  dsimp only
  repeat' split
  all_goals simp -implicitDefEqProofs [h]

@[simp] theorem execEpd_memOk {x : Issue} {s : State} (h : MemOk s.mem) : OutMemOk (execEpd x s) := by
  unfold execEpd
  refine issue_memOk h fun s h => Act.memOk_ite.2 ⟨fun _ => trivial, fun _ => Act.memOk_ite.2 ⟨fun _ => by simpa using h, fun _ => ?_⟩⟩
  refine State.retryAll_memOk (State.nanReport_memOk (State.discardCore_memOk ?_))
  split
  · exact State.streamsDiscard_memOk h
  · exact h

theorem State.bankStep_memOk {s t : State} {c : CoreId} (h : MemOk s.mem) (ht : s.bankStep c = some t) : MemOk t.mem := by
  unfold State.bankStep at ht
  split at ht
  · split at ht
    · cases ht
      exact nextOr_memOk h (execClaimRequestArrive_memOk h)
    · split at ht
      · cases ht
        exact nextOr_memOk h (execBankClearDone_memOk h)
      · cases ht
  · split at ht
    · cases ht
      refine nextOr_memOk h ?_
      simp [outMemOk_ite, h]
    · cases ht

@[simp] theorem State.bankOpsEnd_memOk {s : State} {c : CoreId} {f : Nat} (h : MemOk s.mem) : MemOk (s.bankOpsEnd c f).mem := by
  induction f generalizing s with
  | zero => exact h
  | succ f ih =>
    unfold State.bankOpsEnd
    split
    · rename_i ht
      exact ih (State.bankStep_memOk h ht)
    · exact h

@[simp] theorem State.resetCore_memOk {s : State} {c : CoreId} (h : MemOk s.mem) : MemOk (s.resetCore c).mem := by
  unfold State.resetCore
  grind [State.bankOpsEnd_memOk, State.breakStreams_mem, State.dropShder_mem, State.modCore_mem, State.nanReport_memOk, State.resetChans_mem, State.retireAll_memOk, State.scoutCancel_memOk]

@[simp] theorem execCoreClearingDone_memOk {c : CoreId} {s : State} (h : MemOk s.mem) : OutMemOk (execCoreClearingDone c s) := by
  simp [execCoreClearingDone, memOk_ite, h]

/-! ### Partition: memory stays canonical -/

@[simp] theorem State.clearCoreMem_memOk {s : State} {c : CoreId} (h : MemOk s.mem) : MemOk (s.clearCoreMem c).mem := by
  unfold State.clearCoreMem
  grind [State.clearMem_memOk]

@[simp] theorem State.giveCore_memOk {s : State} {n : PartId} {mode : CoreMode} {c : CoreId} (h : MemOk s.mem) :
    MemOk (s.giveCore n mode c).mem := by simp -implicitDefEqProofs +contextual [State.giveCore, foldl_memOk, h]

@[simp] theorem State.freeCore_memOk {s : State} {c : CoreId} (h : MemOk s.mem) : MemOk (s.freeCore c).mem := by
  simp -implicitDefEqProofs +contextual [State.freeCore, foldl_memOk, h]

@[simp] theorem State.stopCores_memOk {s : State} {n : PartId} (h : MemOk s.mem) : MemOk (s.stopCores n).mem := by
  unfold State.stopCores
  dsimp only
  rw [State.aperturesGoOn_mem]
  refine State.nanTake_memOk (foldl_fst_memOk (fun a c ha => ?_) _ h)
  simpa using State.retireAll_memOk (State.scoutCancel_memOk ha)

@[simp] theorem State.resetCores_memOk {s : State} {n : PartId} (h : MemOk s.mem) : MemOk (s.resetCores n).mem := by
  simp -implicitDefEqProofs +contextual [State.resetCores, foldl_memOk, h]

@[simp] theorem State.dropCommands_memOk {s : State} {n : PartId} (h : MemOk s.mem) : MemOk (s.dropCommands n).mem := by
  simp -implicitDefEqProofs +contextual [State.dropCommands, h]

/-- Every unit that begins to clear keeps memory canonical. -/
theorem foldl_clearUnit_memOk {next : Option PartId} (l : List Nat) {s : State} (h : MemOk s.mem) :
    MemOk (l.foldl (fun (s : State) (u : Nat) => s.clearUnit u next) s).mem :=
  foldl_memOk (fun _ _ hs => State.clearUnit_memOk hs) l h

@[simp] theorem State.partitionReset_memOk {s : State} {n : PartId} {record : Bool} (h : MemOk s.mem) :
    MemOk (s.partitionReset n record).mem := by
  have h1 := State.resetCores_memOk (n := n) (State.stopCores_memOk (n := n)
    (State.patrolYield_memOk (mine := fun c => s.partOf c == some n) h))
  unfold State.partitionReset
  cases record
  all_goals
    simp -implicitDefEqProofs only [if_true, Bool.false_eq_true, if_false, State.writeRecord_mem, objBump_mem, State.modPart_mem,
      objSet_mem, State.withdrawCalls_mem, State.resetTraining_mem, State.clearRings_mem]
    refine State.dropCommands_memOk (foldl_clearUnit_memOk _ (memOk_ite.2 ⟨fun _ => ?_, fun _ => ?_⟩))
    · simpa using h1
    · simpa using h1

/-- Every core that is given to a partition keeps memory canonical. -/
theorem foldl_giveCore_memOk {n : PartId} {mode : CoreMode} (l : List CoreId) {s : State} (h : MemOk s.mem) :
    MemOk (l.foldl (fun (s : State) (c : CoreId) => s.giveCore n mode c) s).mem :=
  foldl_memOk (fun _ _ hs => State.giveCore_memOk hs) l h

@[simp] theorem State.form_memOk {s : State} {n : PartId} (h : MemOk s.mem) : MemOk (s.form n).mem := by
  have hf (l : List (Nat × Nat)) (q : Option PartId) (g : Nat × Nat → Nat) (t : State) :
      (l.foldl (fun (s : State) (e : Nat × Nat) => objSet s q 0x4010 e.1 (g e)) t).mem = t.mem :=
    foldl_mem (fun _ _ => objSet_mem _ _ _ _ _) l t
  unfold State.form
  dsimp only
  split
  all_goals
    simp -implicitDefEqProofs only [objSet_mem, State.takeCanopy_mem, State.resetTraining_mem]
    refine foldl_clearUnit_memOk _ (foldl_giveCore_memOk _ ?_)
    simp -implicitDefEqProofs only [State.modPart_mem, objSet_mem, State.clearPartObjs_mem, hf]
    exact State.patrolYield_memOk h

/-- Canopy contexts that are dropped leave memory as it is. -/
theorem foldl_dropCanopy_mem {n : PartId} (l : List (Nat × Fin 8)) (s : State) :
    (l.foldl (fun (s : State) (e : Nat × Fin 8) => s.dropCanopy n e.1) s).mem = s.mem :=
  foldl_mem (fun _ _ => State.dropCanopy_mem _ _ _) l s

@[simp] theorem State.dissolve_memOk {s : State} {n : PartId} (h : MemOk s.mem) : MemOk (s.dissolve n).mem := by
  unfold State.dissolve
  dsimp only
  simp -implicitDefEqProofs only [State.noteChange_mem, State.recomputeShares_mem, State.modPart_mem, State.clearPartObjs_mem,
    objSet_mem, foldl_dropCanopy_mem]
  refine memOk_ite.2 ⟨fun _ => ?_, fun _ => ?_⟩
  all_goals exact foldl_clearUnit_memOk _ (foldl_memOk (fun s c hs => State.freeCore_memOk hs) _ (State.partitionReset_memOk h))

/-! ### Canopy: memory stays canonical -/

@[simp] theorem State.credTake_memOk {s : State} {c : CoreId} {w : Nat} {slot dest : Nat} (h : MemOk s.mem) :
    (s.credTake c w slot dest).MemOk := by
  unfold State.credTake
  dsimp only
  repeat' split
  all_goals simp [h]

@[simp] theorem credRun_memOk {x : Issue} {s : State} {mode : Nat} (h : MemOk s.mem) : OutMemOk (credRun x s mode) := by
  unfold credRun
  refine issue_memOk h fun s h => ?_
  simp [Act.memOk_ite, h]

@[simp] theorem execCredHearthSum_memOk {x : Issue} {s : State} (h : MemOk s.mem) : OutMemOk (execCredHearthSum x s) := by
  simp [execCredHearthSum, h]

@[simp] theorem execCredMaximum_memOk {x : Issue} {s : State} (h : MemOk s.mem) : OutMemOk (execCredMaximum x s) := by
  simp [execCredMaximum, h]

@[simp] theorem execCredFp64Sum_memOk {x : Issue} {s : State} (h : MemOk s.mem) : OutMemOk (execCredFp64Sum x s) := by
  simp [execCredFp64Sum, h]

@[simp] theorem execCredVote_memOk {x : Issue} {s : State} (h : MemOk s.mem) : OutMemOk (execCredVote x s) := by
  simp [execCredVote, h]

@[simp] theorem execCredBroadcast_memOk {x : Issue} {s : State} (h : MemOk s.mem) : OutMemOk (execCredBroadcast x s) := by
  simp [execCredBroadcast, h]

/-! ### Commands: memory stays canonical -/

@[simp] theorem execCommandFetch_memOk {n : PartId} {s : State} (h : MemOk s.mem) : OutMemOk (execCommandFetch n s) := by
  simp [execCommandFetch, outMemOk_ite, memOk_ite, h]

@[simp] theorem State.fetchDone_memOk {s : State} {n : PartId} {bytes : List Byte} (h : MemOk s.mem) :
    MemOk (s.fetchDone n bytes).mem := by
  unfold State.fetchDone
  grind [State.finish_memOk, State.meetAdmission_memOk, State.modPart_mem, objBump_mem, objSet_mem]

@[simp] theorem execCommandFetchComplete_memOk {n : PartId} {bytes : List Byte} {s : State} (h : MemOk s.mem) :
    OutMemOk (execCommandFetchComplete n bytes s) := by simp [execCommandFetchComplete, h]

@[simp] theorem execAdmissionTimeout_memOk {n : PartId} {s : State} (h : MemOk s.mem) : OutMemOk (execAdmissionTimeout n s) := by
  unfold execAdmissionTimeout
  split <;> simp -implicitDefEqProofs [h]

theorem State.startNext_memOk {s : State} {n : PartId} {opc : Nat} {body : Command → State} (h : MemOk s.mem)
    (hb : ∀ c, MemOk (body c).mem) : OutMemOk (s.startNext n opc body) := by
  unfold State.startNext
  split
  · exact outMemOk_next.2 (hb _)
  · exact outMemOk_next.2 h

@[simp] theorem execCmdNop_memOk {n : PartId} {s : State} (h : MemOk s.mem) : OutMemOk (execCmdNop n s) := by
  unfold execCmdNop
  split <;> simp [h]

@[simp] theorem execStart_memOk {n : PartId} {s : State} (h : MemOk s.mem) : OutMemOk (execStart n s) := by
  unfold execStart
  refine State.startNext_memOk h fun c => memOk_ite.2 ⟨fun _ => h, fun _ => memOk_ite.2 ⟨fun _ => by simp [h], fun _ => ?_⟩⟩
  rw [foldl_mem fun s k => State.modCore_mem _ _ _]
  simpa using h

@[simp] theorem execStartComplete_memOk {n : PartId} {s : State} (h : MemOk s.mem) : OutMemOk (execStartComplete n s) := by
  unfold execStartComplete
  repeat' split
  all_goals simp [h]

@[simp] theorem execRunBoundExpiry_memOk {n : PartId} {s : State} (h : MemOk s.mem) : OutMemOk (execRunBoundExpiry n s) := by
  unfold execRunBoundExpiry
  split
  · simpa using h
  · refine outMemOk_ite.2 ⟨fun _ => by simpa using h, fun _ => outMemOk_next.2 ?_⟩
    refine postEvent_memOk (State.endStart_memOk (State.retryAll_memOk (foldl_memOk (fun s k hs => ?_) _ h)))
    exact State.nanReport_memOk (State.stopCore_memOk hs)

@[simp] theorem execCoreReset_memOk {n : PartId} {s : State} (h : MemOk s.mem) : OutMemOk (execCoreReset n s) := by
  unfold execCoreReset
  refine State.startNext_memOk h fun c => memOk_ite.2 ⟨fun _ => by simp [h], fun _ => ?_⟩
  exact State.finish_memOk (State.retryAll_memOk (foldl_memOk (fun s k hs => State.resetCore_memOk hs) _ h))

@[simp] theorem execPreset_memOk {n : PartId} {s : State} (h : MemOk s.mem) : OutMemOk (execPreset n s) := by
  unfold execPreset
  refine State.startNext_memOk h fun c => ?_
  simp [h]

@[simp] theorem execStreamOpen_memOk {n : PartId} {s : State} (h : MemOk s.mem) : OutMemOk (execStreamOpen n s) := by
  unfold execStreamOpen
  refine State.startNext_memOk h fun c => ?_
  split
  · split
    · simp -implicitDefEqProofs [memOk_ite, h]
    · exact h
  · simp [h]

@[simp] theorem execStreamOpenClearDone_memOk {n : PartId} {s : State} (h : MemOk s.mem) :
    OutMemOk (execStreamOpenClearDone n s) := by
  unfold execStreamOpenClearDone
  repeat' split
  all_goals simp -implicitDefEqProofs [h]

@[simp] theorem execStage_memOk {n : PartId} {s : State} (h : MemOk s.mem) : OutMemOk (execStage n s) := by
  unfold execStage
  refine State.startNext_memOk h fun c => State.ringNext_memOk ?_
  simpa using h

@[simp] theorem State.stageFails_memOk {s : State} {n : PartId} {c : Command} {m : CoreId} {b : BankIx} {kind addr : Nat} (h : MemOk s.mem) :
    MemOk (s.stageFails n c m b kind addr).mem := by
  unfold State.stageFails
  grind [State.abandonReads_mem, State.clearBank_memOk, State.finish_memOk, State.noteReadError_mem, State.recordBusError_mem, State.stageAsk_mem, postEvent_memOk]

@[simp] theorem execStageCopyComplete_memOk {n : PartId} {answer : ReadAnswer} {s : State} (h : MemOk s.mem) :
    OutMemOk (execStageCopyComplete n answer s) := by
  unfold execStageCopyComplete
  repeat' split
  all_goals simp [outMemOk_ite, memOk_ite, h]

@[simp] theorem execCtxAcq_memOk {n : PartId} {s : State} (h : MemOk s.mem) : OutMemOk (execCtxAcq n s) := by
  unfold execCtxAcq
  refine State.startNext_memOk h fun c => memOk_ite.2 ⟨fun _ => by simp [h], fun _ => ?_⟩
  split <;> simp -implicitDefEqProofs [h]

@[simp] theorem execCtxRel_memOk {n : PartId} {s : State} (h : MemOk s.mem) : OutMemOk (execCtxRel n s) := by
  unfold execCtxRel
  refine State.startNext_memOk h fun c => ?_
  simp [memOk_ite, h]

/-! ### ControlRegs: memory stays canonical -/

@[simp] theorem State.csrWrite_memOk {s : State} {c : CoreId} {r v : Nat} (h : MemOk s.mem) : (s.csrWrite c r v).MemOk := by
  unfold State.csrWrite
  refine Act.memOk_ite.2 ⟨fun _ => by simpa using h, fun _ => Act.memOk_ite.2 ⟨fun _ => by simpa using h, fun _ => ?_⟩⟩
  refine Act.memOk_ite.2 ⟨fun _ => State.bankOwnWrite_memOk h, fun _ => Act.memOk_ite.2 ⟨fun _ => State.chanWrite_memOk h, fun _ => ?_⟩⟩
  refine Act.memOk_ite.2 ⟨fun _ => ?_, fun _ => Act.memOk_ite.2 ⟨fun _ => State.groupWrite_memOk h, fun _ => ?_⟩⟩
  · exact Act.memOk_ite.2 ⟨fun _ => trivial, fun _ => h⟩
  · split
    case h_7 =>
      split
      · simpa using h
      · exact h
    all_goals simp -implicitDefEqProofs [Act.memOk_ite, h]

@[simp] theorem execCrr_memOk {x : Issue} {s : State} (h : MemOk s.mem) : OutMemOk (execCrr x s) := by
  unfold execCrr
  refine issue_memOk h fun s h => ?_
  simp [Act.memOk_ite, h]

@[simp] theorem crw_memOk {x : Issue} {s : State} {row : Nat → Bool} (h : MemOk s.mem) : OutMemOk (crw x s row) := by
  unfold crw
  exact issue_memOk h fun s h => Act.memOk_ite.2 ⟨fun _ => trivial, fun _ => State.csrWrite_memOk h⟩

@[simp] theorem execCrw_memOk {x : Issue} {s : State} (h : MemOk s.mem) : OutMemOk (execCrw x s) := by simp [execCrw, h]

@[simp] theorem execAgnCfgWrite_memOk {x : Issue} {s : State} (h : MemOk s.mem) : OutMemOk (execAgnCfgWrite x s) := by
  simp [execAgnCfgWrite, h]

@[simp] theorem execLntCfgWrite_memOk {x : Issue} {s : State} (h : MemOk s.mem) : OutMemOk (execLntCfgWrite x s) := by
  simp [execLntCfgWrite, h]

@[simp] theorem execShdirWrite_memOk {x : Issue} {s : State} (h : MemOk s.mem) : OutMemOk (execShdirWrite x s) := by
  simp [execShdirWrite, h]

@[simp] theorem execBankOwnGo_memOk {x : Issue} {s : State} (h : MemOk s.mem) : OutMemOk (execBankOwnGo x s) := by
  simp [execBankOwnGo, h]

@[simp] theorem execPchGo_memOk {x : Issue} {s : State} (h : MemOk s.mem) : OutMemOk (execPchGo x s) := by simp [execPchGo, h]

@[simp] theorem execPchResume_memOk {x : Issue} {s : State} (h : MemOk s.mem) : OutMemOk (execPchResume x s) := by
  simp [execPchResume, h]

@[simp] theorem execPchAbort_memOk {x : Issue} {s : State} (h : MemOk s.mem) : OutMemOk (execPchAbort x s) := by
  simp [execPchAbort, h]

@[simp] theorem execEpochMaskWrite_memOk {x : Issue} {s : State} (h : MemOk s.mem) : OutMemOk (execEpochMaskWrite x s) := by
  simp [execEpochMaskWrite, h]

@[simp] theorem execScoutCtlWrite_memOk {x : Issue} {s : State} (h : MemOk s.mem) : OutMemOk (execScoutCtlWrite x s) := by
  simp [execScoutCtlWrite, h]

@[simp] theorem execStepnoWrite_memOk {x : Issue} {s : State} (h : MemOk s.mem) : OutMemOk (execStepnoWrite x s) := by
  simp [execStepnoWrite, h]

@[simp] theorem execW1cStatusClear_memOk {x : Issue} {s : State} (h : MemOk s.mem) : OutMemOk (execW1cStatusClear x s) := by
  simp [execW1cStatusClear, h]

/-! ### Descriptor: memory stays canonical -/

theorem State.scalarAccess_memOk {s : State} {c : CoreId} {a n : Nat} {wr : Bool} {go : Unit → Act} (h : (go ()).MemOk) :
    (s.scalarAccess c a n wr go).MemOk := by
  unfold State.scalarAccess
  split
  · trivial
  · trivial
  · exact Act.memOk_ite.2 ⟨fun _ => trivial, fun _ => h⟩

@[simp] theorem execLd_memOk {x : Issue} {s : State} (h : MemOk s.mem) : OutMemOk (execLd x s) := by
  unfold execLd
  refine issue_memOk h fun s h => Act.memOk_ite.2 ⟨fun _ => trivial, fun _ => State.scalarAccess_memOk ?_⟩
  simp -implicitDefEqProofs [h]

@[simp] theorem execSt_memOk {x : Issue} {s : State} (h : MemOk s.mem) : OutMemOk (execSt x s) := by
  unfold execSt
  exact issue_memOk h fun s h => Act.memOk_ite.2 ⟨fun _ => trivial, fun _ => State.scalarAccess_memOk (scratchWrite_memOk h)⟩

@[simp] theorem execTld_memOk {x : Issue} {s : State} (h : MemOk s.mem) : OutMemOk (execTld x s) := by
  unfold execTld
  refine issue_memOk h fun s h => Act.memOk_ite.2 ⟨fun _ => trivial, fun _ => State.scalarAccess_memOk ?_⟩
  simp -implicitDefEqProofs [h]

@[simp] theorem execTst_memOk {x : Issue} {s : State} (h : MemOk s.mem) : OutMemOk (execTst x s) := by
  unfold execTst
  exact issue_memOk h fun s h => Act.memOk_ite.2 ⟨fun _ => trivial, fun _ => State.scalarAccess_memOk (scratchWrite_memOk h)⟩

@[simp] theorem execTset_memOk {x : Issue} {s : State} (h : MemOk s.mem) : OutMemOk (execTset x s) := by
  unfold execTset
  refine issue_memOk h fun s h => ?_
  simp [Act.memOk_ite, h]

@[simp] theorem execTget_memOk {x : Issue} {s : State} (h : MemOk s.mem) : OutMemOk (execTget x s) := by
  unfold execTget
  refine issue_memOk h fun s h => ?_
  simp [Act.memOk_ite, h]

/-! ### Elementwise: memory stays canonical -/

@[simp] theorem elementwise_memOk {x : Issue} {s : State} {o : EwOp} {f : EwIn → EwIn → Val} (h : MemOk s.mem) :
    OutMemOk (elementwise x s o f) := by
  unfold elementwise
  refine issue_memOk h fun s h => Act.memOk_ite.2 ⟨fun _ => trivial, fun _ => ?_⟩
  extract_lets q
  split
  · trivial
  · trivial
  · refine Act.memOk_ite.2 ⟨fun _ => trivial, fun _ => ?_⟩
    split
    · trivial
    · exact Act.memOk_ite.2 ⟨fun _ => trivial, fun _ => h⟩

@[simp] theorem execEwMul_memOk {x : Issue} {s : State} (h : MemOk s.mem) : OutMemOk (execEwMul x s) := by simp [execEwMul, h]

@[simp] theorem execEwDiv_memOk {x : Issue} {s : State} (h : MemOk s.mem) : OutMemOk (execEwDiv x s) := by simp [execEwDiv, h]

@[simp] theorem execEwNeg_memOk {x : Issue} {s : State} (h : MemOk s.mem) : OutMemOk (execEwNeg x s) := by simp [execEwNeg, h]

@[simp] theorem execEwAbs_memOk {x : Issue} {s : State} (h : MemOk s.mem) : OutMemOk (execEwAbs x s) := by simp [execEwAbs, h]

@[simp] theorem execEwMax_memOk {x : Issue} {s : State} (h : MemOk s.mem) : OutMemOk (execEwMax x s) := by simp [execEwMax, h]

@[simp] theorem execEwMin_memOk {x : Issue} {s : State} (h : MemOk s.mem) : OutMemOk (execEwMin x s) := by simp [execEwMin, h]

@[simp] theorem execEwCmplt_memOk {x : Issue} {s : State} (h : MemOk s.mem) : OutMemOk (execEwCmplt x s) := by
  simp [execEwCmplt, h]

@[simp] theorem execEwCmpeq_memOk {x : Issue} {s : State} (h : MemOk s.mem) : OutMemOk (execEwCmpeq x s) := by
  simp [execEwCmpeq, h]

@[simp] theorem execEwCvt_memOk {x : Issue} {s : State} (h : MemOk s.mem) : OutMemOk (execEwCvt x s) := by simp [execEwCvt, h]

@[simp] theorem execEwRetire_memOk {c : CoreId} {s : State} (h : MemOk s.mem) : OutMemOk (execEwRetire c s) := by
  simp [execEwRetire, h]

/-! ### Stash: memory stays canonical -/

theorem campPacket_memOk {kind : Nat} {k : Packet} {s : State} {f : PartId → State} (h : MemOk s.mem)
    (hf : ∀ n, MemOk (f n).mem) : OutMemOk (campPacket kind k s f) := by
  unfold campPacket
  refine outMemOk_ite.2 ⟨fun _ => by simpa using h, fun _ => outMemOk_ite.2 ⟨fun _ => by simpa using h, fun _ => ?_⟩⟩
  split
  · simpa using hf _
  · simpa using h

@[simp] theorem State.stashAbandoned_memOk {s : State} {n : PartId} (h : MemOk s.mem) : MemOk (s.stashAbandoned n).mem := by
  unfold State.stashAbandoned
  split <;> simp [h]

@[simp] theorem State.startStash_memOk {s : State} {n : PartId} {step : Nat} (h : MemOk s.mem) :
    MemOk (s.startStash n step).mem := by
  unfold State.startStash
  grind [State.hostPost_mem, State.modPart_mem, State.postCall_mem, State.sendRank_mem, State.setPrevOk_mem, State.stashAbandoned_memOk, State.stashState_mem]

@[simp] theorem execStashAck_memOk {k : Packet} {s : State} (h : MemOk s.mem) : OutMemOk (execStashAck k s) := by
  unfold execStashAck
  refine campPacket_memOk h fun n => ?_
  split
  · simp [memOk_ite, h]
  · exact h

@[simp] theorem execStashAckTimeout_memOk {n : PartId} {s : State} (h : MemOk s.mem) : OutMemOk (execStashAckTimeout n s) := by
  unfold execStashAckTimeout
  split <;> simp [memOk_ite, h]

@[simp] theorem execStashOpen_memOk {k : Packet} {s : State} (h : MemOk s.mem) : OutMemOk (execStashOpen k s) := by
  unfold execStashOpen
  refine campPacket_memOk h fun n => ?_
  dsimp only
  split <;> simp [h]

@[simp] theorem execStashData_memOk {k : Packet} {s : State} (h : MemOk s.mem) : OutMemOk (execStashData k s) := by
  unfold execStashData
  refine campPacket_memOk h fun n => ?_
  split
  · simp -implicitDefEqProofs [memOk_ite, h]
  · exact h

@[simp] theorem execStashSeal_memOk {k : Packet} {s : State} (h : MemOk s.mem) : OutMemOk (execStashSeal k s) := by
  unfold execStashSeal
  refine campPacket_memOk h fun n => ?_
  split
  · simp -implicitDefEqProofs [memOk_ite, h]
  · exact h

@[simp] theorem execPullReq_memOk {k : Packet} {s : State} (h : MemOk s.mem) : OutMemOk (execPullReq k s) := by
  unfold execPullReq
  refine campPacket_memOk h fun n => ?_
  dsimp only
  split <;> simp [h]

/-! ### Verdict: memory stays canonical -/

@[simp] theorem State.normDelivered_memOk {s : State} {n : PartId} {step sum : Nat} (h : MemOk s.mem) :
    MemOk (s.normDelivered n step sum).mem := by simp -implicitDefEqProofs +contextual [State.normDelivered, h]

@[simp] theorem State.walkAll_memOk {s : State} {n : PartId} {step : Nat} {commit : Bool} (h : MemOk s.mem) :
    MemOk (s.walkAll n step commit).mem := by simp -implicitDefEqProofs +contextual [State.walkAll, foldl_memOk, h]

@[simp] theorem State.epochsCommit_memOk {s : State} {n : PartId} {e : W32} (h : MemOk s.mem) : MemOk (s.epochsCommit n e).mem := by
  simp -implicitDefEqProofs +contextual [State.epochsCommit, foldl_memOk, h]

/-- Every core that is discarded keeps memory canonical. -/
theorem foldl_discardCore_memOk (l : List CoreId) {s : State} (h : MemOk s.mem) :
    MemOk (l.foldl (fun (s : State) (c : CoreId) => (s.discardCore c true).1.nanReport c (s.discardCore c true).2) s).mem :=
  foldl_memOk (fun _ _ hs => State.nanReport_memOk (State.discardCore_memOk hs)) l h

@[simp] theorem State.epochsDiscard_memOk {s : State} {n : PartId} {e : W32} (h : MemOk s.mem) :
    MemOk (s.epochsDiscard n e).mem := by
  have hf (f : CoreId → Core → Core) (l : List CoreId) (t : State) :
      (l.foldl (fun (s : State) (c : CoreId) => s.modCore c (f c)) t).mem = t.mem :=
    foldl_mem (fun _ _ => State.modCore_mem _ _ _) l t
  unfold State.epochsDiscard
  dsimp only
  refine State.retryAll_memOk ?_
  rw [hf fun _ => _]
  exact foldl_discardCore_memOk _ (State.streamsDiscard_memOk h)

/-- Elements written to a slot keep memory canonical. -/
theorem foldl_hearthSet_memOk {c : CoreId} {slot : Nat} (l : List (Nat × HElem)) {m : Memory} (h : MemOk m) :
    MemOk (l.foldl (fun (m : Memory) (e : Nat × HElem) => hearthSet m c slot e.1 e.2) m) := by
  induction l generalizing m with
  | nil => exact h
  | cons e es ih => exact ih (hearthSet_memOk h)

@[simp] theorem State.deliverTile_memOk {s : State} {c : CoreId} {dest : SlotIx} {anchor : Int} {vals : List (Int × Nat)} (h : MemOk s.mem) :
    MemOk (s.deliverTile c dest anchor vals).mem := by
  unfold State.deliverTile
  exact foldl_hearthSet_memOk _ h

@[simp] theorem State.credDone_memOk {s : State} {c : CoreId} {w : CredWait} {anchor : Int} {v : CVal} (h : MemOk s.mem) :
    MemOk (s.credDone c w anchor v).mem := by
  unfold State.credDone
  repeat' split
  all_goals simp -implicitDefEqProofs +contextual [h]

@[simp] theorem State.credEnds_memOk {s : State} {c : CoreId} {w : CredWait} {code : Nat} {ran : Bool} (h : MemOk s.mem) :
    MemOk (s.credEnds c w code ran).mem := by simp -implicitDefEqProofs +contextual [State.credEnds, memOk_ite, h]

@[simp] theorem State.credsRetire_memOk {s : State} {i : Fin 8} {r : Reduction} {code : Nat} {v : CVal} (h : MemOk s.mem) :
    MemOk (s.credsRetire i r code v).mem := by
  unfold State.credsRetire
  refine foldl_memOk (fun t c ht => ?_) _ h
  dsimp only
  repeat' split
  all_goals simp [ht]

@[simp] theorem State.stepUnresolved_memOk {s : State} {n : PartId} {step : Nat} (h : MemOk s.mem) :
    MemOk (s.stepUnresolved n step).mem := by
  unfold State.stepUnresolved
  grind [State.closeRecord_memOk, State.controlBoundary_mem, State.epochsDiscard_memOk, State.modPart_mem, State.noteChange_mem, State.setBlock_mem, State.stepBoundary_mem, State.walkAll_memOk, State.writeStepBlock_memOk, objBump_mem]

@[simp] theorem State.stepCommitted_memOk {s : State} {n : PartId} {i : Fin 8} {r : Reduction} {step : Nat} (h : MemOk s.mem) :
    MemOk (s.stepCommitted n i r step).mem := by
  unfold State.stepCommitted
  grind [State.closeRecord_memOk, State.credsRetire_memOk, State.dutySwitch_mem, State.epochsCommit_memOk, State.openRecord_memOk, State.raiseStepno_mem, State.setBlock_mem, State.startStash_memOk, State.stepBoundary_mem, State.walkAll_memOk, State.writeStepBlock_memOk, objBump_mem]

@[simp] theorem State.stepSkipped_memOk {s : State} {n : PartId} {i : Fin 8} {r : Reduction} {step code : Nat} (h : MemOk s.mem) :
    MemOk (s.stepSkipped n i r step code).mem := by
  unfold State.stepSkipped
  grind [State.closeRecord_memOk, State.controlBoundary_mem, State.credsRetire_memOk, State.epochsDiscard_memOk, State.openRecord_memOk, State.raiseStepno_mem, State.setBlock_mem, State.stepBoundary_mem, State.walkAll_memOk, State.writeStepBlock_memOk, objBump_mem]

@[simp] theorem State.applyVerdict_memOk {s : State} {n : PartId} {i : Fin 8} {r : Reduction} {step : Nat} {v1 v2 : Bool} (h : MemOk s.mem) :
    MemOk (s.applyVerdict n i r step v1 v2).mem := by simp -implicitDefEqProofs +contextual [State.applyVerdict, memOk_ite, h]

@[simp] theorem State.reductionFails_memOk {s : State} {n : PartId} {i : Fin 8} {r : Reduction} {code : Nat} (h : MemOk s.mem) :
    MemOk (s.reductionFails n i r code).mem := by
  unfold State.reductionFails
  dsimp only
  repeat' split
  all_goals simp [h]

@[simp] theorem State.verdictReached_memOk {s : State} {n : PartId} {i : Fin 8} {r : Reduction} {v2 : Bool} (h : MemOk s.mem) :
    MemOk (s.verdictReached n i r v2).mem := by
  unfold State.verdictReached
  split <;> simp [h]

@[simp] theorem State.skipGoesOn_memOk {s : State} {n : PartId} {i : Fin 8} {r : Reduction} (h : MemOk s.mem) :
    MemOk (s.skipGoesOn n i r).mem := by
  unfold State.skipGoesOn
  dsimp only
  repeat' split
  all_goals simp [h]

@[simp] theorem State.skipBit_memOk {s : State} {n : PartId} {i : Fin 8} {r : Reduction} {host : Bool} (h : MemOk s.mem) :
    MemOk (s.skipBit n i r host).mem := by simp [State.skipBit, h]

@[simp] theorem State.voteDelivered_memOk {s : State} {n : PartId} {i : Fin 8} {r : Reduction} {v1 : Bool} (h : MemOk s.mem) :
    MemOk (s.voteDelivered n i r v1).mem := by simp [State.voteDelivered, memOk_ite, h]

@[simp] theorem State.deliverOldest_memOk {s : State} {n : PartId} {i : Fin 8} (h : MemOk s.mem) :
    MemOk (s.deliverOldest n i).1.mem := by
  unfold State.deliverOldest
  dsimp only
  repeat' split
  all_goals simp [h]

theorem State.deliverReady_memOk {s : State} {n : PartId} {i : Fin 8} (f : Nat) (h : MemOk s.mem) :
    MemOk (s.deliverReady n i f).mem := by
  induction f generalizing s with
  | zero => exact h
  | succ f ih =>
    unfold State.deliverReady
    exact memOk_ite.2 ⟨fun _ => ih (State.deliverOldest_memOk h), fun _ => State.deliverOldest_memOk h⟩

@[simp] theorem State.hostSkips_memOk {s : State} {n : PartId} {bit : Bool} (h : MemOk s.mem) :
    MemOk (s.hostSkips n bit).mem := by
  unfold State.hostSkips
  grind [State.deliverReady_memOk, State.dutySwitch_mem, State.skipBit_memOk]

@[simp] theorem execCanopyUp_memOk {k : Packet} {s : State} (h : MemOk s.mem) : OutMemOk (execCanopyUp k s) := by
  unfold execCanopyUp
  refine campPacket_memOk h fun n => ?_
  split
  · exact h
  · dsimp only
    refine memOk_ite.2 ⟨fun _ => ?_, fun _ => memOk_ite.2 ⟨fun _ => ?_, fun _ => ?_⟩⟩
    · split <;> simp [h]
    · split
      · exact State.deliverReady_memOk _ (State.skipGoesOn_memOk h)
      · exact h
    · simp [h]

@[simp] theorem execCanopyDown_memOk {n : PartId} {ctx : Fin 8} {k : Option Packet} {s : State} (h : MemOk s.mem) :
    OutMemOk (execCanopyDown n ctx k s) := by
  unfold execCanopyDown
  dsimp only
  split
  · refine campPacket_memOk h fun n => ?_
    split
    · split
      · exact h
      · refine memOk_ite.2 ⟨fun _ => State.deliverReady_memOk _ (State.reductionFails_memOk h), fun _ => memOk_ite.2 ⟨fun _ => ?_, fun _ => ?_⟩⟩
        · exact memOk_ite.2 ⟨fun _ => h, fun _ => State.deliverReady_memOk _ (State.verdictReached_memOk h)⟩
        · exact State.deliverReady_memOk _ (by simpa using h)
    · exact h
  · refine outMemOk_ite.2 ⟨fun _ => by simpa using h, fun _ => ?_⟩
    split
    · simpa using h
    · split
      · refine outMemOk_next.2 (memOk_ite.2 ⟨fun _ => State.deliverReady_memOk _ (State.reductionFails_memOk h), fun _ => ?_⟩)
        exact State.deliverReady_memOk _ (by simpa using h)
      · exact outMemOk_next.2 (memOk_ite.2 ⟨fun _ => h, fun _ => State.deliverReady_memOk _ (by simpa using h)⟩)
      · simpa using h

@[simp] theorem execReductionTimeout_memOk {n : PartId} {ctx : Fin 8} {s : State} (h : MemOk s.mem) :
    OutMemOk (execReductionTimeout n ctx s) := by
  unfold execReductionTimeout
  refine outMemOk_ite.2 ⟨fun _ => by simpa using h, fun _ => ?_⟩
  split
  · exact outMemOk_next.2 (State.deliverReady_memOk _ (State.reductionFails_memOk h))
  · simpa using h

@[simp] theorem State.membersLost_memOk {s : State} {n : PartId} {i : Fin 8} (h : MemOk s.mem) : MemOk (s.membersLost n i).mem := by
  simp -implicitDefEqProofs +contextual [State.membersLost, memOk_ite, foldl_memOk, h]

@[simp] theorem execStepCallTimeout_memOk {n : PartId} {s : State} (h : MemOk s.mem) : OutMemOk (execStepCallTimeout n s) := by
  simp -implicitDefEqProofs [execStepCallTimeout, memOk_ite, h]

@[simp] theorem execStashCallTimeout_memOk {n : PartId} {s : State} (h : MemOk s.mem) : OutMemOk (execStashCallTimeout n s) := by
  simp -implicitDefEqProofs [execStashCallTimeout, memOk_ite, h]

/-! ### Recovery: memory stays canonical -/

@[simp] theorem State.memberFailed_memOk {s : State} {n : PartId} {coord : Nat} (h : MemOk s.mem) :
    MemOk (s.memberFailed n coord).mem := by
  unfold State.memberFailed
  grind [State.modCamp_mem, State.settle_mem, State.stashAbandoned_memOk]

@[simp] theorem State.campLost_memOk {s : State} {n : PartId} (h : MemOk s.mem) : MemOk (s.campLost n).mem := by
  unfold State.campLost
  split <;> simp [h]

@[simp] theorem State.breakRemote_memOk {s : State} {n : PartId} {cause : Nat} {p : Ctx → Bool} (h : MemOk s.mem) :
    MemOk (s.breakRemote n cause p).mem := by simp -implicitDefEqProofs +contextual [State.breakRemote, memOk_ite, foldl_memOk, h]

theorem noticeArrives_memOk {kind : Nat} {k : Packet} {from_ : Option PortIx} {s : State} {f : State → State} (h : MemOk s.mem)
    (hf : ∀ s : State, MemOk s.mem → MemOk (f s).mem) : OutMemOk (noticeArrives kind k from_ s f) := by
  unfold noticeArrives
  refine outMemOk_ite.2 ⟨fun _ => by simpa using h, fun _ => outMemOk_ite.2 ⟨fun _ => by simpa using h, fun _ => ?_⟩⟩
  exact outMemOk_next.2 (hf _ (by simpa using h))

@[simp] theorem State.faultNotice_memOk {s : State} {k : Packet} (h : MemOk s.mem) : MemOk (s.faultNotice k).mem := by
  unfold State.faultNotice
  grind [State.breakRemote_memOk, State.campLost_memOk, State.degrade_mem, State.memberFailed_memOk]

@[simp] theorem execFault_memOk {k : Packet} {s : State} (h : MemOk s.mem) : OutMemOk (execFault k s) := by
  unfold execFault
  exact noticeArrives_memOk h fun s hs => State.faultNotice_memOk hs

/-- Every member that fails with a link keeps memory canonical. -/
theorem foldl_memberFailed_memOk {n : PartId} (l : List Nat) {s : State} (h : MemOk s.mem) :
    MemOk (l.foldl (fun (s : State) (c : Nat) => s.memberFailed n c) s).mem :=
  foldl_memOk (fun _ _ hs => State.memberFailed_memOk hs) l h

@[simp] theorem State.linkGone_memOk {s : State} {seat port : Nat} (h : MemOk s.mem) : MemOk (s.linkGone seat port).mem := by
  unfold State.linkGone
  dsimp only
  refine foldl_memOk (fun s n hs => foldl_memberFailed_memOk _ ?_) _ ?_
  · simp [hs]
  · rw [objSet_mem]
    exact memOk_ite.2 ⟨fun _ => h, fun _ => h⟩

@[simp] theorem execTopo_memOk {k : Packet} {s : State} (h : MemOk s.mem) : OutMemOk (execTopo k s) := by
  unfold execTopo
  exact noticeArrives_memOk h fun s hs => State.linkGone_memOk hs

@[simp] theorem execRemap_memOk {k : Packet} {s : State} (h : MemOk s.mem) : OutMemOk (execRemap k s) := by
  unfold execRemap
  exact noticeArrives_memOk h fun s hs => State.installRemap_memOk hs

@[simp] theorem execPresent_memOk {k : Packet} {s : State} (h : MemOk s.mem) : OutMemOk (execPresent k s) := by
  unfold execPresent
  refine campPacket_memOk h fun n => ?_
  dsimp only
  exact memOk_ite.2 ⟨fun _ => h, fun _ => memOk_ite.2 ⟨fun _ => by simpa using h, fun _ => by simpa using h⟩⟩

@[simp] theorem execActive_memOk {k : Packet} {s : State} (h : MemOk s.mem) : OutMemOk (execActive k s) := by
  unfold execActive
  refine campPacket_memOk h fun n => ?_
  simp [h]

@[simp] theorem State.restoreRanges_memOk {s : State} {n : PartId} {mbuf : Nat} {bytes : List Byte} (h : MemOk s.mem) :
    MemOk (s.restoreRanges n mbuf bytes).mem := by
  unfold State.restoreRanges
  exact foldl_fst_memOk (fun a e ha => State.hbmWrite_memOk ha) _ h

@[simp] theorem State.stopForResume_memOk {s : State} {n : PartId} (h : MemOk s.mem) : MemOk (s.stopForResume n).mem := by
  unfold State.stopForResume
  refine State.endStart_memOk (foldl_memOk (fun s c hs => ?_) _ h)
  dsimp only
  rw [State.modCore_mem, foldl_mem (fun s i => ?_)]
  · simpa using State.stopCore_memOk hs
  · split <;> simp

@[simp] theorem State.clearForResume_memOk {s : State} {n : PartId} (h : MemOk s.mem) : MemOk (s.clearForResume n).mem := by
  simp -implicitDefEqProofs +contextual [State.clearForResume, foldl_memOk, h]

/-- What a restore of the step's information leaves has canonical memory. -/
theorem State.restoreHistories_memOk {s t : State} {n : PartId} {hist : List Byte} (h : MemOk s.mem)
    (ht : s.restoreHistories n hist = some t) : MemOk t.mem := by
  unfold State.restoreHistories at ht
  dsimp only at ht
  split at ht
  · cases ht
  · cases ht
    rw [State.wakeHistories_mem]
    exact foldl_memOk (fun s e hs => scratchWrite_memOk hs) _ h

theorem State.restoreMeta_memOk {s t : State} {n : PartId} {step : Nat} {info : List Byte} (h : MemOk s.mem)
    (ht : s.restoreMeta n step info = some t) : MemOk t.mem := by
  unfold State.restoreMeta at ht
  dsimp only at ht
  split at ht
  · cases ht
  · rename_i u hu
    have hm := State.restoreHistories_memOk h hu
    cases ht
    refine foldl_memOk (fun s e hs => State.shDiscard_memOk hs) _ ?_
    split <;> simp [hm]

@[simp] theorem State.restoreStep_memOk {s : State} {n : PartId} {step : Nat} (h : MemOk s.mem) :
    MemOk (s.restoreStep n step).mem := by
  have own (info : List Byte) : MemOk (match s.restoreMeta n step info with
      | some t => t.sendDone n 0
      | none => s.sendDone n 1).mem := by
    split
    · rename_i t ht
      simpa using State.restoreMeta_memOk h ht
    · simpa using h
  unfold State.restoreStep
  dsimp only
  split
  · exact own _
  · exact own _
  · split <;> simp [h]

@[simp] theorem State.resumeAt_memOk {s : State} {n : PartId} {step : Nat} (h : MemOk s.mem) : MemOk (s.resumeAt n step).mem := by
  unfold State.resumeAt
  grind [State.clearForResume_memOk, State.restoreStep_memOk, State.setRecovery_mem, State.stopForResume_memOk, State.unrecoverable_mem, objSet_mem]

@[simp] theorem State.sendResume_memOk {s : State} {n : PartId} (h : MemOk s.mem) : MemOk (s.sendResume n).mem := by
  unfold State.sendResume
  split <;> simp [h]

@[simp] theorem State.takeReport_memOk {s : State} {n : PartId} {rank : Nat} {body : List Byte} (h : MemOk s.mem) :
    MemOk (s.takeReport n rank body).mem := by simp -implicitDefEqProofs +contextual [State.takeReport, memOk_ite, h]

@[simp] theorem State.seatsDecided_memOk {s : State} {n : PartId} (h : MemOk s.mem) : MemOk (s.seatsDecided n).mem := by
  unfold State.seatsDecided
  dsimp only
  refine State.takeReport_memOk ?_
  simp only [State.sendRanked_mem, State.remapOver_mem, State.setRecovery_mem, State.modCamp_mem]
  exact foldl_memOk (fun s e hs => State.installRemap_memOk (by simpa using hs)) _ h

@[simp] theorem State.seatChosen_memOk {s : State} {n : PartId} {seat : Nat} (h : MemOk s.mem) :
    MemOk (s.seatChosen n seat).mem := by
  unfold State.seatChosen
  split <;> simp -implicitDefEqProofs +contextual [memOk_ite, h]

@[simp] theorem execRemapCallTimeout_memOk {s : State} (h : MemOk s.mem) : OutMemOk (execRemapCallTimeout s) := by
  unfold execRemapCallTimeout
  refine outMemOk_ite.2 ⟨fun _ => by simpa using h, fun _ => ?_⟩
  dsimp only
  split
  · exact outMemOk_next.2 (State.seatChosen_memOk (by simpa using h))
  · simpa using h

@[simp] theorem execSettleTimeout_memOk {n : PartId} {s : State} (h : MemOk s.mem) : OutMemOk (execSettleTimeout n s) := by
  unfold execSettleTimeout
  refine outMemOk_ite.2 ⟨fun _ => by simpa using h, fun _ => ?_⟩
  dsimp only
  split
  · simpa using h
  · refine outMemOk_ite.2 ⟨fun _ => outMemOk_next.2 (State.seatsDecided_memOk (by simpa using h)), fun _ => outMemOk_ite.2 ⟨fun _ => ?_, fun _ => ?_⟩⟩
    · simpa using h
    · exact outMemOk_next.2 (State.seatsDecided_memOk (by simpa using h))

theorem State.hears_mem {s t : State} {n : PartId} {number : Nat} (h : s.hears n number = some t) : t.mem = s.mem := by
  unfold State.hears at h
  split at h
  · cases h
  · cases h
    exact objSet_mem _ _ _ _ _

@[simp] theorem execRecoverQuery_memOk {k : Packet} {s : State} (h : MemOk s.mem) : OutMemOk (execRecoverQuery k s) := by
  unfold execRecoverQuery
  refine campPacket_memOk h fun n => ?_
  dsimp only
  split
  · exact h
  · rename_i t ht
    have ht : MemOk t.mem := (State.hears_mem ht).symm ▸ h
    exact memOk_ite.2 ⟨fun _ => ht, fun _ => by simpa using ht⟩

@[simp] theorem execRecoverReport_memOk {k : Packet} {s : State} (h : MemOk s.mem) : OutMemOk (execRecoverReport k s) := by
  unfold execRecoverReport
  refine campPacket_memOk h fun n => ?_
  exact memOk_ite.2 ⟨fun _ => h, fun _ => State.takeReport_memOk h⟩

@[simp] theorem execReportTimeout_memOk {n : PartId} {s : State} (h : MemOk s.mem) : OutMemOk (execReportTimeout n s) := by
  unfold execReportTimeout
  refine outMemOk_ite.2 ⟨fun _ => by simpa using h, fun _ => outMemOk_next.2 ?_⟩
  exact foldl_memOk (fun s r hs => State.memberFailed_memOk hs) _ h

@[simp] theorem execResume_memOk {k : Packet} {s : State} (h : MemOk s.mem) : OutMemOk (execResume k s) := by
  unfold execResume
  refine campPacket_memOk h fun n => ?_
  dsimp only
  split
  · exact h
  · rename_i t ht
    have ht : MemOk t.mem := (State.hears_mem ht).symm ▸ h
    exact State.resumeAt_memOk (foldl_memOk (fun s i hs => memOk_ite.2 ⟨fun _ => hs, fun _ => State.installRemap_memOk hs⟩) _ ht)

@[simp] theorem execResumeDone_memOk {k : Packet} {s : State} (h : MemOk s.mem) : OutMemOk (execResumeDone k s) := by
  unfold execResumeDone
  refine campPacket_memOk h fun n => ?_
  simp [memOk_ite, h]

@[simp] theorem State.finishPull_memOk {s : State} {n : PartId} {step : Nat} (h : MemOk s.mem) :
    MemOk (s.finishPull n step).mem := by
  unfold State.finishPull
  dsimp only
  split
  · simpa using h
  · split
    · simpa using h
    · rename_i t ht
      rw [State.sendDone_mem]
      exact State.restoreRanges_memOk (State.restoreMeta_memOk (by simpa using h) ht)

@[simp] theorem execPullData_memOk {k : Packet} {s : State} (h : MemOk s.mem) : OutMemOk (execPullData k s) := by
  unfold execPullData
  refine campPacket_memOk h fun n => ?_
  split
  · exact h
  · dsimp only
    refine memOk_ite.2 ⟨fun _ => h, fun _ => memOk_ite.2 ⟨fun _ => by simpa using h, fun _ => memOk_ite.2 ⟨fun _ => ?_, fun _ => ?_⟩⟩⟩
    · exact State.finishPull_memOk (by simpa using h)
    · simpa using h

/-! ### RingPage: memory stays canonical -/

@[simp] theorem execCmdDbWrite_memOk {n : PartId} {a : RegAccess} {s : State} (h : MemOk s.mem) : OutMemOk (execCmdDbWrite n a s) := by
  simp [execCmdDbWrite, memOk_ite, h]

@[simp] theorem execCplDbWrite_memOk {n : PartId} {a : RegAccess} {s : State} (h : MemOk s.mem) : OutMemOk (execCplDbWrite n a s) := by
  simp [execCplDbWrite, memOk_ite, h]

@[simp] theorem execPrstGo_memOk {n : PartId} {a : RegAccess} {s : State} (h : MemOk s.mem) : OutMemOk (execPrstGo n a s) := by
  simp [execPrstGo, memOk_ite, h]

@[simp] theorem execVectorControlWrite_memOk {n : PartId} {offset : Nat} {a : RegAccess} {s : State} (h : MemOk s.mem) :
    OutMemOk (execVectorControlWrite n offset a s) := by
  unfold execVectorControlWrite
  refine outMemOk_ite.2 ⟨fun _ => by simpa using h, fun _ => outMemOk_next.2 (State.sized_memOk h ?_)⟩
  dsimp only
  exact memOk_ite.2 ⟨fun _ => by simpa using h, fun _ => by simpa using h⟩

@[simp] theorem execInterruptHoldoffExpiry_memOk {n : PartId} {s : State} (h : MemOk s.mem) :
    OutMemOk (execInterruptHoldoffExpiry n s) := by simp [execInterruptHoldoffExpiry, outMemOk_ite, h]

@[simp] theorem execVdFence_memOk {q : W16} {s : State} (h : MemOk s.mem) : OutMemOk (execVdFence q s) := by
  simp [execVdFence, outMemOk_ite, h]

@[simp] theorem execFenceTimeout_memOk {n : PartId} {s : State} (h : MemOk s.mem) : OutMemOk (execFenceTimeout n s) := by
  simp [execFenceTimeout, outMemOk_ite, h]

/-! ### Warden: memory stays canonical -/

@[simp] theorem execNotifyRetryTimeout_memOk {s : State} (h : MemOk s.mem) : OutMemOk (execNotifyRetryTimeout s) := by
  unfold execNotifyRetryTimeout
  split <;> simp [outMemOk_ite, h]

@[simp] theorem execNotify_memOk {r : Request} {s : State} (h : MemOk s.mem) : OutMemOk (execNotify r s) := by
  simp [execNotify, outMemOk_ite, h]

@[simp] theorem execT1sFrameReceive_memOk {f : T1sFrame} {s : State} (h : MemOk s.mem) : OutMemOk (execT1sFrameReceive f s) := by
  simp [execT1sFrameReceive, memOk_ite, h]

@[simp] theorem execI3cPrivateWrite_memOk {t : I3cTransfer} {s : State} (h : MemOk s.mem) : OutMemOk (execI3cPrivateWrite t s) := by
  simp [execI3cPrivateWrite, memOk_ite, h]

@[simp] theorem execI3cPrivateRead_memOk {s : State} (h : MemOk s.mem) : OutMemOk (execI3cPrivateRead s) := by
  unfold execI3cPrivateRead
  split <;> simp [outMemOk_ite, h]

@[simp] theorem execEnec_memOk {events : Byte} {s : State} (h : MemOk s.mem) : OutMemOk (execEnec events s) := by
  simp [execEnec, h]

@[simp] theorem execDisec_memOk {events : Byte} {s : State} (h : MemOk s.mem) : OutMemOk (execDisec events s) := by
  simp [execDisec, h]

@[simp] theorem execRstdaa_memOk {s : State} (h : MemOk s.mem) : OutMemOk (execRstdaa s) := by simp [execRstdaa, h]

@[simp] theorem execEntdaa_memOk {address : BitVec 7} {s : State} (h : MemOk s.mem) : OutMemOk (execEntdaa address s) := by
  simp [execEntdaa, outMemOk_ite, h]

@[simp] theorem execSetdasa_memOk {static address : BitVec 7} {s : State} (h : MemOk s.mem) :
    OutMemOk (execSetdasa static address s) := by simp [execSetdasa, outMemOk_ite, h]

@[simp] theorem execSetmwl_memOk {len : W16} {s : State} (h : MemOk s.mem) : OutMemOk (execSetmwl len s) := by
  simp [execSetmwl, outMemOk_ite, h]

@[simp] theorem execSetmrl_memOk {len : W16} {s : State} (h : MemOk s.mem) : OutMemOk (execSetmrl len s) := by
  simp [execSetmrl, outMemOk_ite, h]

@[simp] theorem execGetmwl_memOk {s : State} (h : MemOk s.mem) : OutMemOk (execGetmwl s) := by simp [execGetmwl, h]

@[simp] theorem execGetmrl_memOk {s : State} (h : MemOk s.mem) : OutMemOk (execGetmrl s) := by simp [execGetmrl, h]

@[simp] theorem execGetpid_memOk {s : State} (h : MemOk s.mem) : OutMemOk (execGetpid s) := by simp [execGetpid, h]

@[simp] theorem execGetbcr_memOk {s : State} (h : MemOk s.mem) : OutMemOk (execGetbcr s) := by simp [execGetbcr, h]

@[simp] theorem execGetdcr_memOk {s : State} (h : MemOk s.mem) : OutMemOk (execGetdcr s) := by simp [execGetdcr, h]

@[simp] theorem execGetstatus_memOk {s : State} (h : MemOk s.mem) : OutMemOk (execGetstatus s) := by simp [execGetstatus, h]

@[simp] theorem execMbReq_memOk {a : RegAccess} {s : State} (h : MemOk s.mem) : OutMemOk (execMbReq a s) := by
  simp [execMbReq, outMemOk_ite, h]

@[simp] theorem execMbRspRelease_memOk {a : RegAccess} {s : State} (h : MemOk s.mem) : OutMemOk (execMbRspRelease a s) := by
  simp [execMbRspRelease, outMemOk_ite, h]

@[simp] theorem execMailboxBufferWrite_memOk {offset : Nat} {a : RegAccess} {s : State} (h : MemOk s.mem) :
    OutMemOk (execMailboxBufferWrite offset a s) := by simp [execMailboxBufferWrite, h]

@[simp] theorem execRegisterWrite_memOk {n : PartId} {offset : Nat} {a : PageAccess} {s : State} (h : MemOk s.mem) :
    OutMemOk (execRegisterWrite n offset a s) := by
  unfold execRegisterWrite
  dsimp only
  split
  · refine outMemOk_next.2 ?_
    have hw (a : RegAccess) : MemOk (s.sized n { a with aligned := a.aligned && offset % 4 == 0 }
        (if n == 0 && offset == 0x2004 then s.mbStatWrite a.value.toNat else s.ringRegWrite n offset a.value)).mem :=
      State.sized_memOk h (memOk_ite.2 ⟨fun _ => by simpa using h, fun _ => by simpa using h⟩)
    exact memOk_ite.2 ⟨fun _ => by simpa using hw _, fun _ => hw _⟩
  · exact outMemOk_next.2 (by simpa using State.sized_memOk h h)

@[simp] theorem execMgmtReq_memOk {k : Packet} {s : State} (h : MemOk s.mem) : OutMemOk (execMgmtReq k s) := by
  simp [execMgmtReq, memOk_ite, h]

@[simp] theorem execMgmtAns_memOk {k : Packet} {s : State} (h : MemOk s.mem) : OutMemOk (execMgmtAns k s) := by
  simp [execMgmtAns, memOk_ite, h]

@[simp] theorem execRelayTimeout_memOk {tag : W32} {s : State} (h : MemOk s.mem) : OutMemOk (execRelayTimeout tag s) := by
  unfold execRelayTimeout
  split <;> simp [h]

@[simp] theorem execBlockIdleTimeout_memOk {p : Port} {source : Nat} {s : State} (h : MemOk s.mem) :
    OutMemOk (execBlockIdleTimeout p source s) := by simp [execBlockIdleTimeout, h]

@[simp] theorem execWardenReset_memOk {s : State} (h : MemOk s.mem) : OutMemOk (execWardenReset s) := by simp [execWardenReset, h]

@[simp] theorem execWardenRestart_memOk {s : State} (h : MemOk s.mem) : OutMemOk (execWardenRestart s) := by
  simp [execWardenRestart, outMemOk_ite, h]

/-! ### Links: memory stays canonical -/

@[simp] theorem State.linkDown_memOk {s : State} {p : PortIx} {cause : Nat} (h : MemOk s.mem) : MemOk (s.linkDown p cause).mem := by
  simp -implicitDefEqProofs +contextual [State.linkDown, memOk_ite, h]

@[simp] theorem execPortRetrain_memOk {p : PortIx} {t : PortTraining} {s : State} (h : MemOk s.mem) :
    OutMemOk (execPortRetrain p t s) := by simp [execPortRetrain, outMemOk_ite, h]

@[simp] theorem execStreamMsg_memOk {k : Packet} {s : State} (h : MemOk s.mem) : OutMemOk (execStreamMsg k s) := by
  unfold execStreamMsg
  refine campPacket_memOk h fun n => ?_
  exact State.remoteMessage_memOk h

@[simp] theorem execStreamCred_memOk {k : Packet} {s : State} (h : MemOk s.mem) : OutMemOk (execStreamCred k s) := by
  unfold execStreamCred
  refine campPacket_memOk h fun n => ?_
  exact State.remoteCredit_memOk h

@[simp] theorem execStreamClose_memOk {k : Packet} {s : State} (h : MemOk s.mem) : OutMemOk (execStreamClose k s) := by
  unfold execStreamClose
  refine campPacket_memOk h fun n => ?_
  exact State.closeArrives_memOk h

@[simp] theorem deliverPacket_memOk {k : Packet} {from_ : PortIx} {s : State} (h : MemOk s.mem) :
    OutMemOk (deliverPacket k from_ s) := by
  unfold deliverPacket
  split
  case h_7 => split <;> simp [h]
  case h_10 => exact noticeArrives_memOk h fun s hs => State.faultNotice_memOk hs
  case h_11 => exact noticeArrives_memOk h fun s hs => State.linkGone_memOk hs
  case h_12 => exact noticeArrives_memOk h fun s hs => State.installRemap_memOk hs
  all_goals simp [h]

@[simp] theorem receivePacket_memOk {bs : List Byte} {from_ : PortIx} {dl : Nat} {s : State} (h : MemOk s.mem) :
    OutMemOk (receivePacket bs from_ dl s) := by
  unfold receivePacket
  dsimp only
  refine outMemOk_ite.2 ⟨fun _ => by simpa using h, fun _ => outMemOk_ite.2 ⟨fun _ => outMemOk_ite.2 ⟨fun _ => ?_, fun _ => ?_⟩, fun _ => ?_⟩⟩
  · exact deliverPacket_memOk h
  · simpa using h
  · refine outMemOk_ite.2 ⟨fun _ => by simpa using h, fun _ => outMemOk_ite.2 ⟨fun _ => deliverPacket_memOk h, fun _ => ?_⟩⟩
    simpa using h

@[simp] theorem receiveData_memOk {p : PortIx} {f : Flit} {s : State} (h : MemOk s.mem) : OutMemOk (receiveData p f s) := by
  unfold receiveData
  dsimp only
  split
  · refine outMemOk_ite.2 ⟨fun _ => receivePacket_memOk ?_, fun _ => outMemOk_next.2 ?_⟩
    · rw [State.modLink_mem]
      exact memOk_ite.2 ⟨fun _ => by simpa using h, fun _ => by simpa using h⟩
    · rw [State.modLink_mem]
      exact memOk_ite.2 ⟨fun _ => by simpa using h, fun _ => by simpa using h⟩
  · refine outMemOk_ite.2 ⟨fun _ => outMemOk_next.2 (memOk_ite.2 ⟨fun _ => by simpa using h, fun _ => by simpa using h⟩), fun _ => ?_⟩
    exact outMemOk_ite.2 ⟨fun _ => receivePacket_memOk (by simpa using h), fun _ => by simpa using h⟩

@[simp] theorem State.resendAll_memOk {s : State} {p : PortIx} (h : MemOk s.mem) : MemOk (s.resendAll p).mem := by
  simp [State.resendAll, memOk_ite, h]

@[simp] theorem State.takeAck_memOk {s : State} {p : PortIx} {f : Flit} (h : MemOk s.mem) : MemOk (s.takeAck p f).mem := by
  unfold State.takeAck
  repeat' split
  all_goals simp -implicitDefEqProofs +contextual [memOk_ite, h]

@[simp] theorem flitIn_memOk {p : PortIx} {f : Flit} {s : State} (h : MemOk s.mem) : OutMemOk (flitIn p f s) := by
  unfold flitIn
  dsimp only
  have ha : MemOk (if f.crcOk then s.takeAck p f else s).mem := memOk_ite.2 ⟨fun _ => State.takeAck_memOk h, fun _ => h⟩
  generalize (if f.crcOk then s.takeAck p f else s) = t at ha ⊢
  refine outMemOk_ite.2 ⟨fun _ => by simpa using h, fun _ => outMemOk_ite.2 ⟨fun _ => by simpa using ha, fun _ => ?_⟩⟩
  refine outMemOk_ite.2 ⟨fun _ => by simpa using ha, fun _ => outMemOk_ite.2 ⟨fun _ => by simpa using ha, fun _ => ?_⟩⟩
  exact receiveData_memOk (by simpa using ha)

@[simp] theorem execFlitReceive_memOk {p : PortIx} {f : Flit} {s : State} (h : MemOk s.mem) :
    OutMemOk (execFlitReceive p f s) := by
  unfold execFlitReceive
  exact flitIn_memOk h

@[simp] theorem execLctl_memOk {p : PortIx} {f : Flit} {s : State} (h : MemOk s.mem) : OutMemOk (execLctl p f s) := by
  unfold execLctl
  exact outMemOk_ite.2 ⟨fun _ => flitIn_memOk h, fun _ => by simpa using h⟩

@[simp] theorem execFlitResendTimeout_memOk {p : PortIx} {s : State} (h : MemOk s.mem) :
    OutMemOk (execFlitResendTimeout p s) := by
  unfold execFlitResendTimeout
  exact outMemOk_ite.2 ⟨fun _ => outMemOk_next.2 h, fun _ => outMemOk_next.2 (State.resendAll_memOk h)⟩

@[simp] theorem execLctlDue_memOk {p : PortIx} {s : State} (h : MemOk s.mem) : OutMemOk (execLctlDue p s) := by
  simp [execLctlDue, outMemOk_ite, h]

@[simp] theorem flitsIn_memOk {p : PortIx} {fs : List Flit} {s : State} (h : MemOk s.mem) : OutMemOk (flitsIn p fs s) := by
  induction fs generalizing s with
  | nil => exact outMemOk_next.2 h
  | cons f fs ih =>
    have hf := flitIn_memOk (p := p) (f := f) h
    unfold flitsIn
    split
    next t ht => exact ih (hf t ht)
    next o _ => exact hf

@[simp] theorem execCodewordReceive_memOk {p : PortIx} {lane : Fin 4} {w : Codeword} {s : State} (h : MemOk s.mem) :
    OutMemOk (execCodewordReceive p lane w s) := by
  unfold execCodewordReceive
  refine outMemOk_ite.2 ⟨fun _ => outMemOk_next.2 h, fun _ => ?_⟩
  dsimp only
  have hw : MemOk (if w.decodes then objBump s none (portIndex p) 3 (if w.decodes then w.corrected else 0)
      else objBump (objBump s none (portIndex p) 3 (if w.decodes then w.corrected else 0)) none (portIndex p) 4).mem :=
    memOk_ite.2 ⟨fun _ => by simpa using h, fun _ => by simpa using h⟩
  exact outMemOk_ite.2 ⟨fun _ => flitsIn_memOk (by simpa using hw), fun _ => outMemOk_next.2 (by simpa using hw)⟩

@[simp] theorem execFlitSlotSend_memOk {p : PortIx} {s : State} (h : MemOk s.mem) : OutMemOk (execFlitSlotSend p s) := by
  unfold execFlitSlotSend
  dsimp only
  repeat' split
  all_goals simp [h]

@[simp] theorem execLinkStall_memOk {p : PortIx} {s : State} (h : MemOk s.mem) : OutMemOk (execLinkStall p s) := by
  unfold execLinkStall
  exact outMemOk_ite.2 ⟨fun _ => outMemOk_next.2 (State.linkDown_memOk h), fun _ => outMemOk_next.2 h⟩

@[simp] theorem execLockLost_memOk {p : PortIx} {s : State} (h : MemOk s.mem) : OutMemOk (execLockLost p s) := by
  unfold execLockLost
  exact outMemOk_ite.2 ⟨fun _ => outMemOk_next.2 h, fun _ => outMemOk_next.2 (State.linkDown_memOk h)⟩

/-! ### Power: memory stays canonical -/

@[simp] theorem execOpChange_memOk {c : CoreId} {s : State} (h : MemOk s.mem) : OutMemOk (execOpChange c s) := by
  simp [execOpChange, memOk_ite, h]

@[simp] theorem execCoreEnterNap_memOk {c : CoreId} {s : State} (h : MemOk s.mem) : OutMemOk (execCoreEnterNap c s) := by
  simp [execCoreEnterNap, memOk_ite, h]

@[simp] theorem execCoreWake_memOk {c : CoreId} {s : State} (h : MemOk s.mem) : OutMemOk (execCoreWake c s) := by
  simp [execCoreWake, memOk_ite, h]

@[simp] theorem execBankUnitGate_memOk {c : CoreId} {u : Fin 8} {s : State} (h : MemOk s.mem) : OutMemOk (execBankUnitGate c u s) := by
  simp [execBankUnitGate, memOk_ite, h]

@[simp] theorem State.patrolStop_memOk {s : State} (h : MemOk s.mem) : MemOk s.patrolStop.mem := by simp [State.patrolStop, h]

@[simp] theorem execDeviceEnterDoze_memOk {s : State} (h : MemOk s.mem) : OutMemOk (execDeviceEnterDoze s) := by
  simp [execDeviceEnterDoze, memOk_ite, h]

@[simp] theorem execDeviceEnterNap_memOk {s : State} (h : MemOk s.mem) : OutMemOk (execDeviceEnterNap s) := by
  simp [execDeviceEnterNap, memOk_ite, h]

@[simp] theorem State.linksDown_memOk {s : State} (h : MemOk s.mem) : MemOk s.linksDown.mem := by
  simp -implicitDefEqProofs +contextual [State.linksDown, memOk_ite, foldl_memOk, h]

@[simp] theorem execNapEntryCommit_memOk {s : State} (h : MemOk s.mem) : OutMemOk (execNapEntryCommit s) := by
  unfold execNapEntryCommit
  refine outMemOk_ite.2 ⟨fun _ => outMemOk_next.2 h, fun _ => outMemOk_next.2 ?_⟩
  dsimp only
  rw [State.setDevState_mem]
  exact State.linksDown_memOk h

@[simp] theorem State.emberWake_memOk {s : State} (h : MemOk s.mem) : MemOk s.emberWake.mem := by
  unfold State.emberWake
  dsimp only
  rw [State.noteChange_mem]
  dsimp only
  rw [State.backInRun_mem, State.compareFuses_mem]
  refine foldl_memOk (fun s n hs => foldl_clearUnit_memOk _ hs) _ (foldl_memOk (fun s c hs => ?_) _ h)
  split
  · exact State.giveCore_memOk hs
  · exact hs

@[simp] theorem State.emberExit_memOk {s : State} (h : MemOk s.mem) : MemOk s.emberExit.mem := by
  simp [State.emberExit, memOk_ite, h]

@[simp] theorem State.wake_memOk {s : State} {source : Nat} (h : MemOk s.mem) : MemOk (s.wake source).mem := by
  simp -implicitDefEqProofs +contextual [State.wake, memOk_ite, h]

@[simp] theorem execDeviceWake_memOk {source : BitVec 8} {s : State} (h : MemOk s.mem) : OutMemOk (execDeviceWake source s) := by
  simp [execDeviceWake, memOk_ite, h]

@[simp] theorem execUcieL2ExitRequest_memOk {s : State} (h : MemOk s.mem) : OutMemOk (execUcieL2ExitRequest s) := by
  simp [execUcieL2ExitRequest, memOk_ite, h]

@[simp] theorem State.emberWrite_memOk {s : State} {v : Nat} (h : MemOk s.mem) : MemOk (s.emberWrite v).2.mem := by
  unfold State.emberWrite
  repeat' split
  all_goals simp -implicitDefEqProofs +contextual [memOk_ite, h]

@[simp] theorem execEmberEntryCommit_memOk {s : State} (h : MemOk s.mem) : OutMemOk (execEmberEntryCommit s) := by
  unfold execEmberEntryCommit
  refine outMemOk_ite.2 ⟨fun _ => outMemOk_next.2 h, fun _ => outMemOk_next.2 ?_⟩
  have hl := State.linksDown_memOk h
  generalize s.linksDown = t at hl ⊢
  dsimp only
  rw [State.setDevState_mem, objSet_mem, objSet_mem]
  exact hl

@[simp] theorem execPowerCapDecision_memOk {reading : Int} {s : State} (h : MemOk s.mem) :
    OutMemOk (execPowerCapDecision reading s) := by
  unfold execPowerCapDecision
  dsimp only
  repeat' split
  all_goals simp [h]

@[simp] theorem execPowerCallTimeout_memOk {s : State} (h : MemOk s.mem) : OutMemOk (execPowerCallTimeout s) := by
  simp [execPowerCallTimeout, outMemOk_ite, h]

@[simp] theorem execLimiterEngage_memOk {s : State} (h : MemOk s.mem) : OutMemOk (execLimiterEngage s) := by
  simp [execLimiterEngage, h]

@[simp] theorem execLimiterRelease_memOk {s : State} (h : MemOk s.mem) : OutMemOk (execLimiterRelease s) := by
  simp [execLimiterRelease, h]

@[simp] theorem State.readSensor_memOk {s : State} {i : Fin 16} {t : Int} (h : MemOk s.mem) : MemOk (s.readSensor i t).mem := by
  simp -implicitDefEqProofs +contextual [State.readSensor, memOk_ite, h]

@[simp] theorem State.thermalTrip_memOk {s : State} {i : Fin 16} {t : Int} (h : MemOk s.mem) : MemOk (s.thermalTrip i t).mem := by
  simp [State.thermalTrip, h]

/-- The readings of the sensors keep memory canonical. -/
theorem foldl_readSensor_memOk {readings : List Int} (l : List (Fin 16)) {s : State} (h : MemOk s.mem) :
    MemOk (l.foldl (fun (s : State) (i : Fin 16) =>
      match readings[i.val]? with
      | some t => s.readSensor i t
      | none => s) s).mem := by
  refine foldl_memOk (fun s i hs => ?_) l h
  split
  · exact State.readSensor_memOk hs
  · exact hs

/-- The hottest reading is recorded without touching memory. -/
theorem hottestReading_mem (s : State) (ts : List Int) :
    (match ts with
      | [] => s
      | t :: r => objSet s none 0x2030 1 (unsigned 16 (r.foldl max t))).mem = s.mem := by
  cases ts with
  | nil => rfl
  | cons t r => exact objSet_mem _ _ _ _ _

@[simp] theorem execThermalSample_memOk {readings : List Int} {s : State} (h : MemOk s.mem) :
    OutMemOk (execThermalSample readings s) := by
  unfold execThermalSample
  extract_lets s1 q s2 ts s3 s4 hot s5 q' s6
  have h1 : MemOk s1.mem := foldl_readSensor_memOk _ h
  have h3 : MemOk s3.mem := (hottestReading_mem s2 ts).symm ▸ h1
  have h4 : MemOk s4.mem := memOk_ite.2 ⟨fun _ => foldl_memOk (fun s i hs => by rwa [State.warnSensor_mem]) _ h3, fun _ => h3⟩
  have h5 : MemOk s5.mem := memOk_ite.2 ⟨fun _ => by rwa [State.countLimiter_mem], fun _ => h4⟩
  have h6 : MemOk s6.mem := h5
  clear_value s6
  cases s6.tripping with
  | some e => exact outMemOk_next.2 (memOk_ite.2 ⟨fun _ => h6, fun _ => State.thermalTrip_memOk h6⟩)
  | none => exact outMemOk_next.2 h6

/-! ### Patrol: memory stays canonical -/

@[simp] theorem State.auditAll_memOk {s : State} {bs : List Book} (h : MemOk s.mem) : MemOk (s.auditAll bs).2.mem := by
  induction bs generalizing s with
  | nil => exact h
  | cons b bs ih =>
    unfold State.auditAll
    split
    · exact ih (by simpa using h)
    · exact ih (by simpa using h)
    · exact postEvent_memOk h

@[simp] theorem execPatrolSliceStart_memOk {s : State} (h : MemOk s.mem) : OutMemOk (execPatrolSliceStart s) := by
  unfold execPatrolSliceStart
  refine outMemOk_ite.2 ⟨fun _ => outMemOk_next.2 h, fun _ => ?_⟩
  have ha := State.auditAll_memOk (bs := s.books) h
  dsimp only
  refine outMemOk_ite.2 ⟨fun _ => outMemOk_next.2 ha, fun _ => outMemOk_ite.2 ⟨fun _ => outMemOk_next.2 ?_, fun _ => ?_⟩⟩
  · simpa using ha
  · exact outMemOk_ite.2 ⟨fun _ => by simpa using ha, fun _ => by simpa using ha⟩

@[simp] theorem execPatrolCallTimeout_memOk {s : State} (h : MemOk s.mem) : OutMemOk (execPatrolCallTimeout s) := by
  simp [execPatrolCallTimeout, memOk_ite, h]

@[simp] theorem State.unitFails_memOk {s : State} {u : UnitResult} (h : MemOk s.mem) : MemOk (s.unitFails u).mem := by
  unfold State.unitFails
  split <;> simp [h]

/-- Every unit found to fail keeps memory canonical. -/
theorem foldl_unitFails_memOk (l : List UnitResult) {s : State} (h : MemOk s.mem) :
    MemOk (l.foldl (fun (s : State) (u : UnitResult) => if s.inTest u then s.unitFails u else s) s).mem :=
  foldl_memOk (fun _ _ hs => memOk_ite.2 ⟨fun _ => State.unitFails_memOk hs, fun _ => hs⟩) l h

@[simp] theorem execPatrolSliceEnd_memOk {found : List UnitResult} {s : State} (h : MemOk s.mem) :
    OutMemOk (execPatrolSliceEnd found s) := by
  unfold execPatrolSliceEnd
  refine outMemOk_ite.2 ⟨fun _ => outMemOk_next.2 h, fun _ => outMemOk_next.2 ?_⟩
  have hf := foldl_unitFails_memOk found h
  dsimp only
  generalize found.foldl _ s = t at hf ⊢
  rw [State.dutySwitch_mem, State.sweepDone_mem]
  refine foldl_memOk (fun s c hs => State.freeCore_memOk hs) _ (foldl_memOk (fun s e hs => State.clearBank_memOk hs) _ ?_)
  simpa using hf

/-! ### Start: memory stays canonical -/

@[simp] theorem State.startFails_memOk {s : State} {cause detail : Nat} (h : MemOk s.mem) : MemOk (s.startFails cause detail).mem := by
  simp [State.startFails, h]

@[simp] theorem execPowerOnReset_memOk {maddr : BitVec 3} {s : State} (_h : MemOk s.mem) : OutMemOk (execPowerOnReset maddr s) := by
  simp [execPowerOnReset]

@[simp] theorem execDeviceReset_memOk {s : State} (h : MemOk s.mem) : OutMemOk (execDeviceReset s) := by simp [execDeviceReset, h]

@[simp] theorem execEmberClockFallback_memOk {s : State} (h : MemOk s.mem) : OutMemOk (execEmberClockFallback s) := by
  simp [execEmberClockFallback, memOk_ite, h]

@[simp] theorem execMainPgRise_memOk {s : State} (h : MemOk s.mem) : OutMemOk (execMainPgRise s) := by
  simp [execMainPgRise, memOk_ite, h]

@[simp] theorem execMainPgFall_memOk {s : State} (h : MemOk s.mem) : OutMemOk (execMainPgFall s) := by
  simp -implicitDefEqProofs [execMainPgFall, outMemOk_ite, memOk_ite, h]

@[simp] theorem execPerstAssert_memOk {s : State} (h : MemOk s.mem) : OutMemOk (execPerstAssert s) := by
  simp [execPerstAssert, outMemOk_ite, h]

@[simp] theorem execPerstDeassert_memOk {s : State} (h : MemOk s.mem) : OutMemOk (execPerstDeassert s) := by
  simp [execPerstDeassert, outMemOk_ite, h]

@[simp] theorem execRefclkLost_memOk {s : State} (h : MemOk s.mem) : OutMemOk (execRefclkLost s) := by
  simp [execRefclkLost, memOk_ite, h]

@[simp] theorem execVfusePresenceChange_memOk {present : Bool} {s : State} (h : MemOk s.mem) :
    OutMemOk (execVfusePresenceChange present s) := by simp [execVfusePresenceChange, h]

@[simp] theorem execDeviceStart_memOk {s : State} (h : MemOk s.mem) : OutMemOk (execDeviceStart s) := by
  simp [execDeviceStart, outMemOk_ite, memOk_ite, h]

@[simp] theorem execStartStageAdvance_memOk {w : StageWork} {s : State} (h : MemOk s.mem) :
    OutMemOk (execStartStageAdvance w s) := by
  unfold execStartStageAdvance
  repeat' split
  all_goals simp [memOk_ite, h]

@[simp] theorem State.slotRejected_memOk {s : State} {cause : Nat} {silent : Bool} (h : MemOk s.mem) :
    MemOk (s.slotRejected cause silent).mem := by simp -implicitDefEqProofs +contextual [State.slotRejected, memOk_ite, h]

@[simp] theorem execFlashImageLoaded_memOk {img : FlashImage} {s : State} (h : MemOk s.mem) :
    OutMemOk (execFlashImageLoaded img s) := by
  unfold execFlashImageLoaded
  repeat' split
  all_goals simp [h]

@[simp] theorem execStageTimeout_memOk {s : State} (h : MemOk s.mem) : OutMemOk (execStageTimeout s) := by
  simp [execStageTimeout, memOk_ite, h]

@[simp] theorem execImageWaitTimeout_memOk {s : State} (h : MemOk s.mem) : OutMemOk (execImageWaitTimeout s) := by
  simp [execImageWaitTimeout, memOk_ite, h]

@[simp] theorem execBootComplete_memOk {s : State} (h : MemOk s.mem) : OutMemOk (execBootComplete s) := by
  simp [execBootComplete, outMemOk_ite, h]

@[simp] theorem execWardenWatchdogExpiry_memOk {s : State} (h : MemOk s.mem) : OutMemOk (execWardenWatchdogExpiry s) := by
  simp -implicitDefEqProofs [execWardenWatchdogExpiry, outMemOk_ite, h]

@[simp] theorem State.bivouacWrite_memOk {s : State} {v : Nat} (h : MemOk s.mem) : MemOk (s.bivouacWrite v).2.mem := by
  unfold State.bivouacWrite
  split <;> simp -implicitDefEqProofs +contextual [h]

@[simp] theorem execFuseProgrammingDone_memOk {verified : Bool} {s : State} (h : MemOk s.mem) :
    OutMemOk (execFuseProgrammingDone verified s) := by
  unfold execFuseProgrammingDone
  dsimp only
  repeat' split
  all_goals simp [h]

/-! ### Guyline: memory stays canonical -/

@[simp] theorem State.answerActs_memOk {s : State} {q : Option PartId} {k : Nat} {bs : List Byte} (h : MemOk s.mem) :
    MemOk (s.answerActs q k bs).mem := by
  unfold State.answerActs
  grind [State.callDecidesNothing_mem, State.endCall_mem, State.hostSkips_memOk, State.patrolAnswered_mem, State.powerAnswered_mem, State.remapDeferred_mem, State.seatChosen_memOk, State.stashSealed_mem]

@[simp] theorem State.seatWritten_memOk {s : State} {v : Nat} (h : MemOk s.mem) : MemOk (s.seatWritten v).mem := by
  simp -implicitDefEqProofs +contextual [State.seatWritten, memOk_ite, foldl_memOk, h]

@[simp] theorem State.restoreFrom_memOk {s : State} {n : PartId} {a : Nat} {hostBytes : List Byte} (h : MemOk s.mem) :
    MemOk (s.restoreFrom n a hostBytes).2.mem := by
  unfold State.restoreFrom
  split
  · simpa using h
  · dsimp only
    split
    · rename_i t _ ht
      simpa using State.restoreHistories_memOk h ht
    · simpa using h
    · simpa using h

@[simp] theorem State.formationWrite_memOk {s : State} {sub : Nat} {n : PartId} (h : MemOk s.mem) :
    MemOk (s.formationWrite sub n).2.mem := by
  unfold State.formationWrite
  repeat' split
  all_goals simp [h]

@[simp] theorem State.applyWrite_memOk {s : State} {r : Request} {q : Option PartId} {row : ObjRow} {bs hostBytes : List Byte} (h : MemOk s.mem) :
    MemOk (s.applyWrite r q row bs hostBytes).2.mem := by
  unfold State.applyWrite
  repeat' split
  all_goals simp -implicitDefEqProofs +contextual [memOk_ite, h]

@[simp] theorem State.writeChecked_memOk {s : State} {r : Request} {row : ObjRow} {bs hostBytes : List Byte} (h : MemOk s.mem) :
    MemOk (s.writeChecked r row bs hostBytes).mem := by
  unfold State.writeChecked
  dsimp only
  repeat' split
  all_goals simp [h]

@[simp] theorem State.serveWrite_memOk {s : State} {r : Request} {hostBytes : List Byte} (h : MemOk s.mem) :
    MemOk (s.serveWrite r hostBytes).mem := by
  unfold State.serveWrite
  repeat' split
  all_goals simp [h]

@[simp] theorem State.serveBwend_memOk {s : State} {r : Request} (h : MemOk s.mem) : MemOk (s.serveBwend r).mem := by
  unfold State.serveBwend
  grind [State.dropBlock_mem, State.refuseBlock_mem, State.refuse_mem, State.writeChecked_memOk]

@[simp] theorem State.serve_memOk {s : State} {r : Request} {hostBytes : List Byte} (h : MemOk s.mem) :
    MemOk (s.serve r hostBytes).mem := by
  unfold State.serve
  dsimp only
  repeat' split
  all_goals simp [h]

@[simp] theorem State.serveNow_memOk {s : State} {r : Request} {hostBytes : List Byte} (h : MemOk s.mem) :
    MemOk (s.serveNow r hostBytes).mem := by simp -implicitDefEqProofs +contextual [State.serveNow, h]

@[simp] theorem State.request_memOk {s : State} {r : Request} {hostBytes : List Byte} (h : MemOk s.mem) :
    MemOk (s.request r hostBytes).mem := by simp [State.request, memOk_ite, h]

@[simp] theorem requestOf_memOk {mine : Bool} {r : Request} {s : State} (h : MemOk s.mem) : OutMemOk (requestOf mine r s) := by
  unfold requestOf
  exact outMemOk_next.2 (memOk_ite.2 ⟨fun _ => State.request_memOk h, fun _ => h⟩)

@[simp] theorem execRead_memOk {r : Request} {s : State} (h : MemOk s.mem) : OutMemOk (execRead r s) := by
  unfold execRead
  exact requestOf_memOk h

@[simp] theorem execWrite_memOk {r : Request} {s : State} (h : MemOk s.mem) : OutMemOk (execWrite r s) := by
  unfold execWrite
  exact requestOf_memOk h

@[simp] theorem execNotificationRead_memOk {r : Request} {s : State} (h : MemOk s.mem) : OutMemOk (execNotificationRead r s) := by
  unfold execNotificationRead
  exact requestOf_memOk h

@[simp] theorem execBrinit_memOk {r : Request} {s : State} (h : MemOk s.mem) : OutMemOk (execBrinit r s) := by
  unfold execBrinit
  exact requestOf_memOk h

@[simp] theorem execBrseg_memOk {r : Request} {s : State} (h : MemOk s.mem) : OutMemOk (execBrseg r s) := by
  unfold execBrseg
  exact requestOf_memOk h

@[simp] theorem execBwinit_memOk {r : Request} {s : State} (h : MemOk s.mem) : OutMemOk (execBwinit r s) := by
  unfold execBwinit
  exact requestOf_memOk h

@[simp] theorem execBwseg_memOk {r : Request} {s : State} (h : MemOk s.mem) : OutMemOk (execBwseg r s) := by
  unfold execBwseg
  exact requestOf_memOk h

@[simp] theorem execBwend_memOk {r : Request} {s : State} (h : MemOk s.mem) : OutMemOk (execBwend r s) := by
  unfold execBwend
  exact requestOf_memOk h

@[simp] theorem execBabort_memOk {r : Request} {s : State} (h : MemOk s.mem) : OutMemOk (execBabort r s) := by
  unfold execBabort
  exact requestOf_memOk h

@[simp] theorem execDiscover_memOk {r : Request} {s : State} (h : MemOk s.mem) : OutMemOk (execDiscover r s) := by
  unfold execDiscover
  exact requestOf_memOk h

@[simp] theorem execEcho_memOk {r : Request} {s : State} (h : MemOk s.mem) : OutMemOk (execEcho r s) := by
  unfold execEcho
  exact requestOf_memOk h

@[simp] theorem execBivouacExit_memOk {r : Request} {s : State} (h : MemOk s.mem) : OutMemOk (execBivouacExit r s) := by
  unfold execBivouacExit
  exact requestOf_memOk h

@[simp] theorem execFuseUpdateRequest_memOk {r : Request} {s : State} (h : MemOk s.mem) :
    OutMemOk (execFuseUpdateRequest r s) := by
  unfold execFuseUpdateRequest
  exact requestOf_memOk h

@[simp] theorem execForm_memOk {r : Request} {s : State} (h : MemOk s.mem) : OutMemOk (execForm r s) := by
  unfold execForm
  exact requestOf_memOk h

@[simp] theorem execPartitionResetWrite_memOk {r : Request} {s : State} (h : MemOk s.mem) :
    OutMemOk (execPartitionResetWrite r s) := by
  unfold execPartitionResetWrite
  exact requestOf_memOk h

@[simp] theorem execDissolve_memOk {r : Request} {s : State} (h : MemOk s.mem) : OutMemOk (execDissolve r s) := by
  unfold execDissolve
  exact requestOf_memOk h

@[simp] theorem execWeightWrite_memOk {r : Request} {s : State} (h : MemOk s.mem) : OutMemOk (execWeightWrite r s) := by
  unfold execWeightWrite
  exact requestOf_memOk h

@[simp] theorem execApertureWrite_memOk {r : Request} {s : State} (h : MemOk s.mem) : OutMemOk (execApertureWrite r s) := by
  unfold execApertureWrite
  exact requestOf_memOk h

@[simp] theorem execNodeIdWrite_memOk {r : Request} {s : State} (h : MemOk s.mem) : OutMemOk (execNodeIdWrite r s) := by
  unfold execNodeIdWrite
  exact requestOf_memOk h

@[simp] theorem execDutyModeRequest_memOk {r : Request} {s : State} (h : MemOk s.mem) : OutMemOk (execDutyModeRequest r s) := by
  unfold execDutyModeRequest
  exact requestOf_memOk h

@[simp] theorem execStepAnswer_memOk {r : Request} {s : State} (h : MemOk s.mem) : OutMemOk (execStepAnswer r s) := by
  unfold execStepAnswer
  exact requestOf_memOk h

@[simp] theorem execStashAnswer_memOk {r : Request} {s : State} (h : MemOk s.mem) : OutMemOk (execStashAnswer r s) := by
  unfold execStashAnswer
  exact requestOf_memOk h

@[simp] theorem execRemapAnswer_memOk {r : Request} {s : State} (h : MemOk s.mem) : OutMemOk (execRemapAnswer r s) := by
  unfold execRemapAnswer
  exact requestOf_memOk h

@[simp] theorem execPatrolAnswer_memOk {r : Request} {s : State} (h : MemOk s.mem) : OutMemOk (execPatrolAnswer r s) := by
  unfold execPatrolAnswer
  exact requestOf_memOk h

@[simp] theorem execPowerAnswer_memOk {r : Request} {s : State} (h : MemOk s.mem) : OutMemOk (execPowerAnswer r s) := by
  unfold execPowerAnswer
  exact requestOf_memOk h

@[simp] theorem execEmberRequest_memOk {r : Request} {s : State} (h : MemOk s.mem) : OutMemOk (execEmberRequest r s) := by
  unfold execEmberRequest
  exact requestOf_memOk h

@[simp] theorem execPowerCapWrite_memOk {r : Request} {s : State} (h : MemOk s.mem) : OutMemOk (execPowerCapWrite r s) := by
  unfold execPowerCapWrite
  exact requestOf_memOk h

@[simp] theorem execPutInUse_memOk {r : Request} {s : State} (h : MemOk s.mem) : OutMemOk (execPutInUse r s) := by
  unfold execPutInUse
  exact requestOf_memOk h

@[simp] theorem execStartRecovery_memOk {r : Request} {s : State} (h : MemOk s.mem) : OutMemOk (execStartRecovery r s) := by
  unfold execStartRecovery
  exact requestOf_memOk h

@[simp] theorem execTrapArmWrite_memOk {r : Request} {s : State} (h : MemOk s.mem) : OutMemOk (execTrapArmWrite r s) := by
  unfold execTrapArmWrite
  exact requestOf_memOk h

@[simp] theorem execRestoreFromRecord_memOk {r : Request} {hostBytes : List Byte} {s : State} (h : MemOk s.mem) :
    OutMemOk (execRestoreFromRecord r hostBytes s) := by
  unfold execRestoreFromRecord
  exact outMemOk_next.2 (memOk_ite.2 ⟨fun _ => State.request_memOk h, fun _ => h⟩)

@[simp] theorem execFormationComplete_memOk {n : PartId} {s : State} (h : MemOk s.mem) : OutMemOk (execFormationComplete n s) := by
  simp [execFormationComplete, memOk_ite, h]

/-! ### HostLink: memory stays canonical -/

theorem State.fillBuffer_memOk {s : State} {c : CoreId} {i : ChanIx} (f : Nat) (h : MemOk s.mem) :
    MemOk (s.fillBuffer c i f).mem := by
  induction f generalizing s with
  | zero => exact h
  | succ f ih =>
    unfold State.fillBuffer
    exact memOk_ite.2 ⟨fun _ => h, fun _ => ih (State.readArrives_memOk h)⟩

@[simp] theorem State.readWhole_memOk {s : State} {r : HostRead} (h : MemOk s.mem) : MemOk (s.readWhole r).mem := by
  unfold State.readWhole
  split
  · exact State.fetchDone_memOk h
  · exact State.shAnswered_memOk h
  · split
    · rw [State.issueReads_mem]
      exact State.fillBuffer_memOk _ h
    · simpa using h
  · dsimp only
    split
    · rw [State.stageAsk_mem]
      exact State.write_memOk (by simpa using h)
    · simpa using h
  · simpa using h

@[simp] theorem State.readFails_memOk {s : State} {r : HostRead} {kind : Nat} (h : MemOk s.mem) :
    MemOk (s.readFails r kind).mem := by
  unfold State.readFails
  grind [State.busErrorOf_memOk, State.endRead_mem, State.fetchDone_memOk, State.noteReadError_mem, State.shAnswered_memOk, State.stageFails_memOk]

@[simp] theorem State.functionPartReset_memOk {s : State} {f : PartId} {flr : Bool} (h : MemOk s.mem) :
    MemOk (s.functionPartReset f flr).mem := by simp [State.functionPartReset, memOk_ite, h]

@[simp] theorem State.vfsOff_memOk {s : State} (h : MemOk s.mem) : MemOk s.vfsOff.mem := by
  simp -implicitDefEqProofs +contextual [State.vfsOff, memOk_ite, foldl_memOk, h]

@[simp] theorem State.flrPf0_memOk {s : State} (h : MemOk s.mem) : MemOk s.flrPf0.mem := by
  simp -implicitDefEqProofs +contextual [State.flrPf0, foldl_memOk, h]

@[simp] theorem State.flrVf_memOk {s : State} {n : PartId} (h : MemOk s.mem) : MemOk (s.flrVf n).mem := by simp [State.flrVf, h]

@[simp] theorem State.backToD0_memOk {s : State} {f : PartId} (h : MemOk s.mem) : MemOk (s.backToD0 f).mem := by
  simp [State.backToD0, h]

@[simp] theorem execPcieFlrVf_memOk {n : PartId} {s : State} (h : MemOk s.mem) : OutMemOk (execPcieFlrVf n s) := by
  simp [execPcieFlrVf, memOk_ite, h]

@[simp] theorem execPcieFlrPf0_memOk {s : State} (h : MemOk s.mem) : OutMemOk (execPcieFlrPf0 s) := by
  simp [execPcieFlrPf0, memOk_ite, h]

@[simp] theorem execPcieVfEnableClear_memOk {s : State} (h : MemOk s.mem) : OutMemOk (execPcieVfEnableClear s) := by
  simp [execPcieVfEnableClear, memOk_ite, h]

@[simp] theorem execPcieD3hotToD0_memOk {f : PartId} {s : State} (h : MemOk s.mem) : OutMemOk (execPcieD3hotToD0 f s) := by
  simp [execPcieD3hotToD0, memOk_ite, h]

@[simp] theorem execPcieHotReset_memOk {s : State} (h : MemOk s.mem) : OutMemOk (execPcieHotReset s) := by
  simp [execPcieHotReset, memOk_ite, h]

@[simp] theorem State.masterLost_memOk {s : State} {f : PartId} (h : MemOk s.mem) : MemOk (s.masterLost f).mem := by
  unfold State.masterLost
  refine foldl_memOk (fun s c hs => ?_) _ h
  dsimp only
  split
  · exact State.busStop_memOk hs
  · exact hs

@[simp] theorem State.cfgWrite_memOk {s : State} {f : PartId} {v : Nat} {r : ConfigReg} (h : MemOk s.mem) :
    MemOk (s.cfgWrite f v r).mem := by
  cases r
  case command =>
    unfold State.cfgWrite
    exact memOk_ite.2 ⟨fun _ => State.masterLost_memOk (by simpa using h), fun _ => by simpa using h⟩
  case devControl =>
    unfold State.cfgWrite
    refine memOk_ite.2 ⟨fun _ => memOk_ite.2 ⟨fun _ => State.flrPf0_memOk h, fun _ => State.flrVf_memOk h⟩, fun _ => ?_⟩
    simpa using h
  case sriovControl =>
    unfold State.cfgWrite
    refine memOk_ite.2 ⟨fun _ => h, fun _ => ?_⟩
    rw [State.cfgSet_mem]
    exact memOk_ite.2 ⟨fun _ => State.vfsOff_memOk h, fun _ => h⟩
  all_goals simp [State.cfgWrite, memOk_ite, h]

@[simp] theorem execPcieConfigRequest_memOk {f : PartId} {q : ConfigRequest} {s : State} (h : MemOk s.mem) :
    OutMemOk (execPcieConfigRequest f q s) := by
  unfold execPcieConfigRequest
  refine outMemOk_ite.2 ⟨fun _ => outMemOk_next.2 h, fun _ => outMemOk_ite.2 ⟨fun _ => outMemOk_next.2 ?_, fun _ => ?_⟩⟩
  · exact memOk_ite.2 ⟨fun _ => h, fun _ => by simpa using h⟩
  · exact outMemOk_ite.2 ⟨fun _ => outMemOk_next.2 (State.cfgWrite_memOk h), fun _ => by simpa using h⟩

@[simp] theorem execPcieCompletionTimeout_memOk {c : CoreId} {addr : W64} {s : State} (h : MemOk s.mem) :
    OutMemOk (execPcieCompletionTimeout c addr s) := by
  unfold execPcieCompletionTimeout
  repeat' split
  all_goals simp [h]

@[simp] theorem execPcieLinkUp_memOk {width : BitVec 8} {rate : W16} {s : State} (h : MemOk s.mem) :
    OutMemOk (execPcieLinkUp width rate s) := by simp [execPcieLinkUp, memOk_ite, h]

@[simp] theorem execUcieLinkUp_memOk {width : BitVec 8} {rate : W16} {cr : UcieCredits} {s : State} (h : MemOk s.mem) :
    OutMemOk (execUcieLinkUp width rate cr s) := by simp [execUcieLinkUp, outMemOk_ite, memOk_ite, h]

@[simp] theorem execUcieHostRd_memOk {h : UciePacket} {s : State} (hm : MemOk s.mem) : OutMemOk (execUcieHostRd h s) := by
  unfold execUcieHostRd
  repeat' split
  all_goals simp [hm]

@[simp] theorem State.pageWrite_memOk {s : State} {n : PartId} {off : Nat} {v : W32} (h : MemOk s.mem) :
    MemOk (s.pageWrite n off v).mem := by
  unfold State.pageWrite
  dsimp only
  refine memOk_ite.2 ⟨fun _ => nextOr_memOk h (execCmdDbWrite_memOk h), fun _ => memOk_ite.2 ⟨fun _ => nextOr_memOk h (execCplDbWrite_memOk h), fun _ => ?_⟩⟩
  refine memOk_ite.2 ⟨fun _ => nextOr_memOk h (execPrstGo_memOk h), fun _ => memOk_ite.2 ⟨fun _ => nextOr_memOk h (execVectorControlWrite_memOk h), fun _ => ?_⟩⟩
  refine memOk_ite.2 ⟨fun _ => by simpa using h, fun _ => memOk_ite.2 ⟨fun _ => by simpa using h, fun _ => ?_⟩⟩
  exact nextOr_memOk h (execRegisterWrite_memOk h)

@[simp] theorem execUcieHostWr_memOk {h : UciePacket} {s : State} (hm : MemOk s.mem) : OutMemOk (execUcieHostWr h s) := by
  unfold execUcieHostWr
  have ho : MemOk (s.owe 1 (payloadUnits h.len) 0).mem := by simpa using hm
  refine outMemOk_ite.2 ⟨fun _ => outMemOk_next.2 hm, fun _ => ?_⟩
  dsimp only
  split
  · exact outMemOk_next.2 (by simpa using ho)
  · exact outMemOk_ite.2 ⟨fun _ => outMemOk_next.2 (by simpa using ho), fun _ => outMemOk_next.2 (State.pageWrite_memOk ho)⟩

@[simp] theorem execUcieCpld_memOk {h : UciePacket} {s : State} (hm : MemOk s.mem) : OutMemOk (execUcieCpld h s) := by
  unfold execUcieCpld
  refine outMemOk_ite.2 ⟨fun _ => outMemOk_next.2 hm, fun _ => ?_⟩
  split
  · exact outMemOk_next.2 (by simpa using hm)
  · dsimp only
    refine outMemOk_ite.2 ⟨fun _ => outMemOk_next.2 (by simpa using hm), fun _ => ?_⟩
    refine outMemOk_ite.2 ⟨fun _ => outMemOk_next.2 (State.readFails_memOk hm), fun _ => ?_⟩
    refine outMemOk_ite.2 ⟨fun _ => outMemOk_next.2 (State.readFails_memOk hm), fun _ => outMemOk_next.2 ?_⟩
    exact memOk_ite.2 ⟨fun _ => State.readWhole_memOk hm, fun _ => hm⟩

@[simp] theorem execUcieCpl_memOk {h : UciePacket} {s : State} (hm : MemOk s.mem) : OutMemOk (execUcieCpl h s) := by
  unfold execUcieCpl
  repeat' split
  all_goals simp [hm]

@[simp] theorem execUcieCrd_memOk {cr : UcieCredits} {s : State} (h : MemOk s.mem) : OutMemOk (execUcieCrd cr s) := by
  simp [execUcieCrd, outMemOk_ite, h]

@[simp] theorem execUcieCompletionTimeout_memOk {tag : BitVec 10} {s : State} (h : MemOk s.mem) :
    OutMemOk (execUcieCompletionTimeout tag s) := by
  unfold execUcieCompletionTimeout
  split <;> simp [memOk_ite, h]

@[simp] theorem execUcieLinkLoss_memOk {s : State} (h : MemOk s.mem) : OutMemOk (execUcieLinkLoss s) := by
  simp [execUcieLinkLoss, memOk_ite, h]

@[simp] theorem execHbmScrub_memOk {found : List ScrubFind} {s : State} (h : MemOk s.mem) : OutMemOk (execHbmScrub found s) := by
  simp [execHbmScrub, outMemOk_ite, h]

@[simp] theorem execHbmUnitClearDone_memOk {unit : Nat} {s : State} (h : MemOk s.mem) :
    OutMemOk (execHbmUnitClearDone unit s) := by
  unfold execHbmUnitClearDone
  split <;> simp [h]

/-! ### Lantern: memory stays canonical -/

@[simp] theorem lanternTile_memOk {x : Issue} {s : State} {okFn : Nat → Bool} {usesB usesAux : Bool} {own : Rounding} {na : Bool} {unit6 : Core → Nat → Option CoreFault} {table : Bool} {f : State → Core → Nat → Nat → Nat → Nat → LRes} (h : MemOk s.mem) :
    OutMemOk (lanternTile x s okFn usesB usesAux own na unit6 table f) := by
  unfold lanternTile
  refine issue_memOk h fun s h => Act.memOk_ite.2 ⟨fun _ => trivial, fun _ => ?_⟩
  extract_lets p td ta tb ops aux areas
  split
  · trivial
  · trivial
  · refine Act.memOk_ite.2 ⟨fun _ => trivial, fun _ => ?_⟩
    split
    · trivial
    · exact h

@[simp] theorem lanternOne_memOk {x : Issue} {s : State} {fn : Nat} {own : Rounding} {na : Bool} {f : Bool → Nat → LRes} (h : MemOk s.mem) :
    OutMemOk (lanternOne x s fn own na f) := by simp [lanternOne, h]

@[simp] theorem execLadd_memOk {x : Issue} {s : State} (h : MemOk s.mem) : OutMemOk (execLadd x s) := by simp [execLadd, h]

@[simp] theorem execLsub_memOk {x : Issue} {s : State} (h : MemOk s.mem) : OutMemOk (execLsub x s) := by simp [execLsub, h]

@[simp] theorem execExp_memOk {x : Issue} {s : State} (h : MemOk s.mem) : OutMemOk (execExp x s) := by simp [execExp, h]

@[simp] theorem execExp2_memOk {x : Issue} {s : State} (h : MemOk s.mem) : OutMemOk (execExp2 x s) := by simp [execExp2, h]

@[simp] theorem execExpd_memOk {x : Issue} {s : State} (h : MemOk s.mem) : OutMemOk (execExpd x s) := by simp [execExpd, h]

@[simp] theorem execLn_memOk {x : Issue} {s : State} (h : MemOk s.mem) : OutMemOk (execLn x s) := by simp [execLn, h]

@[simp] theorem execLog2_memOk {x : Issue} {s : State} (h : MemOk s.mem) : OutMemOk (execLog2 x s) := by simp [execLog2, h]

@[simp] theorem execSin_memOk {x : Issue} {s : State} (h : MemOk s.mem) : OutMemOk (execSin x s) := by simp [execSin, h]

@[simp] theorem execCos_memOk {x : Issue} {s : State} (h : MemOk s.mem) : OutMemOk (execCos x s) := by simp [execCos, h]

@[simp] theorem execGelu_memOk {x : Issue} {s : State} (h : MemOk s.mem) : OutMemOk (execGelu x s) := by simp [execGelu, h]

@[simp] theorem execGelut_memOk {x : Issue} {s : State} (h : MemOk s.mem) : OutMemOk (execGelut x s) := by simp [execGelut, h]

@[simp] theorem execSqrt_memOk {x : Issue} {s : State} (h : MemOk s.mem) : OutMemOk (execSqrt x s) := by simp [execSqrt, h]

@[simp] theorem execRsqrt_memOk {x : Issue} {s : State} (h : MemOk s.mem) : OutMemOk (execRsqrt x s) := by simp [execRsqrt, h]

@[simp] theorem execUtn_memOk {x : Issue} {s : State} (h : MemOk s.mem) : OutMemOk (execUtn x s) := by simp [execUtn, h]

@[simp] theorem statAccumulate_memOk {x : Issue} {s : State} {fn : Nat} {kind : StatKind} (h : MemOk s.mem) :
    OutMemOk (statAccumulate x s fn kind) := by
  unfold statAccumulate
  refine issue_memOk h fun s h => Act.memOk_ite.2 ⟨fun _ => trivial, fun _ => ?_⟩
  split
  · trivial
  · trivial
  · exact h

@[simp] theorem execStat1_memOk {x : Issue} {s : State} (h : MemOk s.mem) : OutMemOk (execStat1 x s) := by simp [execStat1, h]

@[simp] theorem execStat2_memOk {x : Issue} {s : State} (h : MemOk s.mem) : OutMemOk (execStat2 x s) := by simp [execStat2, h]

@[simp] theorem execStatq_memOk {x : Issue} {s : State} (h : MemOk s.mem) : OutMemOk (execStatq x s) := by simp [execStatq, h]

@[simp] theorem execStati_memOk {x : Issue} {s : State} (h : MemOk s.mem) : OutMemOk (execStati x s) := by
  unfold execStati
  refine issue_memOk h fun s h => Act.memOk_ite.2 ⟨fun _ => trivial, fun _ => ?_⟩
  exact Act.memOk_ite.2 ⟨fun _ => h, fun _ => h⟩

@[simp] theorem execStatf_memOk {x : Issue} {s : State} (h : MemOk s.mem) : OutMemOk (execStatf x s) := by
  unfold execStatf
  refine issue_memOk h fun s h => Act.memOk_ite.2 ⟨fun _ => trivial, fun _ => ?_⟩
  extract_lets a areas eps
  split
  · trivial
  · trivial
  · exact Act.memOk_ite.2 ⟨fun _ => trivial, fun _ => Act.memOk_ite.2 ⟨fun _ => trivial, fun _ => h⟩⟩

@[simp] theorem execNorma_memOk {x : Issue} {s : State} (h : MemOk s.mem) : OutMemOk (execNorma x s) := by
  unfold execNorma
  refine issue_memOk h fun s h => Act.memOk_ite.2 ⟨fun _ => trivial, fun _ => ?_⟩
  extract_lets p td
  split
  · trivial
  · trivial
  · exact Act.memOk_ite.2 ⟨fun _ => h, fun _ => h⟩

theorem lanternArea_memOk {s : State} {c : CoreId} {area : Area} {go : Unit → Act} (h : (go ()).MemOk) :
    (lanternArea s c area go).MemOk := by
  unfold lanternArea
  split
  · trivial
  · trivial
  · exact Act.memOk_ite.2 ⟨fun _ => trivial, fun _ => h⟩

@[simp] theorem execStatr_memOk {x : Issue} {s : State} (h : MemOk s.mem) : OutMemOk (execStatr x s) := by
  unfold execStatr
  refine issue_memOk h fun s h => Act.memOk_ite.2 ⟨fun _ => trivial, fun _ => ?_⟩
  generalize 1024 = len
  apply lanternArea_memOk
  refine Act.memOk_done.2 ?_
  rw [State.launch_mem]
  exact h

@[simp] theorem execStatw_memOk {x : Issue} {s : State} (h : MemOk s.mem) : OutMemOk (execStatw x s) := by
  unfold execStatw
  refine issue_memOk h fun s h => Act.memOk_ite.2 ⟨fun _ => trivial, fun _ => ?_⟩
  generalize 1024 = len
  apply lanternArea_memOk
  refine Act.memOk_done.2 ?_
  rw [State.launch_mem]
  exact h

@[simp] theorem execLtload_memOk {x : Issue} {s : State} (h : MemOk s.mem) : OutMemOk (execLtload x s) := by
  unfold execLtload
  refine issue_memOk h fun s h => Act.memOk_ite.2 ⟨fun _ => trivial, fun _ => lanternArea_memOk ?_⟩
  simp -implicitDefEqProofs [Act.memOk_ite, h]

@[simp] theorem execLanternRetire_memOk {c : CoreId} {s : State} (h : MemOk s.mem) : OutMemOk (execLanternRetire c s) := by
  simp [execLanternRetire, h]

/-! ### Pins: memory stays canonical -/

@[simp] theorem execBypass_memOk {s : State} (h : MemOk s.mem) : OutMemOk (execBypass s) := by simp [execBypass, h]

@[simp] theorem execIdcode_memOk {s : State} (h : MemOk s.mem) : OutMemOk (execIdcode s) := by simp [execIdcode, h]

@[simp] theorem execSamplePreload_memOk {s : State} (h : MemOk s.mem) : OutMemOk (execSamplePreload s) := by
  simp [execSamplePreload, h]

@[simp] theorem execExtest_memOk {s : State} (h : MemOk s.mem) : OutMemOk (execExtest s) := by simp [execExtest, h]

@[simp] theorem State.drivesLanes_memOk {s : State} (h : MemOk s.mem) : MemOk s.drivesLanes.mem := by
  simp [State.drivesLanes, memOk_ite, h]

@[simp] theorem execExtestPulse_memOk {s : State} (h : MemOk s.mem) : OutMemOk (execExtestPulse s) := by simp [execExtestPulse, h]

@[simp] theorem execExtestTrain_memOk {s : State} (h : MemOk s.mem) : OutMemOk (execExtestTrain s) := by simp [execExtestTrain, h]

@[simp] theorem execDbgAccess_memOk {s : State} (h : MemOk s.mem) : OutMemOk (execDbgAccess s) := by simp [execDbgAccess, h]

/-! ### Scalar: memory stays canonical -/

@[simp] theorem scalarOp_memOk {x : Issue} {s : State} {opc : Nat} {illegal : Nat → Option CoreFault} {reads : Nat → List Nat} {value : Core → Nat → W64} (h : MemOk s.mem) :
    OutMemOk (scalarOp x s opc illegal reads value) := by
  unfold scalarOp
  refine issue_memOk h fun s h => ?_
  simp [Act.memOk_ite, h]

@[simp] theorem scalarAB_memOk {x : Issue} {s : State} {opc : Nat} {f : W64 → W64 → W64} (h : MemOk s.mem) :
    OutMemOk (scalarAB x s opc f) := by simp [scalarAB, h]

@[simp] theorem scalarCmp_memOk {x : Issue} {s : State} {opc : Nat} {f : W64 → W64 → Bool} (h : MemOk s.mem) :
    OutMemOk (scalarCmp x s opc f) := by simp [scalarCmp, h]

@[simp] theorem scalarPred_memOk {x : Issue} {s : State} {opc : Nat} {f : W64 → W64 → W64} (h : MemOk s.mem) :
    OutMemOk (scalarPred x s opc f) := by simp [scalarPred, h]

@[simp] theorem execAdd_memOk {x : Issue} {s : State} (h : MemOk s.mem) : OutMemOk (execAdd x s) := by simp [execAdd, h]

@[simp] theorem execSub_memOk {x : Issue} {s : State} (h : MemOk s.mem) : OutMemOk (execSub x s) := by simp [execSub, h]

@[simp] theorem execMul_memOk {x : Issue} {s : State} (h : MemOk s.mem) : OutMemOk (execMul x s) := by simp [execMul, h]

@[simp] theorem execAnd_memOk {x : Issue} {s : State} (h : MemOk s.mem) : OutMemOk (execAnd x s) := by simp [execAnd, h]

@[simp] theorem execOr_memOk {x : Issue} {s : State} (h : MemOk s.mem) : OutMemOk (execOr x s) := by simp [execOr, h]

@[simp] theorem execXor_memOk {x : Issue} {s : State} (h : MemOk s.mem) : OutMemOk (execXor x s) := by simp [execXor, h]

@[simp] theorem execShl_memOk {x : Issue} {s : State} (h : MemOk s.mem) : OutMemOk (execShl x s) := by simp [execShl, h]

@[simp] theorem execShr_memOk {x : Issue} {s : State} (h : MemOk s.mem) : OutMemOk (execShr x s) := by simp [execShr, h]

@[simp] theorem execSar_memOk {x : Issue} {s : State} (h : MemOk s.mem) : OutMemOk (execSar x s) := by simp [execSar, h]

@[simp] theorem execMin_memOk {x : Issue} {s : State} (h : MemOk s.mem) : OutMemOk (execMin x s) := by simp [execMin, h]

@[simp] theorem execMax_memOk {x : Issue} {s : State} (h : MemOk s.mem) : OutMemOk (execMax x s) := by simp [execMax, h]

@[simp] theorem execMinu_memOk {x : Issue} {s : State} (h : MemOk s.mem) : OutMemOk (execMinu x s) := by simp [execMinu, h]

@[simp] theorem execMaxu_memOk {x : Issue} {s : State} (h : MemOk s.mem) : OutMemOk (execMaxu x s) := by simp [execMaxu, h]

@[simp] theorem execAddi_memOk {x : Issue} {s : State} (h : MemOk s.mem) : OutMemOk (execAddi x s) := by simp [execAddi, h]

@[simp] theorem execMovi_memOk {x : Issue} {s : State} (h : MemOk s.mem) : OutMemOk (execMovi x s) := by simp [execMovi, h]

@[simp] theorem execMovhi_memOk {x : Issue} {s : State} (h : MemOk s.mem) : OutMemOk (execMovhi x s) := by simp [execMovhi, h]

@[simp] theorem execCmpeq_memOk {x : Issue} {s : State} (h : MemOk s.mem) : OutMemOk (execCmpeq x s) := by simp [execCmpeq, h]

@[simp] theorem execCmpne_memOk {x : Issue} {s : State} (h : MemOk s.mem) : OutMemOk (execCmpne x s) := by simp [execCmpne, h]

@[simp] theorem execCmplt_memOk {x : Issue} {s : State} (h : MemOk s.mem) : OutMemOk (execCmplt x s) := by simp [execCmplt, h]

@[simp] theorem execCmpltu_memOk {x : Issue} {s : State} (h : MemOk s.mem) : OutMemOk (execCmpltu x s) := by simp [execCmpltu, h]

@[simp] theorem execCmple_memOk {x : Issue} {s : State} (h : MemOk s.mem) : OutMemOk (execCmple x s) := by simp [execCmple, h]

@[simp] theorem execCmpleu_memOk {x : Issue} {s : State} (h : MemOk s.mem) : OutMemOk (execCmpleu x s) := by simp [execCmpleu, h]

@[simp] theorem execPand_memOk {x : Issue} {s : State} (h : MemOk s.mem) : OutMemOk (execPand x s) := by simp [execPand, h]

@[simp] theorem execPor_memOk {x : Issue} {s : State} (h : MemOk s.mem) : OutMemOk (execPor x s) := by simp [execPor, h]

@[simp] theorem execPxor_memOk {x : Issue} {s : State} (h : MemOk s.mem) : OutMemOk (execPxor x s) := by simp [execPxor, h]

/-! ### Scout: memory stays canonical -/

@[simp] theorem State.scoutClaim_memOk {s : State} {c : CoreId} {w : Nat} (h : MemOk s.mem) : MemOk (s.scoutClaim c w).mem := by
  unfold State.scoutClaim
  split <;> simp [memOk_ite, h]

@[simp] theorem State.scoutTreat_memOk {s : State} {c : CoreId} {x : Issue} (h : MemOk s.mem) : MemOk (s.scoutTreat c x).mem := by
  unfold State.scoutTreat
  dsimp only
  repeat' split
  all_goals simp [h]

@[simp] theorem execScoutAdvance_memOk {x : Issue} {s : State} (h : MemOk s.mem) : OutMemOk (execScoutAdvance x s) := by
  simp [execScoutAdvance, outMemOk_ite, h]

/-! ### Dispatch: memory stays canonical -/

/-- Every command keeps memory canonical, each by the lemma of its own row. -/
theorem exec_memOk (i : Instr) {s : State} (h : MemOk s.mem) : OutMemOk (exec i s) := by
  cases i
  all_goals simp -implicitDefEqProofs [exec, h]

theorem step_memOk {s : State} (h : MemOk s.mem) : OutMemOk (step s) := by
  unfold step
  split
  · rw [outMemOk_next, State.emberTick_mem]
    exact h
  · exact exec_memOk _ h

/-- Settles O60: `exec` keeps the form command by command, and an empty queue only lets a tick pass. -/
theorem stepKeepsMemoryCanonical : Obligations.StepKeepsMemoryCanonical := by
  unfold Obligations.StepKeepsMemoryCanonical
  intro s t h ht
  exact step_memOk h t ht

end Sys2Proof.Machine

/-!
# Byte formats read back (O59)

A little-endian field of k bytes reads back modulo 256^k; a field of a concatenation is found by dropping what stands in front of it.
-/

namespace Sys2Proof.Machine

/-! ## Little-endian bytes -/

@[simp] theorem leNat_append (xs ys : List Byte) : leNat (xs ++ ys) = leNat xs + 256 ^ xs.length * leNat ys := by
  induction xs with
  | nil => simp [leNat]
  | cons x xs ih =>
    simp only [List.cons_append, leNat, ih, List.length_cons]
    ring

/-- A byte string of n bytes stands for a number below 256^n. -/
theorem leNat_lt (bs : List Byte) : leNat bs < 256 ^ bs.length := by
  induction bs with
  | nil => simp [leNat]
  | cons b bs ih =>
    have hb := b.isLt
    simp only [leNat, List.length_cons, Nat.pow_succ]
    omega

theorem leNat_leBytes_mod (k n : Nat) : leNat (leBytes k n) = n % 256 ^ k := by
  induction k generalizing n with
  | zero => simp [leBytes, leNat, Nat.mod_one]
  | succ k ih =>
    simp only [leBytes, leNat, ih, BitVec.toNat_ofNat, Nat.pow_succ, Nat.mul_comm (256 ^ k) 256, Nat.mod_mul]
    omega

/-- A number that fits k bytes reads back from them. -/
theorem leNat_leBytes {k n : Nat} (h : n < 256 ^ k) : leNat (leBytes k n) = n := by
  rw [leNat_leBytes_mod, Nat.mod_eq_of_lt h]

theorem leNat_drop (bs : List Byte) (o : Nat) : leNat (bs.drop o) = leNat bs / 256 ^ o := by
  induction o generalizing bs with
  | zero => simp
  | succ o ih =>
    cases bs with
    | nil => simp [leNat]
    | cons b bs =>
      have hb : b.toNat / 256 = 0 := Nat.div_eq_of_lt b.isLt
      rw [List.drop_succ_cons, ih, leNat, Nat.pow_succ, Nat.mul_comm (256 ^ o), ← Nat.div_div_eq_div_mul,
        Nat.add_mul_div_left _ _ (by decide), hb, Nat.zero_add]

theorem leNat_take (bs : List Byte) (n : Nat) : leNat (bs.take n) = leNat bs % 256 ^ n := by
  induction n generalizing bs with
  | zero => simp [leNat, Nat.mod_one]
  | succ n ih =>
    cases bs with
    | nil => simp [leNat]
    | cons b bs =>
      have hb := b.isLt
      have e1 : (b.toNat + 256 * leNat bs) / 256 = leNat bs := by omega
      have e2 : (b.toNat + 256 * leNat bs) % 256 = b.toNat := by omega
      rw [List.take_succ_cons, leNat, leNat, ih, Nat.pow_succ, Nat.mul_comm (256 ^ n), Nat.mod_mul, e1, e2]

/-- Whole bytes of the number a byte string stands for are those bytes. -/
theorem bits_leNat (bs : List Byte) {hi lo o n : Nat} (hlo : lo = 8 * o) (hhi : hi + 1 = 8 * (o + n)) (hn : 0 < n) :
    bits (leNat bs) hi lo = leNat ((bs.drop o).take n) := by
  have e : hi - lo + 1 = 8 * n := by omega
  rw [leNat_take, leNat_drop, bits, e, hlo, Nat.pow_mul, Nat.pow_mul]

/-! ## PDUs and packets -/

/-- The fields of a PDU read back; what stands behind its bytes counts to the data. -/
theorem pduOf_pduBytes {p : Pdu} (h : p.fits = true) (pad : List Byte) :
    pduOf (pduBytes p ++ pad) false = { p with data := p.data ++ pad } := by
  simp only [Pdu.fits, Bool.and_eq_true, decide_eq_true_eq] at h
  obtain ⟨⟨⟨⟨⟨⟨⟨⟨⟨⟨⟨hver, hop⟩, hseq⟩, hview⟩, hflags⟩, hdie⟩, hindex⟩, hsub⟩, hstatus⟩, hlen⟩, hcrc⟩, -⟩ := h
  simp [pduOf, pduBytes, pduHead, List.drop_append, List.drop_of_length_le, leNat_leBytes_mod, Nat.mod_eq_of_lt, hver, hop, hseq, hview, hflags, hdie, hindex,
    hsub, hstatus, hlen, hcrc]

/-- Behind padding the data ends at LEN. -/
theorem pduOf_padded (bs : List Byte) :
    pduOf bs true = { pduOf bs false with data := (pduOf bs false).data.take (pduOf bs false).len } := rfl

theorem packetOf_packetBytes {k : Packet} (h : k.fits = true) : packetOf (packetBytes k) = (k, k.body.length) := by
  simp only [Packet.fits, Bool.and_eq_true, decide_eq_true_eq] at h
  obtain ⟨⟨⟨⟨⟨hdst, hsrc⟩, hkind⟩, hcamp⟩, harg⟩, hbody⟩ := h
  have hlen : k.body.length < 65536 := by omega
  simp only [Nat.reducePow] at hcamp harg
  simp [packetOf, packetBytes, List.drop_append, List.drop_of_length_le, leNat_leBytes_mod, Nat.mod_eq_of_lt, hdst, hsrc, hkind, hcamp, harg, hlen]

/-! ## The flits of a packet -/

theorem flatten_pieces {n f : Nat} {bs : List Byte} (hn : 0 < n) (hf : bs.length < f) : (pieces n f bs).flatten = bs := by
  induction f generalizing bs with
  | zero => omega
  | succ f ih =>
    unfold pieces
    split
    · simp
    · have hd : (bs.drop n).length < f := by
        rw [List.length_drop]
        omega
      rw [List.flatten_cons, ih hd, List.take_append_drop]

theorem length_le_of_mem_pieces {n f : Nat} {bs p : List Byte} (h : p ∈ pieces n f bs) : p.length ≤ n := by
  induction f generalizing bs with
  | zero => simp [pieces] at h
  | succ f ih =>
    unfold pieces at h
    split at h
    next hle => rwa [List.mem_singleton.1 h]
    next =>
      rcases List.mem_cons.1 h with rfl | h
      · exact List.length_take_le n bs
      · exact ih h

theorem pieces_ne_nil {n f : Nat} {bs : List Byte} : pieces n (f + 1) bs ≠ [] := by
  unfold pieces
  split <;> simp

/-- The pieces a packet's bytes are cut into. -/
def packetPieces (bs : List Byte) : List (List Byte) := pieces 116 (bs.length + 1) bs

/-- The number of flits is that of the pieces. -/
@[simp] theorem length_packetFlits (vc dl : Nat) (bs : List Byte) : (packetFlits vc dl bs).length = (packetPieces bs).length := by
  simp [packetFlits, packetPieces]

/-- The i-th flit carries the i-th piece; SOP stands on the first, EOP on the last. -/
theorem getElem_packetFlits {vc dl i : Nat} {bs : List Byte} (h : i < (packetFlits vc dl bs).length) :
    (packetFlits vc dl bs)[i] = ⟨1, Fin.ofNat 8 vc, Fin.ofNat 2 dl, i == 0, i + 1 == (packetPieces bs).length, 0,
      (packetPieces bs)[i]'(by simpa using h), 0, false, false, true⟩ := by
  simp [packetFlits, packetPieces]

theorem packetFlits_flatMap_payload (vc dl : Nat) (bs : List Byte) :
    (packetFlits vc dl bs).flatMap (fun (f : Flit) => f.payload) = bs := by
  have e : (packetFlits vc dl bs).map (fun (f : Flit) => f.payload) = packetPieces bs := by
    refine List.ext_getElem (by simp) fun i h _ => ?_
    rw [List.getElem_map, getElem_packetFlits]
  rw [List.flatMap_def, e, packetPieces, flatten_pieces (by decide) (Nat.lt_succ_self _)]

theorem packetFlits_payload_le {vc dl : Nat} {bs : List Byte} {f : Flit} (h : f ∈ packetFlits vc dl bs) :
    f.typ = 1 ∧ f.payload.length ≤ 116 := by
  obtain ⟨i, hi, rfl⟩ := List.mem_iff_getElem.1 h
  rw [getElem_packetFlits]
  exact ⟨rfl, length_le_of_mem_pieces (List.getElem_mem _)⟩

theorem packetPieces_length_pos (bs : List Byte) : 0 < (packetPieces bs).length := List.length_pos_iff.2 pieces_ne_nil

theorem packetFlits_head (vc dl : Nat) (bs : List Byte) :
    (packetFlits vc dl bs).head?.map (fun (f : Flit) => f.sop) = some true := by
  have h : 0 < (packetFlits vc dl bs).length := by simpa using packetPieces_length_pos bs
  rw [List.head?_eq_getElem?, List.getElem?_eq_getElem h, getElem_packetFlits]
  rfl

theorem packetFlits_getLast (vc dl : Nat) (bs : List Byte) :
    (packetFlits vc dl bs).getLast?.map (fun (f : Flit) => f.eop) = some true := by
  have h := packetPieces_length_pos bs
  have hl : (packetFlits vc dl bs).length - 1 < (packetFlits vc dl bs).length := by
    rw [length_packetFlits]
    omega
  rw [List.getLast?_eq_getElem?, List.getElem?_eq_getElem hl, getElem_packetFlits]
  simp only [length_packetFlits, Option.map_some, Option.some.injEq, beq_iff_eq]
  omega

theorem packetFlits_tail {vc dl : Nat} {bs : List Byte} {f : Flit} (h : f ∈ (packetFlits vc dl bs).tail) : f.sop = false := by
  obtain ⟨i, hi, rfl⟩ := List.mem_iff_getElem.1 h
  rw [List.getElem_tail, getElem_packetFlits]
  rfl

theorem packetFlits_dropLast {vc dl : Nat} {bs : List Byte} {f : Flit} (h : f ∈ (packetFlits vc dl bs).dropLast) : f.eop = false := by
  obtain ⟨i, hi, rfl⟩ := List.mem_iff_getElem.1 h
  rw [List.length_dropLast, length_packetFlits] at hi
  rw [List.getElem_dropLast, getElem_packetFlits]
  exact beq_eq_false_iff_ne.2 (by omega)

/-! ## Scale history records (05 R125) -/

/-- The entries of a list of 2-byte fields. -/
theorem flatMap_leBytes_field {k : Nat} (ent : List Nat) (rest : List Byte) {i : Nat} (hi : i < ent.length) :
    ((ent.flatMap (leBytes k) ++ rest).drop (k * i)).take k = leBytes k ent[i] := by
  induction ent generalizing i with
  | nil => exact absurd hi (Nat.not_lt_zero i)
  | cons e es ih =>
    cases i with
    | zero => simp
    | succ i =>
      have e1 : k * (i + 1) = k + k * i := by ring
      rw [e1, ← List.drop_drop, List.flatMap_cons, List.append_assoc, List.drop_left' (length_leBytes k e)]
      exact ih (Nat.lt_of_succ_lt_succ hi)

theorem length_flatMap_leBytes (k : Nat) (ent : List Nat) : (ent.flatMap (leBytes k)).length = k * ent.length := by
  induction ent with
  | nil => rfl
  | cons e es ih => simp [ih, Nat.mul_succ, Nat.add_comm]

/-- The fields behind the entries of a record. -/
def ShRec.tail (r : ShRec) : List Byte :=
  leBytes 2 r.pend0 ++ leBytes 2 r.pend1 ++ leBytes 4 r.step0 ++ leBytes 4 r.step1 ++ leBytes 4 r.cstep
    ++ leBytes 1 r.len ++ leBytes 1 r.head ++ leBytes 1 r.nval ++ leBytes 1 r.flags ++ leBytes 2 r.tgt ++ leBytes 2 r.scale
    ++ leBytes 2 r.hscale ++ leBytes 1 r.pch ++ leBytes 1 r.hdr ++ leBytes 4 r.hstep ++ leBytes 8 r.haddr ++ leBytes 24 r.rest

theorem ShRec.bytes_eq (r : ShRec) : r.bytes = r.ent.flatMap (leBytes 2) ++ r.tail := by
  simp [ShRec.bytes, ShRec.tail]

theorem ShRec.length_bytes {r : ShRec} (h : r.ent.length = 32) : r.bytes.length = 128 := by
  simp [ShRec.bytes, h]

/-- A field of n bytes that stands o bytes behind the entries. -/
theorem ShRec.field {r : ShRec} (h : r.ent.length = 32) {hi lo o n : Nat} (hlo : lo = 8 * (64 + o)) (hhi : hi + 1 = 8 * (64 + o + n))
    (hn : 0 < n) : bits (leNat r.bytes) hi lo = leNat ((r.tail.drop o).take n) := by
  have hl : (r.ent.flatMap (leBytes 2)).length = 64 := by rw [length_flatMap_leBytes, h]
  rw [bits_leNat _ hlo hhi hn, ShRec.bytes_eq, ← List.drop_drop, List.drop_left' hl]

/-- The i-th entry of a record. -/
theorem ShRec.entry {r : ShRec} {i : Nat} (hi : i < r.ent.length) (he : r.ent[i] < 2 ^ 16) :
    bits (leNat r.bytes) (16 * i + 15) (16 * i) = r.ent[i] := by
  rw [bits_leNat _ (o := 2 * i) (n := 2) (by omega) (by omega) (by decide), ShRec.bytes_eq, flatMap_leBytes_field _ _ hi, leNat_leBytes he]

theorem ShRec.ofNat_bytes {r : ShRec} (hlen : r.ent.length = 32) (hent : ∀ e ∈ r.ent, e < 2 ^ 16) (hpend0 : r.pend0 < 2 ^ 16)
    (hpend1 : r.pend1 < 2 ^ 16) (hstep0 : r.step0 < 2 ^ 32) (hstep1 : r.step1 < 2 ^ 32) (hcstep : r.cstep < 2 ^ 32) (hlen' : r.len < 2 ^ 8)
    (hhead : r.head < 2 ^ 8) (hnval : r.nval < 2 ^ 8) (hflags : r.flags < 2 ^ 8) (htgt : r.tgt < 2 ^ 16) (hscale : r.scale < 2 ^ 16)
    (hhscale : r.hscale < 2 ^ 16) (hpch : r.pch < 2 ^ 8) (hhdr : r.hdr < 2 ^ 8) (hhstep : r.hstep < 2 ^ 32) (hhaddr : r.haddr < 2 ^ 64)
    (hrest : r.rest < 2 ^ 192) : ShRec.ofNat (leNat r.bytes) = r := by
  have hE : ((List.range 32).map fun i => bits (leNat r.bytes) (16 * i + 15) (16 * i)) = r.ent := by
    refine List.ext_getElem (by simp [hlen]) fun i h1 h2 => ?_
    rw [List.getElem_map, List.getElem_range, ShRec.entry h2 (hent _ (List.getElem_mem h2))]
  have hF {hi lo : Nat} (o n : Nat) (hlo : lo = 8 * (64 + o)) (hhi : hi + 1 = 8 * (64 + o + n)) (hn : 0 < n) :=
    ShRec.field hlen hlo hhi hn
  rw [ShRec.ofNat, hE, hF 0 2 rfl rfl, hF 2 2 rfl rfl, hF 4 4 rfl rfl, hF 8 4 rfl rfl, hF 12 4 rfl rfl, hF 16 1 rfl rfl, hF 17 1 rfl rfl,
    hF 18 1 rfl rfl, hF 19 1 rfl rfl, hF 20 2 rfl rfl, hF 22 2 rfl rfl, hF 24 2 rfl rfl, hF 26 1 rfl rfl, hF 27 1 rfl rfl, hF 28 4 rfl rfl,
    hF 32 8 rfl rfl, hF 40 24 rfl rfl]
  · simp only [Nat.reducePow] at *
    simp [ShRec.tail, List.drop_append, List.drop_of_length_le, List.take_of_length_le, leNat_leBytes_mod, Nat.mod_eq_of_lt, hpend0, hpend1, hstep0, hstep1, hcstep,
      hlen', hhead, hnval, hflags, htgt, hscale, hhscale, hpch, hhdr, hhstep, hhaddr, hrest]
  all_goals decide

/-! ## Canopy packet bodies (18 R422, R423) -/

theorem statusField_lt {st : Nat} (h : st ≤ 4 ∨ st = anchorFail) : statusField st < 16 := by
  unfold statusField
  split
  next => omega
  next hne =>
    rcases h with h | rfl
    · omega
    · exact absurd rfl hne

theorem outcomeOf_statusField {st : Nat} (h : st ≤ 4 ∨ st = anchorFail) : outcomeOf (statusField st) = st := by
  rcases h with h | rfl
  · have hn : (st == anchorFail) = false := beq_eq_false_iff_ne.2 (by unfold anchorFail; omega)
    simp [statusField, outcomeOf, hn, h]
  · have hn : ¬5 + Config.anchorStatusPick.toNat % 11 ≤ 4 := by omega
    simp [statusField, outcomeOf, hn]

/-- The fields of a body in front of its value. -/
theorem canopyBody_bytes {b : CanopyBody} (hrseq : b.rseq < 2 ^ 16) (hmode : b.mode < 8) (hstatus : b.status ≤ 4 ∨ b.status = anchorFail)
    (hlevel : b.level < 256) (hnode : b.node < 2 ^ 32) (hnchunk : b.nchunk < 2 ^ 32) (halo : -(2 ^ 15) ≤ b.anchor)
    (hahi : b.anchor < 2 ^ 15) (hq : b.q < 256) :
    canopyBody b.bytes = { b with value := cvalOf b.mode (b.value.bytes b.mode) } := by
  have hs := statusField_lt hstatus
  have hsm : b.mode + 16 * statusField b.status < 256 := by omega
  have e1 : (b.mode + 16 * statusField b.status) % 8 = b.mode := by omega
  have e2 : (b.mode + 16 * statusField b.status) / 16 = statusField b.status := by omega
  have ha := unsigned_lt 16 b.anchor
  have e3 : signed 16 (unsigned 16 b.anchor) = b.anchor := signed_unsigned (by decide) halo hahi
  simp only [Nat.reducePow] at hrseq hnode hnchunk ha
  simp [canopyBody, CanopyBody.bytes, List.drop_append, List.drop_of_length_le, leNat_leBytes_mod, Nat.mod_eq_of_lt, hrseq, hsm, hlevel,
    hnode, hnchunk, ha, hq, e1, e2, e3, outcomeOf_statusField hstatus]

theorem cvalOf_bytes_word {mode w n : Nat} (h3 : mode ≠ 3) (h0 : mode ≠ 0) (hn : n = if mode == 1 then 2 else 8) (hw : w < 256 ^ n) :
    cvalOf mode ((CVal.word w).bytes mode) = .word w := by
  subst hn
  have hw' := leNat_leBytes hw
  by_cases h1 : mode = 1
  · subst h1
    simpa [cvalOf, CVal.bytes, List.take_of_length_le] using hw'
  · simp only [h1, beq_iff_eq, if_false] at hw'
    simpa [cvalOf, CVal.bytes, h0, h1, h3, List.take_of_length_le] using hw'

theorem cvalOf_bytes_vote (v : Bool) : cvalOf 3 ((CVal.vote v).bytes 3) = .vote v := by
  cases v <;> decide

theorem length_stBytes (vals : List (Int × Nat)) : (stBytes vals).length = vals.length / 4 := by
  simp [stBytes]

/-- Two bits of four two-bit fields packed in one byte. -/
theorem bits_packed {g : Nat → Nat} (hg : ∀ j, g j < 4) {j : Nat} (hj : j < 4) :
    bits (g 0 + 4 * g 1 + 16 * g 2 + 64 * g 3) (2 * j + 1) (2 * j) = g j := by
  have e : 2 * j + 1 - 2 * j + 1 = 2 := by omega
  have h0 := hg 0
  have h1 := hg 1
  have h2 := hg 2
  have h3 := hg 3
  rw [bits, e]
  interval_cases j <;> simp <;> omega

/-- The ST field an element of a tile has, zero past its end. -/
def stOf (vals : List (Int × Nat)) (i : Nat) : Nat := (vals.getD i (0, 0)).2 % 4

theorem stOf_lt (vals : List (Int × Nat)) (i : Nat) : stOf vals i < 4 := Nat.mod_lt _ (by decide)

theorem stOf_getElem {vals : List (Int × Nat)} {i : Nat} (hi : i < vals.length) (hst : vals[i].2 < 4) : stOf vals i = vals[i].2 := by
  rw [stOf, List.getD_eq_getElem?_getD, List.getElem?_eq_getElem hi, Option.getD_some, Nat.mod_eq_of_lt hst]

/-- A byte of ST fields. -/
theorem toNat_stBytes {vals : List (Int × Nat)} {b : Nat} (hb : b < (stBytes vals).length) :
    (stBytes vals)[b].toNat = stOf vals (4 * b + 0) + 4 * stOf vals (4 * b + 1) + 16 * stOf vals (4 * b + 2) + 64 * stOf vals (4 * b + 3) := by
  have h0 := stOf_lt vals (4 * b + 0)
  have h1 := stOf_lt vals (4 * b + 1)
  have h2 := stOf_lt vals (4 * b + 2)
  have h3 := stOf_lt vals (4 * b + 3)
  have e : (stBytes vals)[b] = BitVec.ofNat 8 (stOf vals (4 * b + 0) + 4 * stOf vals (4 * b + 1) + 16 * stOf vals (4 * b + 2)
      + 64 * stOf vals (4 * b + 3)) := by simp [stBytes, stOf]
  rw [e, BitVec.toNat_ofNat, Nat.mod_eq_of_lt (by omega)]

/-- The ST field of an element, four to a byte, behind n bytes of values. -/
theorem stBytes_field {vals : List (Int × Nat)} {i n : Nat} (h4 : 4 ∣ vals.length) (hi : i < vals.length) (hst : vals[i].2 < 4)
    {front : List Byte} (hr : front.length = n) :
    bits (leNat (((front ++ stBytes vals).drop (n + i / 4)).take 1)) (2 * (i % 4) + 1) (2 * (i % 4)) = vals[i].2 := by
  have hb : i / 4 < (stBytes vals).length := by
    rw [length_stBytes]
    omega
  have hj : i % 4 < 4 := Nat.mod_lt _ (by decide)
  have hp := bits_packed (g := fun j => stOf vals (4 * (i / 4) + j)) (fun j => stOf_lt vals _) hj
  simp only [Nat.div_add_mod] at hp
  rw [← List.drop_drop, List.drop_left' hr, List.drop_eq_getElem_cons hb, List.take_succ_cons, List.take_zero, leNat, leNat, Nat.mul_zero,
    Nat.add_zero, toNat_stBytes hb, hp, stOf_getElem hi hst]

/-- The value bytes of a tile's elements. -/
theorem flatMap_values (vals : List (Int × Nat)) :
    (vals.flatMap fun e => leBytes 8 (unsigned 64 e.1)) = (vals.map fun e => unsigned 64 e.1).flatMap (leBytes 8) := by
  rw [List.flatMap_map]

/-- An element's value, read from the value bytes of a tile. -/
theorem tile_elem {vals : List (Int × Nat)} {i : Nat} (hi : i < vals.length) (rest : List Byte)
    (hlo : -(2 ^ 63) ≤ vals[i].1) (hhi : vals[i].1 < 2 ^ 63) :
    signed 64 (leNat (((vals.flatMap (fun e => leBytes 8 (unsigned 64 e.1)) ++ rest).drop (8 * i)).take 8)) = vals[i].1 := by
  have hi' : i < (vals.map fun e => unsigned 64 e.1).length := by simpa using hi
  rw [flatMap_values, flatMap_leBytes_field _ _ hi', List.getElem_map, leNat_leBytes (unsigned_lt 64 _)]
  exact signed_unsigned (by decide) hlo hhi

theorem cvalOf_bytes_tile {vals : List (Int × Nat)} (hlen : vals.length = 1024)
    (h : ∀ e ∈ vals, -(2 ^ 63) ≤ e.1 ∧ e.1 < 2 ^ 63 ∧ e.2 < 4) : cvalOf 0 ((CVal.tile vals).bytes 0) = .tile vals := by
  have hl : (vals.flatMap fun e => leBytes 8 (unsigned 64 e.1)).length = 8192 := by
    rw [flatMap_values, length_flatMap_leBytes, List.length_map, hlen]
  have hs : (stBytes vals).length = 256 := by rw [length_stBytes, hlen]
  have hn : ¬((CVal.tile vals).bytes 0).length < 8448 := by
    rw [CVal.bytes, List.length_append, hl, hs]
    decide
  unfold cvalOf
  rw [if_pos (by rfl), if_neg hn]
  refine congrArg CVal.tile (List.ext_getElem (by rw [List.length_map, List.length_range, hlen]) fun i h1 h2 => ?_)
  obtain ⟨hlo, hhi, hst⟩ := h _ (List.getElem_mem h2)
  rw [List.getElem_map, List.getElem_range, CVal.bytes, tile_elem h2 _ hlo hhi, stBytes_field ⟨256, hlen⟩ h2 hst hl]

/-- Settles O59: each format's reader undoes its writer, field by field. -/
theorem encodings : Obligations.Encodings := by
  unfold Obligations.Encodings
  refine ⟨fun p h => ?_, fun p pad h hlen => ?_, fun k h => packetOf_packetBytes h, fun k vc dl => ?_, fun r h1 h2 h3 h4 h5 h6 h7 h8 h9 h10
    h11 h12 h13 h14 h15 h16 h17 h18 h19 => ?_, fun b hrseq hstatus hlevel hnode hnchunk halo hahi hq hv => ?_⟩
  · have e := pduOf_pduBytes h []
    rwa [List.append_nil, List.append_nil] at e
  · rw [pduOf_padded, pduOf_pduBytes h]
    simp only [List.take_left' hlen.symm]
  · exact ⟨packetFlits_flatMap_payload _ _ _, fun f => packetFlits_payload_le, packetFlits_head _ _ _, packetFlits_getLast _ _ _,
      fun f => packetFlits_tail, fun f => packetFlits_dropLast⟩
  · exact ⟨ShRec.length_bytes h1, ShRec.ofNat_bytes h1 h2 h3 h4 h5 h6 h7 h8 h9 h10 h11 h12 h13 h14 h15 h16 h17 h18 h19⟩
  · have hmode : b.mode < 8 ∧ cvalOf b.mode (b.value.bytes b.mode) = b.value := by
      rcases hv with ⟨hm, vals, hval, hl, he⟩ | ⟨hm, w, hval, hw⟩ | ⟨hm, w, hval, hw⟩ | ⟨hm, v, hval⟩ | ⟨hm, hval⟩
      · rw [hm, hval]
        exact ⟨by decide, cvalOf_bytes_tile hl he⟩
      · rw [hm, hval]
        exact ⟨by decide, cvalOf_bytes_word (by decide) (by decide) rfl hw⟩
      · rw [hval]
        rcases hm with hm | hm
        · rw [hm]
          exact ⟨by decide, cvalOf_bytes_word (by decide) (by decide) rfl hw⟩
        · rw [hm]
          exact ⟨by decide, cvalOf_bytes_word (by decide) (by decide) rfl hw⟩
      · rw [hm, hval]
        exact ⟨by decide, cvalOf_bytes_vote v⟩
      · rw [hm, hval]
        exact ⟨by decide, rfl⟩
    obtain ⟨hm, hval⟩ := hmode
    rw [canopyBody_bytes hrseq hm hstatus hlevel hnode hnchunk halo hahi hq, hval]

end Sys2Proof.Machine

/-!
# No command stops the block (O4)

A core instruction is a word of its row, and the frame of the core instructions always answers a next state. Each other command answers one in
every branch of its definition: one lemma per command.
-/

namespace Sys2Proof.Machine

/-- The outcome is a next state. -/
def IsNext (o : Host.Outcome State Fault Refusal) : Prop := ∃ t, o = .next t

@[simp] theorem isNext_next {t : State} : IsNext (.next t) := ⟨t, rfl⟩

theorem isNext_ite {p : Prop} [Decidable p] {a b : Host.Outcome State Fault Refusal} :
    IsNext (if p then a else b) ↔ (p → IsNext a) ∧ (¬p → IsNext b) := by
  split <;> simp_all

@[simp] theorem execSwapComplete_isNext (c : CoreId) (base : SlotIx) (s : State) : IsNext (execSwapComplete c base s) := by
  unfold execSwapComplete
  dsimp only
  repeat' split
  all_goals simp

@[simp] theorem execHearthClearDone_isNext (c : CoreId) (group : Fin 16) (s : State) : IsNext (execHearthClearDone c group s) := by
  simp [execHearthClearDone]

@[simp] theorem execLatticePassRetire_isNext (c : CoreId) (s : State) : IsNext (execLatticePassRetire c s) := by
  simp [execLatticePassRetire]

@[simp] theorem execDrainRetire_isNext (c : CoreId) (s : State) : IsNext (execDrainRetire c s) := by simp [execDrainRetire]

@[simp] theorem execStreamWaitTimeout_isNext (c : CoreId) (s : State) : IsNext (execStreamWaitTimeout c s) := by
  unfold execStreamWaitTimeout
  dsimp only
  repeat' split
  all_goals simp

@[simp] theorem execStreamMessageArrive_isNext (n : PartId) (m : MessageArrival) (s : State) :
    IsNext (execStreamMessageArrive n m s) := by
  unfold execStreamMessageArrive
  repeat' split
  all_goals simp

@[simp] theorem execStreamCreditArrive_isNext (n : PartId) (i : Nat) (s : State) : IsNext (execStreamCreditArrive n i s) := by
  unfold execStreamCreditArrive
  repeat' split
  all_goals simp

@[simp] theorem execStreamCloseNoticeArrive_isNext (n : PartId) (i : Nat) (s : State) : IsNext (execStreamCloseNoticeArrive n i s) := by
  simp [execStreamCloseNoticeArrive]

@[simp] theorem execClaimRequestArrive_isNext (home : CoreId) (b : BankIx) (who : List Requester) (s : State) :
    IsNext (execClaimRequestArrive home b who s) := by
  unfold execClaimRequestArrive
  dsimp only
  repeat' split
  all_goals simp

@[simp] theorem execHandoverRequestArrive_isNext (home : CoreId) (b : BankIx) (s : State) :
    IsNext (execHandoverRequestArrive home b s) := by
  unfold execHandoverRequestArrive
  repeat' split
  all_goals simp

@[simp] theorem execHandoverBankArrive_isNext (home : CoreId) (b : BankIx) (s : State) :
    IsNext (execHandoverBankArrive home b s) := by
  unfold execHandoverBankArrive
  split <;> simp

@[simp] theorem execHandoverAckArrive_isNext (home : CoreId) (b : BankIx) (s : State) :
    IsNext (execHandoverAckArrive home b s) := by
  unfold execHandoverAckArrive
  split <;> simp

@[simp] theorem execHandoverTimeout_isNext (home : CoreId) (b : BankIx) (s : State) : IsNext (execHandoverTimeout home b s) := by
  unfold execHandoverTimeout
  repeat' split
  all_goals simp

@[simp] theorem execBankClearDone_isNext (home : CoreId) (b : BankIx) (s : State) : IsNext (execBankClearDone home b s) := by
  unfold execBankClearDone
  repeat' split
  all_goals simp

@[simp] theorem execPorterChecksDone_isNext (c : CoreId) (i : ChanIx) (s : State) : IsNext (execPorterChecksDone c i s) := by
  unfold execPorterChecksDone
  dsimp only
  repeat' split
  all_goals simp

@[simp] theorem execPorterBusError_isNext (c : CoreId) (e : BusError) (s : State) : IsNext (execPorterBusError c e s) := by
  simp [execPorterBusError]

@[simp] theorem execPorterReadDataArrive_isNext (c : CoreId) (i : ChanIx) (r : ReadArrival) (s : State) :
    IsNext (execPorterReadDataArrive c i r s) := by simp [execPorterReadDataArrive]

@[simp] theorem execPorterBeat_isNext (b : Beat) (s : State) : IsNext (execPorterBeat b s) := by
  unfold execPorterBeat
  dsimp only
  repeat' split
  all_goals simp

@[simp] theorem execAbExecutionComplete_isNext (c : CoreId) (s : State) : IsNext (execAbExecutionComplete c s) := by
  simp [execAbExecutionComplete]

@[simp] theorem execIeeeRetire_isNext (c : CoreId) (s : State) : IsNext (execIeeeRetire c s) := by simp [execIeeeRetire]

@[simp] theorem execShderHostDataArrive_isNext (c : CoreId) (answer : ReadAnswer) (s : State) :
    IsNext (execShderHostDataArrive c answer s) := by simp [execShderHostDataArrive]

@[simp] theorem execShderHostRetry_isNext (c : CoreId) (s : State) : IsNext (execShderHostRetry c s) := by
  simp [execShderHostRetry]

@[simp] theorem execShderHostTimeout_isNext (c : CoreId) (s : State) : IsNext (execShderHostTimeout c s) := by
  unfold execShderHostTimeout
  split <;> simp

@[simp] theorem execCoreClearingDone_isNext (c : CoreId) (s : State) : IsNext (execCoreClearingDone c s) := by
  simp [execCoreClearingDone]

@[simp] theorem execCommandFetch_isNext (n : PartId) (s : State) : IsNext (execCommandFetch n s) := by
  simp [execCommandFetch, isNext_ite]

@[simp] theorem execCommandFetchComplete_isNext (n : PartId) (bytes : List Byte) (s : State) :
    IsNext (execCommandFetchComplete n bytes s) := by simp [execCommandFetchComplete]

@[simp] theorem execAdmissionTimeout_isNext (n : PartId) (s : State) : IsNext (execAdmissionTimeout n s) := by
  unfold execAdmissionTimeout
  split <;> simp

@[simp] theorem State.startNext_isNext (s : State) (n : PartId) (opc : Nat) (body : Command → State) :
    IsNext (State.startNext s n opc body) := by
  unfold State.startNext
  split <;> simp

@[simp] theorem execCmdNop_isNext (n : PartId) (s : State) : IsNext (execCmdNop n s) := by
  unfold execCmdNop
  split <;> simp

@[simp] theorem execStart_isNext (n : PartId) (s : State) : IsNext (execStart n s) := by simp [execStart]

@[simp] theorem execStartComplete_isNext (n : PartId) (s : State) : IsNext (execStartComplete n s) := by
  unfold execStartComplete
  repeat' split
  all_goals simp

@[simp] theorem execRunBoundExpiry_isNext (n : PartId) (s : State) : IsNext (execRunBoundExpiry n s) := by
  unfold execRunBoundExpiry
  split <;> simp [isNext_ite]

@[simp] theorem execCoreReset_isNext (n : PartId) (s : State) : IsNext (execCoreReset n s) := by simp [execCoreReset]

@[simp] theorem execPreset_isNext (n : PartId) (s : State) : IsNext (execPreset n s) := by simp [execPreset]

@[simp] theorem execStreamOpen_isNext (n : PartId) (s : State) : IsNext (execStreamOpen n s) := by simp [execStreamOpen]

@[simp] theorem execStreamOpenClearDone_isNext (n : PartId) (s : State) : IsNext (execStreamOpenClearDone n s) := by
  unfold execStreamOpenClearDone
  repeat' split
  all_goals simp

@[simp] theorem execStage_isNext (n : PartId) (s : State) : IsNext (execStage n s) := by simp [execStage]

@[simp] theorem execStageCopyComplete_isNext (n : PartId) (answer : ReadAnswer) (s : State) :
    IsNext (execStageCopyComplete n answer s) := by
  unfold execStageCopyComplete
  dsimp only
  repeat' split
  all_goals simp

@[simp] theorem execCtxAcq_isNext (n : PartId) (s : State) : IsNext (execCtxAcq n s) := by simp [execCtxAcq]

@[simp] theorem execCtxRel_isNext (n : PartId) (s : State) : IsNext (execCtxRel n s) := by simp [execCtxRel]

@[simp] theorem execEwRetire_isNext (c : CoreId) (s : State) : IsNext (execEwRetire c s) := by simp [execEwRetire]

@[simp] theorem campPacket_isNext (kind : Nat) (k : Packet) (s : State) (f : PartId → State) :
    IsNext (campPacket kind k s f) := by
  unfold campPacket
  repeat' split
  all_goals simp

@[simp] theorem execStashAck_isNext (k : Packet) (s : State) : IsNext (execStashAck k s) := by simp [execStashAck]

@[simp] theorem execStashAckTimeout_isNext (n : PartId) (s : State) : IsNext (execStashAckTimeout n s) := by
  unfold execStashAckTimeout
  split <;> simp

@[simp] theorem execStashOpen_isNext (k : Packet) (s : State) : IsNext (execStashOpen k s) := by simp [execStashOpen]

@[simp] theorem execStashData_isNext (k : Packet) (s : State) : IsNext (execStashData k s) := by simp [execStashData]

@[simp] theorem execStashSeal_isNext (k : Packet) (s : State) : IsNext (execStashSeal k s) := by simp [execStashSeal]

@[simp] theorem execPullReq_isNext (k : Packet) (s : State) : IsNext (execPullReq k s) := by simp [execPullReq]

@[simp] theorem execCanopyUp_isNext (k : Packet) (s : State) : IsNext (execCanopyUp k s) := by simp [execCanopyUp]

@[simp] theorem execCanopyDown_isNext (n : PartId) (ctx : Fin 8) (k : Option Packet) (s : State) :
    IsNext (execCanopyDown n ctx k s) := by
  unfold execCanopyDown
  repeat' split
  all_goals simp

@[simp] theorem execReductionTimeout_isNext (n : PartId) (ctx : Fin 8) (s : State) : IsNext (execReductionTimeout n ctx s) := by
  unfold execReductionTimeout
  repeat' split
  all_goals simp

@[simp] theorem execStepCallTimeout_isNext (n : PartId) (s : State) : IsNext (execStepCallTimeout n s) := by
  simp [execStepCallTimeout]

@[simp] theorem execStashCallTimeout_isNext (n : PartId) (s : State) : IsNext (execStashCallTimeout n s) := by
  simp [execStashCallTimeout]

@[simp] theorem noticeArrives_isNext (kind : Nat) (k : Packet) (from_ : Option PortIx) (s : State) (f : State → State) :
    IsNext (noticeArrives kind k from_ s f) := by simp [noticeArrives, isNext_ite]

@[simp] theorem execFault_isNext (k : Packet) (s : State) : IsNext (execFault k s) := by simp [execFault]

@[simp] theorem execTopo_isNext (k : Packet) (s : State) : IsNext (execTopo k s) := by simp [execTopo]

@[simp] theorem execRemap_isNext (k : Packet) (s : State) : IsNext (execRemap k s) := by simp [execRemap]

@[simp] theorem execPresent_isNext (k : Packet) (s : State) : IsNext (execPresent k s) := by simp [execPresent]

@[simp] theorem execActive_isNext (k : Packet) (s : State) : IsNext (execActive k s) := by simp [execActive]

@[simp] theorem execRemapCallTimeout_isNext (s : State) : IsNext (execRemapCallTimeout s) := by
  unfold execRemapCallTimeout
  dsimp only
  repeat' split
  all_goals simp

@[simp] theorem execSettleTimeout_isNext (n : PartId) (s : State) : IsNext (execSettleTimeout n s) := by
  unfold execSettleTimeout
  dsimp only
  repeat' split
  all_goals simp

@[simp] theorem execRecoverQuery_isNext (k : Packet) (s : State) : IsNext (execRecoverQuery k s) := by simp [execRecoverQuery]

@[simp] theorem execRecoverReport_isNext (k : Packet) (s : State) : IsNext (execRecoverReport k s) := by simp [execRecoverReport]

@[simp] theorem execReportTimeout_isNext (n : PartId) (s : State) : IsNext (execReportTimeout n s) := by
  simp [execReportTimeout, isNext_ite]

@[simp] theorem execResume_isNext (k : Packet) (s : State) : IsNext (execResume k s) := by simp [execResume]

@[simp] theorem execResumeDone_isNext (k : Packet) (s : State) : IsNext (execResumeDone k s) := by simp [execResumeDone]

@[simp] theorem execPullData_isNext (k : Packet) (s : State) : IsNext (execPullData k s) := by simp [execPullData]

@[simp] theorem execCmdDbWrite_isNext (n : PartId) (a : RegAccess) (s : State) : IsNext (execCmdDbWrite n a s) := by
  simp [execCmdDbWrite]

@[simp] theorem execCplDbWrite_isNext (n : PartId) (a : RegAccess) (s : State) : IsNext (execCplDbWrite n a s) := by
  simp [execCplDbWrite]

@[simp] theorem execPrstGo_isNext (n : PartId) (a : RegAccess) (s : State) : IsNext (execPrstGo n a s) := by simp [execPrstGo]

@[simp] theorem execVectorControlWrite_isNext (n : PartId) (offset : Nat) (a : RegAccess) (s : State) :
    IsNext (execVectorControlWrite n offset a s) := by simp [execVectorControlWrite, isNext_ite]

@[simp] theorem execInterruptHoldoffExpiry_isNext (n : PartId) (s : State) : IsNext (execInterruptHoldoffExpiry n s) := by
  simp [execInterruptHoldoffExpiry, isNext_ite]

@[simp] theorem execVdFence_isNext (q : W16) (s : State) : IsNext (execVdFence q s) := by simp [execVdFence, isNext_ite]

@[simp] theorem execFenceTimeout_isNext (n : PartId) (s : State) : IsNext (execFenceTimeout n s) := by
  simp [execFenceTimeout, isNext_ite]

@[simp] theorem execNotifyRetryTimeout_isNext (s : State) : IsNext (execNotifyRetryTimeout s) := by
  unfold execNotifyRetryTimeout
  split <;> simp [isNext_ite]

@[simp] theorem execNotify_isNext (r : Request) (s : State) : IsNext (execNotify r s) := by simp [execNotify, isNext_ite]

@[simp] theorem execT1sFrameReceive_isNext (f : T1sFrame) (s : State) : IsNext (execT1sFrameReceive f s) := by
  simp [execT1sFrameReceive]

@[simp] theorem execI3cPrivateWrite_isNext (t : I3cTransfer) (s : State) : IsNext (execI3cPrivateWrite t s) := by
  simp [execI3cPrivateWrite]

@[simp] theorem execI3cPrivateRead_isNext (s : State) : IsNext (execI3cPrivateRead s) := by
  unfold execI3cPrivateRead
  split <;> simp [isNext_ite]

@[simp] theorem execEnec_isNext (events : Byte) (s : State) : IsNext (execEnec events s) := by simp [execEnec]

@[simp] theorem execDisec_isNext (events : Byte) (s : State) : IsNext (execDisec events s) := by simp [execDisec]

@[simp] theorem execRstdaa_isNext (s : State) : IsNext (execRstdaa s) := by simp [execRstdaa]

@[simp] theorem execEntdaa_isNext (address : BitVec 7) (s : State) : IsNext (execEntdaa address s) := by
  simp [execEntdaa, isNext_ite]

@[simp] theorem execSetdasa_isNext (static address : BitVec 7) (s : State) : IsNext (execSetdasa static address s) := by
  simp [execSetdasa, isNext_ite]

@[simp] theorem execSetmwl_isNext (len : W16) (s : State) : IsNext (execSetmwl len s) := by simp [execSetmwl, isNext_ite]

@[simp] theorem execSetmrl_isNext (len : W16) (s : State) : IsNext (execSetmrl len s) := by simp [execSetmrl, isNext_ite]

@[simp] theorem execGetmwl_isNext (s : State) : IsNext (execGetmwl s) := by simp [execGetmwl]

@[simp] theorem execGetmrl_isNext (s : State) : IsNext (execGetmrl s) := by simp [execGetmrl]

@[simp] theorem execGetpid_isNext (s : State) : IsNext (execGetpid s) := by simp [execGetpid]

@[simp] theorem execGetbcr_isNext (s : State) : IsNext (execGetbcr s) := by simp [execGetbcr]

@[simp] theorem execGetdcr_isNext (s : State) : IsNext (execGetdcr s) := by simp [execGetdcr]

@[simp] theorem execGetstatus_isNext (s : State) : IsNext (execGetstatus s) := by simp [execGetstatus]

@[simp] theorem execMbReq_isNext (a : RegAccess) (s : State) : IsNext (execMbReq a s) := by simp [execMbReq, isNext_ite]

@[simp] theorem execMbRspRelease_isNext (a : RegAccess) (s : State) : IsNext (execMbRspRelease a s) := by
  simp [execMbRspRelease, isNext_ite]

@[simp] theorem execMailboxBufferWrite_isNext (offset : Nat) (a : RegAccess) (s : State) :
    IsNext (execMailboxBufferWrite offset a s) := by simp [execMailboxBufferWrite]

@[simp] theorem execRegisterWrite_isNext (n : PartId) (offset : Nat) (a : PageAccess) (s : State) :
    IsNext (execRegisterWrite n offset a s) := by
  unfold execRegisterWrite
  split <;> simp

@[simp] theorem execMgmtReq_isNext (k : Packet) (s : State) : IsNext (execMgmtReq k s) := by simp [execMgmtReq]

@[simp] theorem execMgmtAns_isNext (k : Packet) (s : State) : IsNext (execMgmtAns k s) := by simp [execMgmtAns]

@[simp] theorem execRelayTimeout_isNext (tag : W32) (s : State) : IsNext (execRelayTimeout tag s) := by
  unfold execRelayTimeout
  split <;> simp

@[simp] theorem execBlockIdleTimeout_isNext (p : Port) (source : Nat) (s : State) : IsNext (execBlockIdleTimeout p source s) := by
  simp [execBlockIdleTimeout]

@[simp] theorem execWardenReset_isNext (s : State) : IsNext (execWardenReset s) := by simp [execWardenReset]

@[simp] theorem execWardenRestart_isNext (s : State) : IsNext (execWardenRestart s) := by simp [execWardenRestart, isNext_ite]

@[simp] theorem execPortRetrain_isNext (p : PortIx) (t : PortTraining) (s : State) : IsNext (execPortRetrain p t s) := by
  simp [execPortRetrain, isNext_ite]

@[simp] theorem execStreamMsg_isNext (k : Packet) (s : State) : IsNext (execStreamMsg k s) := by simp [execStreamMsg]

@[simp] theorem execStreamCred_isNext (k : Packet) (s : State) : IsNext (execStreamCred k s) := by simp [execStreamCred]

@[simp] theorem execStreamClose_isNext (k : Packet) (s : State) : IsNext (execStreamClose k s) := by simp [execStreamClose]

@[simp] theorem deliverPacket_isNext (k : Packet) (from_ : PortIx) (s : State) : IsNext (deliverPacket k from_ s) := by
  unfold deliverPacket
  repeat' split
  all_goals simp

@[simp] theorem receivePacket_isNext (bs : List Byte) (from_ : PortIx) (dl : Nat) (s : State) :
    IsNext (receivePacket bs from_ dl s) := by simp [receivePacket, isNext_ite]

@[simp] theorem receiveData_isNext (p : PortIx) (f : Flit) (s : State) : IsNext (receiveData p f s) := by
  unfold receiveData
  dsimp only
  repeat' split
  all_goals simp

@[simp] theorem flitIn_isNext (p : PortIx) (f : Flit) (s : State) : IsNext (flitIn p f s) := by simp [flitIn, isNext_ite]

@[simp] theorem execFlitReceive_isNext (p : PortIx) (f : Flit) (s : State) : IsNext (execFlitReceive p f s) := by
  simp [execFlitReceive]

@[simp] theorem execLctl_isNext (p : PortIx) (f : Flit) (s : State) : IsNext (execLctl p f s) := by simp [execLctl, isNext_ite]

@[simp] theorem execFlitResendTimeout_isNext (p : PortIx) (s : State) : IsNext (execFlitResendTimeout p s) := by
  simp [execFlitResendTimeout, isNext_ite]

@[simp] theorem execLctlDue_isNext (p : PortIx) (s : State) : IsNext (execLctlDue p s) := by simp [execLctlDue, isNext_ite]

theorem flitsIn_isNext (p : PortIx) (fs : List Flit) (s : State) : IsNext (flitsIn p fs s) := by
  induction fs generalizing s with
  | nil => exact isNext_next
  | cons f fs ih =>
    obtain ⟨t, ht⟩ := flitIn_isNext p f s
    rw [flitsIn, ht]
    exact ih t

@[simp] theorem execCodewordReceive_isNext (p : PortIx) (lane : Fin 4) (w : Codeword) (s : State) :
    IsNext (execCodewordReceive p lane w s) := by
  unfold execCodewordReceive
  dsimp only
  exact isNext_ite.2 ⟨fun _ => isNext_next, fun _ => isNext_ite.2 ⟨fun _ => flitsIn_isNext _ _ _, fun _ => isNext_next⟩⟩

@[simp] theorem execFlitSlotSend_isNext (p : PortIx) (s : State) : IsNext (execFlitSlotSend p s) := by
  unfold execFlitSlotSend
  dsimp only
  repeat' split
  all_goals simp

@[simp] theorem execLinkStall_isNext (p : PortIx) (s : State) : IsNext (execLinkStall p s) := by simp [execLinkStall, isNext_ite]

@[simp] theorem execLockLost_isNext (p : PortIx) (s : State) : IsNext (execLockLost p s) := by simp [execLockLost, isNext_ite]

@[simp] theorem execOpChange_isNext (c : CoreId) (s : State) : IsNext (execOpChange c s) := by simp [execOpChange]

@[simp] theorem execCoreEnterNap_isNext (c : CoreId) (s : State) : IsNext (execCoreEnterNap c s) := by simp [execCoreEnterNap]

@[simp] theorem execCoreWake_isNext (c : CoreId) (s : State) : IsNext (execCoreWake c s) := by simp [execCoreWake]

@[simp] theorem execBankUnitGate_isNext (c : CoreId) (u : Fin 8) (s : State) : IsNext (execBankUnitGate c u s) := by
  simp [execBankUnitGate]

@[simp] theorem execDeviceEnterDoze_isNext (s : State) : IsNext (execDeviceEnterDoze s) := by simp [execDeviceEnterDoze]

@[simp] theorem execDeviceEnterNap_isNext (s : State) : IsNext (execDeviceEnterNap s) := by simp [execDeviceEnterNap]

@[simp] theorem execNapEntryCommit_isNext (s : State) : IsNext (execNapEntryCommit s) := by simp [execNapEntryCommit, isNext_ite]

@[simp] theorem execDeviceWake_isNext (source : BitVec 8) (s : State) : IsNext (execDeviceWake source s) := by
  simp [execDeviceWake]

@[simp] theorem execUcieL2ExitRequest_isNext (s : State) : IsNext (execUcieL2ExitRequest s) := by simp [execUcieL2ExitRequest]

@[simp] theorem execEmberEntryCommit_isNext (s : State) : IsNext (execEmberEntryCommit s) := by
  simp [execEmberEntryCommit, isNext_ite]

@[simp] theorem execPowerCapDecision_isNext (reading : Int) (s : State) : IsNext (execPowerCapDecision reading s) := by
  simp [execPowerCapDecision, isNext_ite]

@[simp] theorem execPowerCallTimeout_isNext (s : State) : IsNext (execPowerCallTimeout s) := by
  simp [execPowerCallTimeout, isNext_ite]

@[simp] theorem execLimiterEngage_isNext (s : State) : IsNext (execLimiterEngage s) := by simp [execLimiterEngage]

@[simp] theorem execLimiterRelease_isNext (s : State) : IsNext (execLimiterRelease s) := by simp [execLimiterRelease]

@[simp] theorem execThermalSample_isNext (readings : List Int) (s : State) : IsNext (execThermalSample readings s) := by
  unfold execThermalSample
  dsimp only
  repeat' split
  all_goals simp

@[simp] theorem execPatrolSliceStart_isNext (s : State) : IsNext (execPatrolSliceStart s) := by
  simp [execPatrolSliceStart, isNext_ite]

@[simp] theorem execPatrolCallTimeout_isNext (s : State) : IsNext (execPatrolCallTimeout s) := by simp [execPatrolCallTimeout]

@[simp] theorem execPatrolSliceEnd_isNext (found : List UnitResult) (s : State) : IsNext (execPatrolSliceEnd found s) := by
  simp [execPatrolSliceEnd, isNext_ite]

@[simp] theorem execPowerOnReset_isNext (maddr : BitVec 3) (s : State) : IsNext (execPowerOnReset maddr s) := by
  simp [execPowerOnReset]

@[simp] theorem execDeviceReset_isNext (s : State) : IsNext (execDeviceReset s) := by simp [execDeviceReset]

@[simp] theorem execEmberClockFallback_isNext (s : State) : IsNext (execEmberClockFallback s) := by simp [execEmberClockFallback]

@[simp] theorem execMainPgRise_isNext (s : State) : IsNext (execMainPgRise s) := by simp [execMainPgRise]

@[simp] theorem execMainPgFall_isNext (s : State) : IsNext (execMainPgFall s) := by simp [execMainPgFall, isNext_ite]

@[simp] theorem execPerstAssert_isNext (s : State) : IsNext (execPerstAssert s) := by simp [execPerstAssert, isNext_ite]

@[simp] theorem execPerstDeassert_isNext (s : State) : IsNext (execPerstDeassert s) := by simp [execPerstDeassert, isNext_ite]

@[simp] theorem execRefclkLost_isNext (s : State) : IsNext (execRefclkLost s) := by simp [execRefclkLost]

@[simp] theorem execVfusePresenceChange_isNext (present : Bool) (s : State) : IsNext (execVfusePresenceChange present s) := by
  simp [execVfusePresenceChange]

@[simp] theorem execDeviceStart_isNext (s : State) : IsNext (execDeviceStart s) := by simp [execDeviceStart, isNext_ite]

@[simp] theorem execStartStageAdvance_isNext (w : StageWork) (s : State) : IsNext (execStartStageAdvance w s) := by
  unfold execStartStageAdvance
  repeat' split
  all_goals simp

@[simp] theorem execFlashImageLoaded_isNext (img : FlashImage) (s : State) : IsNext (execFlashImageLoaded img s) := by
  unfold execFlashImageLoaded
  repeat' split
  all_goals simp

@[simp] theorem execStageTimeout_isNext (s : State) : IsNext (execStageTimeout s) := by simp [execStageTimeout]

@[simp] theorem execImageWaitTimeout_isNext (s : State) : IsNext (execImageWaitTimeout s) := by simp [execImageWaitTimeout]

@[simp] theorem execBootComplete_isNext (s : State) : IsNext (execBootComplete s) := by simp [execBootComplete, isNext_ite]

@[simp] theorem execWardenWatchdogExpiry_isNext (s : State) : IsNext (execWardenWatchdogExpiry s) := by
  simp [execWardenWatchdogExpiry, isNext_ite]

@[simp] theorem execFuseProgrammingDone_isNext (verified : Bool) (s : State) : IsNext (execFuseProgrammingDone verified s) := by
  unfold execFuseProgrammingDone
  dsimp only
  repeat' split
  all_goals simp

@[simp] theorem requestOf_isNext (mine : Bool) (r : Request) (s : State) : IsNext (requestOf mine r s) := by simp [requestOf]

@[simp] theorem execRead_isNext (r : Request) (s : State) : IsNext (execRead r s) := by simp [execRead]

@[simp] theorem execWrite_isNext (r : Request) (s : State) : IsNext (execWrite r s) := by simp [execWrite]

@[simp] theorem execNotificationRead_isNext (r : Request) (s : State) : IsNext (execNotificationRead r s) := by
  simp [execNotificationRead]

@[simp] theorem execBrinit_isNext (r : Request) (s : State) : IsNext (execBrinit r s) := by simp [execBrinit]

@[simp] theorem execBrseg_isNext (r : Request) (s : State) : IsNext (execBrseg r s) := by simp [execBrseg]

@[simp] theorem execBwinit_isNext (r : Request) (s : State) : IsNext (execBwinit r s) := by simp [execBwinit]

@[simp] theorem execBwseg_isNext (r : Request) (s : State) : IsNext (execBwseg r s) := by simp [execBwseg]

@[simp] theorem execBwend_isNext (r : Request) (s : State) : IsNext (execBwend r s) := by simp [execBwend]

@[simp] theorem execBabort_isNext (r : Request) (s : State) : IsNext (execBabort r s) := by simp [execBabort]

@[simp] theorem execDiscover_isNext (r : Request) (s : State) : IsNext (execDiscover r s) := by simp [execDiscover]

@[simp] theorem execEcho_isNext (r : Request) (s : State) : IsNext (execEcho r s) := by simp [execEcho]

@[simp] theorem execBivouacExit_isNext (r : Request) (s : State) : IsNext (execBivouacExit r s) := by simp [execBivouacExit]

@[simp] theorem execFuseUpdateRequest_isNext (r : Request) (s : State) : IsNext (execFuseUpdateRequest r s) := by
  simp [execFuseUpdateRequest]

@[simp] theorem execForm_isNext (r : Request) (s : State) : IsNext (execForm r s) := by simp [execForm]

@[simp] theorem execPartitionResetWrite_isNext (r : Request) (s : State) : IsNext (execPartitionResetWrite r s) := by
  simp [execPartitionResetWrite]

@[simp] theorem execDissolve_isNext (r : Request) (s : State) : IsNext (execDissolve r s) := by simp [execDissolve]

@[simp] theorem execWeightWrite_isNext (r : Request) (s : State) : IsNext (execWeightWrite r s) := by simp [execWeightWrite]

@[simp] theorem execApertureWrite_isNext (r : Request) (s : State) : IsNext (execApertureWrite r s) := by simp [execApertureWrite]

@[simp] theorem execNodeIdWrite_isNext (r : Request) (s : State) : IsNext (execNodeIdWrite r s) := by simp [execNodeIdWrite]

@[simp] theorem execDutyModeRequest_isNext (r : Request) (s : State) : IsNext (execDutyModeRequest r s) := by
  simp [execDutyModeRequest]

@[simp] theorem execStepAnswer_isNext (r : Request) (s : State) : IsNext (execStepAnswer r s) := by simp [execStepAnswer]

@[simp] theorem execStashAnswer_isNext (r : Request) (s : State) : IsNext (execStashAnswer r s) := by simp [execStashAnswer]

@[simp] theorem execRemapAnswer_isNext (r : Request) (s : State) : IsNext (execRemapAnswer r s) := by simp [execRemapAnswer]

@[simp] theorem execPatrolAnswer_isNext (r : Request) (s : State) : IsNext (execPatrolAnswer r s) := by simp [execPatrolAnswer]

@[simp] theorem execPowerAnswer_isNext (r : Request) (s : State) : IsNext (execPowerAnswer r s) := by simp [execPowerAnswer]

@[simp] theorem execEmberRequest_isNext (r : Request) (s : State) : IsNext (execEmberRequest r s) := by simp [execEmberRequest]

@[simp] theorem execPowerCapWrite_isNext (r : Request) (s : State) : IsNext (execPowerCapWrite r s) := by simp [execPowerCapWrite]

@[simp] theorem execPutInUse_isNext (r : Request) (s : State) : IsNext (execPutInUse r s) := by simp [execPutInUse]

@[simp] theorem execStartRecovery_isNext (r : Request) (s : State) : IsNext (execStartRecovery r s) := by simp [execStartRecovery]

@[simp] theorem execTrapArmWrite_isNext (r : Request) (s : State) : IsNext (execTrapArmWrite r s) := by simp [execTrapArmWrite]

@[simp] theorem execRestoreFromRecord_isNext (r : Request) (hostBytes : List Byte) (s : State) :
    IsNext (execRestoreFromRecord r hostBytes s) := by simp [execRestoreFromRecord]

@[simp] theorem execFormationComplete_isNext (n : PartId) (s : State) : IsNext (execFormationComplete n s) := by
  simp [execFormationComplete]

@[simp] theorem execPcieFlrVf_isNext (n : PartId) (s : State) : IsNext (execPcieFlrVf n s) := by simp [execPcieFlrVf]

@[simp] theorem execPcieFlrPf0_isNext (s : State) : IsNext (execPcieFlrPf0 s) := by simp [execPcieFlrPf0]

@[simp] theorem execPcieVfEnableClear_isNext (s : State) : IsNext (execPcieVfEnableClear s) := by simp [execPcieVfEnableClear]

@[simp] theorem execPcieD3hotToD0_isNext (f : PartId) (s : State) : IsNext (execPcieD3hotToD0 f s) := by simp [execPcieD3hotToD0]

@[simp] theorem execPcieHotReset_isNext (s : State) : IsNext (execPcieHotReset s) := by simp [execPcieHotReset]

@[simp] theorem execPcieConfigRequest_isNext (f : PartId) (q : ConfigRequest) (s : State) : IsNext (execPcieConfigRequest f q s) := by
  simp [execPcieConfigRequest, isNext_ite]

@[simp] theorem execPcieCompletionTimeout_isNext (c : CoreId) (addr : W64) (s : State) :
    IsNext (execPcieCompletionTimeout c addr s) := by
  unfold execPcieCompletionTimeout
  repeat' split
  all_goals simp

@[simp] theorem execPcieLinkUp_isNext (width : BitVec 8) (rate : W16) (s : State) : IsNext (execPcieLinkUp width rate s) := by
  simp [execPcieLinkUp]

@[simp] theorem execUcieLinkUp_isNext (width : BitVec 8) (rate : W16) (cr : UcieCredits) (s : State) :
    IsNext (execUcieLinkUp width rate cr s) := by simp [execUcieLinkUp, isNext_ite]

@[simp] theorem execUcieHostRd_isNext (h : UciePacket) (s : State) : IsNext (execUcieHostRd h s) := by
  unfold execUcieHostRd
  repeat' split
  all_goals simp

@[simp] theorem execUcieHostWr_isNext (h : UciePacket) (s : State) : IsNext (execUcieHostWr h s) := by
  unfold execUcieHostWr
  repeat' split
  all_goals simp

@[simp] theorem execUcieCpld_isNext (h : UciePacket) (s : State) : IsNext (execUcieCpld h s) := by
  unfold execUcieCpld
  dsimp only
  repeat' split
  all_goals simp

@[simp] theorem execUcieCpl_isNext (h : UciePacket) (s : State) : IsNext (execUcieCpl h s) := by
  unfold execUcieCpl
  repeat' split
  all_goals simp

@[simp] theorem execUcieCrd_isNext (cr : UcieCredits) (s : State) : IsNext (execUcieCrd cr s) := by simp [execUcieCrd, isNext_ite]

@[simp] theorem execUcieCompletionTimeout_isNext (tag : BitVec 10) (s : State) : IsNext (execUcieCompletionTimeout tag s) := by
  unfold execUcieCompletionTimeout
  split <;> simp

@[simp] theorem execUcieLinkLoss_isNext (s : State) : IsNext (execUcieLinkLoss s) := by simp [execUcieLinkLoss]

@[simp] theorem execHbmScrub_isNext (found : List ScrubFind) (s : State) : IsNext (execHbmScrub found s) := by
  simp [execHbmScrub, isNext_ite]

@[simp] theorem execHbmUnitClearDone_isNext (unit : Nat) (s : State) : IsNext (execHbmUnitClearDone unit s) := by
  unfold execHbmUnitClearDone
  split <;> simp

@[simp] theorem execLanternRetire_isNext (c : CoreId) (s : State) : IsNext (execLanternRetire c s) := by simp [execLanternRetire]

@[simp] theorem execBypass_isNext (s : State) : IsNext (execBypass s) := by simp [execBypass]

@[simp] theorem execIdcode_isNext (s : State) : IsNext (execIdcode s) := by simp [execIdcode]

@[simp] theorem execSamplePreload_isNext (s : State) : IsNext (execSamplePreload s) := by simp [execSamplePreload]

@[simp] theorem execExtest_isNext (s : State) : IsNext (execExtest s) := by simp [execExtest]

@[simp] theorem execExtestPulse_isNext (s : State) : IsNext (execExtestPulse s) := by simp [execExtestPulse]

@[simp] theorem execExtestTrain_isNext (s : State) : IsNext (execExtestTrain s) := by simp [execExtestTrain]

@[simp] theorem execDbgAccess_isNext (s : State) : IsNext (execDbgAccess s) := by simp [execDbgAccess]

@[simp] theorem execScoutAdvance_isNext (x : Issue) (s : State) : IsNext (execScoutAdvance x s) := by simp [execScoutAdvance, isNext_ite]

/-- A core instruction answers a next state. -/
theorem exec_isNext_of_row {i : Instr} {r : Issue × Nat × List RowField} (s : State) (h : i.row = some r) :
    IsNext (exec i s) := by
  obtain ⟨il, b, -, e⟩ := exec_of_row s h
  rw [e]
  exact issue_next _ _ _ il b

/-- A command that is no core instruction answers a next state. -/
theorem exec_isNext_of_no_row {i : Instr} (s : State) (h : i.row = none) : IsNext (exec i s) := by
  cases i
  all_goals simp only [Instr.row, reduceCtorEq] at h
  all_goals simp only [exec]
  all_goals simp

theorem exec_isNext (i : Instr) (s : State) : IsNext (exec i s) := by
  cases h : i.row with
  | some r => exact exec_isNext_of_row s h
  | none => exact exec_isNext_of_no_row s h

/-- Settles O4: an empty queue lets a tick pass, any other step runs a command. -/
theorem stepAlwaysRuns : Obligations.StepAlwaysRuns := by
  unfold Obligations.StepAlwaysRuns
  intro s
  unfold step
  split
  · exact isNext_next
  · exact exec_isNext _ _

end Sys2Proof.Machine

/-!
# Registers and the sequencer (O5, O6)
-/

namespace Sys2Proof.Machine

/-! ## Reading a register after writing it (06 R140) -/

theorem Core.reg_setReg_sreg {k : Core} {d : Nat} (v : W64) (h : d < 32) : (k.setReg d v).reg d = v := by
  simp [Core.setReg, Core.reg, h]

theorem Core.reg_setReg_areg {k : Core} {d : Nat} (v : W64) (hlo : 32 ≤ d) (hhi : d < 48) : (k.setReg d v).reg d = v := by
  simp [Core.setReg, Core.reg, Nat.not_lt.2 hlo, hhi]

theorem Core.reg_setReg_preg {k : Core} {d : Nat} (v : W64) (hlo : 48 < d) (hhi : d < 56) :
    (k.setReg d v).reg d = if v.getLsbD 0 then 1 else 0 := by
  have h1 : ¬d < 32 := by omega
  have h2 : ¬d < 48 := by omega
  have h3 : d ≠ 48 := by omega
  simp [Core.setReg, Core.reg, h1, h2, h3, hhi]

theorem Core.reg_setReg_lreg {k : Core} {d : Nat} (v : W64) (hlo : 56 ≤ d) :
    (k.setReg d v).reg d = (v.truncate 32).zeroExtend 64 := by
  have h1 : ¬d < 32 := by omega
  have h2 : ¬d < 48 := by omega
  have h3 : d ≠ 48 := by omega
  have h4 : ¬d < 56 := by omega
  simp [Core.setReg, Core.reg, h1, h2, h3, h4]

/-- p0 discards what is written to it. -/
@[simp] theorem Core.setReg_p0 (k : Core) (v : W64) : k.setReg 48 v = k := rfl

/-- Reading a vector register at another index than the one written. -/
theorem Vector.get_set_ofNat_other {α : Type} {n d r : Nat} [NeZero n] (v : Vector α n) (x : α) (hd : d < n) (hr : r < n) (h : r ≠ d) :
    (v.set (Fin.ofNat n d) x)[Fin.ofNat n r] = v[Fin.ofNat n r] := by
  have hne : (Fin.ofNat n d).val ≠ (Fin.ofNat n r).val := by
    simp only [Fin.val_ofNat, Nat.mod_eq_of_lt hd, Nat.mod_eq_of_lt hr]
    exact h.symm
  exact Vector.getElem_set_ne _ _ hne

theorem Core.reg_setReg_other {k : Core} {d r : Nat} (v : W64) (hd : d < 60) (hr : r < 60) (h : r ≠ d) :
    (k.setReg d v).reg r = k.reg r := by
  unfold Core.setReg
  split
  next h1 =>
    by_cases hr1 : r < 32
    · simp only [Core.reg, hr1, if_true]
      exact Vector.get_set_ofNat_other _ _ h1 hr1 h
    · simp [Core.reg, hr1]
  split
  next h1 h2 =>
    by_cases hr2 : 32 ≤ r ∧ r < 48
    · simp only [Core.reg, Nat.not_lt.2 hr2.1, hr2.2, if_true, if_false]
      exact Vector.get_set_ofNat_other _ _ (by omega) (by omega) (by omega)
    · rcases (by omega : r < 32 ∨ ¬r < 32 ∧ ¬r < 48) with e1 | ⟨e1, e2⟩
      · simp only [Core.reg, e1, if_true]
      · simp only [Core.reg, e1, e2, if_false]
  split
  · rfl
  split
  next h1 h2 h3 h4 =>
    have h3 : d ≠ 48 := by simpa using h3
    by_cases hr3 : 48 ≤ r ∧ r < 56
    · have e1 : ¬r < 32 := by omega
      have e2 : ¬r < 48 := by omega
      simp only [Core.reg, e1, e2, hr3.2, if_true, if_false]
      rw [Vector.get_set_ofNat_other _ _ (by omega) (by omega) (by omega)]
    · rcases (by omega : r < 32 ∨ ¬r < 32 ∧ r < 48 ∨ ¬r < 32 ∧ ¬r < 48 ∧ ¬r < 56) with e1 | ⟨e1, e2⟩ | ⟨e1, e2, e3⟩
      · simp only [Core.reg, e1, if_true]
      · simp only [Core.reg, e1, e2, if_true, if_false]
      · simp only [Core.reg, e1, e2, e3, if_false]
  next h1 h2 h3 h4 =>
    by_cases hr4 : 56 ≤ r
    · have e1 : ¬r < 32 := by omega
      have e2 : ¬r < 48 := by omega
      have e3 : ¬r < 56 := by omega
      simp only [Core.reg, e1, e2, e3, if_false]
      rw [Vector.get_set_ofNat_other _ _ (by omega) (by omega) (by omega)]
    · rcases (by omega : r < 32 ∨ ¬r < 32 ∧ r < 48 ∨ ¬r < 32 ∧ ¬r < 48 ∧ r < 56) with e1 | ⟨e1, e2⟩ | ⟨e1, e2, e3⟩
      · simp only [Core.reg, e1, if_true]
      · simp only [Core.reg, e1, e2, if_true, if_false]
      · simp only [Core.reg, e1, e2, e3, if_true, if_false]

/-- Settles O5, register class by register class. -/
theorem registerWrite : Obligations.RegisterWrite := by
  unfold Obligations.RegisterWrite
  intro k d v hd
  refine ⟨fun h => ?_, Core.reg_setReg_preg v, Core.reg_setReg_lreg v, Core.setReg_p0 k v, fun r hr h => Core.reg_setReg_other v hd hr h⟩
  by_cases hs : d < 32
  · exact Core.reg_setReg_sreg v hs
  · exact Core.reg_setReg_areg v (Nat.not_lt.1 hs) h

/-! ## What the sequencer does with an offered word -/

/-- A sequencer that cannot issue leaves the state as it is (06 R144; 16 R363). -/
theorem issue_idle {x : Issue} {s : State} {opc : Nat} {illegal : Core → Nat → Option CoreFault} {body : CoreId → Nat → State → Act}
    (h : (s.core x.core).mode ≠ .running ∨ (s.core x.core).wait.isSome = true ∨ (s.core x.core).epoch.discarding = true
      ∨ (s.core x.core).power.held = true ∨ (s.core x.core).power.state ≠ 0) : issue x s opc illegal body = .next s := by
  unfold issue
  refine if_pos ?_
  rcases h with h | h | h | h | h <;> simp [h]

/-- The condition under which a sequencer issues, as `issue` asks for it. -/
theorem issue_awake {k : Core} (hm : k.mode = .running) (hw : k.wait = none) (hd : k.epoch.discarding = false) (hh : k.power.held = false)
    (hp : k.power.state = 0) :
    ¬(k.mode != .running || k.wait.isSome || k.epoch.discarding || k.power.held || k.power.state != 0) = true := by
  simp [hm, hw, hd, hh, hp]

section
variable {x : Issue} {s : State} {opc : Nat} {illegal : Core → Nat → Option CoreFault} {body : CoreId → Nat → State → Act}

theorem issue_double (hm : (s.core x.core).mode = .running) (hw : (s.core x.core).wait = none)
    (hd : (s.core x.core).epoch.discarding = false) (hh : (s.core x.core).power.held = false) (hp : (s.core x.core).power.state = 0)
    (he : x.ecc = .double) : issue x s opc illegal body = .next (s.takeFault x.core progEcc) := by
  unfold issue
  exact (if_neg (issue_awake hm hw hd hh hp)).trans (if_pos (by simp [he]))

theorem issue_otherOpcode (hm : (s.core x.core).mode = .running) (hw : (s.core x.core).wait = none)
    (hd : (s.core x.core).epoch.discarding = false) (hh : (s.core x.core).power.held = false) (hp : (s.core x.core).power.state = 0)
    (he : x.ecc = .clean) (ho : opcOf x.word.toNat ≠ opc) : issue x s opc illegal body = .next (s.takeFault x.core illOp) := by
  unfold issue
  refine (if_neg (issue_awake hm hw hd hh hp)).trans ((if_neg (by simp [he])).trans ?_)
  have e : (x.ecc == Ecc.corrected) = false := by simp [he]
  simp [e, ho]

theorem issue_suppressed (hs : Sequences x s) (ho : opcOf x.word.toNat = opc)
    (hu : s.unready x.core [48 + bits x.word.toNat 55 53] = false) (hx : (s.core x.core).executes x.word.toNat = false)
    (hl : illegal (s.core x.core) x.word.toNat = none ∨ illegal (s.core x.core) x.word.toNat = some illField) :
    issue x s opc illegal body = .next (s.advance x.core) ∨ issue x s opc illegal body = .next (s.takeFault x.core illField) := by
  obtain ⟨hm, hw, hd, hh, hp, he⟩ := hs
  have e : (x.ecc == Ecc.corrected) = false := by simp [he]
  have e2 : (x.ecc == Ecc.double) = false := by simp [he]
  have ha := issue_awake hm hw hd hh hp
  rcases hl with hl | hl
  · left
    simp [issue, ha, e, e2, ho, hl, hu, hx]
  · right
    simp [issue, ha, e, e2, ho, hl]

end

/-! ## Where a program goes on (06 R142) -/

theorem State.goto_pc (s : State) (c : CoreId) (pc : Nat) : ((s.goto c pc).core c).pc = pc := by
  simp [State.goto]

theorem State.goto_noScout {s : State} {c : CoreId} (pc : Nat) (h : (s.core c).scout.running = false) :
    s.goto c pc = s.modCore c fun k => { k with pc := pc, issued := k.issued + 1 } := by
  simp [State.goto, State.scoutFollow, h]

theorem State.advance_running {s : State} {c : CoreId} (hm : (s.core c).mode = .running) :
    s.advance c = if (s.core c).pc + 1 < 16384 then s.goto c ((s.core c).pc + 1) else s.takeFault c illPc := by
  simp [State.advance, hm]

/-- Settles O6: each rule is a branch of `issue`, or of `State.advance`. -/
theorem sequencerRules : Obligations.SequencerRules := by
  unfold Obligations.SequencerRules
  refine ⟨fun i x opc fields s hrow h => ?_, fun i x opc fields s hrow hm hw hd hh hp => ⟨fun he => ?_, fun he ho => ?_⟩,
    fun i x opc fields s hrow hs ho hu hx => ?_, fun s c hm => ⟨fun hpc => ⟨?_, fun hsc => ?_⟩, fun hpc => ?_⟩⟩
  · obtain ⟨il, b, -, e⟩ := exec_of_row s hrow
    rw [e, issue_idle h]
  · obtain ⟨il, b, -, e⟩ := exec_of_row s hrow
    rw [e, issue_double hm hw hd hh hp he]
  · obtain ⟨il, b, -, e⟩ := exec_of_row s hrow
    rw [e, issue_otherOpcode hm hw hd hh hp he ho]
  · obtain ⟨il, b, hil, e⟩ := exec_of_row s hrow
    rw [e]
    exact issue_suppressed hs ho hu hx (hil _ _)
  · rw [State.advance_running hm, if_pos hpc, State.goto_pc]
  · rw [State.advance_running hm, if_pos hpc, State.goto_noScout _ hsc]
    rfl
  · rw [State.advance_running hm, if_neg (by omega)]

end Sys2Proof.Machine

/-!
# Scalar instructions (O7, O9)
-/

namespace Sys2Proof.Machine

/-- A list of conditions that all hold raises no ILL_FIELD. -/
theorem require_of_all {l : List Bool} (h : ∀ b ∈ l, b = true) : require l = none :=
  require_none.2 (List.all_eq_true.2 h)

section
variable {x : Issue} {s : State} {opc : Nat}

/-- A scalar instruction whose registers are ready writes D and moves on. -/
theorem scalarOp_eq {illegal : Nat → Option CoreFault} {reads : Nat → List Nat} {value : Core → Nat → W64} (h : Issues x s opc)
    (hl : illegal x.word.toNat = none) (hu : s.unready x.core (fD x.word.toNat :: reads x.word.toNat) = false) :
    scalarOp x s opc illegal reads value = .next (wrote x s (value (s.core x.core) x.word.toNat)) := by
  unfold scalarOp
  rw [issue_done h hl (if_neg (by simp [hu]))]
  rfl

theorem scalarAB_eq {f : W64 → W64 → W64} {v : W64} (hl : formSDAB x.word.toNat = none)
    (hu : s.unready x.core [fD x.word.toNat, fA x.word.toNat, fB x.word.toNat] = false)
    (hv : f ((s.core x.core).reg (fA x.word.toNat)) ((s.core x.core).reg (fB x.word.toNat)) = v) (h : Issues x s opc) :
    scalarAB x s opc f = .next (wrote x s v) := by
  unfold scalarAB
  rw [scalarOp_eq h hl hu, hv]

theorem scalarCmp_eq {f : W64 → W64 → Bool} {v : W64} (hl : formSDAB x.word.toNat = none)
    (hu : s.unready x.core [fD x.word.toNat, fA x.word.toNat, fB x.word.toNat] = false)
    (hv : (if f ((s.core x.core).reg (fA x.word.toNat)) ((s.core x.core).reg (fB x.word.toNat)) then 1 else 0) = v) (h : Issues x s opc) :
    scalarCmp x s opc f = .next (wrote x s v) :=
  scalarAB_eq hl hu hv h

theorem scalarPred_eq {f : W64 → W64 → W64} {v : W64} (hD : isPred (fD x.word.toNat) = true) (hA : isPred (fA x.word.toNat) = true)
    (hB : isPred (fB x.word.toNat) = true) (hz : bits x.word.toNat 33 0 = 0)
    (hu : s.unready x.core [fD x.word.toNat, fA x.word.toNat, fB x.word.toNat] = false)
    (hv : f ((s.core x.core).reg (fA x.word.toNat)) ((s.core x.core).reg (fB x.word.toNat)) = v) (h : Issues x s opc) :
    scalarPred x s opc f = .next (wrote x s v) := by
  unfold scalarPred
  rw [scalarOp_eq h (require_of_all (by simp [hD, hA, hB, hz])) hu, hv]

end

/-- A predicate reads 1 or 0. -/
theorem Core.reg_of_isPred {k : Core} {r : Nat} (h : isPred r = true) : k.reg r = if k.preg[Fin.ofNat 8 (r - 48)] then 1 else 0 := by
  simp only [isPred, Bool.and_eq_true, decide_eq_true_eq] at h
  have h1 : ¬r < 32 := by omega
  have h2 : ¬r < 48 := by omega
  simp only [Core.reg, h1, h2, h.2, if_true, if_false]

/-- An arithmetic shift right is a division that rounds down. -/
theorem sshiftRight_eq_ofInt (a : W64) (n : Nat) : a.sshiftRight n = BitVec.ofInt 64 (a.toInt / 2 ^ n) := by
  rw [BitVec.sshiftRight, Int.shiftRight_eq_div_pow]
  rfl

theorem sub_eq_ofInt (a b : W64) : a - b = BitVec.ofInt 64 (a.toNat - b.toNat) := by
  refine BitVec.eq_of_toNat_eq ?_
  have ha := a.isLt
  have hb := b.isLt
  rw [BitVec.toNat_sub, BitVec.toNat_ofInt]
  omega

theorem bool_and_word (a b : Bool) : ((if a then 1 else 0 : W64) &&& if b then 1 else 0) = if a && b then 1 else 0 := by
  cases a <;> cases b <;> rfl

theorem bool_or_word (a b : Bool) : ((if a then 1 else 0 : W64) ||| if b then 1 else 0) = if a || b then 1 else 0 := by
  cases a <;> cases b <;> rfl

theorem bool_xor_word (a b : Bool) : ((if a then 1 else 0 : W64) ^^^ if b then 1 else 0) = if a != b then 1 else 0 := by
  cases a <;> cases b <;> rfl

theorem bits_lt (n hi lo : Nat) : bits n hi lo < 2 ^ (hi - lo + 1) := Nat.mod_lt _ (Nat.two_pow_pos _)

/-- MOVHI keeps the low 46 bits of D and writes the others. -/
theorem movhi_value (w n : Nat) :
    (BitVec.ofNat 64 (bits w 17 0 * 2 ^ 46 + n % 2 ^ 46)).toNat / 2 ^ 46 = bits w 17 0
      ∧ (BitVec.ofNat 64 (bits w 17 0 * 2 ^ 46 + n % 2 ^ 46)).toNat % 2 ^ 46 = n % 2 ^ 46 := by
  have h := bits_lt w 17 0
  rw [BitVec.toNat_ofNat]
  omega

/-- Settles O7: each row is its operation of the two registers, read as 64-bit words. -/
theorem scalarInstructions : Obligations.ScalarInstructions := by
  unfold Obligations.ScalarInstructions
  refine ⟨fun x s hl hu => ?_, fun x s hD => ⟨fun h hA hu => ?_, fun h hu => ?_, fun h hz hu => ?_⟩, fun x s hl hu => ?_,
    fun x s hD hA hB hz hu => ?_⟩
  · simp only [exec, execAdd, execSub, execMul, execAnd, execOr, execXor, execShl, execShr, execSar, execMin, execMax, execMinu, execMaxu]
    refine ⟨scalarAB_eq hl hu ?_, scalarAB_eq hl hu ?_, scalarAB_eq hl hu ?_, scalarAB_eq hl hu rfl, scalarAB_eq hl hu rfl,
      scalarAB_eq hl hu rfl, scalarAB_eq hl hu ?_, scalarAB_eq hl hu ?_, scalarAB_eq hl hu (sshiftRight_eq_ofInt _ _), scalarAB_eq hl hu ?_,
      scalarAB_eq hl hu ?_, scalarAB_eq hl hu ?_, scalarAB_eq hl hu ?_⟩
    · exact BitVec.eq_of_toNat_eq (by simp)
    · exact sub_eq_ofInt _ _
    · exact BitVec.eq_of_toNat_eq (by simp)
    · exact BitVec.eq_of_toNat_eq (by simp [shiftCount, Nat.shiftLeft_eq])
    · refine BitVec.eq_of_toNat_eq ?_
      rw [BitVec.toNat_ofNat, Nat.mod_eq_of_lt (lt_of_le_of_lt (Nat.div_le_self _ _) (BitVec.isLt _)), BitVec.toNat_ushiftRight,
        Nat.shiftRight_eq_div_pow]
      rfl
    all_goals simp [BitVec.slt, BitVec.ult]
  · simp only [exec, execAddi]
    exact scalarOp_eq h (require_of_all (by simp [hD, hA])) hu
  · simp only [exec, execMovi]
    exact scalarOp_eq h (require_of_all (by simp [hD])) hu
  · simp only [exec, execMovhi]
    exact ⟨_, scalarOp_eq h (require_of_all (by simp [hD, hz])) hu, movhi_value _ _⟩
  · simp only [exec, execCmpeq, execCmpne, execCmplt, execCmpltu, execCmple, execCmpleu]
    refine ⟨scalarCmp_eq hl hu ?_, scalarCmp_eq hl hu ?_, scalarCmp_eq hl hu ?_, scalarCmp_eq hl hu ?_, scalarCmp_eq hl hu ?_,
      scalarCmp_eq hl hu ?_⟩
    all_goals simp [BitVec.slt, BitVec.ult, BitVec.sle, BitVec.ule]
  · simp only [exec, execPand, execPor, execPxor, ← bool_and_word, ← bool_or_word, ← bool_xor_word, ← Core.reg_of_isPred hA,
      ← Core.reg_of_isPred hB]
    exact ⟨scalarPred_eq hD hA hB hz hu rfl, scalarPred_eq hD hA hB hz hu rfl, scalarPred_eq hD hA hB hz hu rfl⟩

/-! ## What a scalar instruction leaves unchanged -/

@[simp] theorem Core.setReg_mode (k : Core) (d : Nat) (v : W64) : (k.setReg d v).mode = k.mode := by
  unfold Core.setReg
  split_ifs <;> rfl

@[simp] theorem Core.setReg_pc (k : Core) (d : Nat) (v : W64) : (k.setReg d v).pc = k.pc := by
  unfold Core.setReg
  split_ifs <;> rfl

@[simp] theorem Core.setReg_tag (k : Core) (d : Nat) (v : W64) : (k.setReg d v).tag = k.tag := by
  unfold Core.setReg
  split_ifs <;> rfl

@[simp] theorem Core.setReg_treg (k : Core) (d : Nat) (v : W64) : (k.setReg d v).treg = k.treg := by
  unfold Core.setReg
  split_ifs <;> rfl

@[simp] theorem Core.setReg_ieeeStat (k : Core) (d : Nat) (v : W64) : (k.setReg d v).ieeeStat = k.ieeeStat := by
  unfold Core.setReg
  split_ifs <;> rfl

@[simp] theorem Core.setReg_frec (k : Core) (d : Nat) (v : W64) : (k.setReg d v).frec = k.frec := by
  unfold Core.setReg
  split_ifs <;> rfl

@[simp] theorem Core.setReg_slots (k : Core) (d : Nat) (v : W64) : (k.setReg d v).slots = k.slots := by
  unfold Core.setReg
  split_ifs <;> rfl

@[simp] theorem Core.setReg_groups (k : Core) (d : Nat) (v : W64) : (k.setReg d v).groups = k.groups := by
  unfold Core.setReg
  split_ifs <;> rfl

@[simp] theorem Core.setReg_scout (k : Core) (d : Nat) (v : W64) : (k.setReg d v).scout = k.scout := by
  unfold Core.setReg
  split_ifs <;> rfl

@[simp] theorem Core.setReg_issued (k : Core) (d : Nat) (v : W64) : (k.setReg d v).issued = k.issued := by
  unfold Core.setReg
  split_ifs <;> rfl

/-- With no Scout under way and a next word, D is written and the PC moves on. -/
theorem wrote_eq {x : Issue} {s : State} (v : W64) (hm : (s.core x.core).mode = .running) (hsc : (s.core x.core).scout.running = false)
    (hpc : (s.core x.core).pc + 1 < 16384) :
    wrote x s v = (s.modCore x.core fun k => k.setReg (fD x.word.toNat) v).modCore x.core
      fun k => { k with pc := (s.core x.core).pc + 1, issued := k.issued + 1 } := by
  have hc : (s.modCore x.core fun k => k.setReg (fD x.word.toNat) v).core x.core = (s.core x.core).setReg (fD x.word.toNat) v := by simp
  unfold wrote
  rw [State.advance_running (by rw [hc, Core.setReg_mode, hm]), if_pos (by rw [hc, Core.setReg_pc]; exact hpc),
    State.goto_noScout _ (by rw [hc, Core.setReg_scout, hsc]), hc, Core.setReg_pc]

/-- The PC and the count of issued instructions are no registers. -/
theorem Core.reg_withPc (k : Core) (pc n r : Nat) : ({ k with pc := pc, issued := n } : Core).reg r = k.reg r := rfl

/-- Settles O9: the instruction changes its core alone, and of it D, the PC and the model's count. -/
theorem scalarFrame : Obligations.ScalarFrame := by
  unfold Obligations.ScalarFrame
  intro x s v hm hsc hpc hd
  rw [wrote_eq v hm hsc hpc]
  refine ⟨rfl, rfl, rfl, rfl, rfl, fun d hne => ?_, fun r hr hne => ?_, ?_⟩
  · rw [State.core_modCore_other _ hne, State.core_modCore_other _ hne]
  · rw [State.core_modCore_same, State.core_modCore_same, Core.reg_withPc, Core.reg_setReg_other v hd hr hne]
  · simp

end Sys2Proof.Machine

/-!
# Control instructions (O8)

HALT moves the PC on, and a Scout that took another path is then cancelled: a bank it claimed is cleared, and its bytes with it. The statement
says that memory stays as it is, Scout or not.
-/

namespace Sys2Proof.Machine

/-- Core 0 runs, and its Scout holds a claim of bank 0, which holds a byte; its window expects another PC than the program's. -/
def scoutingAstray : State :=
  let s := State.reset.modCore 0 fun k =>
    { k with
      mode := .running
      power := { k.power with state := 0 }
      scout := { k.scout with running := true, window := [1], claims := [(1, 0, 0)] } }
  { s with banks := tabSet .lent s.banks (bankKey 0 0) (.scoutHeld 0), mem := [(bankBase 0 0, 1)] }

/-- HALT, offered to core 0. -/
def haltOffered : Issue := ⟨0, BitVec.ofNat 64 (1 * 2 ^ 56), .clean⟩

theorem haltOffered_issues : Issues haltOffered scoutingAstray 0x01 := by
  unfold Issues Sequences
  decide

/-- The cancelled claim clears the bank. -/
theorem halt_scoutingAstray_mem : (nextOr scoutingAstray (exec (.halt haltOffered) scoutingAstray)).mem = [] := by decide

/-- Refutes O8: HALT under a Scout that went another way clears the bank the Scout claimed, so memory does not stay as it is. -/
theorem not_controlInstructions : ¬ Obligations.ControlInstructions := by
  unfold Obligations.ControlInstructions
  intro h
  obtain ⟨t, ht, -, -, hmem⟩ := (h.1 haltOffered scoutingAstray).2.1 haltOffered_issues (by decide) (by decide) (by decide)
  have he := halt_scoutingAstray_mem
  rw [ht, nextOr, hmem] at he
  exact absurd he (by decide)

end Sys2Proof.Machine

/-!
# The scratchpad and descriptors (O10, O11, O12)
-/

namespace Sys2Proof.Machine

/-! ## Windows (08 R199) -/

theorem windowOf_val {off : Nat} (h : off < 0x400000) : (windowOf off).val = off / 0x20000 := by
  rw [windowOf, Fin.val_ofNat, Nat.mod_eq_of_lt (by omega)]

/-- A memory address names one offset of the scratchpad at most. -/
theorem scratchAddr_inj {k : Core} {x y a : Nat} (hx : x < 0x400000) (hy : y < 0x400000) (ha : scratchAddr k x = some a)
    (hb : scratchAddr k y = some a) : x = y := by
  obtain ⟨m, -, hm⟩ := Option.map_eq_some_iff.1 ha
  obtain ⟨n, -, hn⟩ := Option.map_eq_some_iff.1 hb
  rw [bankBase, windowOf_val hx] at hm
  rw [bankBase, windowOf_val hy] at hn
  omega

/-- A byte stored through a window reads back. -/
theorem scratchByte_scratchWrite_inside {k : Core} {bs : List Byte} {m : Memory} {off i : Nat} (hm : tabWf 0 m = true)
    (hi : i < bs.length) (hr : off + bs.length ≤ 0x400000) (ha : (scratchAddr k (off + i)).isSome = true) :
    scratchByte (scratchWrite m k off bs) k (off + i) = bs[i] := by
  induction bs generalizing m off i with
  | nil => exact absurd hi (Nat.not_lt_zero i)
  | cons b bs ih =>
    rw [List.length_cons] at hi hr
    rw [scratchWrite]
    cases i with
    | succ i =>
      have e : off + (i + 1) = off + 1 + i := by omega
      rw [e] at ha ⊢
      refine ih ?_ (by omega) (by omega) ha
      split
      · exact tabWf_tabSet hm
      · exact hm
    | zero =>
      obtain ⟨a, ha⟩ := Option.isSome_iff_exists.1 ha
      have hne (j : Nat) (hj : j < bs.length) : scratchAddr k (off + 1 + j) ≠ some a := fun h => by
        have := scratchAddr_inj (by omega) (by omega) ha h
        omega
      rw [Nat.add_zero] at ha
      show scratchByte _ k off = b
      rw [ha, scratchByte, ha]
      exact (memByte_scratchWrite_outside (tabWf_tabSet hm) hne).trans (tabGet_tabSet_same hm)

@[simp] theorem length_scratchBytes (m : Memory) (k : Core) (off n : Nat) : (scratchBytes m k off n).length = n := by
  induction n generalizing off with
  | zero => rfl
  | succ n ih => rw [scratchBytes, List.length_cons, ih]

theorem getElem_scratchBytes {m : Memory} {k : Core} {off n i : Nat} (h : i < (scratchBytes m k off n).length) :
    (scratchBytes m k off n)[i] = scratchByte m k (off + i) := by
  induction n generalizing off i with
  | zero => exact absurd h (Nat.not_lt_zero i)
  | succ n ih =>
    cases i with
    | zero => rfl
    | succ i =>
      have e : off + (i + 1) = off + 1 + i := by omega
      rw [e]
      exact ih _

/-- Settles O10: the form and the frame are laws of memory; what is stored reads back since no two offsets share an address. -/
theorem scratchpadStore : Obligations.ScratchpadStore := by
  unfold Obligations.ScratchpadStore
  intro m k off bs hm
  refine ⟨scratchWrite_wf hm, fun a ha => memByte_scratchWrite_outside hm ha, fun hr hs => ?_⟩
  refine List.ext_getElem (length_scratchBytes _ _ _ _) fun i _ hi => ?_
  rw [getElem_scratchBytes, scratchByte_scratchWrite_inside hm hi hr (hs i hi)]

/-! ## One area of the scratchpad (06 R149) -/

theorem bool_eq_false_of_not {b : Bool} (h : ¬b = true) : b = false := by simpa using h

section
variable {s : State} {c : CoreId} {a n : Nat} {wr : Bool} {go : Unit → Act}

/-- The checks of one area: range, alignment, ownership, power. -/
theorem checkOperands_area (s : State) (c : CoreId) (a n : Nat) (wr : Bool) :
    s.checkOperands c [] [⟨a, a + n, n, wr⟩] = if 0x400000 < a + n then .fault ⟨2, 2, 0, 0, 0xF⟩
      else if a % n ≠ 0 then .fault ⟨2, 3, 0, 0, 0xF⟩
      else match s.heldAll c [(a, a + n)] with
        | .wait => .wait
        | .no => .fault ⟨2, 5, 0, 0, 0xF⟩
        | .owned => if s.napping c [(a, a + n)] then .wait else .ok := by
  unfold State.checkOperands
  simp [firstFault, allRanges, State.ownFault, descFault] <;> rfl

/-- An access that passes every check is done. -/
theorem scalarAccess_ok (hr : a + n ≤ 0x400000) (ha : a % n = 0) (hh : s.heldAll c [(a, a + n)] = .owned)
    (hn : s.napping c [(a, a + n)] = false) (hb : (s.core c).rangeBusy [(a, a + n)] = false)
    (he : wr = true → (s.core c).epochHolds [(a, a + n)] = false) : s.scalarAccess c a n wr go = go () := by
  have hw : (s.core c).epochHolds (if wr then [(a, a + n)] else []) = false := by
    cases wr with
    | true => exact he rfl
    | false => simp [Core.epochHolds, windowsOf]
  rw [State.scalarAccess, checkOperands_area, if_neg (by omega), if_neg (by simp [ha]), hh]
  simp [hn, Core.blocked, hb, hw]

theorem scalarAccess_range (hr : 0x400000 < a + n) : s.scalarAccess c a n wr go = .fault ⟨2, 2, 0, 0, 0xF⟩ := by
  rw [State.scalarAccess, checkOperands_area, if_pos hr]

theorem scalarAccess_align (hr : a + n ≤ 0x400000) (ha : a % n ≠ 0) : s.scalarAccess c a n wr go = .fault ⟨2, 3, 0, 0, 0xF⟩ := by
  rw [State.scalarAccess, checkOperands_area, if_neg (by omega), if_pos ha]

theorem scalarAccess_notOwned (hr : a + n ≤ 0x400000) (ha : a % n = 0) (hh : s.heldAll c [(a, a + n)] = .no) :
    s.scalarAccess c a n wr go = .fault ⟨2, 5, 0, 0, 0xF⟩ := by
  rw [State.scalarAccess, checkOperands_area, if_neg (by omega), if_neg (by simp [ha]), hh]

end

/-! ## LD and ST (07 R176) -/

section
variable {x : Issue} {s : State}

/-- A load whose registers are ready is its access, which writes D with the value read. -/
theorem execLd_eq (hD : isReg (fD x.word.toNat) = true) (hA : isReg (fA x.word.toNat) = true)
    (hu : s.unready x.core [fD x.word.toNat, fA x.word.toNat] = false) (h : Issues x s 0x29) :
    execLd x s = issue x s 0x29 (fun _ _ => none) fun c w s =>
      s.scalarAccess c (effAddr (s.core c) w (memOffset w)) (memWidth w) false fun _ =>
        .done (s.modCore c fun k => k.setReg (fD w)
          (if bitOf w 37 then BitVec.ofInt 64 (signed (8 * memWidth w) (scratchNat s.mem (s.core c) (effAddr (s.core c) w (memOffset w)) (memWidth w)))
            else BitVec.ofNat 64 (scratchNat s.mem (s.core c) (effAddr (s.core c) w (memOffset w)) (memWidth w)))) := by
  unfold execLd
  rw [issue_of_issues h (require_of_all (by simp [hD, hA])), issue_of_issues h rfl, if_neg (by simp [hu])]

/-- A store whose registers are ready is its access, which writes the low bytes of D. -/
theorem execSt_eq (hD : isReg (fD x.word.toNat) = true) (hA : isReg (fA x.word.toNat) = true)
    (hu : s.unready x.core [fD x.word.toNat, fA x.word.toNat] = false) (hsx : bitOf x.word.toNat 37 = false) (h : Issues x s 0x2A) :
    execSt x s = issue x s 0x2A (fun _ _ => none) fun c w s =>
      s.scalarAccess c (effAddr (s.core c) w (memOffset w)) (memWidth w) true fun _ =>
        .done { s with mem := scratchWrite s.mem (s.core c) (effAddr (s.core c) w (memOffset w)) (leBytes (memWidth w) ((s.core c).regNat (fD w))) } := by
  unfold execSt
  rw [issue_of_issues h (require_of_all (by simp [hD, hA, hsx])), issue_of_issues h rfl, if_neg (by simp [hu])]

/-- A load and a store take the fault of their access. -/
theorem access_faults {f : CoreFault} (hD : isReg (fD x.word.toNat) = true) (hA : isReg (fA x.word.toNat) = true)
    (hu : s.unready x.core [fD x.word.toNat, fA x.word.toNat] = false) (hsx : bitOf x.word.toNat 37 = false)
    (hf : ∀ wr go, s.scalarAccess x.core (effAddr (s.core x.core) x.word.toNat (memOffset x.word.toNat)) (memWidth x.word.toNat) wr go = .fault f) :
    (Issues x s 0x29 → exec (.ld x) s = .next (s.takeFault x.core f)) ∧ (Issues x s 0x2A → exec (.st x) s = .next (s.takeFault x.core f)) := by
  simp only [exec]
  refine ⟨fun h => ?_, fun h => ?_⟩
  · rw [execLd_eq hD hA hu h, issue_fault h rfl (hf _ _)]
  · rw [execSt_eq hD hA hu hsx h, issue_fault h rfl (hf _ _)]

end

/-- Settles O11: one access, done where its checks pass, else the fault of the first check that fails. -/
theorem loadsAndStores : Obligations.LoadsAndStores := by
  unfold Obligations.LoadsAndStores
  refine ⟨fun x s hD hA hu ha hr hh hn hb => ?_, fun x s hD hA hu hsx => ?_⟩
  · simp only [exec]
    refine ⟨fun h hsx => ?_, fun h hsx => ?_, fun h hsx he => ?_⟩
    · rw [execLd_eq hD hA hu h, issue_done h rfl (scalarAccess_ok hr ha hh hn hb (by simp))]
      simp only [hsx]
      rfl
    · rw [execLd_eq hD hA hu h, issue_done h rfl (scalarAccess_ok hr ha hh hn hb (by simp))]
      simp only [hsx]
      rfl
    · rw [execSt_eq hD hA hu hsx h, issue_done h rfl (scalarAccess_ok hr ha hh hn hb fun _ => he)]
      rfl
  · exact ⟨fun hr => access_faults hD hA hu hsx fun _ _ => scalarAccess_range hr,
      fun hr ha => access_faults hD hA hu hsx fun _ _ => scalarAccess_align hr ha,
      fun hr ha hh => access_faults hD hA hu hsx fun _ _ => scalarAccess_notOwned hr ha hh⟩

/-! ## Descriptors (06 R148; 07 R177) -/

/-- The fields of a descriptor lie inside its 256 bits, and what a field keeps inside its width. -/
theorem descField_inside {f : Nat} (h : f < 9) : (descField f).1 + (descField f).2.1 ≤ 256 ∧ (descField f).2.2 ≤ (descField f).2.1
    ∧ 0 < (descField f).2.1 := by
  interval_cases f <;> decide

/-- A number with the w bits from lo on replaced. -/
def replaceBits (d lo w v : Nat) : Nat := d - d / 2 ^ lo % 2 ^ w * 2 ^ lo + v * 2 ^ lo

theorem replaceBits_eq (d lo w v : Nat) : replaceBits d lo w v = d % 2 ^ lo + 2 ^ lo * (v + 2 ^ w * (d / 2 ^ lo / 2 ^ w)) := by
  have e1 : d = d % 2 ^ lo + 2 ^ lo * (d / 2 ^ lo % 2 ^ w) + 2 ^ lo * (2 ^ w * (d / 2 ^ lo / 2 ^ w)) := by
    rw [Nat.add_assoc, ← Nat.mul_add, Nat.mod_add_div, Nat.mod_add_div]
  unfold replaceBits
  rw [Nat.mul_comm (d / 2 ^ lo % 2 ^ w), Nat.mul_comm v, Nat.mul_add]
  omega

theorem replaceBits_div {d lo w v : Nat} : replaceBits d lo w v / 2 ^ lo = v + 2 ^ w * (d / 2 ^ lo / 2 ^ w) := by
  rw [replaceBits_eq, Nat.add_mul_div_left _ _ (Nat.two_pow_pos lo), Nat.div_eq_of_lt (Nat.mod_lt _ (Nat.two_pow_pos lo)), Nat.zero_add]

/-- The bits replaced read as what replaced them. -/
theorem replaceBits_inside {d lo w v : Nat} (hv : v < 2 ^ w) : replaceBits d lo w v / 2 ^ lo % 2 ^ w = v := by
  rw [replaceBits_div, Nat.add_mul_mod_self_left, Nat.mod_eq_of_lt hv]

theorem replaceBits_above {d lo w v : Nat} (hv : v < 2 ^ w) : replaceBits d lo w v / 2 ^ (lo + w) = d / 2 ^ (lo + w) := by
  rw [Nat.pow_add, ← Nat.div_div_eq_div_mul, ← Nat.div_div_eq_div_mul, replaceBits_div, Nat.add_mul_div_left _ _ (Nat.two_pow_pos w),
    Nat.div_eq_of_lt hv, Nat.zero_add]

theorem replaceBits_below {d lo w v : Nat} : replaceBits d lo w v % 2 ^ lo = d % 2 ^ lo := by
  rw [replaceBits_eq, Nat.add_mul_mod_self_left, Nat.mod_mod]

/-- A bit outside the range replaced is as before. -/
theorem bitOf_replaceBits_outside {d lo w v i : Nat} (hv : v < 2 ^ w) (hi : i < lo ∨ lo + w ≤ i) :
    bitOf (replaceBits d lo w v) i = bitOf d i := by
  rw [bitOf_eq_testBit, bitOf_eq_testBit]
  rcases hi with hi | hi
  · have e := congrArg (fun n => Nat.testBit n i) (replaceBits_below (d := d) (lo := lo) (w := w) (v := v))
    simpa only [Nat.testBit_mod_two_pow, hi, decide_true, Bool.true_and] using e
  · have e := congrArg (fun n => Nat.testBit n (i - (lo + w))) (replaceBits_above (d := d) (lo := lo) hv)
    simpa only [Nat.testBit_div_two_pow, Nat.sub_add_cancel hi] using e

theorem replaceBits_lt {d lo w v n : Nat} (hv : v < 2 ^ w) (hd : d < 2 ^ n) (hn : lo + w ≤ n) : replaceBits d lo w v < 2 ^ n := by
  obtain ⟨k, rfl⟩ := Nat.exists_eq_add_of_le hn
  have h := replaceBits_above (d := d) (lo := lo) hv
  rw [Nat.pow_add] at hd ⊢
  have hd' := Nat.div_lt_of_lt_mul hd
  rw [← h] at hd'
  rw [Nat.mul_comm]
  exact (Nat.div_lt_iff_lt_mul (Nat.two_pow_pos _)).1 hd'

theorem setDescField_eq {f : Nat} (d v : Nat) (h : f < 9) :
    setDescField d f v = replaceBits d (descField f).1 (descField f).2.1 (v % 2 ^ (descField f).2.2) := by
  obtain ⟨-, -, hw⟩ := descField_inside h
  have e : (descField f).1 + (descField f).2.1 - 1 - (descField f).1 + 1 = (descField f).2.1 := by omega
  simp only [replaceBits, setDescField, bits, e]

/-- Settles O12: the rows issue as LD and ST do, and a field written is a range of bits replaced. -/
theorem descriptorRows : Obligations.DescriptorRows := by
  unfold Obligations.DescriptorRows
  refine ⟨fun x s => ⟨fun hA hz hu ha hr hh hn hb => ⟨fun h => ?_, fun h he => ?_⟩, fun h hA hz hB hf hl hu => ?_, fun h hD hz hB hf hl hu => ?_⟩,
    fun d f v hd hf => ?_⟩
  · simp only [exec]
    unfold execTld
    rw [issue_done h (require_of_all (by simp [hA, hz])) ((if_neg (by simp [hu])).trans (scalarAccess_ok hr ha hh hn hb (by simp)))]
    rfl
  · simp only [exec]
    unfold execTst
    rw [issue_done h (require_of_all (by simp [hA, hz])) ((if_neg (by simp [hu])).trans (scalarAccess_ok hr ha hh hn hb fun _ => he))]
    rfl
  · simp only [exec]
    unfold execTset
    rw [issue_done h (require_of_all (by simp [hA, hz, hB, hf, hl])) (if_neg (by simp [hu]))]
    rfl
  · simp only [exec]
    unfold execTget
    rw [issue_done h (require_of_all (by simp [hD, hz, hB, hf, hl])) (if_neg (by simp [hu]))]
    rfl
  · obtain ⟨hin, hk, hw⟩ := descField_inside hf
    have hv : v % 2 ^ (descField f).2.2 < 2 ^ (descField f).2.1 :=
      lt_of_lt_of_le (Nat.mod_lt _ (Nat.two_pow_pos _)) (Nat.pow_le_pow_right (by decide) hk)
    have e : (descField f).1 + (descField f).2.1 - 1 - (descField f).1 + 1 = (descField f).2.1 := by omega
    simp only [setDescField_eq d v hf]
    refine ⟨?_, replaceBits_lt hv hd hin, fun i hi => bitOf_replaceBits_outside hv hi⟩
    rw [bits, e, replaceBits_inside hv]

end Sys2Proof.Machine

/-!
# Control registers (O13)
-/

namespace Sys2Proof.Machine

/-! ## CRR and CRW as frames (07 R178) -/

section
variable {x : Issue} {s : State}

/-- CRR of a register that a read does not clear. -/
theorem execCrr_eq (h : Issues x s 0x2B) (hD : isReg (fD x.word.toNat) = true) (hA : fA x.word.toNat = 0)
    (hdef : csrDefined (bits x.word.toNat 39 28) = true) (hz : bits x.word.toNat 27 0 = 0) (hu : s.unready x.core [fD x.word.toNat] = false)
    (hb : (s.core x.core).csrBusy (bits x.word.toNat 39 28) = false) (hr : bits x.word.toNat 39 28 < 0x028 ∨ 0x02D < bits x.word.toNat 39 28) :
    execCrr x s = .next (wrote x s (BitVec.ofNat 64 (s.csrRead x.core (bits x.word.toNat 39 28)))) := by
  have hn : ¬((decide (0x028 ≤ fCSR x.word.toNat) && decide (fCSR x.word.toNat ≤ 0x02D)) = true) := by
    simp only [fCSR, Bool.and_eq_true]
    rintro ⟨h1, h2⟩
    have h1 := of_decide_eq_true h1
    have h2 := of_decide_eq_true h2
    omega
  unfold execCrr
  rw [issue_done h (require_of_all (by simp [hD, hA, hdef, hz, fCSR])) (if_neg (by simp [hu, hb, fCSR]))]
  simp only [hn]
  rfl

/-- A CRW of a row's register whose write is done moves on with what the write leaves. -/
theorem crw_done {row : Nat → Bool} {t : State} (h : Issues x s 0x2C) (hD : fD x.word.toNat = 0) (hA : isReg (fA x.word.toNat) = true)
    (hz : bits x.word.toNat 27 0 = 0) (hu : s.unready x.core [fA x.word.toNat] = false)
    (hb : (s.core x.core).csrBusy (bits x.word.toNat 39 28) = false) (hdef : csrDefined (bits x.word.toNat 39 28) = true)
    (hrow : row (bits x.word.toNat 39 28) = true)
    (hw : s.csrWrite x.core (bits x.word.toNat 39 28) ((s.core x.core).reg (fA x.word.toNat)).toNat = .done t) :
    crw x s row = .next (t.advance x.core) := by
  unfold crw
  rw [issue_done h (require_of_all (by simp [hD, hA, hdef, hz, hrow, fCSR])) ((if_neg (by simp [hu, hb, fCSR])).trans hw)]

end

/-! ## What a write of a control register does -/

section
variable {s : State} {c : CoreId} {r v : Nat}

theorem csrWrite_readOnly (h : r = 0x009 ∨ r = 0x00E ∨ (0x020 ≤ r ∧ r ≤ 0x02D)) : s.csrWrite c r v = .done (countIgnored s c r v) := by
  have hro : csrReadOnly r = true := by
    simp only [csrReadOnly, Bool.or_eq_true, Bool.and_eq_true, beq_iff_eq, decide_eq_true_eq]
    omega
  simp only [State.csrWrite, hro, if_true]

theorem csrWrite_status (h : csrStatus r = true) : s.csrWrite c r v = .done (s.modCore c fun q => q.clearStatus r v) := by
  have hro : csrReadOnly r = false := by
    simp only [csrStatus, Bool.or_eq_true, Bool.and_eq_true, beq_iff_eq, decide_eq_true_eq] at h
    simp only [csrReadOnly, Bool.or_eq_false_iff, Bool.and_eq_false_iff, beq_eq_false_iff_ne, decide_eq_false_iff_not]
    omega
  simp only [State.csrWrite, hro, h, if_true]
  rfl

/-- A register above the status registers is no read-only register and no status register. -/
theorem csr_plain (h : 0x080 ≤ r ∨ (0x010 ≤ r ∧ r ≤ 0x017)) : csrReadOnly r = false ∧ csrStatus r = false := by
  simp only [csrReadOnly, csrStatus, Bool.or_eq_false_iff, Bool.and_eq_false_iff, beq_eq_false_iff_ne, decide_eq_false_iff_not]
  omega

theorem csrWrite_bankOwn (h : 0x180 ≤ r) : s.csrWrite c r v = s.bankOwnWrite c (Fin.ofNat 32 r) v := by
  obtain ⟨hro, hst⟩ := csr_plain (r := r) (by omega)
  simp [State.csrWrite, hro, hst, h]

theorem csrWrite_chan (h : 0x100 ≤ r) (h' : r < 0x180) : s.csrWrite c r v = s.chanWrite c (Fin.ofNat 16 (r / 8)) (r % 8) v := by
  obtain ⟨hro, hst⟩ := csr_plain (r := r) (by omega)
  simp [State.csrWrite, hro, hst, h, Nat.not_le.2 h']

theorem csrWrite_ltd (h : 0x080 ≤ r) (h' : r < 0x100) (he : (s.core c).epoch.opened = false) :
    s.csrWrite c r v = .done (s.modCore c fun q => { q with ltd := q.ltd.set (Fin.ofNat 16 r) (BitVec.ofNat 64 v) }) := by
  obtain ⟨hro, hst⟩ := csr_plain (r := r) (by omega)
  have h1 : ¬0x180 ≤ r := by omega
  simp [State.csrWrite, hro, hst, h, h1, Nat.not_le.2 h', he]

theorem csrWrite_group (h : 0x010 ≤ r) (h' : r ≤ 0x017) :
    s.csrWrite c r v = s.groupWrite c (Fin.ofNat 8 r) v (bitOf v 31) false := by
  obtain ⟨hro, hst⟩ := csr_plain (r := r) (by omega)
  have h1 : ¬0x180 ≤ r := by omega
  have h2 : ¬0x100 ≤ r := by omega
  have h3 : ¬0x080 ≤ r := by omega
  simp [State.csrWrite, hro, hst, h, h1, h2, h3]

theorem csrWrite_tag : s.csrWrite c 0x00D v = .done (s.modCore c fun q => { q with tag := BitVec.ofNat 16 v }) := rfl

theorem csrWrite_ieeeCfg (h : v % 8 ≤ 4) : s.csrWrite c 0x005 v = .done (s.modCore c fun q => { q with ieeeRnd := v % 8 }) := by
  show (if 4 < v % 8 then _ else _) = _
  rw [if_neg (by omega)]

theorem csrWrite_stepno : s.csrWrite c 0x00C v = .done (match (s.core c).part with
    | some n => (s.modCore c fun q => { q with stepno := BitVec.ofNat 32 v }).stepBoundary n
    | none => s.modCore c fun q => { q with stepno := BitVec.ofNat 32 v }) := rfl

theorem csrWrite_shdir (h : bits v 28 22 ≤ 64) :
    s.csrWrite c 0x008 v = .done (s.modCore c fun q => { q with shdirCount := bits v 28 22, shdirBase := bits v 21 7 }) := by
  show (if 64 < bits v 28 22 then _ else _) = _
  rw [if_neg (by omega)]

theorem csrWrite_lntCfg (h1 : -16384 ≤ signed 16 v) (h2 : signed 16 v ≤ -1024) :
    s.csrWrite c 0x003 v = .done (s.modCore c fun q => { q with lntFtz := signed 16 v, lntKv1 := bitOf v 16 }) := by
  show (if (decide (signed 16 v < -16384) || decide (-1024 < signed 16 v)) = true then _ else _) = _
  rw [if_neg (by simp; omega)]

theorem csrWrite_lntCfg_refused (h : signed 16 v < -16384 ∨ -1024 < signed 16 v) :
    s.csrWrite c 0x003 v = .done (countIgnored (s.modCore c fun q => { q with lntStat := q.lntStat ||| 0x2000 }) c 0x003 v) := by
  show (if (decide (signed 16 v < -16384) || decide (-1024 < signed 16 v)) = true then _ else _) = _
  rw [if_pos (by simpa using h)]

theorem csrWrite_scoutCtl (h1 : 1 ≤ bits v 7 1) (h2 : bits v 7 1 ≤ 64) :
    s.csrWrite c 0x007 v = .done ((s.scoutCancel c).modCore c fun q => { q with scoutDepth := bits v 7 1, scoutEn := bitOf v 0 }) := by
  show (if (bits v 7 1 == 0 || decide (64 < bits v 7 1)) = true then _ else _) = _
  rw [if_neg (by simp; omega)]

theorem csrWrite_epochBanks (he : (s.core c).epoch.opened = false) :
    s.csrWrite c 0x00A v = .done (s.modCore c fun q => { q with epoch := { q.epoch with banks := BitVec.ofNat 32 v } }) := by
  show (if (s.core c).epoch.opened = true then _ else _) = _
  rw [if_neg (by simp [he])]

theorem csrWrite_epochSlots (he : (s.core c).epoch.opened = false) :
    s.csrWrite c 0x00B v = .done (s.modCore c fun q => { q with epoch := { q.epoch with slots := BitVec.ofNat 64 v } }) := by
  show (if (s.core c).epoch.opened = true then _ else _) = _
  rw [if_neg (by simp [he])]

/-- The masks of an open epoch are locked. -/
theorem csrWrite_epochMask_locked (hr : r = 0x00A ∨ r = 0x00B) (he : (s.core c).epoch.opened = true) :
    s.csrWrite c r v = .done (countIgnored (s.modCore c fun q => { q with maskIgn := true }) c r v) := by
  rcases hr with rfl | rfl
  · show (if (s.core c).epoch.opened = true then _ else _) = _
    rw [if_pos he]
  · show (if (s.core c).epoch.opened = true then _ else _) = _
    rw [if_pos he]

theorem groupWrite_closed {n : Fin 8} (ho : ((s.core c).groups[n]).opened = false) :
    s.groupWrite c n v false false = .done (s.setGroup c n (((s.core c).groups[n]).fields v)) := by
  unfold State.groupWrite
  simp only [ho]
  rfl

end

/-! ## A channel's control register (09 R224, R225) -/

section
variable {s : State} {c : CoreId} {i : ChanIx} {v : Nat}

/-- The fields a write of an idle channel's control register sets. -/
def Channel.ctlFields (ch : Channel) (v : Nat) : ChanRegs := { ch.regs with ns := bitOf v 10, mode := bits v 5 4, prio := bits v 9 8 }

theorem Channel.write_go {ch : Channel} (ha : ch.state.isActive = false) (hgo : bitOf v 0 = true) :
    ch.write 3 v = (({ ch with regs := ch.ctlFields v }).start (bitOf v 1), false) := by
  simp only [Channel.write, ha, hgo, if_true]
  rfl

/-- A start leaves the registers and queues the channel. -/
theorem Channel.start_regs (ch : Channel) (b : Bool) : (ch.start b).regs = ch.regs := by
  cases b <;> rfl

theorem Channel.start_state (ch : Channel) (b : Bool) : (ch.start b).state = .queued := by
  cases b <;> rfl

theorem chanWrite_go (ha : ((s.core c).chans[i]).state.isActive = false) (hgo : bitOf v 0 = true)
    (he : (s.core c).epochHoldsStart (((s.core c).chans[i]).ctlFields v) = false) :
    s.chanWrite c i 3 v = .done ((s.setChan c i (({ (s.core c).chans[i] with regs := ((s.core c).chans[i]).ctlFields v }).start (bitOf v 1))).freshChan c i) := by
  unfold State.chanWrite
  simp only [Channel.write_go ha hgo, Channel.start_regs, Channel.start_state, he, ha, Bool.and_false, Bool.not_false, Bool.and_true,
    beq_self_eq_true, if_true, Bool.false_eq_true, if_false]

/-- An abort of an active channel that repeats its fields. -/
theorem Channel.write_abort {ch : Channel} (ha : ch.state.isActive = true) (hab : bitOf v 2 = true) (h0 : bitOf v 0 = false)
    (h1 : bitOf v 1 = false) (hns : bitOf v 10 = ch.regs.ns) (hmode : bits v 5 4 = ch.regs.mode) :
    ch.write 3 v = ({ ch with regs := { ch.regs with prio := bits v 9 8 }, aborting := true }, false) := by
  simp [Channel.write, ha, hab, h0, h1, hns, hmode]

theorem chanWrite_abort (ha : ((s.core c).chans[i]).state.isActive = true) (hab : bitOf v 2 = true) (h0 : bitOf v 0 = false)
    (h1 : bitOf v 1 = false) (hns : bitOf v 10 = ((s.core c).chans[i]).regs.ns) (hmode : bits v 5 4 = ((s.core c).chans[i]).regs.mode) :
    s.chanWrite c i 3 v = .done (s.setChan c i { (s.core c).chans[i] with
      regs := { ((s.core c).chans[i]).regs with prio := bits v 9 8 }, aborting := true }) := by
  unfold State.chanWrite
  simp only [Channel.write_abort ha hab h0 h1 hns hmode, ha, Bool.not_true, Bool.and_false, Bool.false_and, Bool.false_eq_true, if_false]

end

/-! ## BANK_OWN (08 R202) -/

section
variable {s : State} {c : CoreId} {b : BankIx} {v : Nat}

/-- A note touches no core. -/
theorem State.notePost_cores (s : State) (q : Option PartId) (reason item data : Nat) : (s.notePost q reason item data).cores = s.cores := by
  obtain ⟨x, h, -⟩ := State.notePost_onlyTells s q reason item data
  rw [h.cores]
  cases q <;> rfl

/-- An ignored write touches no core. -/
theorem countIgnored_cores (s : State) (c : CoreId) (csr v : Nat) : (countIgnored s c csr v).cores = s.cores := by
  unfold countIgnored
  exact State.notePost_cores _ _ _ _ _

/-- ARB and the target of a window's register. -/
def State.bankOwnShows (s : State) (c : CoreId) (b : BankIx) (v : Nat) : Prop :=
  ((s.core c).bankOwn[b]).arb = bitOf v 29 ∧ ((s.core c).bankOwn[b]).target = bits v 27 22

/-- The register reads alike in states with the same cores. -/
theorem State.bankOwnShows_of_cores {s t : State} (h : s.bankOwnShows c b v) (e : t.cores = s.cores) : t.bankOwnShows c b v := by
  simpa only [State.bankOwnShows, State.core, e] using h

theorem State.countRefusal_cores (s : State) (c : CoreId) (code : Nat) : (s.countRefusal c code).cores = s.cores := by
  unfold State.countRefusal bumpOf
  split
  · split <;> rfl
  · rfl

/-- A hand-over that ends at the program's register leaves ARB and the target. -/
theorem State.giveEnd_bankOwnShows {s : State} {code : Nat} (h : s.bankOwnShows c b v) : (s.giveEnd c b .go code).bankOwnShows c b v := by
  have h' := State.bankOwnShows_of_cores h (s.countRefusal_cores c code)
  have hb : (Fin.ofNat 32 b.val : BankIx) = b := Fin.ext (Nat.mod_eq_of_lt b.isLt)
  unfold State.giveEnd
  simp only [b.isLt, if_true, hb]
  simpa [State.setOutc, State.bankOwnShows] using h'

/-- The register with the fields of a write taken, before a hand-over starts. -/
def State.bankOwnTaken (s : State) (c : CoreId) (b : BankIx) (v : Nat) : State :=
  let k := s.core c
  let r := k.bankOwn[b]
  let cur := s.bankOwnWord c b
  let ro := bits v 39 32 != bits cur 39 32 || bits v 21 6 != bits cur 21 6
  let r := { r with
    collide := r.collide && !bitOf v 31
    wrIgn := ro || (r.wrIgn && !bitOf v 30)
    arb := bitOf v 29
    target := bits v 27 22 }
  let s1 := s.setCore c { k with bankOwn := k.bankOwn.set b r }
  if ro then countIgnored s1 c (0x180 + b.val) v else s1

theorem State.bankOwnTaken_shows (s : State) : (s.bankOwnTaken c b v).bankOwnShows c b v ∧ (s.bankOwnTaken c b v).mem = s.mem := by
  unfold State.bankOwnTaken
  dsimp only
  split
  · exact ⟨State.bankOwnShows_of_cores (by simp [State.bankOwnShows]) (countIgnored_cores _ _ _ _), by simp⟩
  · simp [State.bankOwnShows]

theorem bankOwnWrite_done {t : State} (h : s.bankOwnWrite c b v = .done t) : t.bankOwnShows c b v ∧ t.mem = s.mem := by
  obtain ⟨hs, hm⟩ := s.bankOwnTaken_shows (c := c) (b := b) (v := v)
  change (if !bitOf v 28 then Act.done (s.bankOwnTaken c b v)
    else if (s.core c).epoch.opened then .stall
    else match (s.bankOwnTaken c b v).giveLocal c b (bits v 27 22) with
      | some code => .done ((s.bankOwnTaken c b v).giveEnd c b .go code)
      | none =>
        match (s.core c).windows[b] with
        | some m => .done { s.bankOwnTaken c b v with handovers := (s.bankOwnTaken c b v).handovers ++
            [⟨m, b, some c, Fin.ofNat 64 (bits v 27 22), .go, false, false, (s.core c).pc, (s.core c).issued, (s.core c).chansIn b⟩] }
        | none => .done (s.bankOwnTaken c b v)) = _ at h
  generalize s.bankOwnTaken c b v = u at hs hm h
  split at h
  · cases h
    exact ⟨hs, hm⟩
  split at h
  · cases h
  split at h
  · cases h
    exact ⟨State.giveEnd_bankOwnShows hs, by simpa using hm⟩
  split at h
  · cases h
    exact ⟨State.bankOwnShows_of_cores hs rfl, hm⟩
  · cases h
    exact ⟨hs, hm⟩

/-- A write of BANK_OWN waits or is done. -/
theorem bankOwnWrite_cases (h : s.bankOwnWrite c b v ≠ .stall) : ∃ t, s.bankOwnWrite c b v = .done t := by
  revert h
  unfold State.bankOwnWrite
  dsimp only
  repeat' split
  all_goals simp

end

/-! ## The obligation -/

/-- The channel and the register of a channel register's number. -/
theorem chanRegister (i : ChanIx) :
    (Fin.ofNat 16 ((0x100 + 8 * i.val + 3) / 8) : ChanIx) = i ∧ (0x100 + 8 * i.val + 3) % 8 = 3 ∧ 0x100 ≤ 0x100 + 8 * i.val + 3
      ∧ 0x100 + 8 * i.val + 3 < 0x180 ∧ csrDefined (0x100 + 8 * i.val + 3) = true
      ∧ (0x100 ≤ 0x100 + 8 * i.val + 3 && 0x100 + 8 * i.val + 3 < 0x180 && (0x100 + 8 * i.val + 3) % 8 == 3) = true := by
  revert i
  decide

theorem bankRegister (b : BankIx) : (Fin.ofNat 32 (0x180 + b.val) : BankIx) = b ∧ csrDefined (0x180 + b.val) = true := by
  revert b
  decide

theorem groupRegister (n : Fin 8) : (Fin.ofNat 8 (0x010 + n.val) : Fin 8) = n ∧ csrDefined (0x010 + n.val) = true := by
  revert n
  decide

theorem csrDefined_of_status {r : Nat} (h : csrStatus r = true) : csrDefined r = true := by
  simp only [csrStatus, Bool.or_eq_true, Bool.and_eq_true, beq_iff_eq, decide_eq_true_eq] at h
  simp only [csrDefined, Bool.or_eq_true, Bool.and_eq_true, decide_eq_true_eq]
  omega

theorem csrDefined_of_readOnly {r : Nat} (h : r = 0x009 ∨ r = 0x00E ∨ (0x020 ≤ r ∧ r ≤ 0x02D)) : csrDefined r = true := by
  simp only [csrDefined, Bool.or_eq_true, Bool.and_eq_true, decide_eq_true_eq]
  omega

theorem csrDefined_ltd {r : Nat} (h : 0x080 ≤ r) (h' : r ≤ 0x08F) : csrDefined r = true := by
  simp only [csrDefined, Bool.or_eq_true, Bool.and_eq_true, decide_eq_true_eq]
  omega

/-- Settles O13: CRR and CRW as frames, and the write of each register by its own lemma. -/
theorem controlRegisterAccess : Obligations.ControlRegisterAccess := by
  unfold Obligations.ControlRegisterAccess
  refine ⟨fun x s => ⟨fun h hD hA hdef hz hu hb hr => execCrr_eq h hD hA hdef hz hu hb hr, fun h hD hA hz hu hb =>
    ⟨fun hr => ?_, fun hr => ?_, fun hr hv => ?_, fun h1 h2 he => ?_, fun hr hp => ?_, fun n hr hp => ?_, fun hr hv => ?_, fun hr h1 h2 => ?_,
      fun hr hv => ?_, fun hr h1 h2 => ?_⟩⟩, fun x s h hD hA hz hu hb => ⟨fun hr he => ?_, fun hr he => ?_, fun hr he => ?_, fun hr => ?_,
    fun n hr ho hv => ?_, fun b hr hw => ?_, fun i hr ha hgo hres he => ?_, fun i hr ha hgo hres he => ?_,
    fun i hr ha hab h0 h1 hns hmode => ?_⟩⟩
  all_goals simp only [exec]
  · exact crw_done h hD hA hz hu hb (csrDefined_of_readOnly hr) rfl (csrWrite_readOnly hr)
  · exact crw_done h hD hA hz hu hb (by rw [hr]; rfl) rfl (by rw [hr]; exact csrWrite_tag)
  · exact crw_done h hD hA hz hu hb (by rw [hr]; rfl) rfl (by rw [hr]; exact csrWrite_ieeeCfg hv)
  · exact crw_done h hD hA hz hu hb (csrDefined_ltd h1 h2) rfl (csrWrite_ltd h1 (by omega) he)
  · exact crw_done h hD hA hz hu hb (by rw [hr]; rfl) (by rw [hr]; rfl) (by rw [hr, csrWrite_stepno, hp])
  · exact crw_done h hD hA hz hu hb (by rw [hr]; rfl) (by rw [hr]; rfl) (by rw [hr, csrWrite_stepno, hp])
  · exact crw_done h hD hA hz hu hb (by rw [hr]; rfl) (by rw [hr]; rfl) (by rw [hr]; exact csrWrite_shdir hv)
  · exact crw_done h hD hA hz hu hb (by rw [hr]; rfl) (by rw [hr]; rfl) (by rw [hr]; exact csrWrite_lntCfg h1 h2)
  · exact crw_done h hD hA hz hu hb (by rw [hr]; rfl) (by rw [hr]; rfl) (by rw [hr]; exact csrWrite_lntCfg_refused hv)
  · exact crw_done h hD hA hz hu hb (by rw [hr]; rfl) (by rw [hr]; rfl) (by rw [hr]; exact csrWrite_scoutCtl h1 h2)
  · exact crw_done h hD hA hz hu hb (by rw [hr]; rfl) (by rw [hr]; rfl) (by rw [hr]; exact csrWrite_epochBanks he)
  · exact crw_done h hD hA hz hu hb (by rw [hr]; rfl) (by rw [hr]; rfl) (by rw [hr]; exact csrWrite_epochSlots he)
  · exact crw_done h hD hA hz hu hb (by rcases hr with hr | hr <;> rw [hr] <;> rfl) (by rcases hr with hr | hr <;> rw [hr] <;> rfl)
      (csrWrite_epochMask_locked hr he)
  · exact crw_done h hD hA hz hu hb (csrDefined_of_status hr) (by simp [hr]) (csrWrite_status hr)
  · obtain ⟨hn, hdef⟩ := groupRegister n
    refine crw_done h hD hA hz hu hb (by rw [hr, hdef]) (by rw [hr]; simp; omega) ?_
    rw [csrWrite_group (by omega) (by omega), hr, hn, hv, groupWrite_closed ho]
  · obtain ⟨hn, hdef⟩ := bankRegister b
    obtain ⟨t, ht⟩ := bankOwnWrite_cases hw
    obtain ⟨⟨harb, htgt⟩, hm⟩ := bankOwnWrite_done ht
    refine ⟨t, crw_done h hD hA hz hu hb (by rw [hr, hdef]) (by rw [hr]; simp) ?_, ht, harb, htgt, hm⟩
    rw [csrWrite_bankOwn (by omega), hr, hn, ht]
  · obtain ⟨hi, h3, hlo, hhi, hdef, hrow⟩ := chanRegister i
    refine crw_done h hD hA hz hu hb (by rw [hr, hdef]) (by rw [hr]; exact hrow) ?_
    rw [hr, csrWrite_chan hlo hhi, hi, h3, chanWrite_go ha hgo he, hres]
    rfl
  · obtain ⟨hi, h3, hlo, hhi, hdef, hrow⟩ := chanRegister i
    refine crw_done h hD hA hz hu hb (by rw [hr, hdef]) (by rw [hr]; exact hrow) ?_
    rw [hr, csrWrite_chan hlo hhi, hi, h3, chanWrite_go ha hgo he, hres]
    rfl
  · obtain ⟨hi, h3, hlo, hhi, hdef, hrow⟩ := chanRegister i
    refine crw_done h hD hA hz hu hb (by rw [hr, hdef]) (by rw [hr]; exact hrow) ?_
    rw [hr, csrWrite_chan hlo hhi, hi, h3, chanWrite_abort ha hab h0 h1 hns hmode]

end Sys2Proof.Machine

/-!
# Accumulation groups and the Hearth (O14, O15)
-/

namespace Sys2Proof.Machine

/-! ## Slots under a fold over slots -/

section
variable {c : CoreId} {f : State → SlotIx → State} {g : SlotIx → HSlot → HSlot}

/-- A fold that changes one slot at a time changes each slot of its list once. -/
theorem slots_foldl (hs : ∀ s h, ((f s h).core c).slots[h] = g h ((s.core c).slots[h]))
    (ho : ∀ s h h', h' ≠ h → ((f s h).core c).slots[h'] = (s.core c).slots[h']) {l : List SlotIx} (hl : l.Nodup) (s : State) (h : SlotIx) :
    ((l.foldl f s).core c).slots[h] = if h ∈ l then g h ((s.core c).slots[h]) else (s.core c).slots[h] := by
  induction l generalizing s with
  | nil => rfl
  | cons x xs ih =>
    obtain ⟨hx, hxs⟩ := List.nodup_cons.1 hl
    rw [List.foldl_cons, ih hxs]
    by_cases e : h = x
    · subst e
      rw [if_neg hx, if_pos (List.mem_cons_self), hs]
    · simp only [List.mem_cons, e, false_or, ho s x h e]

theorem groups_foldl (hg : ∀ s h, ((f s h).core c).groups = (s.core c).groups) (l : List SlotIx) (s : State) :
    ((l.foldl f s).core c).groups = (s.core c).groups := by
  induction l generalizing s with
  | nil => rfl
  | cons x xs ih => rw [List.foldl_cons, ih, hg]

end

@[simp] theorem Core.slots_modSlot_same (k : Core) (h : SlotIx) (f : HSlot → HSlot) : (k.modSlot h f).slots[h] = f (k.slots[h]) := by
  simp [Core.modSlot]

theorem Core.slots_modSlot_other (k : Core) {h h' : SlotIx} (hne : h' ≠ h) (f : HSlot → HSlot) : (k.modSlot h f).slots[h'] = k.slots[h'] := by
  have e : h.val ≠ h'.val := fun e => hne (Fin.ext e.symm)
  simp [Core.modSlot, e]

@[simp] theorem Core.groups_modSlot (k : Core) (h : SlotIx) (f : HSlot → HSlot) : (k.modSlot h f).groups = k.groups := rfl

/-- What clearing does to the marks of a slot. -/
def HSlot.cleared (x : HSlot) : HSlot := { x with clearing := true, sat := false, nf := false, nfPos := 0 }

theorem State.clearSlot_core (s : State) (c : CoreId) (h : SlotIx) : (s.clearSlot c h).core c = (s.core c).modSlot h HSlot.cleared :=
  State.core_modCore_same _ c _

@[simp] theorem Core.groups_setGroup (s : State) (c : CoreId) (n : Fin 8) (g : Group) :
    ((s.setGroup c n g).core c).groups = (s.core c).groups.set n g := by
  rw [State.setGroup, State.core_modCore_same]

@[simp] theorem Core.slots_setGroup (s : State) (c : CoreId) (n : Fin 8) (g : Group) : ((s.setGroup c n g).core c).slots = (s.core c).slots := by
  rw [State.setGroup, State.core_modCore_same]

theorem Group.mem_slotIxs {g : Group} {h : SlotIx} : h ∈ g.slotIxs ↔ g.covers h.val = true := by
  simp [Group.slotIxs]

theorem Group.nodup_slotIxs (g : Group) : g.slotIxs.Nodup := (List.nodup_finRange 64).filter _

/-! ## An accepted open (03 R80) -/

/-- The anchor a slot of a group takes: the low slot of a splint stands 16 below. -/
def Group.slotAnchor (g : Group) (splint : Bool) (h : SlotIx) : Int := if splint && h.val == g.base + 1 then g.anchor - 16 else g.anchor

/-- What an open leaves of a slot of the group. -/
def Group.slotOpened (g : Group) (n : Fin 8) (splint : Bool) (h : SlotIx) (x : HSlot) : HSlot :=
  let y := { x with anchor := g.slotAnchor splint h, group := some n }
  if g.init then y.cleared else y

/-- The step of an accepted open at one slot. -/
def State.openSlot (c : CoreId) (n : Fin 8) (g : Group) (splint : Bool) (s : State) (h : SlotIx) : State :=
  let s := s.modCore c fun k => k.modSlot h fun x => { x with anchor := g.slotAnchor splint h, group := some n }
  if g.init then s.clearSlot c h else s

section
variable {c : CoreId} {n : Fin 8} {g : Group} {splint : Bool}

theorem State.acceptOpen_eq (s : State) : s.acceptOpen c n g splint
    = g.slotIxs.foldl (State.openSlot c n g splint) (s.setGroup c n { g with opened := true, fill := false, swapPend := false, splint := splint }) :=
  rfl

theorem State.slots_openSlot_same (s : State) (h : SlotIx) :
    ((s.openSlot c n g splint h).core c).slots[h] = g.slotOpened n splint h ((s.core c).slots[h]) := by
  unfold State.openSlot Group.slotOpened
  cases g.init
  · simp only [Bool.false_eq_true, if_false, State.core_modCore_same, Core.slots_modSlot_same]
  · simp only [if_true, State.clearSlot_core, State.core_modCore_same, Core.slots_modSlot_same]

theorem State.slots_openSlot_other (s : State) {h h' : SlotIx} (hne : h' ≠ h) :
    ((s.openSlot c n g splint h).core c).slots[h'] = (s.core c).slots[h'] := by
  unfold State.openSlot
  cases g.init
  · simp only [Bool.false_eq_true, if_false, State.core_modCore_same, Core.slots_modSlot_other _ hne]
  · simp only [if_true, State.clearSlot_core, State.core_modCore_same, Core.slots_modSlot_other _ hne]

theorem State.groups_openSlot (s : State) (h : SlotIx) : ((s.openSlot c n g splint h).core c).groups = (s.core c).groups := by
  unfold State.openSlot
  cases g.init
  · simp
  · simp [State.clearSlot_core]

theorem State.groups_acceptOpen (s : State) :
    ((s.acceptOpen c n g splint).core c).groups[n] = { g with opened := true, fill := false, swapPend := false, splint := splint } := by
  rw [State.acceptOpen_eq, groups_foldl State.groups_openSlot, Core.groups_setGroup]
  simp

theorem State.slots_acceptOpen (s : State) (h : SlotIx) : ((s.acceptOpen c n g splint).core c).slots[h]
    = if g.covers h.val = true then g.slotOpened n splint h ((s.core c).slots[h]) else (s.core c).slots[h] := by
  rw [State.acceptOpen_eq, slots_foldl State.slots_openSlot_same (fun s h h' => State.slots_openSlot_other s) g.nodup_slotIxs]
  simp only [Group.mem_slotIxs, Core.slots_setGroup]

end

/-! ## What the writes of a group do (07 R183) -/

section
variable {s : State} {c : CoreId} {n : Fin 8} {v : Nat} {splint : Bool}

theorem groupWrite_refused (ho : ((s.core c).groups[n]).opened = false)
    (h : (((s.core c).groups[n]).fields v).badConfig splint = true ∨ (s.core c).openOverlaps (((s.core c).groups[n]).fields v) = true) :
    s.groupWrite c n v true splint = .done (s.setGroup c n
      { ((s.core c).groups[n]).fields v with
        badcfg := (((s.core c).groups[n]).fields v).badcfg || (((s.core c).groups[n]).fields v).badConfig splint
        overlap := (((s.core c).groups[n]).fields v).overlap || (s.core c).openOverlaps (((s.core c).groups[n]).fields v) }) := by
  unfold State.groupWrite
  simp only [ho, Bool.false_eq_true, if_false, Bool.not_true]
  exact if_pos (by simpa only [Bool.or_eq_true] using h)

theorem groupWrite_accepted (ho : ((s.core c).groups[n]).opened = false)
    (hb : (((s.core c).groups[n]).fields v).badConfig splint = false) (hv : (s.core c).openOverlaps (((s.core c).groups[n]).fields v) = false)
    (hf : ((((s.core c).groups[n]).fields v).slotIxs.any fun h =>
      (s.core c).slotBusy h.val || ((((s.core c).groups[n]).fields v).init && (s.core c).epochHoldsSlot h.val)) = false) :
    s.groupWrite c n v true splint = .done (s.acceptOpen c n (((s.core c).groups[n]).fields v) splint) := by
  unfold State.groupWrite
  simp only [ho, Bool.false_eq_true, if_false, Bool.not_true, hb, hv, Bool.or_self]
  exact if_neg (by rw [hf]; exact Bool.false_ne_true)

/-- The step of a close at one slot: it belongs to no group. -/
def State.leaveGroup (c : CoreId) (s : State) (h : SlotIx) : State :=
  s.modCore c fun k => k.modSlot h fun x => { x with group := none }

/-- What a close leaves (03 R79). -/
def State.closeGroup (s : State) (c : CoreId) (n : Fin 8) : State :=
  ((s.core c).groups[n]).slotIxs.foldl (State.leaveGroup c) (s.setGroup c n { (s.core c).groups[n] with opened := false, splint := false })

theorem groupWrite_close (ho : ((s.core c).groups[n]).opened = true) (hsp : ((s.core c).groups[n]).swapPend = false)
    (hv : ((s.core c).groups[n]).fields v = (s.core c).groups[n])
    (hi : (((s.core c).groups[n]).slotIxs.any fun h => (s.core c).inflight.any fun i => i.slots.contains h.val) = false) :
    s.groupWrite c n v false splint = .done (s.closeGroup c n) := by
  unfold State.groupWrite
  simp only [ho, hv, if_true, bne_self_eq_false, Bool.false_eq_true, if_false, hsp, Bool.false_or, hi, State.closeGroup]
  rfl

theorem State.slots_leaveGroup_same (s : State) (h : SlotIx) :
    ((s.leaveGroup c h).core c).slots[h] = { (s.core c).slots[h] with group := none } := by
  rw [State.leaveGroup, State.core_modCore_same, Core.slots_modSlot_same]

theorem State.slots_leaveGroup_other (s : State) {h h' : SlotIx} (hne : h' ≠ h) : ((s.leaveGroup c h).core c).slots[h'] = (s.core c).slots[h'] := by
  rw [State.leaveGroup, State.core_modCore_same, Core.slots_modSlot_other _ hne]

theorem State.groups_leaveGroup (s : State) (h : SlotIx) : ((s.leaveGroup c h).core c).groups = (s.core c).groups := by
  rw [State.leaveGroup, State.core_modCore_same, Core.groups_modSlot]

theorem leaveGroups_mem (l : List SlotIx) (s : State) : (l.foldl (State.leaveGroup c) s).mem = s.mem :=
  foldl_mem (f := State.leaveGroup c) (fun _ _ => rfl) l s

end

/-- AGCLOSE closes its group and frees the group's slots. -/
theorem execAgclose_closed {x : Issue} {s : State} {n : Fin 8} (h : Issues x s 0x48) (h1 : bits x.word.toNat 51 28 = 0)
    (h0 : bits x.word.toNat 24 0 = 0) (hn : n = Fin.ofNat 8 (bits x.word.toNat 27 25))
    (ho : ((s.core x.core).groups[n]).opened = true)
    (hsp : ((s.core x.core).groups[n]).swapPend = false)
    (hv : ((s.core x.core).groups[n]).fields ((s.core x.core).groups[n]).cfg = (s.core x.core).groups[n])
    (hi : (((s.core x.core).groups[n]).slotIxs.any fun h => (s.core x.core).inflight.any fun i => i.slots.contains h.val) = false) :
    ∃ t : State, execAgclose x s = .next (t.advance x.core) ∧ ((t.core x.core).groups[n]).opened = false ∧ t.mem = s.mem
      ∧ ∀ h : SlotIx, ((s.core x.core).groups[n]).covers h.val = true → ((t.core x.core).slots[h]).group = none := by
  subst hn
  refine ⟨s.closeGroup x.core (Fin.ofNat 8 (bits x.word.toNat 27 25)), ?_, ?_, leaveGroups_mem _ _, fun h hc => ?_⟩
  · unfold execAgclose
    rw [issue_done h (require_of_all (by simp [h1, h0])) (groupWrite_close ho hsp hv hi)]
  · rw [State.closeGroup, groups_foldl State.groups_leaveGroup, Core.groups_setGroup]
    simp
  · rw [State.closeGroup, slots_foldl (g := fun _ y => { y with group := none }) State.slots_leaveGroup_same
      (fun s h h' => State.slots_leaveGroup_other s) (Group.nodup_slotIxs _),
      if_pos (Group.mem_slotIxs.2 hc)]

/-! ## Commands that end a swap and a clearing (03 R82, R86) -/

theorem hearthAddr_mono {c : CoreId} {slot i n : Nat} (hi : i < n) : hearthAddr c slot i + 8 ≤ hearthAddr c slot n := by
  unfold hearthAddr
  omega

theorem hearthGet_clearSlot (s : State) (c : CoreId) (h : SlotIx) {i : Nat} (hi : i < 1024) : hearthGet (s.clearSlot c h).mem c h.val i = ⟨0, 0⟩ :=
  hearthGet_eq_zero fun j hj => memByte_clearMem (by unfold hearthAddr; omega) (by have := @hearthAddr_mono c h.val _ _ hi; omega)

theorem swapWaits_free {k : Core} {g : Group} {d : Nat} (hr : (k.inflight.any fun i => i.readSlots.contains d) = false)
    (hc : (k.creds.any fun q => q.mode == 0 && q.slot == d) = false) (hb : g.init = true → k.slotBusy d = false) : k.swapWaits g d = false := by
  unfold Core.swapWaits
  rw [hr, hc]
  cases hg : g.init
  · rfl
  · simp [hb hg]

theorem hearthGet_clearSlot_ofNat (s : State) (c : CoreId) {d i : Nat} (hd : d < 64) (hi : i < 1024) :
    hearthGet (s.clearSlot c (Fin.ofNat 64 d)).mem c d i = ⟨0, 0⟩ := by
  have e : (Fin.ofNat 64 d).val = d := Nat.mod_eq_of_lt hd
  have h := hearthGet_clearSlot s c (Fin.ofNat 64 d) hi
  rwa [e] at h

@[simp] theorem Core.groups_clearSlot (s : State) (c : CoreId) (h : SlotIx) : ((s.clearSlot c h).core c).groups = (s.core c).groups := by
  rw [State.clearSlot_core, Core.groups_modSlot]

/-- A group after its swap: the other slot fills. -/
def Group.swapped (g : Group) : Group := { g with fill := !g.fill, swapPend := false }

/-- What the end of a swap leaves, with the slot the drain now stands on (03 R82). -/
def State.swapGroup (s : State) (c : CoreId) (n : Fin 8) (d : Nat) (init : Bool) : State :=
  let t := s.setGroup c n ((s.core c).groups[n]).swapped
  if init then t.clearSlot c (Fin.ofNat 64 d) else t

section
variable {s : State} {c : CoreId} {n : Fin 8} {d : Nat}

theorem State.groups_swapGroup (init : Bool) : ((s.swapGroup c n d init).core c).groups[n] = ((s.core c).groups[n]).swapped := by
  cases init <;> simp [State.swapGroup]

theorem State.swapGroup_mem : (s.swapGroup c n d false).mem = s.mem := rfl

theorem State.hearthGet_swapGroup {i : Nat} (hd : d < 64) (hi : i < 1024) : hearthGet (s.swapGroup c n d true).mem c d i = ⟨0, 0⟩ :=
  hearthGet_clearSlot_ofNat _ c hd hi

end

theorem execSwapComplete_eq {s : State} {c : CoreId} {base : SlotIx} {n : Fin 8}
    (hn : (s.core c).groupBased base.val (fun g => g.mode == 1 && g.swapPend) = some n)
    (hw : (s.core c).swapWaits ((s.core c).groups[n]) ((s.core c).drainSlot base.val) = false) :
    execSwapComplete c base s = .next (s.swapGroup c n ((s.core c).drainSlot base.val) ((s.core c).groups[n]).init) := by
  unfold execSwapComplete
  simp only [hn, hw, Bool.false_eq_true, if_false]
  rfl

/-- The end of a clearing at one slot: its mark goes where the slot is of the group. -/
def State.endClearing (c : CoreId) (g : Fin 16) (s : State) (h : SlotIx) : State :=
  if h.val / 4 == g.val then s.modCore c fun k => k.modSlot h fun x => { x with clearing := false } else s

theorem State.slots_endClearing_same {c : CoreId} {g : Fin 16} (s : State) (h : SlotIx) : ((s.endClearing c g h).core c).slots[h]
    = if h.val / 4 = g.val then { (s.core c).slots[h] with clearing := false } else (s.core c).slots[h] := by
  unfold State.endClearing
  by_cases e : h.val / 4 = g.val
  · rw [if_pos (beq_iff_eq.2 e), if_pos e, State.core_modCore_same, Core.slots_modSlot_same]
  · rw [if_neg (by simpa using e), if_neg e]

theorem State.slots_endClearing_other {c : CoreId} {g : Fin 16} (s : State) {h h' : SlotIx} (hne : h' ≠ h) :
    ((s.endClearing c g h).core c).slots[h'] = (s.core c).slots[h'] := by
  unfold State.endClearing
  by_cases e : h.val / 4 = g.val
  · rw [if_pos (beq_iff_eq.2 e), State.core_modCore_same, Core.slots_modSlot_other _ hne]
  · rw [if_neg (by simpa using e)]

theorem State.endClearing_mem {c : CoreId} {g : Fin 16} (s : State) (h : SlotIx) : (s.endClearing c g h).mem = s.mem := by
  unfold State.endClearing
  split <;> rfl

theorem slots_hearthClearDone (s : State) (c : CoreId) (g : Fin 16) (h : SlotIx) :
    (((List.finRange 64).foldl (State.endClearing c g) s).core c).slots[h]
      = if h.val / 4 = g.val then { (s.core c).slots[h] with clearing := false } else (s.core c).slots[h] := by
  rw [slots_foldl (g := fun h y => if h.val / 4 = g.val then { y with clearing := false } else y) State.slots_endClearing_same
    (fun s h h' => State.slots_endClearing_other s) (List.nodup_finRange 64),
    if_pos (List.mem_finRange h)]

/-- Settles O14: the rows of groups by the write they make, and the two ends by their folds. -/
theorem groupRows : Obligations.GroupRows := by
  unfold Obligations.GroupRows
  refine ⟨fun x s h hD hA hB hC hz hu ho => ⟨fun hbad => ?_, fun hb hv hf => ?_⟩, fun s c n g splint => ⟨State.groups_acceptOpen s, fun h hc => ?_,
    fun h hc => ?_⟩, fun x s => ⟨fun h h1 h0 ho hsp hv hi => ?_, fun h h1 h0 ht hsw hb he => ?_, fun n h h1 h0 hn hsp he => ?_,
    fun n base hn hr hcr hb => ?_, fun g => ⟨_, rfl, foldl_mem (fun s h => State.endClearing_mem s h) _ _, fun h => slots_hearthClearDone s x.core g h⟩⟩⟩
  · simp only [exec, execAgopen]
    rw [issue_done h (require_of_all (by simp [hD, hA, hB, hC, hz])) ((if_neg (by simp [hu])).trans (groupWrite_refused ho hbad))]
  · simp only [exec, execAgopen]
    rw [issue_done h (require_of_all (by simp [hD, hA, hB, hC, hz])) ((if_neg (by simp [hu])).trans (groupWrite_accepted ho hb hv hf))]
  · rw [State.slots_acceptOpen, if_pos hc]
    cases hi : g.init <;> simp [Group.slotOpened, Group.slotAnchor, HSlot.cleared, hi]
  · rw [State.slots_acceptOpen, if_neg (by simp [hc])]
  · simp only [exec]
    exact execAgclose_closed h h1 h0 rfl ho hsp hv hi
  · simp only [exec, execHclr]
    rw [issue_done h (require_of_all (by simp [h1, h0])) ((if_neg (by simp [ht])).trans (if_neg (by simp [hsw, hb, he])))]
  · simp only [exec, execSwap]
    rw [issue_done h (require_of_all (by simp [h1, h0])) (by simp only [hn]; exact if_neg (by rw [hsp, he]; simp))]
  · simp only [exec]
    refine ⟨_, execSwapComplete_eq hn (swapWaits_free hr hcr hb), State.groups_swapGroup _, fun hi => ?_, fun hi hd i hlt => ?_⟩
    · rw [hi, State.swapGroup_mem]
    · rw [hi, State.hearthGet_swapGroup hd hlt]

/-! ## Elements of the Hearth (03 R68–R70) -/

/-- An element that its word holds whole: V of 48 bits, ST of 2. -/
def HElem.Fits (e : HElem) : Prop := -(2 ^ 47) ≤ e.v ∧ e.v < 2 ^ 47 ∧ e.st < 4

theorem HElem.ofWord_fits (w : Nat) : (HElem.ofWord w).Fits := by
  have h := bits_lt w 49 48
  refine ⟨?_, ?_, h⟩
  · simp only [HElem.ofWord_v, signed]
    omega
  · simp only [HElem.ofWord_v, signed]
    omega

theorem hearthGet_fits (m : Memory) (c : CoreId) (slot i : Nat) : (hearthGet m c slot i).Fits := HElem.ofWord_fits _

theorem HElem.infinity_fits (n : Bool) : (HElem.infinity n).Fits := by
  cases n <;> exact ⟨by decide, by decide, by decide⟩

theorem HElem.nan_fits : HElem.nan.Fits := ⟨by decide, by decide, by decide⟩

theorem HElem.add_fits {e : HElem} (h : e.Fits) (k : Contribution) : (e.add maxV k).1.Fits := by
  cases k with
  | none => exact h
  | fin v cl =>
    simp only [HElem.add]
    split
    case isTrue h2 =>
      obtain ⟨hlo, hhi, hst⟩ := h
      have hm : maxV = 2 ^ 47 - 1 := rfl
      refine ⟨?_, ?_, ?_⟩
      · simp only [clampInt, hm]; omega
      · simp only [clampInt, hm]; omega
      · simp only; split <;> omega
    case isFalse => exact h
  | inf n =>
    simp only [HElem.add]
    split
    case isTrue => exact HElem.infinity_fits n
    case isFalse =>
      split
      case isTrue => exact HElem.nan_fits
      case isFalse => exact h
  | nan =>
    simp only [HElem.add]
    split
    case isTrue => exact h
    case isFalse => exact HElem.nan_fits

theorem passElement_fits {anchor : Int} (ps : List (Nat × Nat)) {e : HElem} (h : e.Fits) (f : AddFlags) :
    (passElement anchor ps e f).1.Fits := by
  induction ps generalizing e f with
  | nil => exact h
  | cons p ps ih => exact ih (HElem.add_fits h _) _

/-! ## Memory under writes of elements -/

theorem length_memBytes (m : Memory) (a n : Nat) : (memBytes m a n).length = n := by
  induction n generalizing a with
  | zero => rfl
  | succ n ih => simp [memBytes, ih]

theorem memBytes_congr {m m' : Memory} {a n : Nat} (h : ∀ x, a ≤ x → x < a + n → memByte m' x = memByte m x) :
    memBytes m' a n = memBytes m a n := by
  induction n generalizing a with
  | zero => rfl
  | succ n ih => rw [memBytes, memBytes, h a (by omega) (by omega), ih fun x h1 h2 => h x (by omega) (by omega)]

/-- A range reads back the bytes written there. -/
theorem memBytes_memWrite {m : Memory} {bs : List Byte} {a : Nat} (h : tabWf 0 m = true) : memBytes (memWrite m a bs) a bs.length = bs := by
  induction bs generalizing m a with
  | nil => rfl
  | cons b bs ih =>
    have h0 : memByte (memWrite m a (b :: bs)) a = b := memByte_memWrite_inside (i := 0) h (by simp)
    rw [List.length_cons, memBytes, h0, memWrite, ih (tabWf_tabSet h)]

theorem memNat_memWrite {m : Memory} {k v a : Nat} (h : tabWf 0 m = true) (hv : v < 256 ^ k) : memNat (memWrite m a (leBytes k v)) a k = v := by
  have hb := memBytes_memWrite (bs := leBytes k v) (a := a) h
  rw [length_leBytes] at hb
  rw [memNat, hb, leNat_leBytes hv]

section
variable {m : Memory} {c : CoreId} {slot i : Nat}

theorem hearthGet_hearthSet_same (h : tabWf 0 m = true) {e : HElem} (he : e.Fits) : hearthGet (hearthSet m c slot i e) c slot i = e := by
  obtain ⟨hlo, hhi, hst⟩ := he
  have hw := HElem.word_lt e
  rw [hearthGet, hearthSet, memNat_memWrite h (by omega), HElem.ofWord_word hlo hhi hst]

theorem memByte_hearthSet_outside (h : tabWf 0 m = true) {e : HElem} {a : Nat} (ha : a < hearthAddr c slot i ∨ hearthAddr c slot i + 8 ≤ a) :
    memByte (hearthSet m c slot i e) a = memByte m a :=
  memByte_memWrite_outside h (by rwa [length_leBytes])

theorem hearthGet_hearthSet_other (h : tabWf 0 m = true) {e : HElem} {j : Nat} (hj : j ≠ i) :
    hearthGet (hearthSet m c slot i e) c slot j = hearthGet m c slot j := by
  have hne : hearthAddr c slot j + 8 ≤ hearthAddr c slot i ∨ hearthAddr c slot i + 8 ≤ hearthAddr c slot j := by
    unfold hearthAddr
    omega
  rw [hearthGet, hearthGet, memNat, memNat, memBytes_congr fun x h1 h2 => memByte_hearthSet_outside h (by omega)]

end

/-! ## A retiring pass -/

/-- Element i of a slot after a pass (03 R67). -/
def Pass.element (p : Pass) (i : Nat) (e : HElem) : HElem := (passElement p.anchor (p.pairs i) e ⟨false, false, false⟩).1

section
variable {c : CoreId} {p : Pass} {acc : Memory × HSlot × Option Nat}

theorem passStep_mem (i : Nat) : (passStep c p acc i).1
    = if p.element i (hearthGet acc.1 c p.slot i) = hearthGet acc.1 c p.slot i then acc.1
      else hearthSet acc.1 c p.slot i (p.element i (hearthGet acc.1 c p.slot i)) := rfl

theorem passStep_wf (h : tabWf 0 acc.1 = true) (i : Nat) : tabWf 0 (passStep c p acc i).1 = true := by
  rw [passStep_mem]
  split
  case isTrue => exact h
  case isFalse => exact hearthSet_wf h

theorem hearthGet_passStep_same (h : tabWf 0 acc.1 = true) (i : Nat) :
    hearthGet (passStep c p acc i).1 c p.slot i = p.element i (hearthGet acc.1 c p.slot i) := by
  rw [passStep_mem]
  split
  case isTrue he => exact he.symm
  case isFalse => exact hearthGet_hearthSet_same h (passElement_fits _ (hearthGet_fits _ _ _ _) _)

theorem hearthGet_passStep_other (h : tabWf 0 acc.1 = true) {i j : Nat} (hj : j ≠ i) :
    hearthGet (passStep c p acc i).1 c p.slot j = hearthGet acc.1 c p.slot j := by
  rw [passStep_mem]
  split
  case isTrue => rfl
  case isFalse => exact hearthGet_hearthSet_other h hj

theorem memByte_passStep_outside (h : tabWf 0 acc.1 = true) {i a : Nat} (ha : a < hearthAddr c p.slot i ∨ hearthAddr c p.slot i + 8 ≤ a) :
    memByte (passStep c p acc i).1 a = memByte acc.1 a := by
  rw [passStep_mem]
  split
  case isTrue => rfl
  case isFalse => exact memByte_hearthSet_outside h ha

/-- A pass over distinct elements changes each of them once. -/
theorem hearthGet_foldl_passStep {l : List Nat} (hl : l.Nodup) (h : tabWf 0 acc.1 = true) (j : Nat) :
    hearthGet (l.foldl (passStep c p) acc).1 c p.slot j
      = if j ∈ l then p.element j (hearthGet acc.1 c p.slot j) else hearthGet acc.1 c p.slot j := by
  induction l generalizing acc with
  | nil => rfl
  | cons x xs ih =>
    obtain ⟨hx, hxs⟩ := List.nodup_cons.1 hl
    rw [List.foldl_cons, ih hxs (passStep_wf h x)]
    by_cases e : j = x
    · subst e
      rw [if_neg hx, if_pos List.mem_cons_self, hearthGet_passStep_same h]
    · simp only [List.mem_cons, e, false_or, hearthGet_passStep_other h e]

theorem memByte_foldl_passStep_outside {l : List Nat} (h : tabWf 0 acc.1 = true) {a : Nat}
    (ha : ∀ i, i ∈ l → a < hearthAddr c p.slot i ∨ hearthAddr c p.slot i + 8 ≤ a) :
    memByte (l.foldl (passStep c p) acc).1 a = memByte acc.1 a := by
  induction l generalizing acc with
  | nil => rfl
  | cons x xs ih =>
    rw [List.foldl_cons, ih (passStep_wf h x) fun i hi => ha i (List.mem_cons_of_mem _ hi), memByte_passStep_outside h (ha x List.mem_cons_self)]

end

theorem State.applyPass_mem_eq (s : State) (c : CoreId) (p : Pass) :
    (s.applyPass c p).1.mem = ((List.range 1024).foldl (passStep c p) (s.mem, (s.core c).slots[p.slot], none)).1 := by
  unfold State.applyPass
  generalize List.range 1024 = l
  rfl

theorem State.applyPass_objs (s : State) (c : CoreId) (p : Pass) : (s.applyPass c p).1.objs = s.objs := by
  unfold State.applyPass
  generalize List.range 1024 = l
  rfl

theorem State.applyPass_banks (s : State) (c : CoreId) (p : Pass) : (s.applyPass c p).1.banks = s.banks := by
  unfold State.applyPass
  generalize List.range 1024 = l
  rfl

/-- Settles O15: clearing by the range it empties, a pass by its fold over the 1,024 elements. -/
theorem hearthMemory : Obligations.HearthMemory := by
  unfold Obligations.HearthMemory
  refine ⟨fun s c h hm => ⟨fun i hi => hearthGet_clearSlot s c h hi, fun a ha => tabGet_tabClear_outside ha hm, ?_⟩, fun s c p hm =>
    ⟨fun i hi => ?_, fun a ha => ?_, State.applyPass_objs s c p, State.applyPass_banks s c p⟩⟩
  · simp only [State.clearSlot_core, Core.slots_modSlot_same]
    exact ⟨rfl, rfl, rfl, rfl, rfl⟩
  · rw [State.applyPass_mem_eq, hearthGet_foldl_passStep List.nodup_range hm, if_pos (List.mem_range.2 hi)]
    rfl
  · rw [State.applyPass_mem_eq, memByte_foldl_passStep_outside hm fun i hi => ?_]
    have h0 : hearthAddr c p.slot 0 ≤ hearthAddr c p.slot i := by unfold hearthAddr; omega
    have h1 := @hearthAddr_mono c p.slot i 1024 (List.mem_range.1 hi)
    omega

end Sys2Proof.Machine

/-!
# Hearth tiles, the lattice and the drain (O16, O17)
-/

namespace Sys2Proof.Machine

/-! ## HLD, HST, FOLD (03 R94; 07 R184) -/

theorem Core.epochHolds_nil (k : Core) : k.epochHolds [] = false := by
  simp [Core.epochHolds, windowsOf]

theorem Core.blocked_reads {k : Core} {all : List (Nat × Nat)} (h : k.rangeBusy all = false) : k.blocked all [] = false := by
  rw [Core.blocked, h, Core.epochHolds_nil]
  rfl

/-- Settles O16. -/
theorem hearthTiles : Obligations.HearthTiles := by
  unfold Obligations.HearthTiles
  intro x s
  refine ⟨fun hz hP h0 hu ht hsw => ⟨fun h hc hb hr => ?_, fun h hc hb he hr => ?_⟩, fun n h h1 h0 hn hb hb' he he' => ?_⟩
  · simp only [exec, execHld]
    rw [issue_done h (require_of_all (by simp [hz, hP, h0])) ((if_neg (by simp [hu])).trans (by simp only [hc, ht, hsw, hb, hr]; rfl))]
  · simp only [exec, execHst]
    refine ⟨_, issue_done h (require_of_all (by simp [hz, hP, h0])) ((if_neg (by simp [hu])).trans
      (by simp only [hc, ht, hsw, hb, he, Core.blocked_reads hr]; rfl)), ?_, ?_⟩
    · rfl
    · simp only [State.modCore_mem, List.foldl_map]
  · simp only [exec, execFold]
    refine (issue_done h (require_of_all (by simp [h1, h0])) (by simp only [hn, hb, hb', he, he']; rfl)).trans ?_
    generalize (List.range 1024).foldl (foldStep x.core (fH x.word.toNat) (fH x.word.toNat + 1))
      (s.mem, (s.core x.core).slots[(Fin.ofNat 64 (fH x.word.toNat) : SlotIx)], none) = r
    obtain ⟨m, sl, nan⟩ := r
    cases nan with
    | none => rfl
    | some el => rfl

/-! ## MMA and DRN (03 R62, R88; 07 R182, R185) -/

@[simp] theorem Val.shift_zero (v : Val) : v.shift 0 = v := by
  cases v with
  | fin n m => cases m <;> simp [Val.shift, Mag.shift]
  | nan => rfl
  | inf n => rfl
  | zero => rfl

/-- A tile's stores are stores and nothing else. -/
theorem TileOut.mem_stores {t : TileOut} {k : Core} {e : Effect} (h : e ∈ t.stores k) : ∃ a bs, e = .store a bs := by
  simp only [TileOut.stores, List.mem_flatMap, List.mem_filterMap, Option.map_eq_some_iff] at h
  obtain ⟨p, -, q, -, a, -, rfl⟩ := h
  exact ⟨a, [q.1], rfl⟩

theorem TileOut.clear_not_mem_fold {t : TileOut} {ax : Nat} {h : SlotIx} : Effect.clear h ∉ t.fold ax := by
  unfold TileOut.fold
  split <;> simp

/-- An instruction whose body ends by launching an operation launches it. -/
theorem Launches.of_issue {i : Instr} {x : Issue} {s : State} {opc : Nat} {illegal : Core → Nat → Option CoreFault}
    {body : CoreId → Nat → State → Act} {u : ExecUnit} {p : InFlight → Prop} {op : InFlight} (he : exec i s = issue x s opc illegal body)
    (h : Issues x s opc) (hl : illegal (s.core x.core) x.word.toNat = none)
    (hb : body x.core x.word.toNat s = .done (s.launch x.core op)) (hu : op.unit = u) (hpc : op.pc = (s.core x.core).pc)
    (ht : op.tag = (s.core x.core).tag) (hp : p op) : Launches i x s u p :=
  ⟨op, he.trans (issue_done h hl hb), hu, hpc, ht, hp⟩

/-- The effects of a drain in their order: the tile, its side vectors, the status, the fold into an AMX, the events, the clearing. -/
def drnEffects (k : Core) (t sides : TileOut) (d : Nat) (di : SlotIx) (ax : Nat) (clr : Bool) : List Effect :=
  t.stores k ++ sides.stores k ++ [.cvt (t.cvt ||| sides.cvt)] ++ (match firstPos t.nonFinite with | some q => [.drnNf d q] | none => [])
    ++ t.fold ax ++ (match firstPos t.nans with | some q => [.nanEvent 2 0xFF q] | none => []) ++ (if clr then [.clear di] else [])

section
variable {k : Core} {t sides : TileOut} {d ax : Nat} {di : SlotIx} {clr : Bool}

theorem mem_drnEffects_of_stores {e : Effect} (h : e ∈ t.stores k) : e ∈ drnEffects k t sides d di ax clr := by
  simp only [drnEffects, List.mem_append, h, true_or]

theorem cvt_mem_drnEffects (h : sides.cvt = 0) : .cvt t.cvt ∈ drnEffects k t sides d di ax clr := by
  simp [drnEffects, h]

theorem clear_mem_drnEffects : .clear di ∈ drnEffects k t sides d di ax clr ↔ clr = true := by
  have hs (u : TileOut) : Effect.clear di ∉ u.stores k := fun h => by
    obtain ⟨a, bs, h⟩ := TileOut.mem_stores h
    cases h
  have hnf : Effect.clear di ∉ (match firstPos t.nonFinite with | some q => [Effect.drnNf d q] | none => []) := by split <;> simp
  have hnan : Effect.clear di ∉ (match firstPos t.nans with | some q => [Effect.nanEvent 2 0xFF q] | none => []) := by split <;> simp
  simp [drnEffects, hs, hnf, hnan, TileOut.clear_not_mem_fold]

end

theorem cvt_drainSides {m : Memory} {k : Core} {c : CoreId} {slot : Nat} {anchor : Int} {d : Desc} {p : Place} {w : Nat} (h : bitOf w 20 = false) :
    (drainSides m k c slot anchor d p w).cvt = 0 := by
  simp [drainSides, h]

/-- Settles O17. -/
theorem latticeLaunch : Obligations.LatticeLaunch := by
  unfold Obligations.LatticeLaunch
  intro x s
  refine fun hu ht hsw => ⟨fun h hl hc hr hsc hwt hg hf he hcl hi => ?_, fun h hl h20 h19 h18 hc hr hsc hb hf he hcl => ?_⟩
  · have hgn : ((s.core x.core).groupOf (fH x.word.toNat)).isNone = false := by simpa using hg
    apply Launches.of_issue (he := by simp only [exec, execMma]; rfl) h hl
    · exact (if_neg (by simp [hu])).trans (by simp only [hc, hr, hsc, hwt, ht, hsw, hf, he, hcl, hi, hgn]; rfl)
    · rfl
    · rfl
    · rfl
    · exact ⟨rfl, rfl⟩
  · apply Launches.of_issue (he := by simp only [exec, execDrn]; rfl) h hl
    · exact (if_neg (by simp [hu, h20, h19, h18])).trans
        (by simp only [drnAreas, h20, h19, h18, Bool.false_eq_true, if_false, List.append_nil, hc, hr, hsc, ht, hsw, hb, hf, he, hcl, Val.shift_zero]; rfl)
    · rfl
    · rfl
    · rfl
    · exact ⟨rfl, rfl, rfl, fun e h => mem_drnEffects_of_stores h, cvt_mem_drnEffects (cvt_drainSides h20), clear_mem_drnEffects⟩

end Sys2Proof.Machine

/-!
# The nine elementwise instructions (O18, O19)
-/

namespace Sys2Proof.Machine

/-- An EW instruction that passes its checks puts its operation into the unit (06 R146; 07 R187). -/
theorem elementwise_launches {x : Issue} {s : State} {o : EwOp} {f : EwIn → EwIn → Val} (h : Issues x s 0x50)
    (hl : ewIllegal o x.word.toNat = none)
    (hu : s.unready x.core (fP x.word.toNat :: if bitOf x.word.toNat 6 then [32 + bits x.word.toNat 5 2] else []) = false)
    (hr : UnitReady s x.core .elementwise (ewJob (s.core x.core) x.word.toNat o).ops (ewJob (s.core x.core) x.word.toNat o).areas
      (ewJob (s.core x.core) x.word.toNat o).place.ok)
    (hs : bitOf x.word.toNat 6 = true → smoothFault s.mem (s.core x.core) (ewJob (s.core x.core) x.word.toNat o).smoothAt
      (ewJob (s.core x.core) x.word.toNat o).place.col0 (ewJob (s.core x.core) x.word.toNat o).inside = false) :
    elementwise x s o f = .next ((s.launch x.core (s.ewOperation x.core x.word.toNat o f)).advance x.core) := by
  obtain ⟨hc, hb, hf, hsc⟩ := hr
  have hsm : (bitOf x.word.toNat 6 && smoothFault s.mem (s.core x.core) (ewJob (s.core x.core) x.word.toNat o).smoothAt
      (ewJob (s.core x.core) x.word.toNat o).place.col0 (ewJob (s.core x.core) x.word.toNat o).inside) = false := by
    rw [Bool.and_eq_false_iff]
    cases h6 : bitOf x.word.toNat 6
    · exact .inl rfl
    · exact .inr (hs h6)
  unfold elementwise
  exact issue_done h hl ((if_neg (by simp [hu])).trans (by simp only [hc, hb, hf, hsc, hsm]; rfl))

/-- Settles O19. -/
theorem elementwiseCompletes : Obligations.ElementwiseCompletes := by
  unfold Obligations.ElementwiseCompletes
  refine fun x s h => ⟨?_, ?_, ?_, ?_, ?_, ?_, ?_, ?_, ?_⟩ <;> exact fun ⟨hl, hu, hr, hs⟩ => elementwise_launches h hl hu hr hs

/-- Settles O18. -/
theorem elementwiseLaunch : Obligations.ElementwiseLaunch := by
  unfold Obligations.ElementwiseLaunch
  intro x s i o f hi h hl c w k p rows cols ta td0 td tb ops sv n areas hu hr hs read val t
  have he : exec i s = elementwise x s o f := by
    simp only [List.mem_cons, Prod.mk.injEq, List.not_mem_nil, or_false] at hi
    rcases hi with ⟨rfl, rfl, rfl⟩ | ⟨rfl, rfl, rfl⟩ | ⟨rfl, rfl, rfl⟩ | ⟨rfl, rfl, rfl⟩ | ⟨rfl, rfl, rfl⟩ | ⟨rfl, rfl, rfl⟩ | ⟨rfl, rfl, rfl⟩
      | ⟨rfl, rfl, rfl⟩ | ⟨rfl, rfl, rfl⟩ <;> rfl
  exact ⟨s.ewOperation c w o f, he.trans (elementwise_launches h hl hu hr hs), rfl, rfl, rfl, rfl, rfl, rfl, rfl, rfl⟩

end Sys2Proof.Machine

/-!
# Lantern and statistics instructions (O20)
-/

namespace Sys2Proof.Machine

/-! ## The cells of a tile -/

/-- A list of entries with rising keys answers each of its entries. -/
theorem tabGet_of_rising {α : Type} {d : α} {t : Tab α} (h : t.Pairwise fun a b => a.1 < b.1) {x : Nat} {v : α} (hm : (x, v) ∈ t) :
    tabGet d t x = v := by
  induction t with
  | nil => cases hm
  | cons e t ih =>
    obtain ⟨k, u⟩ := e
    obtain ⟨hk, ht⟩ := List.pairwise_cons.1 h
    rcases List.mem_cons.1 hm with e | hm
    · cases e
      simp [tabGet]
    · have hlt : k < x := hk _ hm
      rw [tabGet, if_neg (by omega), if_neg (by omega), ih ht hm]

/-- The cells of a tile with at most 32 columns, each under its place 32 × row + column. -/
def tileCells {α : Type} (rows cols : Nat) (inside : Nat → Nat → Bool) (f : Nat → Nat → α) : Tab α :=
  (List.range rows).flatMap fun r => (List.range cols).filterMap fun j => if inside r j then some (32 * r + j, f r j) else none

theorem tileCells_rising {α : Type} {rows cols : Nat} (hc : cols ≤ 32) {inside : Nat → Nat → Bool} {f : Nat → Nat → α} :
    (tileCells rows cols inside f).Pairwise fun a b => a.1 < b.1 := by
  have hmem {r : Nat} {e : Nat × α} (h : e ∈ (List.range cols).filterMap fun j => if inside r j then some (32 * r + j, f r j) else none) :
      32 * r ≤ e.1 ∧ e.1 < 32 * r + 32 := by
    obtain ⟨j, hj, h⟩ := List.mem_filterMap.1 h
    have hj := List.mem_range.1 hj
    split at h
    · cases h
      exact ⟨by simp, by simp only; omega⟩
    · cases h
  refine List.pairwise_flatMap.2 ⟨fun r _ => ?_, List.pairwise_lt_range.imp fun {r r'} hr a ha b hb => ?_⟩
  · refine List.pairwise_filterMap.2 (List.pairwise_lt_range.imp fun {j j'} hj a ha b hb => ?_)
    split at ha <;> cases ha
    split at hb <;> cases hb
    simp only
    omega
  · have ha := hmem ha
    have hb := hmem hb
    omega

theorem tabGet_tileCells {α : Type} {d : α} {rows cols r j : Nat} (hc : cols ≤ 32) {inside : Nat → Nat → Bool} {f : Nat → Nat → α} (hr : r < rows)
    (hj : j < cols) (hi : inside r j = true) : tabGet d (tileCells rows cols inside f) (32 * r + j) = f r j := by
  refine tabGet_of_rising (tileCells_rising hc) (List.mem_flatMap.2 ⟨r, List.mem_range.2 hr, List.mem_filterMap.2 ⟨j, List.mem_range.2 hj, ?_⟩⟩)
  rw [if_pos hi]

theorem lCols_le (w : Nat) : lCols w ≤ 32 := by
  have h := bits_lt w 16 12
  unfold lCols
  omega

/-! ## Lantern functions over tiles (04 R95–R112) -/

/-- A Lantern instruction that ends by launching a tile carries the stores of the tile of its outputs. -/
theorem Launches.of_lantern {i : Instr} {x : Issue} {s : State} {opc : Nat} {illegal : Core → Nat → Option CoreFault}
    {body : CoreId → Nat → State → Act} {w inCvt : Nat} {td : Operand} {p : Place} {own : Rounding} {na : Bool} {f : Nat → Nat → LRes}
    {readSlots : List Nat} {reads : List (Nat × Nat)} (he : exec i s = issue x s opc illegal body) (h : Issues x s opc)
    (hl : illegal (s.core x.core) x.word.toNat = none)
    (hb : body x.core x.word.toNat s = .done (s.launchLantern x.core w td p own na inCvt f readSlots reads)) :
    Launches i x s .lantern fun op => op.pass = none ∧ op.ranges = writtenRanges [td] [] ∧ op.slots = [] ∧ op.sets = [] ∧ op.readSlots = readSlots
      ∧ ∃ g : Nat → Nat → LRes, (∀ r j, r < lRows w → j < lCols w → td.desc.inside (p.row0 + r) (p.col0 + j) = true →
            g r j = (f r j).flush (s.core x.core).ftz)
          ∧ ∀ e, e ∈ (writeTile td.desc p.row0 p.col0 (lRows w) (lCols w) (fun r j => (g r j).val)
              (fun r j => s.lanternRounding x.core w p td.desc own r j)).stores (s.core x.core) → e ∈ op.effects := by
  refine Launches.of_issue he h hl hb rfl rfl rfl ⟨rfl, rfl, rfl, rfl, rfl, fun r j => tabGet (LRes.of .zero) (tileCells (lRows w) (lCols w)
    (fun r j => td.desc.inside (p.row0 + r) (p.col0 + j)) fun r j => (f r j).flush (s.core x.core).ftz) (32 * r + j), ?_, fun e he => ?_⟩
  · exact fun r j hr hj hi => tabGet_tileCells (lCols_le w) hr hj hi
  · simp only [List.append_assoc]
    exact List.mem_append_left _ he

theorem Launches.imp {i : Instr} {x : Issue} {s : State} {u : ExecUnit} {p q : InFlight → Prop} (h : Launches i x s u p)
    (hpq : ∀ op, p op → q op) : Launches i x s u q := by
  obtain ⟨op, he, hu, hpc, ht, hp⟩ := h
  exact ⟨op, he, hu, hpc, ht, hpq op hp⟩

/-! ## Statistics and table instructions (04 R112–R119) -/

theorem unready_cons {s : State} {c : CoreId} {a : Nat} {l : List Nat} :
    s.unready c (a :: l) = false ↔ s.unready c [a] = false ∧ s.unready c l = false := by
  simp [State.unready]

section
variable {x : Issue} {s : State}

theorem lanternArea_ok {c : CoreId} {area : Area} {go : Unit → Act} (h : s.checkOperands c [] [area] = .ok)
    (hb : (s.core c).blocked (allRanges [] [area]) (writtenRanges [] [area]) = false) : lanternArea s c area go = go () := by
  simp only [lanternArea, h, hb]
  rfl

/-- STAT1, STAT2 and STATQ take each row of the tile into the row of the set. -/
theorem statAccumulate_launches {i : Instr} {fn : Nat} {kind : StatKind} {elem : Nat → Nat → Option StatIn} {cvt : Nat} {slots : List Nat}
    {reads : List (Nat × Nat)} (he : exec i s = statAccumulate x s fn kind) (h : Issues x s 0x58) (hl : statIllegal fn x.word.toNat = none)
    (hu : s.unready x.core [fP x.word.toNat] = false) (hf : (s.core x.core).unitFull .lantern = false)
    (hset : (s.core x.core).setBusy (lSET x.word.toNat) = false) (hin : s.statInput x.core x.word.toNat [] = .ok elem cvt slots reads) :
    Launches i x s .lantern fun op => op.sets = [(lSET x.word.toNat).val] ∧ op.readSlots = slots ∧ op.reads = reads ∧ (.cvt cvt ∈ op.effects) ∧
      ∃ set' : StatSet, .stats (lSET x.word.toNat) set' ∈ op.effects
        ∧ set'.mode = ((s.core x.core).stats[lSET x.word.toNat]).mode ∧ set'.a = ((s.core x.core).stats[lSET x.word.toNat]).a
        ∧ set'.a2 = ((s.core x.core).stats[lSET x.word.toNat]).a2
        ∧ ∀ r : Fin 32, set'.rows[r] = if r.val < lRows x.word.toNat
          then (statRow kind ((s.core x.core).stats[lSET x.word.toNat]).mode ((List.range (lCols x.word.toNat)).filterMap (elem r.val))
            ((s.core x.core).stats[lSET x.word.toNat]).rows[r]).1
          else ((s.core x.core).stats[lSET x.word.toNat]).rows[r] := by
  apply Launches.of_issue (he := he.trans (by unfold statAccumulate; rfl)) h hl
  · exact (if_neg (by simp [hu, hf, hset])).trans (by simp only [hin]; rfl)
  · rfl
  · rfl
  · rfl
  · refine ⟨rfl, rfl, rfl, by simp [statLaunch], _, List.mem_cons_self, rfl, rfl, rfl, fun r => ?_⟩
    by_cases hlt : r.val < lRows x.word.toNat
    · simp [hlt, Nat.mod_eq_of_lt r.isLt]
    · simp [hlt]

theorem stati_launches (h : Issues x s 0x58) (hf : (s.core x.core).unitFull .lantern = false)
    (hset : (s.core x.core).setBusy (lSET x.word.toNat) = false) (hu : s.unready x.core [fP x.word.toNat] = false)
    (hl : plainIllegal 0x20 false true true x.word.toNat = none) (hm : bits ((s.core x.core).regNat (fP x.word.toNat)) 1 0 ≠ 3) :
    Launches (.stati x) x s .lantern fun op => op.effects = [.stats (lSET x.word.toNat)
      { StatSet.reset with
        mode := bits ((s.core x.core).regNat (fP x.word.toNat)) 1 0, a := signed 10 (bits ((s.core x.core).regNat (fP x.word.toNat)) 25 16)
        a2 := signed 10 (bits ((s.core x.core).regNat (fP x.word.toNat)) 41 32) }] ∧ op.sets = [(lSET x.word.toNat).val] := by
  apply Launches.of_issue (he := by simp only [exec, execStati]; rfl) h hl
  · exact (if_neg (by simp [hu, hf, hset])).trans (if_neg (by simpa using hm))
  · rfl
  · rfl
  · rfl
  · exact ⟨rfl, rfl⟩

end

theorem code_ite {p : Prop} [Decidable p] {v : Conv} {n : Nat} : (if p then v else ⟨n, 0⟩ : Conv).code = if p then v.code else n := by
  split <;> rfl

theorem ltload_count {first n : Nat} (h1 : 1 ≤ n) (h2 : first + n ≤ 4096) : ¬(n == 0 || decide (4096 < first + n)) = true := by
  simp only [Bool.or_eq_true, beq_iff_eq, decide_eq_true_eq]
  omega

/-- Settles O20: the functions over tiles by their tile of outputs, the others by the operation each builds. -/
theorem lanternRows : Obligations.LanternRows := by
  unfold Obligations.LanternRows
  refine ⟨fun x s i okFn usesB usesAux own na unit6 table f hi h hl hu hr htab h6 => ?_, fun x s h hf hset hu => ?_⟩
  · obtain ⟨hc, hb, hfu, hsc⟩ := hr
    have he : exec i s = lanternTile x s okFn usesB usesAux own na unit6 table f := by
      simp only [List.mem_cons, Prod.mk.injEq, List.not_mem_nil, or_false] at hi
      rcases hi with ⟨rfl, rfl, rfl, rfl, rfl, rfl, rfl, rfl, rfl⟩ | ⟨rfl, rfl, rfl, rfl, rfl, rfl, rfl, rfl, rfl⟩
        | ⟨rfl, rfl, rfl, rfl, rfl, rfl, rfl, rfl, rfl⟩ | ⟨rfl, rfl, rfl, rfl, rfl, rfl, rfl, rfl, rfl⟩
        | ⟨rfl, rfl, rfl, rfl, rfl, rfl, rfl, rfl, rfl⟩ | ⟨rfl, rfl, rfl, rfl, rfl, rfl, rfl, rfl, rfl⟩
        | ⟨rfl, rfl, rfl, rfl, rfl, rfl, rfl, rfl, rfl⟩ | ⟨rfl, rfl, rfl, rfl, rfl, rfl, rfl, rfl, rfl⟩
        | ⟨rfl, rfl, rfl, rfl, rfl, rfl, rfl, rfl, rfl⟩ | ⟨rfl, rfl, rfl, rfl, rfl, rfl, rfl, rfl, rfl⟩
        | ⟨rfl, rfl, rfl, rfl, rfl, rfl, rfl, rfl, rfl⟩ | ⟨rfl, rfl, rfl, rfl, rfl, rfl, rfl, rfl, rfl⟩
        | ⟨rfl, rfl, rfl, rfl, rfl, rfl, rfl, rfl, rfl⟩ | ⟨rfl, rfl, rfl, rfl, rfl, rfl, rfl, rfl, rfl⟩ <;> rfl
    have htb : (table && (s.core x.core).inflight.any fun q => q.table) = false := by
      cases table
      · rfl
      · exact htab rfl
    apply Launches.imp
    · apply Launches.of_lantern (he := he.trans (by unfold lanternTile; rfl)) h hl
      exact (if_neg (by simp [hu])).trans (by simp only [Core.regNat, hc, hb, hfu, hsc, h6, htb]; rfl)
    · rintro op ⟨hp, hr, hs, hse, -, g, hg, hst⟩
      refine ⟨hp, hr, hs, hse, g, fun r j h1 h2 h3 => ?_, hst⟩
      rw [hg r j h1 h2 h3]
      refine congrArg₂ (fun a b => (f s (s.core x.core) x.word.toNat a b _).flush _) code_ite ?_
      cases usesB
      · rfl
      · exact code_ite
  · obtain ⟨huP, huA⟩ := unready_cons.1 hu
    refine ⟨fun hl hm => stati_launches h hf hset huP hl hm, fun elem cvt slots reads hin i fn kind hi hl => ?_, fun hl hc hb he => ?_,
      fun elem cvt slots reads hP hfn hrm hax hB hA hsrc hin => ⟨fun hd => ?_, fun hd => ?_⟩, fun hl hc hb => ?_, fun hl hc hb => ?_,
      fun hl ht he h1 h2 hc hb => ?_⟩
    · simp only [List.mem_cons, Prod.mk.injEq, List.not_mem_nil, or_false] at hi
      rcases hi with ⟨rfl, rfl, rfl⟩ | ⟨rfl, rfl, rfl⟩ | ⟨rfl, rfl, rfl⟩ <;> exact statAccumulate_launches rfl h hl huP hf hset hin
    · have heps : (bits ((s.core x.core).regNat (fP x.word.toNat)) 15 0 != pxZero && !isScale (bits ((s.core x.core).regNat (fP x.word.toNat)) 15 0))
          = false := by
        rcases he with he | he
        · simp [Core.regNat, he]
        · simp [Core.regNat, he]
      apply Launches.of_issue (he := by simp only [exec, execStatf]; rfl) h hl
      · exact (if_neg (by simp [hu, hf, hset])).trans
          (by simp only [hc]; exact (if_neg (ne_true_of_eq_false hb)).trans (if_neg (ne_true_of_eq_false heps)))
      · rfl
      · rfl
      · rfl
      · refine ⟨rfl, rfl, _, List.mem_append_left _ (List.mem_append_left _ (List.mem_append_right _ List.mem_cons_self)), rfl, rfl, fun r => ?_⟩
        simp [Core.regNat]
    · apply Launches.of_issue (he := by simp only [exec, execNorma]; rfl) h
      · exact require_of_all (by simp [*])
      · exact (if_neg (by simp [huP, hf, hset])).trans (by simp only [Core.regNat, hin, hd]; rfl)
      · rfl
      · rfl
      · rfl
      · exact ⟨rfl, rfl⟩
    · apply Launches.imp
      · apply Launches.of_lantern (he := by simp only [exec, execNorma]; rfl) h
        · exact require_of_all (by simp [*])
        · exact (if_neg (by simp [huP, hf, hset])).trans (by simp only [Core.regNat, hin, hd]; rfl)
      · exact fun op ⟨_, _, _, _, hslots, _⟩ => hslots
    · apply Launches.of_issue (he := by simp only [exec, execStatr]; rfl) h hl
      · exact (if_neg (by simp [huA, hf, hset])).trans (lanternArea_ok hc hb)
      · rfl
      · rfl
      · rfl
      · exact ⟨rfl, rfl⟩
    · apply Launches.of_issue (he := by simp only [exec, execStatw]; rfl) h hl
      · exact (if_neg (by simp [huA, hf, hset])).trans (lanternArea_ok hc hb)
      · rfl
      · rfl
      · rfl
      · refine ⟨_, List.mem_cons_self, fun r => ?_⟩
        simp
    · apply Launches.of_issue (he := by simp only [exec, execLtload]; rfl) h hl
      · exact (if_neg (by simp [hu, hf, ht, he])).trans ((lanternArea_ok hc hb).trans (if_neg (ltload_count h1 h2)))
      · rfl
      · rfl
      · rfl
      · exact ⟨rfl, rfl⟩

end Sys2Proof.Machine

/-!
# IEEE instructions (O21, O22)
-/

namespace Sys2Proof.Machine

/-! ## Tiles (07 R191) -/

/-- A write of a tile's output carries a store for each of its bytes that has an address. -/
theorem TileOut.store_mem {t : TileOut} {k : Core} {off i q : Nat} {b : Byte} {bs : List Byte} (hw : (off, bs) ∈ t.writes)
    (hb : (b, i) ∈ bs.zipIdx) (hq : scratchAddr k (off + i) = some q) : .store q [b] ∈ t.stores k :=
  List.mem_flatMap.2 ⟨(off, bs), hw, List.mem_filterMap.2 ⟨(b, i), hb, by simp only [hq, Option.map_some]⟩⟩

/-- An FV instruction that passes its checks carries the bytes of every result inside its destination. -/
theorem fvTile_launches {i : Instr} {x : Issue} {s : State} {o : FvOp} {f : FpFmt → FpFmt → Nat → Nat → Nat → Nat → FpRes}
    (he : exec i s = fvTile x s o f) (h : Issues x s 0x60) (hl : fvIllegal o x.word.toNat = none) (hu : s.unready x.core [fP x.word.toNat] = false) :
    let c := x.core
    let w := x.word.toNat
    let k := s.core c
    let p := Place.of (k.regNat (fP w))
    let fd := (k.desc (fTD w)).fmt
    let same := if o.op == 8 then (if fd == 2 then [3] else if fd == 3 then [2] else [2, 3]) else if fd == 2 || fd == 3 then [fd] else [2, 3]
    let td := tileOperand k (fTD w) [2, 3] p.row0 p.col0 (fvRows w) (fvCols w) true
    let ta := tileOperand k (fTA w) same p.row0 p.col0 (fvRows w) (fvCols w) false
    let tb := tileOperand k (fTB w) same p.row0 p.col0 (fvRows w) (fvCols w) false
    let ops := if o.binary then [td, ta, tb] else [td, ta]
    UnitReady s c .ieee ops [] p.ok →
    let read (d : Desc) (r j : Nat) : Nat := if d.inside r j then scratchNat s.mem k (d.addr r j) (fmtBytes d.fmt) else 0
    let res (row col : Nat) : FpRes := f (fpOfFmt ta.desc.fmt) (fpOfFmt td.desc.fmt) k.ieeeRnd (read ta.desc row col)
      (if o.binary then read tb.desc row col else 0) (if o.reads then read td.desc row col else 0)
    Launches i x s .ieee fun op => op.pass = none ∧ op.ranges = writtenRanges ops [] ∧ op.regs = [] ∧
      ∀ r j, r < fvRows w → j < fvCols w → td.desc.inside (p.row0 + r) (p.col0 + j) = true →
        ∀ b ad, (b, ad) ∈ (leBytes (fmtBytes td.desc.fmt) (res (p.row0 + r) (p.col0 + j)).word).zipIdx →
          ∀ q, scratchAddr k (td.desc.addr (p.row0 + r) (p.col0 + j) + ad) = some q → .store q [b] ∈ op.effects := by
  dsimp only
  rintro ⟨hc, hb, hf, -⟩
  apply Launches.of_issue (he := he.trans (by unfold fvTile; rfl)) h hl
  · exact (if_neg (by simp [hu])).trans (by simp only [hc, hb, hf]; rfl)
  · rfl
  · rfl
  · rfl
  · refine ⟨rfl, rfl, rfl, fun r j hr hj hi b ad hba q hq => List.mem_append_left _ (TileOut.store_mem ?_ hba hq)⟩
    refine List.mem_map.2 ⟨(_, _), List.mem_flatMap.2 ⟨r, List.mem_range.2 hr, List.mem_filterMap.2 ⟨j, List.mem_range.2 hj, if_pos hi⟩⟩, rfl⟩

/-! ## FS, CVTI and CVTF (07 R190) -/

/-- An FS instruction that passes its checks puts its operation into the unit. -/
theorem fsScalar_launches {x : Issue} {s : State} {op : Nat} {binary reads : Bool} {f : FpFmt → Nat → Nat → Nat → Nat → FpRes}
    (h : Issues x s 0x61) (hD : isReg (fD x.word.toNat) = true) (hA : isReg (fA x.word.toNat) = true)
    (hB : if binary then isReg (fB x.word.toNat) = true else fB x.word.toNat = 0) (hop : bits x.word.toNat 33 30 = op)
    (hz : bits x.word.toNat 28 0 = 0)
    (hu : s.unready x.core ([fD x.word.toNat, fA x.word.toNat] ++ if binary then [fB x.word.toNat] else []) = false)
    (hf : (s.core x.core).unitFull .ieee = false) :
    fsScalar x s op binary reads f = .next ((s.launch x.core (fsOperation (s.core x.core) x.word.toNat
      (f (fsFmt x.word.toNat) (s.core x.core).ieeeRnd ((s.core x.core).regNat (fA x.word.toNat))
        (if binary then (s.core x.core).regNat (fB x.word.toNat) else 0)
        (if reads then (s.core x.core).regNat (fD x.word.toNat) else 0)))).advance x.core) := by
  unfold fsScalar
  refine issue_done h (require_of_all ?_) (if_neg (by simp only [hu, hf]; exact Bool.false_ne_true))
  cases binary
  · simp_all
  · simp_all

/-- Settles O22. -/
theorem ieeeScalarCompletes : Obligations.IeeeScalarCompletes := by
  unfold Obligations.IeeeScalarCompletes
  refine fun x s h hD hA hz hf => ⟨fun hB hu => ⟨?_, ?_, ?_, ?_, ?_, ?_, ?_, ?_, ?_⟩, fun hB hu => ⟨?_, ?_, ?_, ?_⟩⟩ <;> intro hop
  all_goals simp only [exec, execFsAdd, execFsSub, execFsMul, execFsDiv, execFsSqrt, execFsFma, execFsMax, execFsMin, execFsCvt, execFsCmplt,
    execFsCmpeq, execCvti, execCvtf]
  iterate 9 exact fsScalar_launches (binary := true) h hD hA hB hop hz hu hf
  all_goals exact fsScalar_launches (binary := false) h hD hA hB hop hz hu hf

/-- Settles O21: the tile instructions by their job, the scalar ones by the operation they launch. -/
theorem ieeeRows : Obligations.IeeeRows := by
  unfold Obligations.IeeeRows
  refine ⟨fun x s h hu => ⟨fun i o f hi hl => ?_, fun hH hP hop h13 hB hD hS hr => ?_⟩,
    fun x s i op binary reads f hi h hD hA hB hop hz hu hf => ?_⟩
  · have he : exec i s = fvTile x s o f := by
      simp only [List.mem_cons, Prod.mk.injEq, List.not_mem_nil, or_false] at hi
      rcases hi with ⟨rfl, rfl, rfl⟩ | ⟨rfl, rfl, rfl⟩ | ⟨rfl, rfl, rfl⟩ | ⟨rfl, rfl, rfl⟩ | ⟨rfl, rfl, rfl⟩ | ⟨rfl, rfl, rfl⟩
        | ⟨rfl, rfl, rfl⟩ | ⟨rfl, rfl, rfl⟩ | ⟨rfl, rfl, rfl⟩ <;> rfl
    exact fvTile_launches he h hl (unready_cons.1 hu).1
  · obtain ⟨hc, hb, hf, -⟩ := hr
    apply Launches.of_issue (he := by simp only [exec, execFvSsq]; rfl) h
    · exact require_of_all (by simp [*])
    · exact (if_neg (by simp [hu])).trans (by simp only [Core.regNat, hc, Core.blocked_reads (Bool.or_eq_false_iff.1 hb).1, hf]; rfl)
    · rfl
    · rfl
    · rfl
    · exact ⟨rfl, rfl, _, rfl⟩
  · have he : exec i s = fsScalar x s op binary reads f := by
      simp only [List.mem_cons, Prod.mk.injEq, List.not_mem_nil, or_false] at hi
      rcases hi with ⟨rfl, rfl, rfl, rfl, rfl⟩ | ⟨rfl, rfl, rfl, rfl, rfl⟩ | ⟨rfl, rfl, rfl, rfl, rfl⟩ | ⟨rfl, rfl, rfl, rfl, rfl⟩
        | ⟨rfl, rfl, rfl, rfl, rfl⟩ | ⟨rfl, rfl, rfl, rfl, rfl⟩ | ⟨rfl, rfl, rfl, rfl, rfl⟩ | ⟨rfl, rfl, rfl, rfl, rfl⟩
        | ⟨rfl, rfl, rfl, rfl, rfl⟩ | ⟨rfl, rfl, rfl, rfl, rfl⟩ | ⟨rfl, rfl, rfl, rfl, rfl⟩ | ⟨rfl, rfl, rfl, rfl, rfl⟩
        | ⟨rfl, rfl, rfl, rfl, rfl⟩ <;> rfl
    exact ⟨_, he.trans (fsScalar_launches h hD hA hB hop hz hu hf), rfl, rfl, rfl, rfl, rfl, rfl⟩

end Sys2Proof.Machine

/-!
# The Abacus instructions (O23)
-/

namespace Sys2Proof.Machine

section
variable {i : Instr} {x : Issue} {s : State} {illegal : Nat → Option CoreFault} {useC : Bool} {chains : Nat → List Nat}
  {plan : CoreId → Nat → State → AbPlan}

/-- The descriptors of an AB, and the chains they name, pass their checks and are not busy (21 R480). -/
structure AbReady (x : Issue) (s : State) (useC : Bool) (chains : Nat → List Nat) : Prop where
  regs : s.unready x.core (fD x.word.toNat :: ([fA x.word.toNat, fB x.word.toNat] ++ (if useC then [fC x.word.toNat] else []))) = false
  room : (s.core x.core).unitFull .abacus = false
  descs : s.checkOperands x.core [] (([fA x.word.toNat, fB x.word.toNat] ++ (if useC then [fC x.word.toNat] else [])).map fun r =>
    ⟨(s.core x.core).regNat r, (s.core x.core).regNat r + 32, 32, false⟩) = .ok
  descsFree : (s.core x.core).rangeBusy (allRanges [] (([fA x.word.toNat, fB x.word.toNat] ++ (if useC then [fC x.word.toNat] else [])).map fun r =>
    ⟨(s.core x.core).regNat r, (s.core x.core).regNat r + 32, 32, false⟩)) = false
  lists : s.checkOperands x.core [] ((chains x.word.toNat).map fun r =>
    ⟨(s.poly x.core ((s.core x.core).regNat r)).chain, (s.poly x.core ((s.core x.core).regNat r)).chain
      + 16 * (s.poly x.core ((s.core x.core).regNat r)).chlen, 16, false⟩) = .ok
  listsFree : (s.core x.core).rangeBusy (allRanges [] ((chains x.word.toNat).map fun r =>
    ⟨(s.poly x.core ((s.core x.core).regNat r)).chain, (s.poly x.core ((s.core x.core).regNat r)).chain
      + 16 * (s.poly x.core ((s.core x.core).regNat r)).chlen, 16, false⟩)) = false

/-- An AB that fails an outcome check carries its code alone (21 R482). -/
theorem abIssue_refused (he : exec i s = abIssue x s illegal useC chains plan) (h : Issues x s 0x70) (hl : illegal x.word.toNat = none)
    (hr : AbReady x s useC chains) (hcode : (plan x.core x.word.toNat s).code ≠ 0) :
    Launches i x s .abacus fun op => op.ranges = [] ∧ op.regs = [fD x.word.toNat] ∧
      op.effects = [.abacus (bits x.word.toNat 27 24) (plan x.core x.word.toNat s).code (plan x.core x.word.toNat s).dst.units.length 0,
        .reg (fD x.word.toNat) (BitVec.ofNat 64 (plan x.core x.word.toNat s).code)] := by
  obtain ⟨hu, hf, hd, hdf, hc, hcf⟩ := hr
  have hne : ((plan x.core x.word.toNat s).code != 0) = true := bne_iff_ne.2 hcode
  apply Launches.of_issue (he := he.trans (by unfold abIssue; rfl)) h hl
  · exact (if_neg (by simp only [hu, hf]; exact Bool.false_ne_true)).trans (by simp only [hd, hdf, hc, hcf, hne]; rfl)
  · rfl
  · rfl
  · rfl
  · exact ⟨rfl, rfl, rfl⟩

/-- An AB that passes carries its outcome and the bytes of its destination (21 R480). -/
theorem abIssue_passed (he : exec i s = abIssue x s illegal useC chains plan) (h : Issues x s 0x70) (hl : illegal x.word.toNat = none)
    (hr : AbReady x s useC chains) (hcode : (plan x.core x.word.toNat s).code = 0) :
    let p := plan x.core x.word.toNat s
    let k := s.core x.core
    let dst : List Area := p.dst.ranges.map fun r => ⟨r.1, r.2, 64, true⟩
    let writes := p.dst.ranges ++ [(k.regNat (fA x.word.toNat), k.regNat (fA x.word.toNat) + 32)]
    s.checkOperands x.core [] (dst ++ p.areas) = .ok → k.blocked (allRanges [] p.areas ++ writes) writes = false →
    Launches i x s .abacus fun op => op.ranges = writes ∧ op.regs = [fD x.word.toNat] ∧
      let r := p.result ()
      op.effects = r.reads ++ ({ TileOut.empty with writes := r.writes ++ p.dst.tail (k.regNat (fA x.word.toNat)) }).stores k
        ++ [.abacus (bits x.word.toNat 27 24) (if r.noncanon then 256 else 0) p.dst.units.length r.elems,
            .reg (fD x.word.toNat) (BitVec.ofNat 64 (if r.noncanon then 256 else 0))] := by
  dsimp only
  intro ha hb
  obtain ⟨hu, hf, hd, hdf, hc, hcf⟩ := hr
  have hne : ((plan x.core x.word.toNat s).code != 0) = false := by rw [hcode]; rfl
  apply Launches.of_issue (he := he.trans (by unfold abIssue; rfl)) h hl
  · exact (if_neg (by simp only [hu, hf]; exact Bool.false_ne_true)).trans (by simp only [hd, hdf, hc, hcf, hne, ha, hb]; rfl)
  · rfl
  · rfl
  · rfl
  · exact ⟨rfl, rfl, rfl⟩

end

/-- Settles O23. -/
theorem abacusLaunch : Obligations.AbacusLaunch := by
  unfold Obligations.AbacusLaunch
  intro x s i illegal useC chains plan hi h hl
  have he : exec i s = abIssue x s illegal useC chains plan := by
    simp only [List.mem_cons, Prod.mk.injEq, List.not_mem_nil, or_false] at hi
    rcases hi with ⟨rfl, rfl, rfl, rfl, rfl⟩ | ⟨rfl, rfl, rfl, rfl, rfl⟩ | ⟨rfl, rfl, rfl, rfl, rfl⟩ | ⟨rfl, rfl, rfl, rfl, rfl⟩
      | ⟨rfl, rfl, rfl, rfl, rfl⟩ <;> rfl
  intro c w k regs descs lists p dst writes hu hf hd hdf hc hcf
  have hr : AbReady x s useC chains := ⟨hu, hf, hd, hdf, hc, hcf⟩
  exact ⟨fun hcode => abIssue_refused he h hl hr hcode, fun hcode ha hb => abIssue_passed he h hl hr hcode ha hb⟩

end Sys2Proof.Machine

/-!
# Retiring operations (O24)
-/

namespace Sys2Proof.Machine

/-! ## Retiring in order (06 R145, R146) -/

section
variable {s : State} {c : CoreId} {u : ExecUnit}

theorem find_unit_none (h : ∀ op ∈ (s.core c).inflight, op.unit ≠ u) : (s.core c).inflight.find? (fun i => i.unit == u) = none :=
  List.find?_eq_none.2 fun op ho => by simpa using h op ho

theorem find_unit_oldest {before after : List InFlight} {op : InFlight} (hs : (s.core c).inflight = before ++ op :: after)
    (hb : ∀ q ∈ before, q.unit ≠ u) (hu : op.unit = u) : (s.core c).inflight.find? (fun i => i.unit == u) = some op := by
  have hn : before.find? (fun i => i.unit == u) = none := List.find?_eq_none.2 fun q hq => by simpa using hb q hq
  rw [hs, List.find?_append, hn, Option.none_or]
  exact List.find?_cons_of_pos (by simp [hu])

theorem retireUnit_none (h : ∀ op ∈ (s.core c).inflight, op.unit ≠ u) : s.retireUnit c u = s := by
  unfold State.retireUnit
  rw [find_unit_none h]

/-- The oldest operation of a unit leaves with its effects. -/
theorem retireUnit_oldest {before after : List InFlight} {op : InFlight} (hs : (s.core c).inflight = before ++ op :: after)
    (hb : ∀ q ∈ before, q.unit ≠ u) (hop : op ∉ before) (hu : op.unit = u) :
    s.retireUnit c u = ((s.modCore c fun k => { k with inflight := before ++ after }).retire c op).1.nanReport c
      ((s.modCore c fun k => { k with inflight := before ++ after }).retire c op).2 := by
  have he : (before ++ op :: after).erase op = before ++ after := by
    rw [List.erase_append_right _ hop, List.erase_cons_head]
  have hm : (s.modCore c fun k => { k with inflight := k.inflight.erase op }) = s.modCore c fun k => { k with inflight := before ++ after } := by
    simp only [State.modCore, hs, he]
  unfold State.retireUnit
  rw [find_unit_oldest hs hb hu]
  simp only [hm]

theorem abNext_none (h : ∀ op ∈ (s.core c).inflight, op.unit ≠ .abacus) : s.abNext c = s := by
  unfold State.abNext
  rw [find_unit_none h]

/-- An AB that computes retires like the operations of the other units (21 R488). -/
theorem abNext_computed {op : InFlight} (h : (s.core c).inflight.find? (fun i => i.unit == .abacus) = some op)
    (hk : ∀ ch src dst len st rest, op.effects ≠ .keyUnit ch src dst len st :: rest) : s.abNext c = s.retireUnit c .abacus := by
  unfold State.abNext
  rw [h]
  cases he : op.effects with
  | nil => simp only [he]
  | cons e rest =>
    cases e with
    | keyUnit ch src dst len st => exact absurd he (hk ch src dst len st rest)
    | _ => simp only [he]

end

/-! ## Effects (02 R60; 05 R122; 07 R160) -/

theorem bitOf_or (a b i : Nat) : bitOf (a ||| b) i = (bitOf a i || bitOf b i) := by
  simp only [bitOf_eq_testBit, Nat.testBit_or]

theorem State.setCore_self (s : State) (c : CoreId) : s.setCore c (s.core c) = s := by
  unfold State.setCore State.core
  simp

/-- Settles O24. -/
theorem retirement : Obligations.Retirement := by
  unfold Obligations.Retirement
  refine ⟨fun c s i u hi => ?_, fun s c => ⟨fun a bs => rfl, fun r v => rfl, fun b i => ?_, fun f i => ?_, fun n w nf => ?_, fun q set => ?_,
    fun slot pos h => ?_, fun slot pos h => ?_⟩⟩
  · simp only [List.mem_cons, Prod.mk.injEq, List.not_mem_nil, or_false] at hi
    rcases hi with ⟨rfl, rfl⟩ | ⟨rfl, rfl⟩ | ⟨rfl, rfl⟩ | ⟨rfl, rfl⟩ | ⟨rfl, rfl⟩ | ⟨rfl, rfl⟩
    case inr.inr.inr.inr.inr =>
      simp only [exec, execAbExecutionComplete]
      exact ⟨fun h => by rw [abNext_none h], fun before op after hs hb hop hu hk => by
        rw [abNext_computed (find_unit_oldest hs hb hu) hk, retireUnit_oldest hs hb hop hu]⟩
    all_goals
      simp only [exec, execLatticePassRetire, execDrainRetire, execEwRetire, execLanternRetire, execIeeeRetire]
      exact ⟨fun h => by rw [retireUnit_none h], fun before op after hs hb hop hu _ => by rw [retireUnit_oldest hs hb hop hu]⟩
  · rw [State.applyEffect, State.core_modCore_same, bitOf_or]
  · rw [State.applyEffect, State.core_modCore_same, bitOf_or]
  · simp [State.applyEffect, Amx.fold]
  · simp [State.applyEffect]
  · simp [State.applyEffect, State.modCore, h, State.setCore_self]
  · simp [State.applyEffect, h]

end Sys2Proof.Machine

/-!
# Scale histories (O25, O26)
-/

namespace Sys2Proof.Machine

/-! ## The record (05 R126, R127) -/

section
variable (r : ShRec) (p0 p1 : Bool)

theorem ShRec.p0v_valid : (r.valid p0 p1).p0v = p0 := by
  cases p0 <;> cases p1 <;> simp [ShRec.valid, ShRec.p0v, bitOf, b2n] <;> omega

theorem ShRec.p1v_valid : (r.valid p0 p1).p1v = p1 := by
  cases p0 <;> cases p1 <;> simp [ShRec.valid, ShRec.p1v, bitOf, b2n] <;> omega

theorem ShRec.bitOf_mark (i : Nat) : bitOf (r.mark i).flags i = true := by
  simp [ShRec.mark, bitOf_eq_testBit]

variable {r} {step : Nat}

theorem ShRec.commit_other (h : r.p0v = false ∨ r.step0 ≠ step) : r.commit step = none := by
  unfold ShRec.commit
  rw [if_neg]
  rcases h with h | h <;> simp [h]

theorem ShRec.commit_step (hp : r.p0v = true) (hs : r.step0 = step) (hl : r.ent.length = 32) :
    ∃ t, r.commit step = some t ∧ t.head = (r.head + 1) % 32 ∧ t.cstep = step ∧ t.ent[t.head]? = some r.pend0
      ∧ (∀ i, i ≠ t.head → t.ent[i]? = r.ent[i]?) ∧ t.nval = min (r.nval + 1) 32 ∧ t.pend0 = r.pend1 ∧ t.step0 = r.step1 ∧ t.p0v = r.p1v
      ∧ t.p1v = false := by
  have hh : (r.head + 1) % 32 < r.ent.length := by omega
  refine ⟨_, if_pos (by simp [hp, hs]), rfl, rfl, ?_, fun i hi => ?_, rfl, rfl, rfl, ShRec.p0v_valid _ _ _, ShRec.p1v_valid _ _ _⟩
  · exact List.getElem?_set_self hh
  · exact List.getElem?_set_ne (Ne.symm hi)

theorem ShRec.observe_committed {word : Nat} (h : step ≤ r.cstep) (hn : 0 < r.nval) : r.observe word step = (r.mark 6, true) := by
  unfold ShRec.observe
  exact if_pos (by simp [h, hn])

theorem ShRec.observe_first {word : Nat} (h : r.cstep < step ∨ r.nval = 0) (h0 : r.p0v = false) (h1 : r.p1v = false) :
    r.observe word step = (({ r with pend0 := word, step0 := step } : ShRec).valid true r.p1v, false) := by
  unfold ShRec.observe
  rw [if_neg, if_neg, if_neg, if_pos]
  · simp [h0]
  · simp [h1]
  · simp [h0]
  · rcases h with h | h <;> simp [h]

end

/-! ## The checks of a named record (06 R149) -/

section
variable {s : State} {c : CoreId} {l : List Nat} {reads : Bool} {go : Unit → Act}

/-- Every record is aligned and inside the scratchpad, in an owned bank that is awake, and nothing earlier writes it. -/
structure RecordsOpen (s : State) (c : CoreId) (l : List Nat) : Prop where
  ready : ∀ q ∈ l, q % 128 = 0 ∧ q + 128 ≤ 0x400000
  held : s.heldAll c (l.map fun q => (q, q + 128)) = .owned
  awake : s.napping c (l.map fun q => (q, q + 128)) = false
  free : (s.core c).rangeBusy (l.map fun q => (q, q + 128)) = false

theorem shCheck_open (h : RecordsOpen s c l) : s.shCheck c l reads go
    = if reads && l.any (fun a => (s.shRead c a).bad) then .fault shRecFault else go () := by
  obtain ⟨hr, hh, hn, hb⟩ := h
  have hrange : (l.any fun a => decide (0x400000 < a + 128)) = false := List.any_eq_false.2 fun q hq => by simpa using (hr q hq).2
  have halign : (l.any fun a => a % 128 != 0) = false := List.any_eq_false.2 fun q hq => by simpa using (hr q hq).1
  simp only [State.shCheck, hrange, halign, hh, hn, hb, Bool.false_eq_true, if_false, Bool.or_self]

theorem shCheck_passes (h : RecordsOpen s c l) (hb : reads = true → ∀ a ∈ l, (s.shRead c a).bad = false) : s.shCheck c l reads go = go () := by
  rw [shCheck_open h]
  cases reads
  · rfl
  · have hany : (l.any fun a => (s.shRead c a).bad) = false := List.any_eq_false.2 fun a ha => by simp [hb rfl a ha]
    simp [hany]

theorem unready_mono {l l' : List Nat} (h : s.unready c l = false) (hs : ∀ a ∈ l', a ∈ l) : s.unready c l' = false := by
  simp only [State.unready, List.any_eq_false] at h ⊢
  exact fun a ha => h a (hs a ha)

end

/-! ## The instructions (05 R125–R131; 07 R192) -/

section
variable {x : Issue} {s : State}

/-- SHCMT runs the checks of its record and commits the step. -/
theorem execShcmt_eq (h : Issues x s 0x6A) (hA : isReg (fA x.word.toNat) = true) (hD : fD x.word.toNat = 0)
    (hB : isReg (fB x.word.toNat) = true) (hC : fC x.word.toNat = 0) (hz : bits x.word.toNat 27 0 = 0)
    (hu : s.unready x.core [fA x.word.toNat, fB x.word.toNat] = false) :
    (∀ t, s.shCheck x.core [(s.core x.core).regNat (fA x.word.toNat)] true (fun _ => .done (s.shCommit x.core
        ((s.core x.core).regNat (fA x.word.toNat)) ((s.core x.core).regNat (fB x.word.toNat) % 2 ^ 32))) = .done t →
      execShcmt x s = .next (t.advance x.core))
    ∧ ∀ f, s.shCheck x.core [(s.core x.core).regNat (fA x.word.toNat)] true (fun _ => .done (s.shCommit x.core
        ((s.core x.core).regNat (fA x.word.toNat)) ((s.core x.core).regNat (fB x.word.toNat) % 2 ^ 32))) = .fault f →
      execShcmt x s = .next (s.takeFault x.core f) := by
  unfold execShcmt
  exact ⟨fun t ht => issue_done h (require_of_all (by simp [hA, hD, hB, hC, hz])) ((if_neg (by simp [hu])).trans ht),
    fun f hf => issue_fault h (require_of_all (by simp [hA, hD, hB, hC, hz])) ((if_neg (by simp [hu])).trans hf)⟩

end

section
variable {s : State} {c : CoreId} {a : Nat} {reads : Bool} {go : Unit → Act}

theorem shCheck_range (h : 0x400000 < a + 128) : s.shCheck c [a] reads go = .fault ⟨2, 2, 0, 0, 0xF⟩ := by
  simp [State.shCheck, h, descFault]

theorem shCheck_notOwned (hr : a + 128 ≤ 0x400000) (hh : s.heldAll c [(a, a + 128)] = .no) :
    s.shCheck c [a] reads go = .fault ⟨2, 5, 0, 0, 0xF⟩ := by
  simp [State.shCheck, Nat.not_lt.2 hr, hh, descFault]

theorem shCheck_misaligned (hr : a + 128 ≤ 0x400000) (hh : s.heldAll c [(a, a + 128)] = .owned) (ha : a % 128 ≠ 0) :
    s.shCheck c [a] reads go = .fault ⟨2, 8, 0, 0, 0xF⟩ := by
  simp [State.shCheck, Nat.not_lt.2 hr, hh, ha, shRecFault, descFault]

theorem shCheck_bad (h : RecordsOpen s c [a]) (hb : (s.shRead c a).bad = true) : s.shCheck c [a] true go = .fault ⟨2, 8, 0, 0, 0xF⟩ := by
  rw [shCheck_open h]
  simp [hb, shRecFault, descFault]

theorem shCheck_one (h : RecordsOpen s c [a]) (hb : (s.shRead c a).bad = false) : s.shCheck c [a] true go = go () :=
  shCheck_passes h fun _ _ hq => by rwa [List.mem_singleton.1 hq]

end

/-- Settles O25: the instructions by the checks of their records, the record by its three operations. -/
theorem scaleHistory : Obligations.ScaleHistory := by
  unfold Obligations.ScaleHistory
  refine ⟨fun x s hu hA => ⟨fun h hD hB hC hz hn ho => ?_, fun h hD hB hC hz ho hbad hamx => ?_, fun h hD hB hC hz ho hbad => ?_,
    fun h hD hB hC hz ho hbad => ?_, fun h hD hB hC hz ho ha hb h1 h2 => ?_, fun h hD hB hC hz => ?_⟩, fun r word step hl hh =>
    ⟨fun hp hs => ShRec.commit_step hp hs hl, ShRec.commit_other, ⟨?_, ?_, rfl, rfl, rfl⟩, fun h hn => ?_, fun h h0 h1 => ?_⟩⟩
  · obtain ⟨hr, hh, hw, hf, hs⟩ := ho
    have hro : RecordsOpen s x.core [(s.core x.core).regNat (fA x.word.toNat)] := ⟨hr, hh, hw, hf⟩
    simp only [exec, execShinit]
    rw [issue_done h (require_of_all (by simp [hA, hD, hB, hC, hz, hn])) ((if_neg (by simp [unready_mono hu])).trans
      (shCheck_passes hro (by simp)))]
    simp
  · obtain ⟨hr, hh, hw, hf, hs⟩ := ho
    have hro : RecordsOpen s x.core [(s.core x.core).regNat (fA x.word.toNat)] := ⟨hr, hh, hw, hf⟩
    simp only [exec, execShobs]
    rw [issue_done h (require_of_all (by simp [hA, hD, hB, hC, hz])) (
      (if_neg (ne_true_of_eq_false (Bool.or_eq_false_iff.2 ⟨unready_mono hu (by simp), hamx⟩))).trans (shCheck_one hro hbad))]
  · obtain ⟨hr, hh, hw, hf, hs⟩ := ho
    have hro : RecordsOpen s x.core [(s.core x.core).regNat (fA x.word.toNat)] := ⟨hr, hh, hw, hf⟩
    exact (execShcmt_eq h hA hD hB hC hz (unready_mono hu (by simp))).1 _ (shCheck_one hro hbad)
  · obtain ⟨hr, hh, hw, hf, hs⟩ := ho
    have hro : RecordsOpen s x.core [(s.core x.core).regNat (fA x.word.toNat)] := ⟨hr, hh, hw, hf⟩
    simp only [exec, execShdsc]
    rw [issue_done h (require_of_all (by simp [hA, hD, hB, hC, hz])) ((if_neg (by simp [unready_mono hu])).trans (shCheck_one hro hbad))]
  · obtain ⟨hr, hh, hw, hf, hs⟩ := ho
    have hro : RecordsOpen s x.core [(s.core x.core).regNat (fA x.word.toNat), (s.core x.core).regNat (fB x.word.toNat)] := ⟨hr, hh, hw, hf⟩
    simp only [exec, execShanc]
    rw [issue_done h (require_of_all (by simp [hA, hD, hB, hC, hz])) ((if_neg (by simp [hu])).trans
      ((shCheck_passes hro (by simp [ha, hb])).trans (if_neg (by simp; omega))))]
    rfl
  · have hc := execShcmt_eq h hA hD hB hC hz (unready_mono hu (by simp))
    refine ⟨fun hr => hc.2 _ (shCheck_range hr), fun hr hh => hc.2 _ (shCheck_notOwned hr hh), fun hr hh ha => hc.2 _ (shCheck_misaligned hr hh ha),
      fun ho hbad => ?_⟩
    obtain ⟨hr, hh, hw, hf, hs⟩ := ho
    exact hc.2 _ (shCheck_bad ⟨hr, hh, hw, hf⟩ hbad)
  · simp only [ShRec.discard, ShRec.p0v_valid]
    cases r.p0v
    · rfl
    · rcases Nat.lt_or_ge r.step0 step with h | h
      · simp [h, Nat.not_le.2 h]
      · simp [h, Nat.not_lt.2 h]
  · simp only [ShRec.discard, ShRec.p1v_valid]
    cases r.p1v
    · rfl
    · rcases Nat.lt_or_ge r.step1 step with h | h
      · simp [h, Nat.not_le.2 h]
      · simp [h, Nat.not_lt.2 h]
  · rw [ShRec.observe_committed h hn]
    exact ⟨rfl, ShRec.bitOf_mark r 6⟩
  · rw [ShRec.observe_first h h0 h1]
    exact ⟨rfl, rfl, rfl, ShRec.p0v_valid _ _ _⟩

/-! ## SHDER (05 R129, R137) -/

section
variable {s : State} {c : CoreId} {q : ShderWait}

theorem shAnswered_none {a : ReadAnswer} (h : (s.core c).shder = some q) (hp : ∀ tag, q.phase ≠ .asked tag) : s.shAnswered c a = s := by
  unfold State.shAnswered
  cases he : q.phase with
  | asked tag => exact absurd he (hp tag)
  | due => simp only [h, he]
  | pause => simp only [h, he]

/-- The host's scale of the core's step is taken where it is the derived one (05 R137). -/
theorem shAnswered_taken {bs : List Byte} {tag : Nat} (h : (s.core c).shder = some q) (hp : q.phase = .asked tag)
    (hstep : bits (leNat (bs.take 8)) 63 32 = q.step.toNat) (hpos : bits (leNat (bs.take 8)) 15 0 < 0x8000)
    (hsc : isScale (bits (leNat (bs.take 8)) 15 0) = true) (hd : bits (leNat (bs.take 8)) 15 0 = q.derived) :
    s.shAnswered c (.data bs) = ((s.endShRead c).shFinish c q.dreg q.record
      { s.shRead c q.record with hscale := bits (leNat (bs.take 8)) 15 0, hstep := bits (leNat (bs.take 8)) 63 32 }
      (bits (leNat (bs.take 8)) 15 0)).modCore c fun k => { k with shder := none } := by
  have hdiff : (bits (leNat (bs.take 8)) 15 0 != q.derived) = false := by simp [hd]
  unfold State.shAnswered
  simp only [h, hp]
  rw [if_pos (by simp [hstep, hpos, hsc])]
  simp only [hdiff]
  rfl

/-- A scale of another step leads to another read (05 R137). -/
theorem shAnswered_again {bs : List Byte} {tag : Nat} (h : (s.core c).shder = some q) (hp : q.phase = .asked tag)
    (hstep : bits (leNat (bs.take 8)) 63 32 ≠ q.step.toNat) :
    s.shAnswered c (.data bs) = ((s.endShRead c).shWrite c q.record
      { s.shRead c q.record with hscale := bits (leNat (bs.take 8)) 15 0, hstep := bits (leNat (bs.take 8)) 63 32 }).modCore c
        fun k => { k with shder := some { q with phase := .pause } } := by
  unfold State.shAnswered
  simp only [h, hp]
  rw [if_neg (by simp [hstep])]
  rfl

theorem execShderHostRetry_eq (h : (s.core c).shder = some q) (hp : q.phase = .pause) : execShderHostRetry c s
    = .next ((s.modCore c fun k => { k with shder := some { q with phase := .due } }).porterGoesOn c) := by
  unfold execShderHostRetry
  simp [State.modCore, h, hp]

end

/-- Settles O26: SHDER by the branch its partition's SCALE duty takes, the host's answers by theirs. -/
theorem scaleDerive : Obligations.ScaleDerive := by
  unfold Obligations.ScaleDerive
  refine ⟨fun x s h hD hA hB hC hz hu hs ha hr hh hf hw hbad => ?_, fun s c q hq => ⟨fun tag hp bs => ⟨fun hstep hpos hsc hd => ?_, fun hstep => ?_⟩,
    fun hp a => ?_, fun hp => ?_, ?_⟩⟩
  · have hro : RecordsOpen s x.core [(s.core x.core).regNat (fA x.word.toNat)] := ⟨by simpa [ha] using hr, hh, hw, hf⟩
    refine ⟨fun hm => ?_, fun hm hok => ?_, fun hm hok => ?_⟩
    all_goals simp only [exec, execShder]
    · rw [issue_done h (require_of_all (by simp [hA, hD, hB, hC, hz])) ((if_neg (by simp [hu, hs])).trans ((shCheck_one hro hbad).trans
        (if_pos (by simp [hm]))))]
    · rw [issue_done h (require_of_all (by simp [hA, hD, hB, hC, hz])) ((if_neg (by simp [hu, hs])).trans ((shCheck_one hro hbad).trans
        ((if_neg (by simp [hm])).trans (if_neg (by rw [hok]; simp)))))]
    · rw [issue_done h (require_of_all (by simp [hA, hD, hB, hC, hz])) ((if_neg (by simp [hu, hs])).trans ((shCheck_one hro hbad).trans
        ((if_neg (by simp [hm])).trans (if_pos (by rw [hok]; simp)))))]
  · simp only [exec, execShderHostDataArrive, shAnswered_taken hq hp hstep hpos hsc hd]
  · simp only [exec, execShderHostDataArrive, shAnswered_again hq hp hstep]
  · simp only [exec, execShderHostDataArrive, shAnswered_none hq hp]
  · simp only [exec, execShderHostRetry_eq hq hp]
  · simp only [exec, execShderHostTimeout, hq]

end Sys2Proof.Machine

/-!
# The CRED instructions (O27)
-/

namespace Sys2Proof.Machine

/-- What every step of a fold leaves alone, the fold leaves alone. -/
theorem foldl_same {α β σ : Type} {f : σ → α → σ} {π : σ → β} (h : ∀ s a, π (f s a) = π s) (l : List α) (s : σ) :
    π (l.foldl f s) = π s := by
  induction l generalizing s with
  | nil => rfl
  | cons a l ih => rw [List.foldl_cons, ih, h]

/-! ## What a packet leaves alone -/

section
variable (s : State)

@[simp] theorem State.sendPacket_cores (k : Packet) : (s.sendPacket k).cores = s.cores := by
  unfold State.sendPacket State.queueOn
  split
  · split <;> simp
  · rfl

@[simp] theorem State.sendPacket_canopy (k : Packet) : (s.sendPacket k).canopy = s.canopy := by
  unfold State.sendPacket State.queueOn
  split
  · split <;> simp
  · rfl

@[simp] theorem State.sendCanopy_cores (n : PartId) (kind rank : Nat) (b : CanopyBody) : (s.sendCanopy n kind rank b).cores = s.cores :=
  State.sendPacket_cores _ _

@[simp] theorem State.sendCanopy_canopy (n : PartId) (kind rank : Nat) (b : CanopyBody) : (s.sendCanopy n kind rank b).canopy = s.canopy :=
  State.sendPacket_canopy _ _

@[simp] theorem State.stashState_cores (n : PartId) (v : Nat) : (s.stashState n v).cores = s.cores := rfl

@[simp] theorem State.stashState_canopy (n : PartId) (v : Nat) : (s.stashState n v).canopy = s.canopy := rfl

@[simp] theorem State.putReduction_cores (i : Fin 8) (r : Reduction) : (s.putReduction i r).cores = s.cores := rfl

end

/-! ## A reduction is kept under its number (18 R419) -/

/-- The list of reductions holds one of a number. -/
def holdsRed (rseq : Nat) (l : List Reduction) : Bool := l.any fun r => r.rseq == rseq

theorem holdsRed_putRed (r : Reduction) (l : List Reduction) : holdsRed r.rseq (putRed r l) = true := by
  induction l with
  | nil => simp [holdsRed, putRed]
  | cons x xs ih =>
    unfold putRed
    split
    · simp [holdsRed]
    · split
      · simp [holdsRed]
      · simpa [holdsRed] using Or.inr (by simpa [holdsRed] using ih)

theorem State.putReduction_holds (s : State) (i : Fin 8) (r : Reduction) : holdsRed r.rseq ((s.putReduction i r).canopy[i]).reds = true := by
  have h : ((s.putReduction i r).canopy[i]).reds = putRed r (s.canopy[i]).reds := by
    simp only [State.putReduction, State.setCanopy, Fin.getElem_fin, Vector.getElem_set_self]
  rw [h]
  exact holdsRed_putRed _ _

theorem Reduction.growLevel_rseq (rank l : Nat) (r : Reduction) : (r.growLevel rank l).rseq = r.rseq := by
  unfold Reduction.growLevel
  refine foldl_same (π := Reduction.rseq) (fun r i => ?_) _ r
  dsimp only
  split
  · rfl
  · split
    · rfl
    · split
      · rfl
      · split <;> rfl

theorem Reduction.grow_rseq (rank : Nat) (r : Reduction) : (r.grow rank).rseq = r.rseq :=
  foldl_same (π := Reduction.rseq) (fun r l => Reduction.growLevel_rseq rank (l + 1) r) _ r

section
variable (s : State) (n : PartId) (i : Fin 8) (r : Reduction)

theorem State.growReduction_cores : (s.growReduction n i r).cores = s.cores := by
  unfold State.growReduction
  split
  · rfl
  · split
    · rfl
    · dsimp only
      split
      · rfl
      · exact foldl_same (π := State.cores) (fun s e => State.sendCanopy_cores s _ _ _ _) _ _

theorem State.growReduction_canopy : ∃ q : Reduction, q.rseq = r.rseq ∧ (s.growReduction n i r).canopy = (s.putReduction i q).canopy := by
  unfold State.growReduction
  split
  · exact ⟨r, rfl, rfl⟩
  · split
    · exact ⟨r, rfl, rfl⟩
    · dsimp only
      split
      · refine ⟨_, ?_, rfl⟩
        exact Reduction.grow_rseq _ r
      · refine ⟨_, ?_, foldl_same (π := State.canopy) (fun s e => State.sendCanopy_canopy s _ _ _ _) _ _⟩
        exact Reduction.grow_rseq _ r

/-- However a reduction grows, its context holds it afterwards. -/
theorem State.growReduction_holds {k : Nat} (hk : r.rseq = k) : holdsRed k ((s.growReduction n i r).canopy[i]).reds = true := by
  obtain ⟨q, hq, hc⟩ := s.growReduction_canopy n i r
  rw [hc, ← hk, ← hq]
  exact State.putReduction_holds s i q

end

/-- What a CRED hands over joins its reduction: the cores and memory stay as they are, and the context holds the reduction. -/
theorem State.joinReduction_frame (s : State) (n : PartId) (i : Fin 8) (c : CoreId) (rseq mode chunk nchunk : Nat) (anchor : Int) (v : CVal) :
    (s.joinReduction n i c rseq mode chunk nchunk anchor v).cores = s.cores
      ∧ holdsRed rseq ((s.joinReduction n i c rseq mode chunk nchunk anchor v).canopy[i]).reds = true := by
  unfold State.joinReduction
  dsimp only
  refine ⟨State.growReduction_cores _ _ _ _, State.growReduction_holds _ _ _ _ ?_⟩
  cases hf : (s.canopy[i]).reds.find? fun r => r.rseq == rseq with
  | none => rfl
  | some r =>
    have hr : r.rseq = rseq := by simpa using List.find?_some hf
    simp only
    split
    · exact hr
    · exact hr

/-! ## The instructions (07 R186) -/

section
variable {x : Issue} {s : State} {mode : Nat} {slot dest : Nat}

/-- A CRED that passes its checks is taken with its slot and destination. -/
theorem credRun_eq (h : Issues x s 0x49) (hl : credIllegal mode x.word.toNat = none)
    (hu : s.unready x.core ([fP x.word.toNat, credOreg x.word.toNat] ++ (if mode = 2 ∨ mode = 4 then [credSreg x.word.toNat]
      else if mode = 3 then [48 + credSreg x.word.toNat] else [])) = false)
    (h0 : mode = 0 → (s.core x.core).isPairTop (fH x.word.toNat) = false
      ∧ (s.core x.core).groupOf (bits ((s.core x.core).regNat (fP x.word.toNat)) 45 40) = none
      ∧ (s.core x.core).swapping (fH x.word.toNat) = false ∧ (s.core x.core).slotBusy slot = false
      ∧ (s.core x.core).slotBusy dest = false ∧ (s.core x.core).epochHoldsSlot dest = false)
    (h1 : mode = 1 → (s.core x.core).amxBusy (Fin.ofNat 8 (credAxn x.word.toNat)) = false)
    (hslot : slot = if mode = 0 then (s.core x.core).drainSlot (fH x.word.toNat) else 0)
    (hdest : dest = if mode = 0 then bits ((s.core x.core).regNat (fP x.word.toNat)) 45 40 else 0) :
    (∀ t, s.credTake x.core x.word.toNat slot dest = .done t → credRun x s mode = .next (t.advance x.core))
      ∧ (s.credTake x.core x.word.toNat slot dest = .stall → credRun x s mode = .next s) := by
  have hregs : (s.unready x.core ([fP x.word.toNat, credOreg x.word.toNat] ++ (if mode == 2 || mode == 4 then [credSreg x.word.toNat]
      else if mode == 3 then [48 + credSreg x.word.toNat] else []))) = false := by
    simpa only [beq_iff_eq, Bool.or_eq_true] using hu
  have hbody (a : Act) (ha : s.credTake x.core x.word.toNat slot dest = a) : (if mode == 0 then
        if (s.core x.core).isPairTop (fH x.word.toNat) then Act.fault (hearthFault 1 (fH x.word.toNat))
        else if ((s.core x.core).groupOf (bits ((s.core x.core).regNat (fP x.word.toNat)) 45 40)).isSome then
          .fault (hearthFault 1 (bits ((s.core x.core).regNat (fP x.word.toNat)) 45 40))
        else if (s.core x.core).swapping (fH x.word.toNat) || (s.core x.core).slotBusy ((s.core x.core).drainSlot (fH x.word.toNat))
            || (s.core x.core).slotBusy (bits ((s.core x.core).regNat (fP x.word.toNat)) 45 40)
            || (s.core x.core).epochHoldsSlot (bits ((s.core x.core).regNat (fP x.word.toNat)) 45 40) then .stall
        else s.credTake x.core x.word.toNat ((s.core x.core).drainSlot (fH x.word.toNat)) (bits ((s.core x.core).regNat (fP x.word.toNat)) 45 40)
      else if mode == 1 && (s.core x.core).amxBusy (Fin.ofNat 8 (credAxn x.word.toNat)) then .stall
      else s.credTake x.core x.word.toNat 0 0) = a := by
    by_cases hm : mode = 0
    · obtain ⟨ht, hg, hsw, hsb, hdb, heh⟩ := h0 hm
      simp only [hm, if_true] at hslot hdest
      subst hslot hdest
      simp [hm, ht, hg, hsw, hsb, hdb, heh, ha]
    · simp only [hm, if_false] at hslot hdest
      subst hslot hdest
      have hax : (mode == 1 && (s.core x.core).amxBusy (Fin.ofNat 8 (credAxn x.word.toNat))) = false := by
        by_cases h1m : mode = 1
        · rw [h1 h1m, Bool.and_false]
        · simp [h1m]
      rw [if_neg (by simpa using hm), hax, ha]
      rfl
  unfold credRun
  exact ⟨fun t ht => issue_done h hl ((if_neg (ne_true_of_eq_false hregs)).trans (hbody _ ht)),
    fun ht => issue_stall h hl ((if_neg (ne_true_of_eq_false hregs)).trans (hbody _ ht))⟩

end

section
variable {s : State} {c : CoreId} {w slot dest : Nat}

/-- Without a context of the word's number the outcome is CTX_BAD (18 R423). -/
theorem credTake_noContext (h : (s.core c).part = none ∨ ∃ n, (s.core c).part = some n
      ∧ (s.parts[n]).canopy.find? (fun (e : Nat × Fin 8) => e.1 == bits w 27 25) = none) :
    s.credTake c w slot dest = .done (s.modCore c fun k => k.setReg (credOreg w) 1) := by
  rcases h with h | ⟨n, h, hf⟩
  · simp [State.credTake, h]
  · simp only [State.credTake, h, hf, Option.map_none]
    rfl

section
variable {n : PartId} {ctx : Fin 8} (hp : (s.core c).part = some n)
  (hf : (s.parts[n]).canopy.find? (fun (e : Nat × Fin 8) => e.1 == bits w 27 25) = some (bits w 27 25, ctx))
  (hs : (s.canopy[ctx]).settled ≤ tabGet 0 (s.canopy[ctx]).counts c.val)
include hp hf hs

theorem credTake_crowded (hc : 4 ≤ ((s.canopy[ctx]).reds.filter fun (r : Reduction) => r.issued != []).length
      ∧ holdsRed (tabGet 0 (s.canopy[ctx]).counts c.val) (s.canopy[ctx]).reds = false) : s.credTake c w slot dest = .stall := by
  have hcr : (decide (4 ≤ ((s.canopy[ctx]).reds.filter fun (r : Reduction) => r.issued != []).length)
      && !(s.canopy[ctx]).reds.any fun (r : Reduction) => r.rseq == tabGet 0 (s.canopy[ctx]).counts c.val) = true := by
    rw [Bool.and_eq_true, decide_eq_true_eq, show ((s.canopy[ctx]).reds.any fun (r : Reduction) => _) = _ from hc.2]
    exact ⟨hc.1, rfl⟩
  unfold State.credTake
  simp only [hp, hf, Option.map_some]
  exact (if_neg (Nat.not_lt.2 hs)).trans (if_pos hcr)

theorem credTake_joins (hc : ¬(4 ≤ ((s.canopy[ctx]).reds.filter fun (r : Reduction) => r.issued != []).length
      ∧ holdsRed (tabGet 0 (s.canopy[ctx]).counts c.val) (s.canopy[ctx]).reds = false)) :
    ∃ t : State, s.credTake c w slot dest = .done t ∧ (t.core c).creds = (s.core c).creds ++ [⟨ctx.val, tabGet 0 (s.canopy[ctx]).counts c.val,
        credMode w, credAxn w, credSreg w, credOreg w, slot, dest, (s.core c).pc, (s.core c).tag, false, (s.core c).issued⟩]
      ∧ t.mem = s.mem ∧ holdsRed (tabGet 0 (s.canopy[ctx]).counts c.val) (t.canopy[ctx]).reds = true := by
  have hcr : ¬(decide (4 ≤ ((s.canopy[ctx]).reds.filter fun (r : Reduction) => r.issued != []).length)
      && !(s.canopy[ctx]).reds.any fun (r : Reduction) => r.rseq == tabGet 0 (s.canopy[ctx]).counts c.val) = true := by
    rw [Bool.and_eq_true, decide_eq_true_eq, Bool.not_eq_true']
    exact hc
  apply Exists.intro
  refine ⟨?_, ?_, ?_, ?_⟩
  · unfold State.credTake
    simp only [hp, hf, Option.map_some]
    exact (if_neg (Nat.not_lt.2 hs)).trans (if_neg hcr)
  · rw [State.core, (State.joinReduction_frame _ _ _ _ _ _ _ _ _ _).1]
    exact congrArg Core.creds (State.core_modCore_same _ _ _)
  · simp
  · exact (State.joinReduction_frame _ _ _ _ _ _ _ _ _ _).2

end

end

/-- Settles O27. -/
theorem credInstructions : Obligations.CredInstructions := by
  unfold Obligations.CredInstructions
  intro x s i mode hi h hl c w k p slot dest hu h0 h1
  have he : exec i s = credRun x s mode := by
    simp only [List.mem_cons, Prod.mk.injEq, List.not_mem_nil, or_false] at hi
    rcases hi with ⟨rfl, rfl⟩ | ⟨rfl, rfl⟩ | ⟨rfl, rfl⟩ | ⟨rfl, rfl⟩ | ⟨rfl, rfl⟩ <;> rfl
  have hmode : credMode w = mode := by
    have h := require_none.1 hl
    simp only [List.all_cons, id, Bool.and_eq_true, beq_iff_eq] at h
    exact h.1
  obtain ⟨hdone, hstall⟩ := credRun_eq (slot := slot) (dest := dest) h hl hu h0 h1 rfl rfl
  rw [he]
  refine ⟨fun hn => hdone _ (credTake_noContext hn), fun n ctx hp hf hs => ⟨fun hc => hstall (credTake_crowded hp hf hs hc), fun hc => ?_⟩⟩
  obtain ⟨t, ht, hcreds, hmem, hred⟩ := credTake_joins (slot := slot) (dest := dest) hp hf hs hc
  rw [hmode] at hcreds
  exact ⟨t, hdone t ht, hcreds, hmem, hred⟩

end Sys2Proof.Machine

/-!
# CLAIM, GIVE and FREE (O28)
-/

namespace Sys2Proof.Machine

section
variable {x : Issue} {s : State} (he : (s.core x.core).epoch.opened = false) (hb : s.bankBusy x.core = false)
  (hD : isReg (fD x.word.toNat) = true) (hz : bits x.word.toNat 27 0 = 0) (hC : fC x.word.toNat = 0)
include he hb hD hz hC

/-- A claim that adopts none of the Scout's goes out, or ends at once where no bank can be asked for. -/
theorem execClaim_new (h : Issues x s 0x80) (hu : s.unready x.core [fD x.word.toNat] = false) (hA : fA x.word.toNat = 0)
    (hB : fB x.word.toNat = 0) (ha : s.adoptClaim x.core (s.core x.core).pc (fD x.word.toNat) = none) :
    let u := s.dropClaim x.core (s.core x.core).pc
    let q : Claim := ⟨.core x.core, x.core, fD x.word.toNat, u.candidates x.core, (u.core x.core).pc, (u.core x.core).issued⟩
    execClaim x s = .next ((if u.candidates x.core == [] then u.claimRefused q 1 none else { u with claims := u.claims ++ [q] }).advance x.core) := by
  dsimp only
  unfold execClaim
  refine issue_done h (require_of_all (by simp [hD, hA, hB, hC, hz])) ((if_neg (by simp [he, hb, hu])).trans ?_)
  simp only [ha]
  split <;> rfl

/-- A GIVE ends with its local code, or goes on to the window it names (07 R195). -/
theorem execGive_local (h : Issues x s 0x81) (hu : s.unready x.core [fD x.word.toNat, fA x.word.toNat, fB x.word.toNat] = false)
    (hA : isReg (fA x.word.toNat) = true) (hB : isReg (fB x.word.toNat) = true) {code : Nat}
    (hc : s.giveLocal x.core ((s.core x.core).regNat (fA x.word.toNat)) ((s.core x.core).regNat (fB x.word.toNat)) = some code) :
    execGive x s = .next ((s.giveEnd x.core ((s.core x.core).regNat (fA x.word.toNat)) (.give (fD x.word.toNat)) code).advance x.core) := by
  unfold execGive
  exact issue_done h (require_of_all (by simp [hD, hA, hB, hC, hz])) ((if_neg (by simp [he, hb, hu])).trans (by simp only [hc]))

theorem execGive_asks (h : Issues x s 0x81) (hu : s.unready x.core [fD x.word.toNat, fA x.word.toNat, fB x.word.toNat] = false)
    (hA : isReg (fA x.word.toNat) = true) (hB : isReg (fB x.word.toNat) = true) {m : CoreId}
    (hc : s.giveLocal x.core ((s.core x.core).regNat (fA x.word.toNat)) ((s.core x.core).regNat (fB x.word.toNat)) = none)
    (hw : (s.core x.core).windows[(Fin.ofNat 32 ((s.core x.core).regNat (fA x.word.toNat)) : BankIx)] = some m)
    (ht : s.inTransit x.core (Fin.ofNat 32 ((s.core x.core).regNat (fA x.word.toNat))) = false)
    (hr : s.giveReady x.core (Fin.ofNat 32 ((s.core x.core).regNat (fA x.word.toNat))) (s.core x.core).issued
      ((s.core x.core).chansIn (Fin.ofNat 32 ((s.core x.core).regNat (fA x.word.toNat)))) = true) :
    execGive x s = .next (({ s with handovers := s.handovers ++ [(⟨m, Fin.ofNat 32 ((s.core x.core).regNat (fA x.word.toNat)), some x.core,
      Fin.ofNat 64 ((s.core x.core).regNat (fB x.word.toNat)), .give (fD x.word.toNat), false, false, (s.core x.core).pc,
      (s.core x.core).issued, []⟩ : Handover)] }).advance x.core) := by
  unfold execGive
  exact issue_done h (require_of_all (by simp [hD, hA, hB, hC, hz])) ((if_neg (by simp [he, hb, hu])).trans
    (by simp only [hc, hw]; exact if_neg (by simp only [ht, hr]; exact Bool.false_ne_true)))

end

section
variable {s : State} {c : CoreId} {b t : Nat}

theorem giveLocal_range (h : 31 < b ∨ 63 < t) : s.giveLocal c b t = some 3 :=
  if_pos (by simpa using h)

theorem giveLocal_noWindow (hb : b ≤ 31) (ht : t ≤ 63) (hw : (s.core c).windows[(Fin.ofNat 32 b : BankIx)] = none) :
    s.giveLocal c b t = some 4 :=
  (if_neg (by simp; omega)).trans (if_pos (by rw [hw]; rfl))

theorem giveLocal_window {m : CoreId} (hb : b ≤ 31) (ht : t ≤ 63) (hw : (s.core c).windows[(Fin.ofNat 32 b : BankIx)] = some m) :
    s.giveLocal c b t = if t == c.val then some 0 else none :=
  (if_neg (by simp; omega)).trans (if_neg (by rw [hw]; simp))

end

/-- Settles O28. -/
theorem bankInstructions : Obligations.BankInstructions := by
  unfold Obligations.BankInstructions
  refine fun x s he hb hD hu hz hC => ⟨fun h hA hB ha => ?_, fun h hA hB => ⟨fun hr => ?_, fun h1 h2 hw => ?_, fun m h1 h2 hw ht => ?_, fun m h1 h2 hw ht htr hr => ?_⟩,
    fun h hA hB => ⟨fun hr => ?_, fun h1 hw => ?_, fun m h1 hw htr hr => ?_⟩⟩
  · have hx := execClaim_new he hb hD hz hC h (unready_mono hu (by simp)) hA hB ha
    exact ⟨fun hc => by simp only [exec, hx]; rw [if_pos (by simpa using hc)], fun hc => by simp only [exec, hx]; rw [if_neg (by simpa using hc)]⟩
  · exact execGive_local he hb hD hz hC h hu hA hB (giveLocal_range hr)
  · exact execGive_local he hb hD hz hC h hu hA hB (giveLocal_noWindow h1 h2 hw)
  · exact execGive_local he hb hD hz hC h hu hA hB ((giveLocal_window h1 h2 hw).trans (if_pos (by simpa using ht)))
  · exact execGive_asks he hb hD hz hC h hu hA hB ((giveLocal_window h1 h2 hw).trans (if_neg (by simpa using ht))) hw htr hr
  all_goals simp only [exec, execFree]
  · exact issue_done h (require_of_all (by simp [hD, hA, hB, hC, hz])) ((if_neg (by simp [he, hb, unready_mono hu])).trans (if_pos hr))
  · exact issue_done h (require_of_all (by simp [hD, hA, hB, hC, hz])) ((if_neg (by simp [he, hb, unready_mono hu])).trans
      ((if_neg (Nat.not_lt.2 h1)).trans (by simp only [hw])))
  · exact issue_done h (require_of_all (by simp [hD, hA, hB, hC, hz])) ((if_neg (by simp [he, hb, unready_mono hu])).trans
      ((if_neg (Nat.not_lt.2 h1)).trans (by simp only [hw]; exact if_pos (by simp only [htr, hr]; rfl))))

end Sys2Proof.Machine

/-!
# Banks on the move (O29)
-/

namespace Sys2Proof.Machine

/-! ## What these functions leave alone -/

@[simp] theorem bumpOf_tick (s : State) (c : CoreId) (index sub : Nat) (by_ : Nat) :
    (bumpOf s c index sub by_).tick = s.tick := by
  unfold bumpOf
  split <;> simp

@[simp] theorem State.flushTx_tick (s : State) : (s.flushTx).tick = s.tick := by
  simp [State.flushTx, apply_ite State.tick]

@[simp] theorem State.transmit_tick (s : State) (e : OutEvent) : (s.transmit e).tick = s.tick := by
  simp [State.transmit, apply_ite State.tick]

@[simp] theorem State.hostPost_tick (s : State) (n : PartId) (addr : Nat) (bs : List Byte) (noSnoop : Bool) :
    (s.hostPost n addr bs noSnoop).tick = s.tick := by
  simp -implicitDefEqProofs [State.hostPost, foldl_same (π := State.tick), apply_ite State.tick]

@[simp] theorem State.raiseVector_tick (s : State) (n : PartId) (v : Fin 8) : (s.raiseVector n v).tick = s.tick := by
  simp [State.raiseVector, apply_ite State.tick]

@[simp] theorem State.setNoteQueue_tick (s : State) (q : Option PartId) (x : NoteQueue) : (s.setNoteQueue q x).tick = s.tick := by
  unfold State.setNoteQueue
  split <;> simp

@[simp] theorem State.pushNotify_tick (s : State) : (s.pushNotify).tick = s.tick := by
  unfold State.pushNotify
  split <;> simp [apply_ite State.tick]

@[simp] theorem State.noteRing_tick (s : State) (q : Option PartId) : (s.noteRing q).tick = s.tick := by
  simp [State.noteRing, apply_ite State.tick]

@[simp] theorem State.notePost_tick (s : State) (q : Option PartId) (reason item data : Nat) :
    (s.notePost q reason item data).tick = s.tick := by
  simp [State.notePost, apply_ite State.tick]

@[simp] theorem State.recordEvent_tick (s : State) (code : Nat) (part : Option PartId) (core : Option CoreId) (detail : Nat) :
    (s.recordEvent code part core detail).tick = s.tick := by
  unfold State.recordEvent
  dsimp only
  repeat' split
  all_goals simp

@[simp] theorem State.breakCtx_tick (s : State) (key cause : Nat) : (s.breakCtx key cause).tick = s.tick := by
  simp [State.breakCtx, apply_ite State.tick]

@[simp] theorem State.breakStreams_tick (s : State) (c : CoreId) (cause : Nat) (p : Ctx → Bool) :
    (s.breakStreams c cause p).tick = s.tick := by
  simp [State.breakStreams, foldl_same (π := State.tick), apply_ite State.tick]

@[simp] theorem State.setOutc_tick (s : State) (c : CoreId) (b : BankIx) (code : Nat) : (s.setOutc c b code).tick = s.tick := rfl

@[simp] theorem State.countRefusal_tick (s : State) (c : CoreId) (code : Nat) : (s.countRefusal c code).tick = s.tick := by
  simp [State.countRefusal, apply_ite State.tick]

@[simp] theorem State.setWindow_tick (s : State) (c : CoreId) (b : BankIx) (h : Option CoreId) :
    (s.setWindow c b h).tick = s.tick := rfl

@[simp] theorem State.loseWindow_tick (s : State) (c : CoreId) (b : BankIx) : (s.loseWindow c b).tick = s.tick := by
  simp [State.loseWindow]

@[simp] theorem State.setOwned_tick (s : State) (m : CoreId) (b : BankIx) (c : CoreId) : (s.setOwned m b c).tick = s.tick := by
  unfold State.setOwned
  exact foldl_same (π := State.tick) (fun s a => by simp) _ _

@[simp] theorem State.giveEnd_tick (s : State) (c : CoreId) (b : Nat) (how : Giver) (code : Nat) :
    (s.giveEnd c b how code).tick = s.tick := by
  unfold State.giveEnd
  repeat' split
  all_goals simp

@[simp] theorem State.dropHandover_tick (s : State) (h : Handover) : (s.dropHandover h).tick = s.tick := rfl

@[simp] theorem State.flushTx_faults (s : State) : (s.flushTx).faults = s.faults := by
  simp [State.flushTx, apply_ite State.faults]

@[simp] theorem State.transmit_faults (s : State) (e : OutEvent) : (s.transmit e).faults = s.faults := by
  simp [State.transmit, apply_ite State.faults]

@[simp] theorem State.hostPost_faults (s : State) (n : PartId) (addr : Nat) (bs : List Byte) (noSnoop : Bool) :
    (s.hostPost n addr bs noSnoop).faults = s.faults := by
  simp -implicitDefEqProofs [State.hostPost, foldl_same (π := State.faults), apply_ite State.faults]

@[simp] theorem State.raiseVector_faults (s : State) (n : PartId) (v : Fin 8) : (s.raiseVector n v).faults = s.faults := by
  simp [State.raiseVector, apply_ite State.faults]

@[simp] theorem State.setOutc_claims (s : State) (c : CoreId) (b : BankIx) (code : Nat) :
    (s.setOutc c b code).claims = s.claims := rfl

@[simp] theorem State.setWindow_claims (s : State) (c : CoreId) (b : BankIx) (h : Option CoreId) :
    (s.setWindow c b h).claims = s.claims := rfl

@[simp] theorem State.setOwned_claims (s : State) (m : CoreId) (b : BankIx) (c : CoreId) :
    (s.setOwned m b c).claims = s.claims := by
  unfold State.setOwned
  exact foldl_same (π := State.claims) (fun s a => by simp) _ _

/-! ## Contested claims (08 R205) -/

/-- The winner is one of the requesters, and none stands nearer upward from GPTR. -/
theorem contestWinner_nearest (gptr : Nat) {rs : List Requester} (h : rs ≠ []) :
    ∃ w, contestWinner gptr rs = some w ∧ w ∈ rs ∧ ∀ r ∈ rs, grantDistance gptr w ≤ grantDistance gptr r := by
  induction rs with
  | nil => exact absurd rfl h
  | cons r rs ih =>
    cases rs with
    | nil => exact ⟨r, rfl, List.mem_singleton.2 rfl, fun q hq => by rw [List.mem_singleton.1 hq]⟩
    | cons r' rs' =>
      obtain ⟨w, hw, hm, hmin⟩ := ih (List.cons_ne_nil _ _)
      unfold contestWinner
      rw [hw]
      by_cases hlt : grantDistance gptr w < grantDistance gptr r
      · refine ⟨w, by simp [hlt], List.mem_cons_of_mem _ hm, fun q hq => ?_⟩
        rcases List.mem_cons.1 hq with e | hq
        · rw [e]; exact Nat.le_of_lt hlt
        · exact hmin q hq
      · refine ⟨r, by simp [hlt], List.mem_cons_self, fun q hq => ?_⟩
        rcases List.mem_cons.1 hq with e | hq
        · rw [e]
        · exact Nat.le_trans (Nat.not_lt.1 hlt) (hmin q hq)

/-! ## Claims at the home router (08 R204) -/

/-- One request for a FREE bank of a powered unit takes it. -/
theorem execClaimRequestArrive_free {s : State} {m : CoreId} {b : BankIx} {q : Claim}
    (hq : (s.claims.filter fun r => [q.who].contains r.who && r.cands.head? == some (m, b)) = [q])
    (hw : s.windowTaken q.target b = false) (hf : s.bank m b = .free) (hg : s.unitGated m b = false) :
    execClaimRequestArrive m b [q.who] s = .next (s.grant q m b) := by
  have hfit : (!s.windowTaken q.target b && takable (s.bank m b)) = true := by rw [hw, hf]; rfl
  have htake : s.take q m b = s.grant q m b := by
    unfold State.take
    simp only [hf, hg]
    rfl
  unfold execClaimRequestArrive
  simp only [hq, List.filter_cons, List.filter_nil, hfit, Bool.not_true, if_true, Bool.false_eq_true, if_false, List.foldl_nil, List.map_cons,
    List.map_nil, contestWinner, List.find?_cons, beq_self_eq_true, bne_self_eq_false, htake]
  rfl

@[simp] theorem Core.setReg_windows (k : Core) (d : Nat) (v : W64) : (k.setReg d v).windows = k.windows := by
  unfold Core.setReg
  repeat' split
  all_goals rfl

theorem State.windows_setWindow (s : State) (c : CoreId) (b : BankIx) (h : Option CoreId) : ((s.setWindow c b h).core c).windows[b] = h := by
  rw [State.setWindow, State.core_modCore_same]
  simp

theorem State.windows_setOutc (s : State) (c : CoreId) (b : BankIx) (code : Nat) : ((s.setOutc c b code).core c).windows = (s.core c).windows := by
  rw [State.setOutc, State.core_modCore_same]

/-- What a claim of a core leaves when it is granted (08 R204). -/
theorem grant_core_eq (s : State) (c m : CoreId) (b : BankIx) (d pc order : Nat) : s.grant ⟨.core c, c, d, [], pc, order⟩ m b
    = ((((({ s with claims := s.claims.filter fun r => r.who != .core c } : State).setOwned m b c).setWindow c b (some m)).setOutc c b 0).modCore c
      fun k => k.setReg d (BitVec.ofNat 64 b.val)) := rfl

/-- A granted claim of a core: the window, the number in D, no claim of the core left. -/
theorem grant_core (s : State) (c m : CoreId) (b : BankIx) {d : Nat} (pc order : Nat) (hd : d < 48) :
    ((s.grant ⟨.core c, c, d, [], pc, order⟩ m b).core c).windows[b] = some m
      ∧ ((s.grant ⟨.core c, c, d, [], pc, order⟩ m b).core c).reg d = BitVec.ofNat 64 b.val
      ∧ ∀ q ∈ (s.grant ⟨.core c, c, d, [], pc, order⟩ m b).claims, q.who ≠ .core c := by
  rw [grant_core_eq, State.core_modCore_same]
  refine ⟨?_, ?_, fun q hq => ?_⟩
  · simp only [Core.setReg_windows, State.windows_setOutc, State.windows_setWindow]
  · rcases Nat.lt_or_ge d 32 with h | h
    · exact Core.reg_setReg_sreg _ h
    · exact Core.reg_setReg_areg _ h hd
  · simp only [State.modCore_claims, State.setOutc_claims, State.setWindow_claims, State.setOwned_claims, List.mem_filter] at hq
    simpa using hq.2

/-! ## Handovers (08 R206–R209) -/

section
variable {s : State} {h : Handover}

theorem execHandoverRequestArrive_found (hf : s.handovers.find? (fun g => g.home == h.home && g.bank == h.bank && !g.sent) = some h) :
    (∀ c, h.source = some c → (s.core c).windows[h.bank] = some h.home → s.giveReady c h.bank h.order h.waits = true →
        s.handoverRefusal h = none →
        exec (.handoverRequestArrive h.home h.bank) s = .next (((({ s with
          handovers := s.handovers.map fun g => if g == h then { g with sent := true } else g }).setBank h.home h.bank (.transit h.target)).loseWindow c h.bank).retryAll))
      ∧ (∀ c code, h.source = some c → (s.core c).windows[h.bank] = some h.home → s.giveReady c h.bank h.order h.waits = true →
        s.handoverRefusal h = some code →
        exec (.handoverRequestArrive h.home h.bank) s = .next ((s.dropHandover h).giveEnd c h.bank h.how code))
      ∧ (∀ c, h.source = some c → (s.core c).windows[h.bank] ≠ some h.home → s.bank h.home h.bank ≠ .transit h.target →
        (s.handovers.any fun g => g.home == h.home && g.bank == h.bank && g.sent) = false →
        exec (.handoverRequestArrive h.home h.bank) s = .next ((s.dropHandover h).giveEnd c h.bank h.how 4))
      ∧ (h.source = none → s.handoverRefusal h = none → exec (.handoverRequestArrive h.home h.bank) s = .next (({ s with
          handovers := s.handovers.map fun g => if g == h then { g with sent := true } else g }).setBank h.home h.bank (.transit h.target))) := by
  simp only [exec, execHandoverRequestArrive, hf]
  refine ⟨fun c hs hw hr href => ?_, fun c code hs hw hr href => ?_, fun c hs hw hb ha => ?_, fun hs href => ?_⟩
  · simp only [hs, hw, hr, href, bne_self_eq_false, Bool.false_eq_true, if_false, Bool.not_true]
  · simp only [hs, hw, hr, href, bne_self_eq_false, Bool.false_eq_true, if_false, Bool.not_true]
  · simp only [hs, ha]
    rw [if_pos (by simpa using hw), if_neg (by simpa using hb)]
  · simp only [hs, href]

end

/-! ## The handover timeout (08 R209; 22 R499) -/

theorem State.deviceReset_fatal (s : State) : s.deviceReset.faults.fatal = s.faults.fatal := by
  unfold State.deviceReset
  dsimp only
  split <;> rfl

theorem State.deviceReset_frame (s : State) : s.deviceReset.handovers = [] ∧ s.deviceReset.mem = [] ∧ s.deviceReset.tick = s.tick := by
  unfold State.deviceReset
  dsimp only
  split <;> exact ⟨rfl, rfl, rfl⟩

/-- A class 4 event heads the fatal log. -/
theorem recordEvent_fatal (s : State) {code : Nat} (part : Option PartId) (core : Option CoreId) (detail : Nat) (hc : eventClass code = 4) :
    (s.recordEvent code part core detail).faults.fatal.head?.map (fun (e : EventRec) => (e.code, e.cls)) = some (code, 4) := by
  unfold State.recordEvent
  simp only [hc]
  cases part <;> simp

/-- The record of a class 4 event heads the fatal log, whatever follows it in the sequence. -/
theorem fatal_head (s : State) {code : Nat} (part : Option PartId) (core : Option CoreId) (detail : Nat) (hc : eventClass code = 4) :
    (s.fatal code part core detail).faults.fatal.head?.map (fun (e : EventRec) => (e.code, e.cls)) = some (code, 4) := by
  unfold State.fatal
  rw [State.deviceReset_fatal]
  split
  · rw [State.raiseVector_faults, recordEvent_fatal s part core detail hc]
  · exact recordEvent_fatal s part core detail hc

theorem fatal_frame (s : State) (code : Nat) (part : Option PartId) (core : Option CoreId) (detail : Nat) :
    (s.fatal code part core detail).handovers = [] ∧ (s.fatal code part core detail).mem = [] ∧ (s.fatal code part core detail).tick = s.tick := by
  obtain ⟨hh, hm, ht⟩ := State.deviceReset_frame (if (s.recordEvent code part core detail).linkUp
    && !bitOf ((((s.recordEvent code part core detail).parts[(0 : PartId)]).vectors[(3 : Fin 8)]).ctl.toNat) 0
    then (s.recordEvent code part core detail).raiseVector 0 3 else s.recordEvent code part core detail)
  refine ⟨hh, hm, ht.trans ?_⟩
  split <;> simp

/-- Settles O29. -/
theorem bankMoves : Obligations.BankMoves := by
  unfold Obligations.BankMoves
  refine ⟨⟨fun s m b q hq hw hf hg => ?_, fun s c m b d pc order hd => grant_core s c m b pc order hd, fun s h hf => execHandoverRequestArrive_found hf,
    fun s h hf => ?_, fun s h hf => ⟨fun c hs => ?_, fun n hs hn => ?_⟩, fun s h c hf hs => ?_, fun s m b p hp => ⟨fun e => ?_, fun e => ?_,
      fun c e => ?_, fun r q e hq => ?_⟩⟩, fun gptr rs h => contestWinner_nearest gptr h⟩
  · simp only [exec, execClaimRequestArrive_free hq hw hf hg]
  · simp only [exec, execHandoverBankArrive, hf]
    exact ⟨_, rfl, State.windows_setWindow _ _ _ _, rfl, rfl⟩
  · simp only [exec, execHandoverAckArrive, hf, hs]
  · simp only [exec, execHandoverAckArrive, hf, hs, hn]
  · simp only [exec, execHandoverTimeout, hf, hs]
    refine ⟨_, rfl, ?_⟩
    simp only [postEvent, eventClass]
    obtain ⟨hh, hm, ht⟩ := fatal_frame _ 0x40 _ _ _
    refine ⟨hh, ht.trans ?_, hm, fatal_head _ _ _ _ rfl⟩
    split <;> simp
  · simp only [exec, execBankClearDone, hp, e]
  · simp only [exec, execBankClearDone, hp, e]
  · simp only [exec, execBankClearDone, hp, e]
  · simp only [exec, execBankClearDone, hp, e, hq]

end Sys2Proof.Machine

/-!
# SEND, RECV and SCLOSE (O30)
-/

namespace Sys2Proof.Machine

/-! ## Checks of no area -/

theorem checkOperands_none (s : State) (c : CoreId) : s.checkOperands c [] [] = .ok := by
  simp [State.checkOperands, firstFault, allRanges, State.heldAll, State.napping, windowsOf]

theorem Core.rangeBusy_nil (k : Core) : k.rangeBusy [] = false := by
  simp [Core.rangeBusy, overlaps]

/-! ## The issue (07 R194; 10 R257) -/

section
variable {x : Issue} {s : State} {opc : Nat} {illegal : Nat → Option CoreFault}

/-- A SEND or RECV whose payload passes its checks ends with its try. -/
theorem streamIssue_payload {i : Instr} (hx : exec i s = streamIssue x s opc illegal true) (h : Issues x s opc) (hl : illegal x.word.toNat = none)
    (hu : s.unready x.core [fD x.word.toNat, fA x.word.toNat, fB x.word.toNat, fC x.word.toNat] = false)
    (hc : s.checkOperands x.core [] [⟨(s.core x.core).regNat (fB x.word.toNat), (s.core x.core).regNat (fB x.word.toNat)
      + (s.core x.core).regNat (fC x.word.toNat), 1, opc == 0x79⟩] = .ok)
    (hb : (s.core x.core).rangeBusy (allRanges [] [⟨(s.core x.core).regNat (fB x.word.toNat), (s.core x.core).regNat (fB x.word.toNat)
      + (s.core x.core).regNat (fC x.word.toNat), 1, opc == 0x79⟩]) = false) :
    (∀ t d, s.streamTry x.core x.word.toNat = .done t d → exec i s = .next ((t.streamEnd x.core x.word.toNat d).retryAll.advance x.core))
      ∧ (s.streamTry x.core x.word.toNat = .wait → exec i s = .next (s.modCore x.core fun k => { k with
          mode := .waiting, wait := some ⟨x.word, k.pc, s.tick + s.waitTicks x.core x.word.toNat⟩ })) := by
  rw [hx]
  unfold streamIssue
  exact ⟨fun t d ht => issue_done h hl ((if_neg (by simp [hu])).trans (by simp only [if_true, hc, hb, ht]; rfl)),
    fun ht => issue_hold h hl ((if_neg (by simp [hu])).trans (by simp only [if_true, hc, hb, ht]; rfl))⟩

/-- SCLOSE, which has no payload, ends with its try. -/
theorem streamIssue_close (h : Issues x s opc) (hl : illegal x.word.toNat = none) (hu : s.unready x.core [fD x.word.toNat, fA x.word.toNat] = false)
    {t : State} {d : Nat} (ht : s.streamTry x.core x.word.toNat = .done t d) :
    streamIssue x s opc illegal false = .next ((t.streamEnd x.core x.word.toNat d).retryAll.advance x.core) := by
  unfold streamIssue
  refine issue_done h hl ((if_neg (by simp [hu])).trans ?_)
  simp only [Bool.false_eq_true, if_false, checkOperands_none, ht]
  exact if_neg (ne_true_of_eq_false (Core.rangeBusy_nil _))

end

/-- A wait that still finds nothing stays as it is until its tick. -/
theorem execStreamWaitTimeout_waits {s : State} {c : CoreId} {q : StreamWait} (hq : (s.core c).wait = some q)
    (hw : s.streamTry c q.word.toNat = .wait) : execStreamWaitTimeout c s
      = .next (if s.tick < q.due then s else (bumpOf s c 0x4050 4).endWait c q.word.toNat 1) := by
  have hr : s.retryWait c = s := by
    unfold State.retryWait
    simp only [hq, hw]
  unfold execStreamWaitTimeout
  simp only [hr, hq]
  rfl

/-! ## What a try does to a context of this die (10 R252, R253, R255) -/

section
variable {s : State} {c : CoreId} {n : PartId} {i addr len key : Nat} {x : Ctx} (hx : s.ctxOf n i = some (key, x)) (hcl : x.clearing = false)
include hx hcl

theorem sendTry_bad (h : x.state = 0 ∨ x.sends c = false) : s.sendTry c n i addr len = .done s 4 := by
  have hb : (x.state == 0 || !x.sends c) = true := by simpa using h
  simp only [State.sendTry, hx, hcl, hb, Bool.false_eq_true, if_false, if_true, soBad]

theorem sendTry_long (h0 : x.state ≠ 0) (hs : x.sends c = true) (h : len = 0 ∨ x.slotBytes - 8 < len) :
    s.sendTry c n i addr len = .done s 5 := by
  have hb : (x.state == 0 || !x.sends c) = false := by simp [h0, hs]
  have hl : (len == 0 || decide (x.slotBytes - 8 < len)) = true := by simpa using h
  simp only [State.sendTry, hx, hcl, hb, hl, Bool.false_eq_true, if_false, if_true, soLong]

/-- A SEND of a length that fits, on a context that is not RESET, goes on to the states of the context. -/
theorem sendTry_fits (h0 : x.state ≠ 0) (hs : x.sends c = true) (h1 : 1 ≤ len) (h2 : len ≤ x.slotBytes - 8) :
    s.sendTry c n i addr len = if x.state == 2 || x.state == 3 || x.state == 4 then .done s 2
      else if x.state == 5 then .done s 3
      else if s.farLost x x.far then .done (s.breakCtx key 4) 3
      else if x.cred == 0 then .wait
      else
        let t := objBump (s.setCtx key { x with
          cred := x.cred - 1, sent := x.sent + 1, esent := if (s.core c).openEpoch.isSome then (x.esent + 1) % 256 else x.esent }) (some n) 0x4050 7
        .done (if x.remote then t.campPacket n x.far 0x01 i (leBytes 8 (slotHeader len (s.core c).openEpoch) ++ scratchBytes s.mem (s.core c) addr len)
          else { t with traffic := t.traffic ++ [.msg n i (x.sent.toNat % x.depth) (s.core c).openEpoch (scratchBytes s.mem (s.core c) addr len)
            x.score x.rcore] }) 0 := by
  have hb : (x.state == 0 || !x.sends c) = false := by simp [h0, hs]
  have hl : (len == 0 || decide (x.slotBytes - 8 < len)) = false := by simp; omega
  simp only [State.sendTry, hx, hcl, hb, hl, Bool.false_eq_true, if_false, soClosed, soPeer, soOk]

theorem recvTry_bad (h : x.state = 0 ∨ x.receives c = false) : s.recvTry c n i addr len = .done s 4 := by
  have hb : (x.state == 0 || !x.receives c) = true := by simpa using h
  simp only [State.recvTry, hx, hcl, hb, Bool.false_eq_true, if_false, if_true, soBad]

theorem recvTry_closed (hr : x.receives c = true) (h : x.state = 3 ∨ x.state = 4) : s.recvTry c n i addr len = .done s 2 := by
  have hb : (x.state == 0 || !x.receives c) = false := by rcases h with h | h <;> simp [h, hr]
  have hl : (x.state == 3 || x.state == 4) = true := by simpa using h
  simp only [State.recvTry, hx, hcl, hb, hl, Bool.false_eq_true, if_false, if_true, soClosed]

section
variable (hr : x.receives c = true) (hn : s.napping c [(x.slotOff (x.rcvd.toNat + x.ercvd), x.slotOff (x.rcvd.toNat + x.ercvd) + 8 + len)] = false)
include hr hn

/-- Without a message in the slot a RECV of an OPEN context waits, and one of a broken context ends. -/
theorem recvTry_empty (h : x.state = 1 ∨ x.state = 5) (h24 : bitOf (s.slotHdr x (x.rcvd.toNat + x.ercvd)) 24 = false) :
    s.recvTry c n i addr len = if x.state == 5 then .done s 3 else .wait := by
  have hb : (x.state == 0 || !x.receives c) = false := by rcases h with h | h <;> simp [h, hr]
  have hl : (x.state == 3 || x.state == 4) = false := by rcases h with h | h <;> simp [h]
  have h2 : (x.state == 2) = false := by rcases h with h | h <;> simp [h]
  simp only [State.recvTry, hx, hcl, hb, hl, hn, h24, h2, Bool.false_eq_true, if_false, Bool.false_and, soPeer]

/-- A message in the slot is taken where it fits, outside an epoch (10 R255). -/
theorem recvTry_message (h : x.state = 1 ∨ x.state = 2 ∨ x.state = 5) (he : (s.core c).epoch.opened = false) (hun : x.unread = true)
    (h24 : bitOf (s.slotHdr x (x.rcvd.toNat + x.ercvd)) 24 = true) (h25 : bitOf (s.slotHdr x (x.rcvd.toNat + x.ercvd)) 25 = false) :
    s.recvTry c n i addr len = if len < bits (s.slotHdr x (x.rcvd.toNat + x.ercvd)) 23 0 then .done s 5
      else
        let t : State := { s with
          mem := (scratchWrite s.mem (s.core c) addr
            (scratchBytes s.mem (s.core c) (x.slotOff (x.rcvd.toNat + x.ercvd) + 8) (bits (s.slotHdr x (x.rcvd.toNat + x.ercvd)) 23 0))) }
        .done ((objBump ((t.setSlotHdr x (x.rcvd.toNat + x.ercvd) (s.slotHdr x (x.rcvd.toNat + x.ercvd) - 2 ^ 24)).setCtx key
          { x with rcvd := x.rcvd + 1 }) (some n) 0x4050 8).returnCredit n i 1 x) (bits (s.slotHdr x (x.rcvd.toNat + x.ercvd)) 23 0 * 2 ^ 16) := by
  have hb : (x.state == 0 || !x.receives c) = false := by rcases h with h | h | h <;> simp [h, hr]
  have hl : (x.state == 3 || x.state == 4) = false := by rcases h with h | h | h <;> simp [h]
  have hh : (s.core c).epochHolds [(addr, addr + bits (s.slotHdr x (x.rcvd.toNat + x.ercvd)) 23 0)] = false := by simp [Core.epochHolds, he]
  simp only [State.recvTry, hx, hcl, hb, hl, hn, h24, h25, hun, hh, he, Bool.false_eq_true, if_false, Bool.not_false, Bool.true_or, Bool.and_self,
    if_true, Bool.not_true, soLong, soOk, Nat.zero_add]

end

end

@[simp] theorem State.queueOn_cores (s : State) (p : PortIx) (dl camp : Nat) (k : Packet) :
    (s.queueOn p dl camp k).cores = s.cores := by
  simp [State.queueOn, apply_ite State.cores]

@[simp] theorem State.breakCtx_cores (s : State) (key cause : Nat) : (s.breakCtx key cause).cores = s.cores := by
  simp [State.breakCtx, apply_ite State.cores]

@[simp] theorem State.campPacket_cores (s : State) (n : PartId) (far kind arg : Nat) (body : List Byte) :
    (s.campPacket n far kind arg body).cores = s.cores := by
  simp [State.campPacket]

@[simp] theorem State.returnCredit_cores (s : State) (n : PartId) (i count : Nat) (x : Ctx) :
    (s.returnCredit n i count x).cores = s.cores := by
  simp [State.returnCredit, apply_ite State.cores]

/-- A credit returned on a context of one die goes into the mesh (10 R256). -/
theorem State.returnCredit_near (s : State) (n : PartId) (i count : Nat) {x : Ctx} (h : x.remote = false) :
    s.returnCredit n i count x = { s with traffic := s.traffic ++ [.credit n i count x.rcore x.score] } := by
  simp [State.returnCredit, State.farLost, h]

/-- Settles O30. -/
theorem streamRows : Obligations.StreamRows := by
  unfold Obligations.StreamRows
  refine ⟨⟨fun x s hD hA hz hu => ⟨fun i opc wr hi h hB hC hc hb => ?_, fun h hB hC hz' t d ht => ?_⟩, fun s c q hq hw => ⟨fun hd => ?_, fun hd => ?_⟩⟩,
    fun s c n i addr len key x hx hcl => ⟨sendTry_bad hx hcl, sendTry_long hx hcl, fun hs h1 h2 => ⟨fun h => ?_, fun h => ?_, fun h hf => ?_,
      fun h hf hcr => ?_, fun h hcr hr => ?_⟩, recvTry_bad hx hcl, recvTry_closed hx hcl, fun hn hr => ⟨fun h h24 => ?_, fun h h24 => ?_,
      fun h he hun h24 h25 => ?_⟩⟩⟩
  · simp only [List.mem_cons, Prod.mk.injEq, List.not_mem_nil, or_false] at hi
    rcases hi with ⟨rfl, rfl, rfl⟩ | ⟨rfl, rfl, rfl⟩
    · apply streamIssue_payload (hx := by simp only [exec, execSend]; rfl) h ?_ hu hc hb
      exact require_of_all (by simp [hD, hA, hB, hC, hz])
    · apply streamIssue_payload (hx := by simp only [exec, execRecv]; rfl) h ?_ hu hc hb
      exact require_of_all (by simp [hD, hA, hB, hC, hz])
  · simp only [exec, execSclose]
    exact streamIssue_close h (require_of_all (by simp [*])) (unready_mono hu (by simp)) ht
  · simp only [exec, execStreamWaitTimeout_waits hq hw, if_neg (Nat.not_lt.2 hd)]
  · simp only [exec, execStreamWaitTimeout_waits hq hw, if_pos hd]
  · have h0 : x.state ≠ 0 := by omega
    rw [sendTry_fits hx hcl h0 hs h1 h2, if_pos (by simpa [or_assoc] using h)]
  · rw [sendTry_fits hx hcl (by omega) hs h1 h2, if_neg (by simp [h]), if_pos (by simp [h])]
  · rw [sendTry_fits hx hcl (by omega) hs h1 h2, if_neg (by simp [h]), if_neg (by simp [h]), if_pos hf]
  · rw [sendTry_fits hx hcl (by omega) hs h1 h2, if_neg (by simp [h]), if_neg (by simp [h]), if_neg (by simp [hf]), if_pos (by simp [hcr])]
  · have hf : s.farLost x x.far = false := by simp [State.farLost, hr]
    rw [sendTry_fits hx hcl (by omega) hs h1 h2, if_neg (by simp [h]), if_neg (by simp [h]), if_neg (by simp [hf]), if_neg (by simpa using hcr)]
    simp only [hr, Bool.false_eq_true, if_false]
    exact ⟨_, rfl, by simp, by simp, by simp⟩
  · rw [recvTry_empty hx hcl hr hn (.inl h) h24, if_neg (by simp [h])]
  · rw [recvTry_empty hx hcl hr hn (.inr h) h24, if_pos (by simp [h])]
  · rw [recvTry_message hx hcl hr hn h he hun h24 h25]
    refine ⟨fun hlt => if_pos hlt, fun hle => ⟨_, if_neg (Nat.not_lt.2 hle), ?_, fun hrm => ?_⟩⟩
    · rw [State.returnCredit_cores]
      rfl
    · rw [State.returnCredit_near _ _ _ _ hrm]
      rfl

/-! ## Arrivals (10 R252, R256, R262) -/

/-- Settles O31. -/
theorem streamArrivals : Obligations.StreamArrivals := by
  unfold Obligations.StreamArrivals
  refine fun s n i key x hx => ⟨fun index spec payload a b rest portA ht => ?_, fun portA ht => ?_, fun count a b rest ht => ⟨fun h => ?_, fun h => ?_⟩,
    fun hr h => ?_, fun hr h => ?_⟩
  · simp only [exec, execStreamMessageArrive, hx, ht]
  · simp only [exec, execStreamMessageArrive, hx, ht]
  · simp only [exec, execStreamCreditArrive, hx, ht]
    rw [if_neg (by simpa using h)]
  · simp only [exec, execStreamCreditArrive, hx, ht]
    rw [if_pos (by simpa using h)]
  · have h4 : (!x.remote || x.state == 0 || x.state == 4) = false := by rcases h with h | h | h <;> simp [hr, h]
    have h5 : (x.state == 5) = false := by rcases h with h | h | h <;> simp [h]
    simp only [exec, execStreamCloseNoticeArrive, State.closeArrives, hx, h4, h5, Bool.false_eq_true, if_false]
  · have h4 : (!x.remote || x.state == 0 || x.state == 4) = false := by simp [hr, h]
    have h5 : (x.state == 5) = true := by simp [h]
    simp only [exec, execStreamCloseNoticeArrive, State.closeArrives, hx, h4, h5, Bool.false_eq_true, if_false, if_true]

end Sys2Proof.Machine

/-!
# Epochs, clearing cores and the Scout (O32)
-/

namespace Sys2Proof.Machine

/-! ## EPB, EPC and EPD (07 R200) -/

theorem epochFields_ok {w : Nat} (hd : fD w = 0) (ha : isReg (fA w) = true) (hb : fB w = 0) (hc : fC w = 0) (h27 : bits w 27 0 = 0) :
    epochFields w = none := by
  simp [epochFields, hd, ha, hb, hc, h27, require]

/-! ## A discard keeps the epoch's own record until it shuts it (06 R170) -/

@[simp] theorem bumpOf_cores (s : State) (c : CoreId) (index sub : Nat) (by_ : Nat) : (bumpOf s c index sub by_).cores = s.cores := by
  unfold bumpOf
  split <;> simp

@[simp] theorem State.abandonReads_cores (s : State) (p : HostRead → Bool) : (s.abandonReads p).cores = s.cores := by
  simp [State.abandonReads, apply_ite State.cores]

@[simp] theorem State.breakStreams_cores (s : State) (c : CoreId) (cause : Nat) (p : Ctx → Bool) : (s.breakStreams c cause p).cores = s.cores := by
  simp [State.breakStreams, foldl_same (π := State.cores), apply_ite State.cores]

@[simp] theorem State.clearBank_cores (s : State) (m : CoreId) (b : BankIx) (next : BankParty) : (s.clearBank m b next).cores = s.cores := rfl

/-- The epoch of a core. -/
def State.epochOf (s : State) (c : CoreId) : Epoch := (s.core c).epoch

theorem State.epochOf_of_cores {s t : State} (h : t.cores = s.cores) (c : CoreId) : t.epochOf c = s.epochOf c :=
  congrArg (fun v : Vector Core 64 => v[c].epoch) h

theorem State.epochOf_modCore (s : State) {c : CoreId} {f : Core → Core} (h : ∀ k, (f k).epoch = k.epoch) :
    (s.modCore c f).epochOf c = s.epochOf c := by
  rw [State.epochOf, State.core_modCore_same, h]
  rfl

theorem State.epochOf_dropReads (s : State) (c : CoreId) (i : ChanIx) : (s.dropReads c i).epochOf c = s.epochOf c :=
  (State.epochOf_of_cores (by unfold State.dropReads; dsimp only; split <;> rfl) c).trans
    (State.epochOf_modCore s (f := fun k => { k with late := k.late ++ ((s.core c).chans[i]).readsDue }) fun _ => rfl)

theorem State.epochOf_stopChan (s : State) (c : CoreId) (i : ChanIx) (st : ChanState) (cause : Nat) :
    (s.stopChan c i st cause).epochOf c = s.epochOf c := by
  refine Eq.trans (State.epochOf_modCore _ fun _ => rfl) ?_
  rw [State.epochOf_dropReads]
  exact State.epochOf_of_cores (by split <;> simp) c

theorem State.epochOf_stopMarked (s : State) (c : CoreId) : (s.stopMarked c).epochOf c = s.epochOf c := by
  refine foldl_same (π := fun t : State => t.epochOf c) (fun t i => ?_) _ s
  split
  · exact State.epochOf_stopChan t c i _ _
  · rfl

theorem State.epochOf_clearMarked (s : State) (c : CoreId) : (s.clearMarked c).epochOf c = s.epochOf c := by
  unfold State.clearMarked
  dsimp only
  rw [State.epochOf_of_cores (State.breakStreams_cores _ _ _ _)]
  refine (foldl_same (π := fun t : State => t.epochOf c) (fun t b => ?_) _ _).trans
    (foldl_same (π := fun t : State => t.epochOf c) (fun t h => ?_) _ s)
  · split
    · split
      · exact State.epochOf_of_cores (State.clearBank_cores _ _ _ _) c
      · rfl
    · rfl
  · split
    · rw [State.epochOf, State.clearSlot_core]
      rfl
    · rfl

theorem State.epochOf_dropShder (s : State) (c : CoreId) : (s.dropShder c).epochOf c = s.epochOf c := by
  unfold State.dropShder
  split
  · refine Eq.trans (State.epochOf_modCore _ fun _ => rfl) ?_
    exact State.epochOf_of_cores (State.abandonReads_cores _ _) c
  · rfl

/-- A core after its discard, run from RESTART. -/
def Core.discarded (k : Core) : Core :=
  let k : Core := match k.epoch.snapshot with | some q => k.restore q | none => k
  let creds : List CredWait := (k.creds.filter (·.outer)).map fun q => { q with outer := false }
  let k : Core := { k with creds := creds }
  ({ k with pc := k.epoch.restart, mode := .running, wait := none, epoch := k.epoch.shut }).scoutCount 5 1

theorem Core.discarded_of_snapshot {k : Core} {q : Snapshot} (h : k.epoch.snapshot = some q) :
    k.discarded.sreg = q.sreg ∧ k.discarded.areg = q.areg ∧ k.discarded.preg = q.preg ∧ k.discarded.lreg = q.lreg ∧ k.discarded.treg = q.treg
      ∧ k.discarded.tag = q.tag ∧ k.discarded.amx = q.amx ∧ k.discarded.stats = q.stats ∧ k.discarded.pc = k.epoch.restart
      ∧ k.discarded.mode = .running ∧ k.discarded.epoch.opened = false ∧ k.discarded.epoch.snapshot = none
      ∧ k.discarded.epoch.banks = k.epoch.banks ∧ k.discarded.epoch.slots = k.epoch.slots := by
  rw [Core.discarded, h]
  exact ⟨rfl, rfl, rfl, rfl, rfl, rfl, rfl, rfl, rfl, rfl, rfl, rfl, rfl, rfl⟩

/-- The state a discard has made before it turns the core itself back: writes stopped, marked slots and banks cleared. -/
def State.undone (s : State) (c : CoreId) : State := ((((s.scoutCancel c).retireAll c).1.dropShder c).stopMarked c).clearMarked c

theorem State.discardCore_core (s : State) (c : CoreId) : ((s.discardCore c true).1).core c = ((s.undone c).core c).discarded := by
  unfold State.discardCore State.undone
  dsimp only
  rw [State.core_modCore_same]
  generalize ((((s.scoutCancel c).retireAll c).1.dropShder c).stopMarked c).clearMarked c = t
  rfl

/-- With nothing in flight and no Scout under way the epoch's own record is still there. -/
theorem State.epochOf_undone {s : State} {c : CoreId} (hi : (s.core c).inflight = []) (hs : (s.core c).scout.running = false) :
    (s.undone c).epochOf c = s.epochOf c := by
  have hcancel : s.scoutCancel c = s := by simp [State.scoutCancel, hs]
  have hretire : (s.retireAll c).1 = s.modCore c fun k => { k with inflight := [] } := by
    simp only [State.retireAll, hi, List.filter_nil, List.foldl_nil, List.find?_nil]
  rw [State.undone, State.epochOf_clearMarked, State.epochOf_stopMarked, State.epochOf_dropShder, hcancel, hretire]
  exact State.epochOf_modCore s fun _ => rfl

/-! ## The Scout (06 R162 to R166) -/

theorem State.scoutStart_gated (s : State) (c m : CoreId) : ((s.scoutStart c).core m).power.gated = (s.core m).power.gated := by
  unfold State.scoutStart
  dsimp only
  split
  · rfl
  · by_cases h : m = c
    · subst h
      rw [State.setScout, State.core_modCore_same]
    · rw [State.setScout, State.core_modCore_other _ h]

theorem State.scoutClaim_mem {s : State} (hg : ∀ m, (s.core m).power.gated = 0) (c : CoreId) (w : Nat) : (s.scoutClaim c w).mem = s.mem := by
  have hu : ∀ m b, s.unitGated m b = false := fun m b => by simp [State.unitGated, hg, bitOf]
  unfold State.scoutClaim
  dsimp only
  split
  · rfl
  · split
    · rfl
    · rw [hu, if_neg Bool.false_ne_true]
      rfl

theorem State.scoutTreat_mem {s : State} (hg : ∀ m, (s.core m).power.gated = 0) (c : CoreId) (x : Issue) : (s.scoutTreat c x).mem = s.mem := by
  unfold State.scoutTreat
  dsimp only
  repeat' split
  all_goals simp [State.scoutClaim_mem hg]

/-! ## The obligation -/

/-- Settles O32. -/
theorem epochRows : Obligations.EpochRows := by
  unfold Obligations.EpochRows
  refine ⟨fun x s hd ha hb hc h27 hu => ?_, fun s c q hq hi hs => ?_, fun s c x => ⟨fun h => ?_, fun he hm hdis hecc => ⟨?_, fun hr => ?_, fun hg => ?_⟩,
    fun h => ?_⟩⟩
  · have hl := epochFields_ok hd ha hb hc h27
    refine ⟨fun h ho hi hsh hbr hv => ?_, fun h ho => ?_, fun h hn => ⟨fun hp => ?_, fun n hp => ?_⟩, fun h hn => ?_, fun hn => ⟨fun h => ?_, fun h => ?_⟩⟩
    · simp only [exec, execEpb]
      refine ⟨_, issue_done h hl ((if_neg (by simp [hu])).trans ((if_neg (by simp [ho])).trans ((if_neg (by simp [hi, hsh, hbr])).trans
        (if_neg (by simp [hv]))))), rfl, rfl, ?_⟩
      rw [State.core_modCore_same]
      exact ⟨rfl, rfl, rfl, rfl, rfl, rfl⟩
    · simp only [exec, execEpb]
      exact issue_done h hl ((if_neg (by simp [hu])).trans (if_pos ho))
    · simp only [exec, execEpc]
      exact issue_done h hl ((if_neg (by simp [hu])).trans ((if_neg (by simp [hn])).trans (by rw [hp])))
    · simp only [exec, execEpc]
      exact issue_done h hl ((if_neg (by simp [hu])).trans ((if_neg (by simp [hn])).trans (by rw [hp])))
    · simp only [exec, execEpd]
      exact issue_hold h hl ((if_neg (by simp [hu])).trans (if_neg (by simp [hn])))
    · simp only [exec, execEpc]
      exact issue_done h hl ((if_neg (by simp [hu])).trans (if_pos (by simp [hn])))
    · simp only [exec, execEpd]
      exact issue_done h hl ((if_neg (by simp [hu])).trans (if_pos (by simp [hn])))
  · have he : ((s.undone c).core c).epoch = (s.core c).epoch := State.epochOf_undone hi hs
    rw [State.discardCore_core, ← he]
    exact Core.discarded_of_snapshot ((congrArg Epoch.snapshot he).trans hq)
  · simp only [exec, execCoreClearingDone, h, beq_self_eq_true, if_true]
    rfl
  · simp only [exec, execScoutAdvance]
    exact if_neg (by simp [he, hm, hdis, hecc])
  · rw [State.scoutStart]
    simp only [hr, Bool.false_eq_true, if_false, State.setScout, State.core_modCore_same, and_self]
  · rw [State.scoutTreat_mem fun m => (State.scoutStart_gated s x.core m).trans (hg m)]
    exact State.scoutStart_mem s x.core
  · simp only [exec, execScoutAdvance, h, Bool.not_false, Bool.true_or, if_true]

end Sys2Proof.Machine

/-!
# The Porter's instructions (O33)
-/

namespace Sys2Proof.Machine

/-! ## PGO (07 R196) -/

/-- PGO on a channel that runs nothing queues it with SRC, DST, CNT and CTL as given. -/
theorem Channel.pgo_idle {ch : Channel} (h : ch.state.isActive = false) (src dst cnt ctl : Nat) :
    (ch.pgo src dst cnt ctl).state = .queued ∧ (ch.pgo src dst cnt ctl).regs.src = BitVec.ofNat 64 src
      ∧ (ch.pgo src dst cnt ctl).regs.dst = BitVec.ofNat 64 dst ∧ (ch.pgo src dst cnt ctl).regs.cnt = BitVec.ofNat 32 cnt
      ∧ (ch.pgo src dst cnt ctl).regs.ns = bitOf ctl 10 ∧ (ch.pgo src dst cnt ctl).regs.mode = bits ctl 5 4 := by
  have h0 : bitOf (ctl - ctl % 2 + 1) 0 = true := by simp [bitOf]; omega
  have h10 : bitOf (ctl - ctl % 2 + 1) 10 = bitOf ctl 10 := by simp [bitOf]; omega
  have h54 : bits (ctl - ctl % 2 + 1) 5 4 = bits ctl 5 4 := by simp [bits]; omega
  simp only [Channel.pgo, Channel.write, h, Bool.false_and, Bool.false_eq_true, if_false, h0, if_true, h10, h54, Channel.start]
  split <;> simp

/-- Settles O33. -/
theorem porterInstructions : Obligations.PorterInstructions := by
  unfold Obligations.PorterInstructions
  refine fun x s h23 hd hu => ⟨fun h ha hb hc hn => ⟨fun hact => ?_, fun hidle hep => ⟨?_, ?_⟩⟩, fun h ha hb hc => ⟨fun hact => ?_, fun hidle => ?_⟩⟩
  · simp only [exec, execPgo]
    refine issue_stall h ?_ ((if_neg (by simp [hu])).trans ?_)
    · simp [require, ha, hb, hc, hd, h23]
    · simp only [hn]
      exact if_pos hact
  · simp only [exec, execPgo]
    refine issue_done h ?_ ((if_neg (by simp [hu])).trans ?_)
    · simp [require, ha, hb, hc, hd, h23]
    · simp only [hn]
      exact (if_neg (ne_true_of_eq_false hidle)).trans (if_neg (ne_true_of_eq_false hep))
  · obtain ⟨hst, hsrc, hdst, hcnt, hns, hmode⟩ := Channel.pgo_idle hidle ((s.core x.core).regNat (fA x.word.toNat))
      ((s.core x.core).regNat (fB x.word.toNat)) ((s.core x.core).regNat (fC x.word.toNat)) ((s.core x.core).regNat (fD x.word.toNat))
    exact ⟨hst, hsrc.trans (BitVec.ofNat_toNat _ _), hdst.trans (BitVec.ofNat_toNat _ _), hcnt, hns, hmode⟩
  · simp only [exec, execPwait]
    refine issue_stall h ?_ (if_pos (Bool.or_eq_true_iff.2 (.inr hact)))
    simp [require, ha, hb, hc, hd, h23]
  · simp only [exec, execPwait]
    refine issue_done h ?_ (if_neg (ne_true_of_eq_false ((Bool.or_eq_false_iff).2 ⟨unready_mono hu (by simp), hidle⟩)))
    simp [require, ha, hb, hc, hd, h23]
end Sys2Proof.Machine

/-!
# The Porter's engine (O34)
-/

namespace Sys2Proof.Machine

/-! ## What leaves the cores as they are -/

@[simp] theorem State.flushTx_cores (s : State) : (s.flushTx).cores = s.cores := by
  simp [State.flushTx, apply_ite State.cores]

@[simp] theorem State.transmit_cores (s : State) (e : OutEvent) : (s.transmit e).cores = s.cores := by
  simp [State.transmit, apply_ite State.cores]

@[simp] theorem State.hostPost_cores (s : State) (n : PartId) (addr : Nat) (bs : List Byte) (noSnoop : Bool) :
    (s.hostPost n addr bs noSnoop).cores = s.cores := by
  simp -implicitDefEqProofs [State.hostPost, foldl_same (π := State.cores), apply_ite State.cores]

@[simp] theorem State.hostAsk_cores (s : State) (n : PartId) (addr len : Nat) (use : ReadUse) (noSnoop : Bool) :
    (s.hostAsk n addr len use noSnoop).2.cores = s.cores := by
  simp [State.hostAsk]

@[simp] theorem State.raiseVector_cores (s : State) (n : PartId) (v : Fin 8) : (s.raiseVector n v).cores = s.cores := by
  simp [State.raiseVector, apply_ite State.cores]

@[simp] theorem State.setNoteQueue_cores (s : State) (q : Option PartId) (x : NoteQueue) :
    (s.setNoteQueue q x).cores = s.cores := by
  unfold State.setNoteQueue
  split <;> simp

@[simp] theorem State.pushNotify_cores (s : State) : (s.pushNotify).cores = s.cores := by
  unfold State.pushNotify
  split <;> simp [apply_ite State.cores]

@[simp] theorem State.noteRing_cores (s : State) (q : Option PartId) : (s.noteRing q).cores = s.cores := by
  simp [State.noteRing, apply_ite State.cores]

@[simp] theorem State.aperturesGoOn_cores (s : State) (n : PartId) : (s.aperturesGoOn n).cores = s.cores := by
  simp -implicitDefEqProofs [State.aperturesGoOn, foldl_same (π := State.cores), apply_ite State.cores]

@[simp] theorem State.recordBusError_cores (s : State) (c : CoreId) (space kind addr : Nat) :
    (s.recordBusError c space kind addr).cores = s.cores := by
  unfold State.recordBusError
  split <;> simp

@[simp] theorem State.noteReadError_cores (s : State) (n : Option PartId) (kind : Nat) :
    (s.noteReadError n kind).cores = s.cores := by
  unfold State.noteReadError
  repeat' split
  all_goals simp

@[simp] theorem State.recordEvent_cores (s : State) (code : Nat) (part : Option PartId) (core : Option CoreId) (detail : Nat) :
    (s.recordEvent code part core detail).cores = s.cores := by
  unfold State.recordEvent
  dsimp only
  split
  · simp
  · cases part <;> simp [apply_ite State.cores, State.modPart, State.notePost_cores]

/-- An event of a class below 4 is recorded and leaves the cores as they are. -/
theorem postEvent_cores {code : Nat} (h : eventClass code ≠ 4) (s : State) (part : Option PartId) (core : Option CoreId) (detail : Nat) :
    (postEvent s code part core detail).cores = s.cores := by
  rw [postEvent, if_neg (by simpa using h), State.recordEvent_cores]
 
theorem postEvent_mem {code : Nat} (h : eventClass code ≠ 4) (s : State) (part : Option PartId) (core : Option CoreId) (detail : Nat) :
    (postEvent s code part core detail).mem = s.mem := by
  rw [postEvent, if_neg (by simpa using h), State.recordEvent_mem]

/-! ## The channels of a core -/

/-- The channels of a core. -/
def State.chansOf (s : State) (c : CoreId) : Vector Channel 16 := (s.core c).chans

theorem State.chansOf_of_cores {s t : State} (h : t.cores = s.cores) (c : CoreId) : t.chansOf c = s.chansOf c :=
  congrArg (fun v : Vector Core 64 => v[c].chans) h

theorem State.chansOf_modCore (s : State) {c : CoreId} {f : Core → Core} (h : ∀ k, (f k).chans = k.chans) :
    (s.modCore c f).chansOf c = s.chansOf c := by
  rw [State.chansOf, State.core_modCore_same, h]
  rfl

theorem State.chansOf_setChan (s : State) (c : CoreId) (i : ChanIx) (ch : Channel) :
    (s.setChan c i ch).chansOf c = (s.chansOf c).set i ch := by
  rw [State.chansOf, State.setChan, State.core_modCore_same]
  rfl

theorem State.chansOf_dropReads (s : State) (c : CoreId) (i : ChanIx) : (s.dropReads c i).chansOf c = s.chansOf c :=
  (State.chansOf_of_cores (by unfold State.dropReads; dsimp only; split <;> rfl) c).trans
    (State.chansOf_modCore s (f := fun k => { k with late := k.late ++ ((s.core c).chans[i]).readsDue }) fun _ => rfl)

theorem State.chansOf_stopChan (s : State) (c : CoreId) (i : ChanIx) (st : ChanState) (cause : Nat) :
    (s.stopChan c i st cause).chansOf c = (s.chansOf c).set i { (s.chansOf c)[i] with
      state := st, cause := cause, held := [], buffer := [], asked := [], aborting := false, checked := false } := by
  refine Eq.trans (State.chansOf_setChan _ _ _ _) ?_
  rw [State.chansOf_dropReads, State.chansOf_of_cores (s := s) (by split <;> simp)]
  rfl

theorem State.chansOf_unspeculate (s : State) (c : CoreId) (i : ChanIx) :
    (s.unspeculate c i).chansOf c = (s.chansOf c).set i ((s.chansOf c)[i]).unspeculate := by
  rw [State.chansOf, State.unspeculate, State.core_modCore_same]
  have h := s.chansOf_dropReads c i
  simp only [State.chansOf] at h ⊢
  simp only [h]

theorem State.chansOf_porterGoesOn (s : State) (c : CoreId) : (s.porterGoesOn c).chansOf c = s.chansOf c := by
  unfold State.porterGoesOn
  dsimp only
  split
  · rfl
  · rw [State.chansOf_of_cores (State.aperturesGoOn_cores _ _)]
    refine Eq.trans (State.chansOf_modCore _ fun _ => rfl) ?_
    rw [State.chansOf_of_cores (foldl_same (π := State.cores) (fun t a => by simp) _ _)]
    split
    · split
      · refine Eq.trans (State.chansOf_modCore _ fun _ => rfl) ?_
        exact State.chansOf_of_cores (State.hostAsk_cores _ _ _ _ _ _) c
      · rfl
    · rfl

/-! ## A bus error stops every channel that runs (09 R236) -/

/-- What the stop of the engine makes of one channel. -/
def Channel.engineStopped (ch : Channel) : Channel :=
  if ch.spec then ch.unspeculate
  else if ch.state.isActive then
    { ch with state := .stoppedByEngine, cause := 0x10, held := [], buffer := [], asked := [], aborting := false, checked := false }
  else ch

/-- One step of the stop. -/
theorem State.chansOf_stopStep (s : State) (c : CoreId) (i : ChanIx) :
    (let ch := (s.core c).chans[i]
     if ch.spec then s.unspeculate c i else if ch.state.isActive then s.stopChan c i .stoppedByEngine 0x10 else s).chansOf c
      = (s.chansOf c).set i ((s.chansOf c)[i]).engineStopped := by
  dsimp only
  by_cases hs : ((s.chansOf c)[i]).spec = true
  · rw [if_pos (c := ((s.core c).chans[i]).spec = true) hs, State.chansOf_unspeculate, Channel.engineStopped, if_pos hs]
  · rw [if_neg (c := ((s.core c).chans[i]).spec = true) hs, Channel.engineStopped, if_neg hs]
    by_cases ha : ((s.chansOf c)[i]).state.isActive = true
    · rw [if_pos (c := ((s.core c).chans[i]).state.isActive = true) ha, State.chansOf_stopChan, if_pos ha]
    · rw [if_neg (c := ((s.core c).chans[i]).state.isActive = true) ha, if_neg ha]
      exact (Vector.set_getElem_self _).symm

/-- A step of a fold over channels touches its own channel alone. -/
theorem foldl_set_each {n : Nat} {α : Type} (f : α → α) (l : List (Fin n)) (hl : l.Nodup) (v : Vector α n) (j : Fin n) :
    (l.foldl (fun (v : Vector α n) (i : Fin n) => v.set i (f v[i])) v)[j] = if j ∈ l then f v[j] else v[j] := by
  induction l generalizing v with
  | nil => simp
  | cons i l ih =>
    obtain ⟨hi, hl⟩ := List.nodup_cons.1 hl
    rw [List.foldl_cons, ih hl]
    by_cases h : j = i
    · subst h
      simp [hi]
    · have hne : (i : Nat) ≠ j := fun e => h (Fin.ext e.symm)
      simp [h, hne]

theorem State.chansOf_stopEngine (s : State) (c : CoreId) (j : ChanIx) :
    ((s.stopEngine c).chansOf c)[j] = ((s.chansOf c)[j]).engineStopped := by
  have key : ∀ (l : List ChanIx) (s : State), (l.foldl (fun s i =>
      let ch := (s.core c).chans[i]
      if ch.spec then s.unspeculate c i else if ch.state.isActive then s.stopChan c i .stoppedByEngine 0x10 else s) s).chansOf c
        = l.foldl (fun (v : Vector Channel 16) (i : ChanIx) => v.set i (v[i]).engineStopped) (s.chansOf c) := by
    intro l
    induction l with
    | nil => exact fun _ => rfl
    | cons i l ih => exact fun s => (ih _).trans (congrArg (l.foldl _) (s.chansOf_stopStep c i))
  rw [State.stopEngine, key, foldl_set_each _ _ (List.nodup_finRange 16), if_pos (List.mem_finRange j)]

theorem State.chansOf_busStop (s : State) (c : CoreId) (space kind addr : Nat) (j : ChanIx) :
    ((s.busStop c space kind addr).chansOf c)[j] = ((s.chansOf c)[j]).engineStopped := by
  rw [State.busStop, State.chansOf_porterGoesOn, State.chansOf_of_cores (postEvent_cores (by decide) _ _ _ _),
    State.chansOf_of_cores (bumpOf_cores _ _ _ _ _), State.chansOf_of_cores (State.recordBusError_cores _ _ _ _ _), State.chansOf_stopEngine]

theorem State.busStop_mem (s : State) (c : CoreId) (space kind addr : Nat) : (s.busStop c space kind addr).mem = s.mem := by
  simp [State.busStop, postEvent_mem (code := 0x10) (by decide)]

theorem State.busError_mem (s : State) (c : CoreId) (space kind addr : Nat) : (s.busError c space kind addr).mem = s.mem := by
  rw [State.busError, State.busErrorOf]
  split <;> simp [State.busStop_mem, State.lateError]

/-- A bus error on a read that no stop has left behind. -/
theorem State.chansOf_busError {s : State} {c : CoreId} {space : Nat} (ha : (s.core c).porterActive = true) (hl : (s.core c).late = [])
    (kind addr : Nat) (j : ChanIx) : ((s.busError c space kind addr).chansOf c)[j] = ((s.chansOf c)[j]).engineStopped := by
  have hk : (s.noteReadError (s.partOf c) kind).core c = s.core c :=
    congrArg (fun v : Vector Core 64 => v[c]) (State.noteReadError_cores s _ _)
  rw [State.busError, State.busErrorOf]
  rw [if_pos (by rw [hk, ha, hl]; simp), State.chansOf_modCore _ (by exact fun _ => rfl), State.chansOf_busStop]
  exact congrArg (fun k : Core => (k.chans[j]).engineStopped) hk

/-- Data that arrives is kept by its channel: no byte of memory is written. -/
theorem State.readArrives_mem (s : State) (c : CoreId) (i : ChanIx) (data : List Byte) : (s.readArrives c i data).mem = s.mem := by
  unfold State.readArrives
  dsimp only
  repeat' split
  all_goals simp [State.busError_mem]

/-! ## The obligation -/

/-- The state in which the aborts written before a beat have taken effect. -/
def State.afterAborts (s : State) (c : CoreId) : State :=
  (List.finRange 16).foldl (fun (s : State) (i : ChanIx) =>
    if ((s.core c).chans[i]).aborting && ((s.core c).chans[i]).state.isActive then s.stopChan c i .aborted 0x11 else s) s

/-- The beat itself: the channel picked moves, channels of a lower priority are preempted. -/
def State.beatMoves (s : State) (c : CoreId) (r : BeatReport) : State :=
  match (s.core c).pickChan (s.beatReady c) with
  | none => s.porterGoesOn c
  | some (i, n) =>
    let u := s.modCore c fun k => { k with
      served := some (i, n)
      chans := k.chans.map fun (z : Channel) =>
        if z.state == .active && z.regs.prio < ((s.core c).chans[i]).regs.prio then { z with state := .preempted } else z }
    ((u.moveBeat c i r).issueReads c).porterGoesOn c

theorem execPorterBeat_eq (s : State) (c : CoreId) (r : BeatReport) : execPorterBeat ⟨c, r⟩ s = .next ((s.afterAborts c).beatMoves c r) := by
  unfold execPorterBeat
  extract_lets c' r' t
  have ht : s.afterAborts c = t := rfl
  rw [ht]
  clear_value t
  unfold State.beatMoves
  rcases (t.core c).pickChan (t.beatReady c) with _ | ⟨i, n⟩ <;> rfl

theorem State.afterAborts_of_none {s : State} {c : CoreId} (h : ∀ j : ChanIx, ((s.core c).chans[j]).aborting = false) : s.afterAborts c = s :=
  List.foldlRecOn _ _ (motive := fun t => t = s) rfl fun t ht i _ => by
    subst ht
    exact if_neg (by rw [h i, Bool.false_and]; exact Bool.false_ne_true)

/-- Settles O34. -/
theorem porterEngine : Obligations.PorterEngine := by
  unfold Obligations.PorterEngine
  refine fun s c i => ⟨fun hq hch => ⟨fun h => ?_, fun code h ha hne => ?_, fun h ha hle => ?_, fun h ha hlt hsp => ?_⟩,
    fun data corrected h => ⟨?_, ?_⟩, fun data corrected hh hd hc => ?_, fun r hab => ⟨fun hp => ?_, fun j n hp => ?_⟩, fun e hact hl => ?_⟩
  · simp only [exec, execPorterChecksDone]
    exact if_neg (by rw [hq, hch]; decide)
  · simp only [exec, execPorterChecksDone]
    refine (if_neg (by rw [hq, hch]; decide)).trans ?_
    rw [h, ha]
    match code, hne with
    | n + 1, _ => rfl
  · simp only [exec, execPorterChecksDone]
    refine (if_neg (by rw [hq, hch]; decide)).trans ?_
    rw [h, ha]
    refine (if_pos hle).trans ?_
    simp only [beq_iff_eq]
  · simp only [exec, execPorterChecksDone]
    refine (if_neg (by rw [hq, hch]; decide)).trans ?_
    rw [h, ha]
    refine (if_neg (Nat.not_le.2 hlt)).trans ?_
    cases (s.core c).part with
    | none => rfl
    | some n => simp only [ne_true_of_eq_false (beq_eq_false_iff_ne.2 hsp), Bool.false_eq_true, if_false]
  · simp only [exec, execPorterReadDataArrive]
    rw [if_neg]
    rcases h with h | h
    · rw [Bool.and_eq_true, Bool.and_eq_true, List.any_eq_true]
      rintro ⟨⟨⟨a, ha, h2⟩, -⟩, -⟩
      have hn := List.all_eq_true.1 h a ha
      simp only [bne, h2, Bool.not_true, Bool.false_eq_true] at hn
    · simp [h]
  · rw [State.issueReads_mem, State.readArrives_mem]
  · simp only [exec, execPorterReadDataArrive]
    rw [if_pos (by rw [hh, hd]; simp [hc])]
  · refine (execPorterBeat_eq s c r).trans ?_
    rw [State.afterAborts_of_none hab, State.beatMoves, hp]
  · refine (execPorterBeat_eq s c r).trans ?_
    rw [State.afterAborts_of_none hab, State.beatMoves, hp]
  · refine ⟨_, rfl, fun j hs hj => ?_⟩
    have h := State.chansOf_busError (space := (if e.kind == 6 then 2 else 1)) hact hl e.kind e.addr.toNat j
    simp only [State.chansOf] at h
    rw [h, Channel.engineStopped, if_neg (ne_true_of_eq_false hs), if_pos hj]
    exact ⟨rfl, rfl, rfl⟩

end Sys2Proof.Machine

/-!
# Ring page registers and doorbells (O36)
-/

namespace Sys2Proof.Machine

section
variable {s : State} {n : PartId} {a : RegAccess}

theorem State.sized_aligned (h : a.aligned = true) (t : State) : s.sized n a t = t := if_pos h

theorem State.sized_other (h : a.aligned = false) (t : State) : s.sized n a t = s.modPart n fun p => { p with sizeBad := true } :=
  if_neg (ne_true_of_eq_false h)

theorem execCmdDbWrite_running (h : s.power.entering = .nothing) : exec (.cmdDbWrite n a) s = .next (s.cmdDbWritten n a) := by
  simp only [exec, execCmdDbWrite, h, beq_self_eq_true, if_true]

theorem execCplDbWrite_running (h : s.power.entering = .nothing) : exec (.cplDbWrite n a) s = .next (s.cplDbWritten n a) := by
  simp only [exec, execCplDbWrite, h, beq_self_eq_true, if_true]

/-- A command doorbell of a formed partition (11 R265, R266). -/
theorem State.cmdDbWritten_formed (ha : a.aligned = true) (hf : s.partState n = 2) :
    s.cmdDbWritten n a = if s.cmdDbOk n a.value.toNat then s.cmdDbAccept n a.value else s.doorbellBad n := by
  rw [State.cmdDbWritten, State.sized_aligned ha, if_neg (by simp [hf])]

/-- A completion doorbell that names an entry of the ring (11 R265; 12 R293). -/
theorem State.cplDbWritten_formed (ha : a.aligned = true) (hf : s.partState n = 2) (hr : bits a.value.toNat 31 16 = 0)
    (hi : bits a.value.toNat 15 0 < objGet s (some n) 0x4010 0xD) :
    s.cplDbWritten n a =
      (let read := (bits a.value.toNat 15 0 + objGet s (some n) 0x4010 0xD - bits (s.parts[n]).cplDb.toNat 15 0) % objGet s (some n) 0x4010 0xD
       if (s.parts[n]).unread < read then s.doorbellBad n
       else s.modPart n fun p => { p with cplDb := a.value, unread := p.unread - read }) := by
  have hm : max 1 (objGet s (some n) 0x4010 0xD) = objGet s (some n) 0x4010 0xD := by omega
  rw [State.cplDbWritten, State.sized_aligned ha, if_neg (by simp [hf]), hm]
  simp [hr, Nat.not_le.2 hi]

end

/-- Settles O36. -/
theorem ringPage : Obligations.RingPage := by
  unfold Obligations.RingPage
  refine fun s n a offset => ⟨fun h => ⟨?_, ?_⟩, fun ha => ⟨fun h => ⟨?_, ?_⟩, ?_, fun hlo hhi => ?_⟩,
    fun ha => ⟨fun h hf => ⟨?_, ?_⟩, fun h hf hok => ?_, fun h hf hok hd => ?_, fun h hf hr hi => ⟨fun hle => ?_, fun hlt => ?_⟩, fun hf hgo => ?_,
      fun hf => ?_, fun hlo hhi h4 hv => ?_⟩, fun hhold hun => ?_⟩
  · simp only [exec, execCmdDbWrite]
    rw [if_neg (by simpa using h)]
    rfl
  · simp only [exec, execCplDbWrite]
    rw [if_neg (by simpa using h)]
    rfl
  · rw [execCmdDbWrite_running h, State.cmdDbWritten, State.sized_other ha]
  · rw [execCplDbWrite_running h, State.cplDbWritten, State.sized_other ha]
  · simp only [exec, execPrstGo, State.sized_other ha]
  · have hin : ¬ (decide (offset < 0x1000) || decide (0x1080 ≤ offset)) = true := by simp; omega
    simp only [exec, execVectorControlWrite]
    rw [if_neg hin, State.sized_other (by simp [ha])]
  · rw [execCmdDbWrite_running h, State.cmdDbWritten, State.sized_aligned ha, if_pos (by simpa using hf)]
  · rw [execCplDbWrite_running h, State.cplDbWritten, State.sized_aligned ha, if_pos (by simpa using hf)]
  · rw [execCmdDbWrite_running h, State.cmdDbWritten_formed ha hf, if_neg (ne_true_of_eq_false hok)]
  · refine ⟨s.cmdDbAccept n a.value, ?_, ?_, ?_, rfl, rfl⟩
    · rw [execCmdDbWrite_running h, State.cmdDbWritten_formed ha hf, if_pos hok]
    · rw [State.cmdDbAccept, State.parts_modPart_same]
    · rw [State.cmdDbAccept, State.parts_modPart_same, if_pos (by simp [hd])]
  · rw [execCplDbWrite_running h, State.cplDbWritten_formed ha hf hr hi]
    exact congrArg _ (if_neg (Nat.not_lt.2 hle))
  · rw [execCplDbWrite_running h, State.cplDbWritten_formed ha hf hr hi]
    exact congrArg _ (if_pos hlt)
  · simp only [exec, execPrstGo, State.sized_aligned ha]
    rw [if_pos (by simp [hf, hgo])]
  · simp only [exec, execPrstGo, State.sized_aligned ha]
    rw [if_neg (by simp [hf])]
  · have hin : ¬ (decide (offset < 0x1000) || decide (0x1080 ≤ offset)) = true := by simp; omega
    simp only [exec, execVectorControlWrite]
    rw [if_neg hin, State.sized_aligned (by simp [ha, h4]), State.parts_modPart_same]
    dsimp only
    rw [hv, if_neg (by simp [bitOf])]
    rfl
  · simp only [exec, execInterruptHoldoffExpiry]
    exact if_neg (ne_true_of_eq_false (Bool.or_eq_false_iff.2 ⟨beq_eq_false_iff_ne.2 hhold, beq_eq_false_iff_ne.2 hun⟩))

end Sys2Proof.Machine

/-!
# The ring engine (O37)
-/

namespace Sys2Proof.Machine

/-! ## Which partitions have a fetch under way -/

@[simp] theorem State.modPart_fetching (s : State) (n : PartId) (f : Partition → Partition) (h : ∀ p, (f p).fetching = p.fetching) :
    (s.modPart n f).parts.map Partition.fetching = s.parts.map Partition.fetching := by
  refine Vector.ext fun i hi => ?_
  rw [State.modPart, Vector.getElem_map, Vector.getElem_set, Vector.getElem_map]
  split
  · rename_i he
    subst he
    exact h _
  · rfl

/-- An event of a class below 4 is recorded: the device goes on. -/
theorem postEvent_recorded {code : Nat} (h : eventClass code ≠ 4) (s : State) (part : Option PartId) (core : Option CoreId) (detail : Nat) :
    postEvent s code part core detail = s.recordEvent code part core detail := if_neg (by simpa using h)

@[simp] theorem State.hbmBytes_parts (n : PartId) (bs : List Byte) :
    ∀ (s : State) (off : Nat), (s.hbmBytes n off bs).parts = s.parts := by
  induction bs with
  | nil => exact fun _ _ => rfl
  | cons b bs ih =>
    intro s off
    rw [State.hbmBytes, ih]
    split <;> rfl

@[simp] theorem State.hbmBytes_arrivals (n : PartId) (bs : List Byte) :
    ∀ (s : State) (off : Nat), (s.hbmBytes n off bs).arrivals = s.arrivals := by
  induction bs with
  | nil => exact fun _ _ => rfl
  | cons b bs ih =>
    intro s off
    rw [State.hbmBytes, ih]
    split <;> rfl
@[simp] theorem objSet_fetching (s : State) (part : Option PartId) (index sub v : Nat) :
    (objSet s part index sub v).parts.map Partition.fetching = s.parts.map Partition.fetching := rfl

@[simp] theorem objBump_fetching (s : State) (part : Option PartId) (index sub : Nat) (by_ : Nat) :
    (objBump s part index sub by_).parts.map Partition.fetching = s.parts.map Partition.fetching := rfl

@[simp] theorem State.emit_fetching (s : State) (e : OutEvent) :
    (s.emit e).parts.map Partition.fetching = s.parts.map Partition.fetching := rfl

@[simp] theorem State.flushTx_fetching (s : State) :
    (s.flushTx).parts.map Partition.fetching = s.parts.map Partition.fetching := by
  simp [State.flushTx, apply_ite State.parts]

@[simp] theorem State.transmit_fetching (s : State) (e : OutEvent) :
    (s.transmit e).parts.map Partition.fetching = s.parts.map Partition.fetching := by
  simp [State.transmit, apply_ite State.parts, apply_ite (Vector.map Partition.fetching)]

@[simp] theorem State.hostPost_fetching (s : State) (n : PartId) (addr : Nat) (bs : List Byte) (noSnoop : Bool) :
    (s.hostPost n addr bs noSnoop).parts.map Partition.fetching = s.parts.map Partition.fetching := by
  simp -implicitDefEqProofs [State.hostPost, foldl_same (π := fun s : State => s.parts.map Partition.fetching), apply_ite State.parts,
    apply_ite (Vector.map Partition.fetching)]

@[simp] theorem State.raiseVector_fetching (s : State) (n : PartId) (v : Fin 8) :
    (s.raiseVector n v).parts.map Partition.fetching = s.parts.map Partition.fetching := by
  simp [State.raiseVector, apply_ite State.parts, apply_ite (Vector.map Partition.fetching)]

@[simp] theorem State.setNoteQueue_fetching (s : State) (q : Option PartId) (x : NoteQueue) :
    (s.setNoteQueue q x).parts.map Partition.fetching = s.parts.map Partition.fetching := by
  unfold State.setNoteQueue
  split <;> simp

@[simp] theorem State.pushNotify_fetching (s : State) :
    (s.pushNotify).parts.map Partition.fetching = s.parts.map Partition.fetching := by
  unfold State.pushNotify
  split <;> simp [apply_ite State.parts]

@[simp] theorem State.noteRing_fetching (s : State) (q : Option PartId) :
    (s.noteRing q).parts.map Partition.fetching = s.parts.map Partition.fetching := by
  simp [State.noteRing, apply_ite State.parts]

@[simp] theorem State.notePost_fetching (s : State) (q : Option PartId) (reason item data : Nat) :
    (s.notePost q reason item data).parts.map Partition.fetching = s.parts.map Partition.fetching := by
  simp [State.notePost, apply_ite State.parts, apply_ite (Vector.map Partition.fetching)]

@[simp] theorem State.recordEvent_fetching (s : State) (code : Nat) (part : Option PartId) (core : Option CoreId) (detail : Nat) :
    (s.recordEvent code part core detail).parts.map Partition.fetching = s.parts.map Partition.fetching := by
  unfold State.recordEvent
  dsimp only
  repeat' split
  all_goals simp

@[simp] theorem State.setCore_fetching (s : State) (c : CoreId) (k : Core) :
    (s.setCore c k).parts.map Partition.fetching = s.parts.map Partition.fetching := rfl

@[simp] theorem State.modCore_fetching (s : State) (c : CoreId) (f : Core → Core) :
    (s.modCore c f).parts.map Partition.fetching = s.parts.map Partition.fetching := rfl

@[simp] theorem State.wakeCore_fetching (s : State) (m : CoreId) :
    (s.wakeCore m).parts.map Partition.fetching = s.parts.map Partition.fetching := by
  simp [State.wakeCore, apply_ite State.parts]

@[simp] theorem State.wakeBanks_fetching (s : State) (c : CoreId) (rs : List (Nat × Nat)) :
    (s.wakeBanks c rs).parts.map Partition.fetching = s.parts.map Partition.fetching := by
  unfold State.wakeBanks
  exact foldl_same (π := fun s : State => s.parts.map Partition.fetching) (fun s a => by split <;> simp) _ _

@[simp] theorem State.setBlock_fetching (s : State) (n : PartId) (v : Nat) :
    (s.setBlock n v).parts.map Partition.fetching = s.parts.map Partition.fetching := rfl

@[simp] theorem State.latchStepConfig_fetching (s : State) (n : PartId) :
    (s.latchStepConfig n).parts.map Partition.fetching = s.parts.map Partition.fetching := by
  simp [State.latchStepConfig]

@[simp] theorem State.writeStepBlock_fetching (s : State) (n : PartId) :
    (s.writeStepBlock n).parts.map Partition.fetching = s.parts.map Partition.fetching := by
  simp [State.writeStepBlock, foldl_same (π := fun s : State => s.parts.map Partition.fetching), apply_ite State.parts,
    apply_ite (Vector.map Partition.fetching)]

@[simp] theorem State.wakeHistories_fetching (s : State) (n : PartId) :
    (s.wakeHistories n).parts.map Partition.fetching = s.parts.map Partition.fetching := by
  simp [State.wakeHistories, foldl_same (π := fun s : State => s.parts.map Partition.fetching), apply_ite State.parts,
    apply_ite (Vector.map Partition.fetching)]

@[simp] theorem State.takeTokens_fetching (s : State) (n : PartId) (d : Nat) :
    (s.takeTokens n d).parts.map Partition.fetching = s.parts.map Partition.fetching := rfl

@[simp] theorem State.giveTokens_fetching (s : State) (n : PartId) (d : Nat) :
    (s.giveTokens n d).parts.map Partition.fetching = s.parts.map Partition.fetching := rfl

@[simp] theorem State.modCommand_fetching (s : State) (n : PartId) (a : Nat) (f : Command → Command) :
    (s.modCommand n a f).parts.map Partition.fetching = s.parts.map Partition.fetching := by
  simp [State.modCommand]

@[simp] theorem State.moderate_fetching (s : State) (n : PartId) :
    (s.moderate n).parts.map Partition.fetching = s.parts.map Partition.fetching := by
  simp [State.moderate, apply_ite State.parts, apply_ite (Vector.map Partition.fetching)]

@[simp] theorem State.writeRecord_fetching (s : State) (n : PartId) (r : Record) :
    (s.writeRecord n r).parts.map Partition.fetching = s.parts.map Partition.fetching := by
  simp [State.writeRecord]

@[simp] theorem State.recordLost_fetching (s : State) (n : PartId) (step : Nat) :
    (s.recordLost n step).parts.map Partition.fetching = s.parts.map Partition.fetching := by
  simp [State.recordLost, postEvent_recorded (code := 0x14) (by decide)]
@[simp] theorem State.flushTx_arrivals (s : State) : (s.flushTx).arrivals = s.arrivals := by
  simp [State.flushTx, apply_ite State.arrivals]

@[simp] theorem State.transmit_arrivals (s : State) (e : OutEvent) : (s.transmit e).arrivals = s.arrivals := by
  simp [State.transmit, apply_ite State.arrivals]

@[simp] theorem State.hostPost_arrivals (s : State) (n : PartId) (addr : Nat) (bs : List Byte) (noSnoop : Bool) :
    (s.hostPost n addr bs noSnoop).arrivals = s.arrivals := by
  simp -implicitDefEqProofs [State.hostPost, foldl_same (π := State.arrivals), apply_ite State.arrivals]

@[simp] theorem State.raiseVector_arrivals (s : State) (n : PartId) (v : Fin 8) : (s.raiseVector n v).arrivals = s.arrivals := by
  simp [State.raiseVector, apply_ite State.arrivals]

@[simp] theorem State.setNoteQueue_arrivals (s : State) (q : Option PartId) (x : NoteQueue) :
    (s.setNoteQueue q x).arrivals = s.arrivals := by
  unfold State.setNoteQueue
  split <;> simp

@[simp] theorem State.pushNotify_arrivals (s : State) : (s.pushNotify).arrivals = s.arrivals := by
  unfold State.pushNotify
  split <;> simp [apply_ite State.arrivals]

@[simp] theorem State.noteRing_arrivals (s : State) (q : Option PartId) : (s.noteRing q).arrivals = s.arrivals := by
  simp [State.noteRing, apply_ite State.arrivals]

@[simp] theorem State.notePost_arrivals (s : State) (q : Option PartId) (reason item data : Nat) :
    (s.notePost q reason item data).arrivals = s.arrivals := by
  simp [State.notePost, apply_ite State.arrivals]

@[simp] theorem State.recordEvent_arrivals (s : State) (code : Nat) (part : Option PartId) (core : Option CoreId) (detail : Nat) :
    (s.recordEvent code part core detail).arrivals = s.arrivals := by
  unfold State.recordEvent
  dsimp only
  repeat' split
  all_goals simp

@[simp] theorem State.wakeCore_arrivals (s : State) (m : CoreId) : (s.wakeCore m).arrivals = s.arrivals := by
  simp [State.wakeCore, apply_ite State.arrivals]

@[simp] theorem State.wakeBanks_arrivals (s : State) (c : CoreId) (rs : List (Nat × Nat)) :
    (s.wakeBanks c rs).arrivals = s.arrivals := by
  unfold State.wakeBanks
  exact foldl_same (π := State.arrivals) (fun s a => by split <;> simp) _ _

@[simp] theorem State.setBlock_arrivals (s : State) (n : PartId) (v : Nat) : (s.setBlock n v).arrivals = s.arrivals := rfl

@[simp] theorem State.latchStepConfig_arrivals (s : State) (n : PartId) : (s.latchStepConfig n).arrivals = s.arrivals := rfl

@[simp] theorem State.writeStepBlock_arrivals (s : State) (n : PartId) : (s.writeStepBlock n).arrivals = s.arrivals := by
  simp [State.writeStepBlock, foldl_same (π := State.arrivals), apply_ite State.arrivals]

@[simp] theorem State.wakeHistories_arrivals (s : State) (n : PartId) : (s.wakeHistories n).arrivals = s.arrivals := by
  simp [State.wakeHistories, foldl_same (π := State.arrivals), apply_ite State.arrivals]

@[simp] theorem State.takeTokens_arrivals (s : State) (n : PartId) (d : Nat) : (s.takeTokens n d).arrivals = s.arrivals := rfl

@[simp] theorem State.giveTokens_arrivals (s : State) (n : PartId) (d : Nat) : (s.giveTokens n d).arrivals = s.arrivals := rfl

@[simp] theorem State.modCommand_arrivals (s : State) (n : PartId) (a : Nat) (f : Command → Command) :
    (s.modCommand n a f).arrivals = s.arrivals := rfl

@[simp] theorem State.moderate_arrivals (s : State) (n : PartId) : (s.moderate n).arrivals = s.arrivals := by
  simp [State.moderate, apply_ite State.arrivals]

@[simp] theorem State.writeRecord_arrivals (s : State) (n : PartId) (r : Record) : (s.writeRecord n r).arrivals = s.arrivals := by
  simp [State.writeRecord]

@[simp] theorem State.recordLost_arrivals (s : State) (n : PartId) (step : Nat) :
    (s.recordLost n step).arrivals = s.arrivals := by
  simp [State.recordLost, postEvent_recorded (code := 0x14) (by decide)]

@[simp] theorem State.hbmWrite_fetching (s : State) (n : PartId) (off : Nat) (bs : List Byte) :
    (s.hbmWrite n off bs).parts.map Partition.fetching = s.parts.map Partition.fetching := by
  simp [State.hbmWrite, apply_ite State.parts]

@[simp] theorem State.put_fetching (s : State) (n : PartId) (a : Nat) (bs : List Byte) :
    (s.put n a bs).parts.map Partition.fetching = s.parts.map Partition.fetching := by
  simp [State.put, apply_ite State.parts, apply_ite (Vector.map Partition.fetching)]

@[simp] theorem State.openRecord_fetching (s : State) (n : PartId) (step : Nat) :
    (s.openRecord n step).parts.map Partition.fetching = s.parts.map Partition.fetching := by
  simp [State.openRecord, apply_ite State.parts, apply_ite (Vector.map Partition.fetching)]

@[simp] theorem State.startAdmitted_fetching (s : State) (n : PartId) :
    (s.startAdmitted n).parts.map Partition.fetching = s.parts.map Partition.fetching := by
  unfold State.startAdmitted
  split <;> simp [apply_ite State.parts, apply_ite (Vector.map Partition.fetching)]

@[simp] theorem State.admission_fetching (s : State) (n : PartId) (c : Command) (late : Bool) :
    (s.admission n c late).parts.map Partition.fetching = s.parts.map Partition.fetching := by
  simp [State.admission, apply_ite State.parts, apply_ite (Vector.map Partition.fetching)]

@[simp] theorem State.meetAdmission_fetching (s : State) (n : PartId) (c : Command) :
    (s.meetAdmission n c).parts.map Partition.fetching = s.parts.map Partition.fetching := by
  simp [State.meetAdmission, apply_ite State.parts, apply_ite (Vector.map Partition.fetching)]

@[simp] theorem State.hbmWrite_arrivals (s : State) (n : PartId) (off : Nat) (bs : List Byte) :
    (s.hbmWrite n off bs).arrivals = s.arrivals := by
  simp [State.hbmWrite, apply_ite State.arrivals]

@[simp] theorem State.put_arrivals (s : State) (n : PartId) (a : Nat) (bs : List Byte) :
    (s.put n a bs).arrivals = s.arrivals := by
  simp [State.put, apply_ite State.arrivals]

@[simp] theorem State.openRecord_arrivals (s : State) (n : PartId) (step : Nat) :
    (s.openRecord n step).arrivals = s.arrivals := by
  simp [State.openRecord, apply_ite State.arrivals]

@[simp] theorem State.startAdmitted_arrivals (s : State) (n : PartId) : (s.startAdmitted n).arrivals = s.arrivals := by
  unfold State.startAdmitted
  split <;> simp [apply_ite State.arrivals]

@[simp] theorem State.admission_arrivals (s : State) (n : PartId) (c : Command) (late : Bool) :
    (s.admission n c late).arrivals = s.arrivals := by
  simp [State.admission, apply_ite State.arrivals]

@[simp] theorem State.meetAdmission_arrivals (s : State) (n : PartId) (c : Command) :
    (s.meetAdmission n c).arrivals = s.arrivals := by
  simp [State.meetAdmission, apply_ite State.arrivals]

/-! ## Fetches (12 R293, R296 to R298) -/

/-- A command refused before its admission leaves its record and no token. -/
theorem State.finish_waiting {c : Command} (h : c.stage = .waiting) (s : State) (n : PartId) (outcome cause detail result : Nat) :
    s.finish n c outcome cause detail result =
      (s.writeRecord n ⟨c.cid, c.opc, outcome, cause, false, c.waited, 0, c.sqidx, detail, result⟩).modPart n fun p => { p with
        commands := p.commands.filter fun d => d.arrival != c.arrival, lastIdx := some c.sqidx } := by
  simp [State.finish, h]

/-- A check of a fetched command ends with its refusal or its admission: the fetch stays ended and the arrival counted. -/
theorem State.checked_frame (s : State) (n : PartId) (c : Command) (h : c.stage = .waiting) (cause : Nat) :
    (match cause with | 0 => s.meetAdmission n c | k => s.finish n c 3 k 0 0).parts.map Partition.fetching = s.parts.map Partition.fetching
    ∧ (match cause with | 0 => s.meetAdmission n c | k => s.finish n c 3 k 0 0).arrivals = s.arrivals := by
  cases cause with
  | zero => simp
  | succ k => simp [State.finish_waiting h]

theorem State.fetchDone_counts {s : State} {n : PartId} {bytes : List Byte} (hf : (s.parts[n]).fetching = true) (hl : bytes.length = 64) :
    ((s.fetchDone n bytes).parts[n]).fetching = false ∧ (s.fetchDone n bytes).arrivals = s.arrivals + 1 := by
  unfold State.fetchDone
  rw [if_neg (by rw [hf]; decide)]
  dsimp only
  rw [if_neg (by simp [hl])]
  have hmap : ∀ t : State, (t.parts[n]).fetching = (t.parts.map Partition.fetching)[n] := fun t => (Vector.getElem_map _ _).symm
  have hend : ∀ (t : State) (q : Partition → Partition), (∀ p, (q p).fetching = false) →
      ((t.modPart n q).parts.map Partition.fetching)[n] = false := fun t q h => by
    rw [← hmap, State.parts_modPart_same, h]
  constructor
  · rw [hmap]
    refine (congrArg (fun v : Vector Bool 64 => v[n]) (State.checked_frame _ n _ rfl _).1).trans ?_
    exact hend _ (fun p => { p with fetching := false }) fun _ => rfl
  · exact (State.checked_frame _ n _ rfl _).2

/-! ## Records (12 R293, R304) -/

/-- Moderation sends a vector or waits: it takes the count of unsignalled records back, and no other object or field of the ring. -/
theorem State.moderate_keeps (s : State) (n : PartId) :
    (∀ index sub : Nat, index < 65536 → sub < 256 → countsTelling index sub = false → objGet (s.moderate n)
      (some n) index sub = objGet s (some n) index sub)
      ∧ ((s.moderate n).parts[n]).phase = (s.parts[n]).phase ∧ ((s.moderate n).parts[n]).unread = (s.parts[n]).unread := by
  unfold State.moderate
  dsimp only
  split
  · have h := State.raiseVector_onlyTells (s.modPart n fun p => { p with unsignalled := 0 }) n 0
    obtain ⟨v, hv⟩ := h.parts n
    rw [hv, State.parts_modPart_same]
    exact ⟨fun index sub hi hj hc => h.objs (some n) index sub hi hj hc, rfl, rfl⟩
  · exact ⟨fun _ _ _ _ _ => rfl, rfl, rfl⟩

/-- A record is written at CWR, which moves on; PHASE turns at the end of the ring. -/
theorem State.writeRecord_ring {s : State} {n : PartId} (r : Record) (h : objGet s (some n) 0x4010 0xF < objGet s (some n) 0x4010 0xD) :
    objGet (s.writeRecord n r) (some n) 0x4010 0xF =
        (if objGet s (some n) 0x4010 0xF + 1 = objGet s (some n) 0x4010 0xD then 0 else objGet s (some n) 0x4010 0xF + 1)
      ∧ ((s.writeRecord n r).parts[n]).phase =
        ((s.parts[n]).phase != decide (objGet s (some n) 0x4010 0xF + 1 = objGet s (some n) 0x4010 0xD))
      ∧ ((s.writeRecord n r).parts[n]).unread = (s.parts[n]).unread + 1 := by
  have hiff : objGet s (some n) 0x4010 0xD ≤ objGet s (some n) 0x4010 0xF + 1 ↔ objGet s (some n) 0x4010 0xF + 1 = objGet s (some n) 0x4010 0xD := by
    omega
  have hkey : objKey (some n) 0x4010 0xF ≠ objKey (some n) 0x4020 (r.outcome + 1) := by
    simp only [objKey]
    omega
  obtain ⟨v, hv⟩ := (State.hostPost_onlyTells s n (objGet s (some n) 0x4010 0xC + 32 * objGet s (some n) 0x4010 0xF)
    (r.bytes (s.parts[n]).phase) false).parts n
  unfold State.writeRecord
  dsimp only
  generalize s.hostPost n _ _ false = u at hv ⊢
  simp only [hiff]
  obtain ⟨hobj, hphase, hunread⟩ := State.moderate_keeps (objBump ((objSet u (some n) 0x4010 0xF
    (if objGet s (some n) 0x4010 0xF + 1 = objGet s (some n) 0x4010 0xD then 0 else objGet s (some n) 0x4010 0xF + 1)).modPart n fun p => { p with
      phase := p.phase != decide (objGet s (some n) 0x4010 0xF + 1 = objGet s (some n) 0x4010 0xD)
      unread := p.unread + 1, unsignalled := p.unsignalled + 1 }) (some n) 0x4020 (r.outcome + 1)) n
  refine ⟨?_, ?_, ?_⟩
  · refine (hobj 0x4010 0xF (by decide) (by decide) rfl).trans ((objGet_objBump_other _ _ hkey).trans ?_)
    exact objGet_objSet_same u (some n) 0x4010 0xF _
  · rw [hphase, objBump_parts, State.parts_modPart_same, objSet_parts, hv]
  · rw [hunread, objBump_parts, State.parts_modPart_same, objSet_parts, hv]

@[simp] theorem State.moderate_cores (s : State) (n : PartId) : (s.moderate n).cores = s.cores := by
  simp [State.moderate, apply_ite State.cores]

@[simp] theorem State.writeRecord_cores (s : State) (n : PartId) (r : Record) : (s.writeRecord n r).cores = s.cores := by
  simp [State.writeRecord]

theorem Record.length_bytes (r : Record) (phase : Bool) : (r.bytes phase).length = 32 := by
  simp [Record.bytes]

/-! ## The obligation -/

/-- Settles O37. -/
theorem ringEngine : Obligations.RingEngine := by
  unfold Obligations.RingEngine
  refine ⟨fun s n => ⟨fun hs hf hw hne hb hr => ⟨fun hc => ?_, fun hc hfull => ?_, fun hc hfull => ?_⟩, fun bytes hf hl => ?_, fun c hc => ?_⟩,
    fun s n r cwr entries hcwr hent hlt hle hwf => ⟨?_, ?_, ?_, ?_, ?_, fun phase => Record.length_bytes r phase⟩⟩
  · simp only [exec, execCommandFetch]
    refine (if_neg ?_).trans ((if_neg (by simp [hc])).trans rfl)
    rw [hs, hf, hw, hb, hr, beq_eq_false_iff_ne.2 hne]
    decide
  · simp only [exec, execCommandFetch]
    refine (if_neg ?_).trans ((if_pos (by simp [hc])).trans (by rw [if_pos hfull]))
    rw [hs, hf, hw, hb, hr, beq_eq_false_iff_ne.2 hne]
    decide
  · simp only [exec, execCommandFetch]
    refine (if_neg ?_).trans ((if_pos (by simp [hc])).trans (by rw [if_neg (by rw [hfull]; decide)]))
    rw [hs, hf, hw, hb, hr, beq_eq_false_iff_ne.2 hne]
    decide
  · exact ⟨_, rfl, State.fetchDone_counts hf hl⟩
  · simp only [exec, execAdmissionTimeout]
    rw [hc]
  · rw [hcwr, hent] at *
    exact (State.writeRecord_ring r hlt).1
  · rw [hcwr, hent] at *
    exact (State.writeRecord_ring r hlt).2.1
  · rw [hcwr, hent] at *
    exact (State.writeRecord_ring r hlt).2.2
  · simp
  · simp

end Sys2Proof.Machine

/-!
# What cores are doing, and what stops them
-/

namespace Sys2Proof.Machine

/-! ## What a core is doing: its mode and what it waits for -/

/-- The mode of a core and the instruction it waits on. -/
def Core.activity (k : Core) : CoreMode × Option StreamWait := (k.mode, k.wait)

@[simp] theorem Core.setReg_wait (k : Core) (spec : Nat) (v : W64) : (k.setReg spec v).wait = k.wait := by
  unfold Core.setReg
  repeat' split
  all_goals rfl

@[simp] theorem Core.scoutCount_mode (k : Core) (i : Fin 6) (n : Nat) : (k.scoutCount i n).mode = k.mode := rfl

@[simp] theorem Core.scoutCount_wait (k : Core) (i : Fin 6) (n : Nat) : (k.scoutCount i n).wait = k.wait := rfl

theorem State.setCore_activity (s : State) (c : CoreId) (k : Core) (h : k.activity = (s.core c).activity) :
    (s.setCore c k).cores.map Core.activity = s.cores.map Core.activity := by
  refine Vector.ext fun i hi => ?_
  rw [State.setCore, Vector.getElem_map, Vector.getElem_set, Vector.getElem_map]
  split
  · rename_i he
    subst he
    exact h
  · rfl

@[simp] theorem State.modCore_activity (s : State) (c : CoreId) (f : Core → Core) (hm : ∀ k, (f k).mode = k.mode) (hw : ∀ k, (f k).wait = k.wait) :
    (s.modCore c f).cores.map Core.activity = s.cores.map Core.activity :=
  State.setCore_activity s c _ (Prod.ext (hm _) (hw _))

@[simp] theorem State.hbmBytes_cores (n : PartId) (bs : List Byte) :
    ∀ (s : State) (off : Nat), (s.hbmBytes n off bs).cores = s.cores := by
  induction bs with
  | nil => exact fun _ _ => rfl
  | cons b bs ih =>
    intro s off
    rw [State.hbmBytes, ih]
    split <;> rfl

@[simp] theorem Core.modSlot_mode (k : Core) (h : SlotIx) (f : HSlot → HSlot) : (k.modSlot h f).mode = k.mode := rfl

@[simp] theorem Core.modSlot_wait (k : Core) (h : SlotIx) (f : HSlot → HSlot) : (k.modSlot h f).wait = k.wait := rfl

@[simp] theorem State.wakeCore_activity (s : State) (m : CoreId) :
    (s.wakeCore m).cores.map Core.activity = s.cores.map Core.activity := by
  simp [State.wakeCore, apply_ite State.cores, apply_ite (Vector.map Core.activity)]

@[simp] theorem State.wakeBanks_activity (s : State) (c : CoreId) (rs : List (Nat × Nat)) :
    (s.wakeBanks c rs).cores.map Core.activity = s.cores.map Core.activity := by
  unfold State.wakeBanks
  exact foldl_same (π := fun s : State => s.cores.map Core.activity) (fun s a => by split <;> simp) _ _

@[simp] theorem State.hbmWrite_activity (s : State) (n : PartId) (off : Nat) (bs : List Byte) :
    (s.hbmWrite n off bs).cores.map Core.activity = s.cores.map Core.activity := by
  simp [State.hbmWrite, apply_ite State.cores]

@[simp] theorem State.setBlock_activity (s : State) (n : PartId) (v : Nat) :
    (s.setBlock n v).cores.map Core.activity = s.cores.map Core.activity := rfl

@[simp] theorem State.latchStepConfig_activity (s : State) (n : PartId) :
    (s.latchStepConfig n).cores.map Core.activity = s.cores.map Core.activity := rfl

@[simp] theorem State.writeStepBlock_activity (s : State) (n : PartId) :
    (s.writeStepBlock n).cores.map Core.activity = s.cores.map Core.activity := by
  simp [State.writeStepBlock, foldl_same (π := fun s : State => s.cores.map Core.activity), apply_ite State.cores,
    apply_ite (Vector.map Core.activity)]

@[simp] theorem State.put_activity (s : State) (n : PartId) (a : Nat) (bs : List Byte) :
    (s.put n a bs).cores.map Core.activity = s.cores.map Core.activity := by
  simp [State.put, apply_ite State.cores, apply_ite (Vector.map Core.activity)]

@[simp] theorem State.wakeHistories_activity (s : State) (n : PartId) :
    (s.wakeHistories n).cores.map Core.activity = s.cores.map Core.activity := by
  simp [State.wakeHistories, foldl_same (π := fun s : State => s.cores.map Core.activity), apply_ite State.cores,
    apply_ite (Vector.map Core.activity)]

@[simp] theorem State.takeTokens_activity (s : State) (n : PartId) (d : Nat) :
    (s.takeTokens n d).cores.map Core.activity = s.cores.map Core.activity := rfl

@[simp] theorem State.giveTokens_activity (s : State) (n : PartId) (d : Nat) :
    (s.giveTokens n d).cores.map Core.activity = s.cores.map Core.activity := rfl

@[simp] theorem State.modCommand_activity (s : State) (n : PartId) (a : Nat) (f : Command → Command) :
    (s.modCommand n a f).cores.map Core.activity = s.cores.map Core.activity := rfl

@[simp] theorem State.clearSlot_activity (s : State) (c : CoreId) (h : SlotIx) :
    (s.clearSlot c h).cores.map Core.activity = s.cores.map Core.activity := by
  simp -implicitDefEqProofs [State.clearSlot]

@[simp] theorem State.applyPass_activity (s : State) (c : CoreId) (p : Pass) :
    (s.applyPass c p).1.cores.map Core.activity = s.cores.map Core.activity := by
  simp [State.applyPass]

@[simp] theorem State.countAbacus_activity (s : State) (c : CoreId) (op outcome elems : Nat) :
    (s.countAbacus c op outcome elems).cores.map Core.activity = s.cores.map Core.activity := by
  unfold State.countAbacus
  dsimp only
  repeat' split
  all_goals simp

@[simp] theorem State.dropReads_activity (s : State) (c : CoreId) (i : ChanIx) :
    (s.dropReads c i).cores.map Core.activity = s.cores.map Core.activity := by
  simp [State.dropReads, apply_ite State.cores]

@[simp] theorem State.unspeculate_activity (s : State) (c : CoreId) (i : ChanIx) :
    (s.unspeculate c i).cores.map Core.activity = s.cores.map Core.activity := by
  simp [State.unspeculate]

@[simp] theorem State.scoutCancel_activity (s : State) (c : CoreId) :
    (s.scoutCancel c).cores.map Core.activity = s.cores.map Core.activity := by
  simp -implicitDefEqProofs [State.scoutCancel, foldl_same (π := fun s : State => s.cores.map Core.activity), apply_ite State.cores,
    apply_ite (Vector.map Core.activity)]

@[simp] theorem State.countNan_activity (s : State) (n : PartId) (k : Nat) :
    (s.countNan n k).cores.map Core.activity = s.cores.map Core.activity := by
  simp [State.countNan, apply_ite State.cores]

@[simp] theorem State.recordLost_activity (s : State) (n : PartId) (step : Nat) :
    (s.recordLost n step).cores.map Core.activity = s.cores.map Core.activity := by
  simp [State.recordLost, postEvent_recorded (code := 0x14) (by decide)]

@[simp] theorem State.applyEffect_activity (s : State) (c : CoreId) (e : Effect) :
    (s.applyEffect c e).cores.map Core.activity = s.cores.map Core.activity := by
  cases e <;> simp [State.applyEffect, apply_ite Core.mode, apply_ite Core.wait]

@[simp] theorem State.openRecord_activity (s : State) (n : PartId) (step : Nat) :
    (s.openRecord n step).cores.map Core.activity = s.cores.map Core.activity := by
  simp [State.openRecord, apply_ite State.cores, apply_ite (Vector.map Core.activity)]

@[simp] theorem State.startAdmitted_activity (s : State) (n : PartId) :
    (s.startAdmitted n).cores.map Core.activity = s.cores.map Core.activity := by
  unfold State.startAdmitted
  split <;> simp [apply_ite State.cores, apply_ite (Vector.map Core.activity)]

@[simp] theorem State.admission_activity (s : State) (n : PartId) (c : Command) (late : Bool) :
    (s.admission n c late).cores.map Core.activity = s.cores.map Core.activity := by
  simp [State.admission, apply_ite State.cores, apply_ite (Vector.map Core.activity)]

@[simp] theorem State.retire_activity (s : State) (c : CoreId) (i : InFlight) :
    (s.retire c i).1.cores.map Core.activity = s.cores.map Core.activity := by
  unfold State.retire
  dsimp only
  repeat' split
  all_goals simp [foldl_same (π := fun s : State => s.cores.map Core.activity)]

@[simp] theorem State.considerWaiting_activity (f : Nat) : ∀ s : State,
    (State.considerWaiting f s).cores.map Core.activity = s.cores.map Core.activity := by
  induction f with
  | zero => exact fun _ => rfl
  | succ f ih =>
    intro s
    rw [State.considerWaiting]
    split
    · rfl
    · rw [ih, State.admission_activity]

@[simp] theorem State.abandon_activity (s : State) (c : CoreId) (i : InFlight) :
    (s.abandon c i).cores.map Core.activity = s.cores.map Core.activity := by
  unfold State.abandon
  dsimp only
  rw [bumpOf_cores, foldl_same (π := fun s : State => s.cores.map Core.activity) (fun t e => ?_)]
  · exact foldl_same (π := fun s : State => s.cores.map Core.activity) (fun t r => by simp) _ s
  · cases e with
    | keyUnit ch _ _ _ undo => cases undo <;> simp
    | _ => simp

@[simp] theorem State.retireAll_activity (s : State) (c : CoreId) :
    (s.retireAll c).1.cores.map Core.activity = s.cores.map Core.activity := by
  unfold State.retireAll
  dsimp only
  have h : ∀ (l : List InFlight) (a : State × List NanEvent),
      ((l.foldl (fun (a : State × List NanEvent) i => ((a.1.retire c i).1, a.2 ++ (a.1.retire c i).2)) a).1).cores.map Core.activity
        = a.1.cores.map Core.activity :=
    fun l a => foldl_same (π := fun a : State × List NanEvent => a.1.cores.map Core.activity) (fun a i => by simp) l a
  split
  · rw [State.abandon_activity, h]
    simp
  · rw [h]
    simp

@[simp] theorem State.reconsider_activity (s : State) : (s.reconsider).cores.map Core.activity = s.cores.map Core.activity := by
  simp [State.reconsider]

@[simp] theorem State.finish_activity (s : State) (n : PartId) (c : Command) (outcome cause detail result : Nat) :
    (s.finish n c outcome cause detail result).cores.map Core.activity = s.cores.map Core.activity := by
  simp [State.finish, apply_ite State.cores, apply_ite (Vector.map Core.activity)]

@[simp] theorem State.endStart_activity (s : State) (n : PartId) (outcome cause detail : Nat) :
    (s.endStart n outcome cause detail).cores.map Core.activity = s.cores.map Core.activity := by
  unfold State.endStart
  split <;> simp [apply_ite State.cores, apply_ite (Vector.map Core.activity)]

@[simp] theorem State.scoutFollow_activity (s : State) (c : CoreId) (old new : Nat) :
    (s.scoutFollow c old new).cores.map Core.activity = s.cores.map Core.activity := by
  simp only [State.scoutFollow]
  split
  · rfl
  · split
    · simp
    · simp -implicitDefEqProofs [apply_ite State.cores, apply_ite (Vector.map Core.activity)]

/-! ## Stops: a core keeps doing what it did, or neither runs nor waits any more -/

/-- A core that neither runs nor waits. -/
def Core.Idle (k : Core) : Prop := k.mode ≠ .running ∧ k.mode ≠ .waiting ∧ k.wait = none

/-- From s to t core k went on as it was or was stopped. -/
def Halts (k : CoreId) (s t : State) : Prop := (t.core k).activity = (s.core k).activity ∨ (t.core k).Idle

section
variable {k : CoreId} {s t u : State}

theorem Core.Idle.of_activity {k l : Core} (h : k.Idle) (ha : l.activity = k.activity) : l.Idle := by
  obtain ⟨hm, hw⟩ := Prod.mk.inj ha
  rw [Core.Idle, hm, hw]
  exact h

theorem State.core_activity_of_map (h : t.cores.map Core.activity = s.cores.map Core.activity) (k : CoreId) :
    (t.core k).activity = (s.core k).activity := by
  have hk := congrArg (fun v : Vector (CoreMode × Option StreamWait) 64 => v[k]) h
  exact (Vector.getElem_map _ _).symm.trans (hk.trans (Vector.getElem_map _ _))

theorem Halts.of_activity (h : t.cores.map Core.activity = s.cores.map Core.activity) :
    Halts k s t := .inl (State.core_activity_of_map h k)

theorem Halts.refl (k : CoreId) (s : State) : Halts k s s := .inl rfl

theorem Halts.trans (h : Halts k s t) (h' : Halts k t u) : Halts k s u := by
  rcases h' with h' | h'
  · rcases h with h | h
    · exact .inl (h'.trans h)
    · exact .inr (h.of_activity h')
  · exact .inr h'

theorem Halts.idle (h : Halts k s t) (hs : (s.core k).Idle) : (t.core k).Idle := by
  rcases h with h | h
  · exact hs.of_activity h
  · exact h

theorem Halts.of_cores (h : t.cores = s.cores) : Halts k s t := Halts.of_activity (congrArg _ h)

/-- A change of one core halts where what it leaves there is idle. -/
theorem Halts.modCore (s : State) (c : CoreId) {f : Core → Core} (h : (f (s.core c)).Idle) : Halts k s (s.modCore c f) := by
  by_cases hk : k = c
  · subst hk
    rw [Halts, State.core_modCore_same]
    exact .inr h
  · rw [Halts, State.core_modCore_other _ hk]
    exact .inl rfl

theorem Core.endWaiting_wait (q : Core) : q.endWaiting.wait = none := by
  unfold Core.endWaiting
  split
  · rfl
  · assumption

theorem Core.idle_stopped (q : Core) : ({ q.endWaiting with mode := .stopped } : Core).Idle :=
  ⟨nofun, nofun, q.endWaiting_wait⟩

theorem State.stopCore_halts (k : CoreId) (s : State) (c : CoreId) : Halts k s (s.stopCore c).1 := by
  have hr : Halts k s ((s.scoutCancel c).retireAll c).1 := Halts.of_activity (by simp)
  unfold State.stopCore
  dsimp only
  split
  · refine hr.trans (Halts.trans
      (Halts.modCore _ c (f := fun q => { q.endWaiting with mode := .stopped }) (Core.idle_stopped _)) (Halts.of_cores ?_))
    exact State.breakStreams_cores _ _ _ _
  · exact hr

/-- A core that runs or waits is stopped. -/
theorem State.stopCore_idle {c : CoreId} (h : (s.core c).mode = .running ∨ (s.core c).mode = .waiting) :
    ((s.stopCore c).1.core c).Idle := by
  have hm : (((s.scoutCancel c).retireAll c).1.core c).mode = (s.core c).mode :=
    congrArg Prod.fst (State.core_activity_of_map (by simp) c)
  unfold State.stopCore
  dsimp only
  rw [if_pos (by rw [hm]; rcases h with h | h <;> rw [h] <;> decide)]
  refine Halts.idle (Halts.of_cores (State.breakStreams_cores _ _ _ _)) ?_
  rw [State.core_modCore_same]
  exact Core.idle_stopped _

theorem Halts.foldl {α : Type} {f : State → α → State} (h : ∀ s a, Halts k s (f s a)) (l : List α) (s : State) :
    Halts k s (l.foldl f s) := by
  induction l generalizing s with
  | nil => exact Halts.refl k s
  | cons a l ih => exact (h s a).trans (ih _)

theorem State.stopOthers_halts (k : CoreId) (s : State) (n : PartId) (c : CoreId) : Halts k s (s.stopOthers n c).1 := by
  unfold State.stopOthers
  generalize s.coresOf n = l
  have key : ∀ a : State × List (CoreId × NanEvent), Halts k a.1 (l.foldl (fun (a : State × List (CoreId × NanEvent)) d =>
      if d == c then a else let (s, ev) := a.1.stopCore d; (s, a.2 ++ ev.map fun e => (d, e))) a).1 := by
    induction l with
    | nil => exact fun a => Halts.refl k a.1
    | cons d l ih =>
      intro a
      refine Halts.trans ?_ (ih _)
      dsimp only
      split
      · exact Halts.refl k a.1
      · exact State.stopCore_halts k a.1 d
  exact key (s, [])

theorem postEvent_halts {code : Nat} (h : eventClass code ≠ 4) (k : CoreId) (s : State) (part : Option PartId) (core : Option CoreId)
    (detail : Nat) : Halts k s (postEvent s code part core detail) := Halts.of_cores (postEvent_cores h s part core detail)

theorem State.countNan_halts (k : CoreId) (s : State) (n : PartId) (count : Nat) :
    Halts k s (s.countNan n count) := Halts.of_activity (by simp)

theorem commandFaulted_halts (k : CoreId) (s : State) (n : PartId) (detail : Nat) : Halts k s (commandFaulted s n detail) :=
  Halts.of_activity (by simp [commandFaulted])

theorem State.fireTrap_halts (k : CoreId) (s : State) (n : PartId) (c : CoreId) (e : NanEvent) :
    Halts k s (s.fireTrap n c e) := by
  unfold State.fireTrap
  dsimp only
  refine Halts.trans ?_ (postEvent_halts (by decide) k _ _ _ _)
  have hstop : ∀ t : State, t.cores = s.cores → Halts k s ((t.stopCore c).1.stopOthers n c).1 := fun t ht =>
    ((Halts.of_cores ht).trans (State.stopCore_halts k t c)).trans (State.stopOthers_halts k _ n c)
  refine ((hstop _ ?_).trans (State.countNan_halts k _ n _)).trans (commandFaulted_halts k _ n _)
  simp

theorem State.nanTake_halts (k : CoreId) (s : State) (n : PartId) (evs : List (CoreId × NanEvent)) :
    Halts k s (s.nanTake n evs) := by
  unfold State.nanTake
  split
  · exact Halts.refl k s
  · split
    · exact (State.fireTrap_halts k s n _ _).trans (State.countNan_halts k _ n _)
    · split
      · exact Halts.of_activity (by simp)
      · exact Halts.refl k s

theorem State.nanReport_halts (k : CoreId) (s : State) (c : CoreId) (evs : List NanEvent) : Halts k s (s.nanReport c evs) := by
  unfold State.nanReport
  split
  · exact State.nanTake_halts k s _ _
  · exact Halts.refl k s

theorem State.takeFault_halts (k : CoreId) (s : State) (c : CoreId) (f : CoreFault) : Halts k s (s.takeFault c f) := by
  unfold State.takeFault State.takeFaultAt
  dsimp only
  have hr : Halts k s ((s.scoutCancel c).retireAll c).1 := Halts.of_activity (by simp)
  have hs := hr.trans (Halts.trans (Halts.modCore ((s.scoutCancel c).retireAll c).1 c
    (f := fun q => { q with mode := .faulted, frec := f.word (s.core c).pc (s.core c).tag, wait := none }) ⟨nofun, nofun, rfl⟩)
    (Halts.of_cores (State.breakStreams_cores _ c 1 fun _ => true)))
  split
  · refine hs.trans (Halts.trans ?_ (State.nanTake_halts k _ _ _))
    exact Halts.trans (Halts.trans (State.stopOthers_halts k _ _ c) (commandFaulted_halts k _ _ _)) (postEvent_halts (by decide) k _ _ _ _)
  · exact hs.trans (postEvent_halts (by decide) k _ _ _ _)

theorem State.advance_halts (k : CoreId) (s : State) (c : CoreId) : Halts k s (s.advance c) := by
  unfold State.advance
  dsimp only
  split
  · exact Halts.refl k s
  · split
    · exact Halts.of_activity (by simp [State.goto])
    · split
      · exact Halts.of_activity (State.setCore_activity s c _ rfl)
      · exact State.takeFault_halts k s c _

/-! ## Waiting cores try again: no core that neither runs nor waits takes up anything -/

/-- A try that completes leaves the cores as they are. -/
def StreamResult.CoresAre (v : Vector Core 64) : StreamResult → Prop
  | .done t _ => t.cores = v
  | _ => True

@[simp] theorem StreamResult.coresAre_done {v : Vector Core 64} {d : Nat} :
    (StreamResult.done t d).CoresAre v ↔ t.cores = v := Iff.rfl

@[simp] theorem StreamResult.coresAre_wait {v : Vector Core 64} : StreamResult.wait.CoresAre v := trivial

@[simp] theorem StreamResult.coresAre_stall {v : Vector Core 64} : StreamResult.stall.CoresAre v := trivial

theorem StreamResult.coresAre_ite {v : Vector Core 64} {p : Prop} [Decidable p] {a b : StreamResult} :
    (if p then a else b).CoresAre v ↔ (p → a.CoresAre v) ∧ (¬p → b.CoresAre v) := by
  split <;> simp_all

@[simp] theorem State.clearRing_cores (s : State) (x : Ctx) : (s.clearRing x).cores = s.cores := by
  simp -implicitDefEqProofs [State.clearRing, State.setSlotHdr, foldl_same (π := State.cores), apply_ite State.cores]

theorem State.sendTry_cores (s : State) (c : CoreId) (n : PartId) (i addr len : Nat) :
    (s.sendTry c n i addr len).CoresAre s.cores := by
  unfold State.sendTry
  split
  · rfl
  · simp [StreamResult.coresAre_ite, apply_ite State.cores]

theorem State.recvTry_cores (s : State) (c : CoreId) (n : PartId) (i addr cap : Nat) :
    (s.recvTry c n i addr cap).CoresAre s.cores := by
  unfold State.recvTry
  split
  · rfl
  · simp [StreamResult.coresAre_ite, State.setSlotHdr]

theorem State.closeTry_cores (s : State) (c : CoreId) (n : PartId) (i : Nat) : (s.closeTry c n i).CoresAre s.cores := by
  unfold State.closeTry
  split
  · rfl
  · simp [StreamResult.coresAre_ite, apply_ite State.cores]

theorem State.streamTry_cores {c : CoreId} {w d : Nat} (h : s.streamTry c w = .done t d) : t.cores = s.cores := by
  have key : (s.streamTry c w).CoresAre s.cores := by
    unfold State.streamTry
    dsimp only
    split
    · rfl
    · split
      · exact State.sendTry_cores s c _ _ _ _
      · exact State.recvTry_cores s c _ _ _ _
      · exact State.closeTry_cores s c _ _
  rwa [h] at key

theorem State.retryWait_idle {k c : CoreId} {s : State} (h : (s.core k).Idle) : ((s.retryWait c).core k).Idle := by
  unfold State.retryWait
  split
  · exact h
  · rename_i q hq
    have hk : k ≠ c := by
      rintro rfl
      rw [h.2.2] at hq
      contradiction
    split
    · rename_i t d ht
      have ht' : (t.core k).Idle := (Halts.of_cores (State.streamTry_cores ht)).idle h
      refine (State.advance_halts k _ c).idle ?_
      rwa [State.streamEnd, State.core_modCore_other _ hk, State.core_modCore_other _ hk]
    · exact h

theorem State.retryAll_idle {k : CoreId} {s : State} (h : (s.core k).Idle) : ((s.retryAll).core k).Idle :=
  List.foldlRecOn _ _ (motive := fun t : State => (t.core k).Idle) h fun _ ht _ _ => State.retryWait_idle ht

end

end Sys2Proof.Machine

/-!
# The commands of the ring (O38)
-/

namespace Sys2Proof.Machine

theorem State.startNext_of {s : State} {n : PartId} {opc : Nat} {c : Command} (h : (s.parts[n]).nextStart opc = some c) (body : Command → State) :
    s.startNext n opc body = .next (body c) := by
  rw [State.startNext, h]

/-! ## START (12 R302; 06 R143) -/

/-- Starting a list of cores leaves memory and objects; each core of the list is started, every other one is as before. -/
theorem State.started_frame (c : Command) (l : List CoreId) (s : State) :
    (l.foldl (fun (s : State) (k : CoreId) => s.modCore k fun q => q.started c) s).mem = s.mem
      ∧ (l.foldl (fun (s : State) (k : CoreId) => s.modCore k fun q => q.started c) s).objs = s.objs :=
  ⟨foldl_same (f := fun (s : State) (k : CoreId) => s.modCore k fun q => q.started c) (π := State.mem) (fun _ _ => rfl) l s,
    foldl_same (f := fun (s : State) (k : CoreId) => s.modCore k fun q => q.started c) (π := State.objs) (fun _ _ => rfl) l s⟩

theorem State.started_core (c : Command) (l : List CoreId) (hl : l.Nodup) (s : State) (k : CoreId) :
    (l.foldl (fun (s : State) (k : CoreId) => s.modCore k fun q => q.started c) s).core k = if k ∈ l then (s.core k).started c else s.core k := by
  induction l generalizing s with
  | nil => simp
  | cons i l ih =>
    obtain ⟨hi, hl⟩ := List.nodup_cons.1 hl
    rw [List.foldl_cons, ih hl]
    by_cases h : k = i
    · subst h
      simp [hi]
    · simp [h, State.core_modCore_other _ h]

theorem Core.started_regs (k : Core) (c : Command) :
    (k.started c).mode = .running ∧ (k.started c).pc = c.field 24 2 % 16384 ∧ ((k.started c).sreg[(0 : Fin 32)]) = BitVec.ofNat 64 (c.field 32 8)
      ∧ ((k.started c).sreg[(3 : Fin 32)]) = BitVec.ofNat 64 (c.field 56 8) ∧ (k.started c).areg = k.areg :=
  ⟨rfl, rfl, by simp [Core.started], by simp [Core.started], rfl⟩

theorem Command.nodup_named (c : Command) : c.named.Nodup := (List.nodup_finRange 64).filter _

/-! ## RUN_BOUND_EXPIRY (12 R300) -/

theorem Core.mode_of_activity {k l : Core} (h : k.activity = l.activity) : k.mode = l.mode := congrArg Prod.fst h

/-- The state after the named cores have been stopped, each with the report of its NaN events. -/
def State.stopAll (s : State) (l : List CoreId) : State :=
  l.foldl (fun (s : State) (k : CoreId) => let (s, ev) := s.stopCore k; s.nanReport k ev) s

theorem State.stopStep_halts (k : CoreId) (s : State) (d : CoreId) : Halts k s ((s.stopCore d).1.nanReport d (s.stopCore d).2) :=
  (State.stopCore_halts k s d).trans (State.nanReport_halts k _ d _)

/-- Each of the stopped cores that ran or waited is idle. -/
theorem State.stopAll_idle {l : List CoreId} {k : CoreId} : ∀ {s : State}, (k ∈ l
    ∧ ((s.core k).mode = .running ∨ (s.core k).mode = .waiting)) ∨ (s.core k).Idle →
    ((s.stopAll l).core k).Idle := by
  induction l with
  | nil =>
    rintro s (⟨h, -⟩ | h)
    · exact absurd h List.not_mem_nil
    · exact h
  | cons d l ih =>
    intro s h
    refine ih (s := (s.stopCore d).1.nanReport d (s.stopCore d).2) ?_
    rcases h with ⟨hk, hm⟩ | h
    · by_cases hd : k = d
      · subst hd
        exact .inr ((State.nanReport_halts k _ k _).idle (State.stopCore_idle hm))
      · rcases State.stopStep_halts k s d with hs | hs
        · have hmode : (((s.stopCore d).1.nanReport d (s.stopCore d).2).core k).mode = (s.core k).mode :=
            Core.mode_of_activity hs
          exact .inl ⟨(List.mem_cons.1 hk).resolve_left hd, by rwa [hmode]⟩
        · exact .inr hs
    · exact .inr ((State.stopStep_halts k s d).idle h)

/-! ## The obligation -/

/-- Settles O38. -/
theorem ringCommands : Obligations.RingCommands := by
  unfold Obligations.RingCommands
  refine fun s n c => ⟨fun h => ?_, fun h => ⟨fun ho hp hw hb => ?_, fun ho hb => ?_, fun ho => ?_, fun key y ho hz hx => ?_, fun ho hz => ?_,
    fun ho => ?_,
    fun i ho hb hf => ?_, fun ho hb hf => ?_, fun ho hb => ?_⟩, fun h => ⟨fun he hall hr => ?_, fun outcome cause detail he hr => ?_, fun hr => ?_,
    fun hrun he hall => ?_⟩, fun key y h hx => ?_, fun m b bytes h hsp hd hlen hask => ?_, fun m b bytes h hsp hready hpois => ?_,
      fun m b kind h => ?_⟩
  · simp only [exec, execCmdNop, h]
  · rw [ho] at h
    refine ⟨_, (State.startNext_of h _).trans (congrArg _ ((if_neg (by simp [hp, hw])).trans (if_neg (by simp [hb])))), ?_, ?_, fun k hk => ?_⟩
    · exact (State.started_frame c _ _).1
    · exact (State.started_frame c _ _).2
    · rw [State.started_core c _ c.nodup_named, if_pos hk]
      exact Core.started_regs _ c
  · rw [ho] at h
    exact (State.startNext_of h _).trans (congrArg _ (if_neg (by simp [hb])))
  · rw [ho] at h
    exact State.startNext_of h _
  · rw [ho] at h
    refine (State.startNext_of h _).trans (congrArg _ ?_)
    dsimp only
    rw [hz, hx]
    rfl
  · rw [ho] at h
    refine (State.startNext_of h _).trans (congrArg _ ?_)
    dsimp only
    split
    · contradiction
    · rfl
  · rw [ho] at h
    exact State.startNext_of h _
  · rw [ho] at h
    refine (State.startNext_of h _).trans (congrArg _ ((if_neg (by simp [hb])).trans ?_))
    rw [hf]
  · rw [ho] at h
    refine (State.startNext_of h _).trans (congrArg _ ((if_neg (by simp [hb])).trans ?_))
    rw [hf]
  · rw [ho] at h
    exact (State.startNext_of h _).trans (congrArg _ (if_neg (by simp [hb])))
  · simp only [exec, execStartComplete, h, hr, he, Bool.false_eq_true, if_false]
    rw [if_pos (by simpa using hall), State.endStart, h]
    simp [he, hr]
  · simp only [exec, execStartComplete, h, hr, he, Bool.false_eq_true, if_false]
  · simp only [exec, execStartComplete, h, hr, if_true]
  · have hend : ∀ k ∈ c.named, (((s.stopAll c.named).retryAll).core k).Idle := fun k hk =>
      State.retryAll_idle (State.stopAll_idle (.inl ⟨hk, hall k hk⟩))
    refine ⟨postEvent ((s.stopAll c.named).retryAll.endStart n 5 2 0) 3 (some n) none c.cid, ?_, fun k hk => ?_⟩
    · simp only [exec, execRunBoundExpiry, h]
      rw [if_neg (by simp [hrun, he])]
      rfl
    · have hk' := (Halts.trans (Halts.of_activity (State.endStart_activity _ n 5 2 0)) (postEvent_halts (code := 3)
      (by decide) k _ (some n) none c.cid)).idle
        (hend k hk)
      exact ⟨hk'.1, hk'.2.1⟩
  · simp only [exec, execStreamOpenClearDone, h, hx]
  · simp only [exec, execStageCopyComplete, h]
    rw [if_neg (by simp [hsp]), if_neg (by omega), if_neg (by simp [hd]), if_pos (by simpa using hlen)]
  · simp only [exec, execStageCopyComplete, h]
    rw [if_pos (by simp [hsp]), if_neg (by simp [hready]), if_neg (by simp [hpois])]
  · simp only [exec, execStageCopyComplete, h]

end Sys2Proof.Machine

/-!
# The request rows (O39)
-/

namespace Sys2Proof.Machine

/-- A request command: the one that is next, one behind others, or one that comes in. -/
theorem State.request_cases (s : State) (r : Request) (host : List Byte) :
    (s.nextRequest = some r → s.request r host = s.serveNow r host)
      ∧ (s.nextRequest ≠ some r → r ∈ s.warden.queue → s.request r host = s)
      ∧ (s.nextRequest ≠ some r → r ∉ s.warden.queue →
        s.request r host = if (s.comesIn r).nextRequest = some r then (s.comesIn r).serveNow r host else s.comesIn r) := by
  refine ⟨fun h => ?_, fun h hq => ?_, fun h hq => ?_⟩
  · rw [State.request, if_pos (beq_iff_eq.2 h)]
  · rw [State.request, if_neg (by simpa using h), if_pos (List.contains_iff_mem.2 hq)]
  · rw [State.request, if_neg (by simpa using h), if_neg (by simpa using hq)]
    simp only [beq_iff_eq]

/-- Settles O39. -/
theorem guylineRequests : Obligations.GuylineRequests := by
  unfold Obligations.GuylineRequests
  refine fun r s => ⟨fun i mine hmem => ?_, fun host hw hn => ?_⟩
  · have hrow : exec i s = requestOf mine r s := by
      simp only [List.mem_cons, List.not_mem_nil, or_false, Prod.mk.injEq] at hmem
      rcases hmem with ⟨rfl, rfl⟩ | hmem
      · rfl
      iterate 28
        rcases hmem with ⟨rfl, rfl⟩ | hmem
        · rfl
      obtain ⟨rfl, rfl⟩ := hmem
      rfl
    obtain ⟨hnext, hbehind, hin⟩ := s.request_cases r []
    rw [hrow, requestOf]
    refine ⟨fun hm hn => ?_, fun hm hn hq => ?_, fun hm hn hq => ?_, fun hm => if_neg (ne_true_of_eq_false hm) ▸ rfl⟩
    · rw [if_pos hm, hnext hn]
    · rw [if_pos hm, hbehind hn hq]
    · rw [if_pos hm, hin hn hq]
  · simp only [exec, execRestoreFromRecord]
    rw [if_pos hw, (s.request_cases r host).1 hn]

end Sys2Proof.Machine

/-!
# How requests are served and what writes do (O40)
-/

namespace Sys2Proof.Machine

/-! ## Serving (13 R317, R318; 14 R343) -/

theorem State.serve_here {s : State} {r : Request} {host : List Byte} (h : s.elsewhere r = false) :
    (r.pdu.op = 1 → s.serve r host = s.serveRead r) ∧ (r.pdu.op = 2 → s.serve r host = s.serveWrite r host)
      ∧ (r.pdu.op = 9 → s.serve r host = if s.viewGranted r then s.sendAnswer r 0 s.discoverBytes else s.refuse r 4 [])
      ∧ (r.pdu.op = 0xB → s.serve r host = if s.viewGranted r then s.sendAnswer r 0 r.pdu.data else s.refuse r 4 []) := by
  refine ⟨fun ho => ?_, fun ho => ?_, fun ho => ?_, fun ho => ?_⟩ <;>
    simp only [State.serve, h, Bool.false_eq_true, if_false, ho]

theorem State.serveRead_of {s : State} {r : Request} {abort : Nat} {row : ObjRow} (hb : blockOnly r.pdu = false) (hd : r.pdu.data = [])
    (hc : s.checkAccessTo r false = (abort, row)) :
    s.serveRead r = if abort = 0 then ((s.readObject (scopeOf r.pdu row) row).2).sendAnswer r 0 (s.readObject (scopeOf r.pdu row) row).1
      else s.refuse r abort [] := by
  rw [State.serveRead, if_neg (by simp [hb]), if_neg (by simp [hd]), hc]
  cases abort with
  | zero => rfl
  | succ k => rfl

theorem State.serveWrite_of {s : State} {r : Request} {host : List Byte} {abort : Nat} {row : ObjRow} (hb : blockOnly r.pdu = false)
    (hc : s.checkAccessTo r true = (abort, row)) :
    s.serveWrite r host = if abort = 0 then s.writeChecked r row r.pdu.data host else s.refuse r abort r.pdu.data := by
  rw [State.serveWrite, if_neg (by simp [hb]), hc]
  cases abort with
  | zero => rfl
  | succ k => rfl

/-- A write refused by checks 7 or 8. -/
theorem State.writeChecked_locked {s : State} {r : Request} {row : ObjRow} {bs host : List Byte} (h : s.checkWritable (scopeOf r.pdu row) row ≠ 0) :
    s.writeChecked r row bs host = s.refuse r (s.checkWritable (scopeOf r.pdu row) row) bs := by
  unfold State.writeChecked
  dsimp only
  generalize s.checkWritable (scopeOf r.pdu row) row = k at h ⊢
  cases k with
  | zero => contradiction
  | succ k => rfl

/-- A write that passes its checks and leaves nothing for later is answered without data. -/
theorem State.writeChecked_done {s t : State} {r : Request} {row : ObjRow} {bs host : List Byte} (hw : s.checkWritable (scopeOf r.pdu row) row = 0)
    (hv : s.checkValue (scopeOf r.pdu row) row bs = 0) (ha : afterAnswer row = false) (he : s.applyWrite r (scopeOf r.pdu row) row bs host = (0, t))
    (hc : t.warden.current = none) : s.writeChecked r row bs host = t.sendAnswer r 0 [] := by
  unfold State.writeChecked
  simp only [hw, hv, ha, Bool.false_eq_true, if_false, he, hc]
  rfl

theorem requests_served (s : State) (r : Request) (host : List Byte) (h : s.elsewhere r = false) (hb : blockOnly r.pdu = false) :
    (r.pdu.op = 1 → r.pdu.data = [] → ∀ (abort : Nat) (row : ObjRow), s.checkAccessTo r false = (abort, row) →
      (abort = 0 → s.serve r host = ((s.readObject (scopeOf r.pdu row) row).2).sendAnswer r 0 (s.readObject (scopeOf r.pdu row) row).1)
      ∧ (abort ≠ 0 → s.serve r host = (s.bookRefusal r.pdu abort []).sendAnswer r abort []))
    ∧ (r.pdu.op = 2 → ∀ (abort : Nat) (row : ObjRow), s.checkAccessTo r true = (abort, row) →
      (abort ≠ 0 → s.serve r host = (s.bookRefusal r.pdu abort r.pdu.data).sendAnswer r abort [])
      ∧ (abort = 0 → s.checkWritable (scopeOf r.pdu row) row ≠ 0 →
          s.serve r host = (s.bookRefusal r.pdu (s.checkWritable (scopeOf r.pdu row) row) r.pdu.data).sendAnswer r
            (s.checkWritable (scopeOf r.pdu row) row) [])
      ∧ (abort = 0 → s.checkWritable (scopeOf r.pdu row) row = 0 → s.checkValue (scopeOf r.pdu row) row r.pdu.data = 0 → afterAnswer row = false →
          ∀ t : State, s.applyWrite r (scopeOf r.pdu row) row r.pdu.data host = (0, t) → t.warden.current = none →
            s.serve r host = t.sendAnswer r 0 [])) := by
  obtain ⟨hread, hwrite, -, -⟩ := State.serve_here (host := host) h
  refine ⟨fun ho hd abort row hc => ⟨fun h0 => ?_, fun h0 => ?_⟩, fun ho abort row hc => ⟨fun h0 => ?_, fun h0 hw => ?_,
    fun h0 hw hv ha t he hcur => ?_⟩⟩
  · rw [hread ho, State.serveRead_of hb hd hc, if_pos h0]
  · rw [hread ho, State.serveRead_of hb hd hc, if_neg h0, State.refuse]
  · rw [hwrite ho, State.serveWrite_of hb hc, if_neg h0, State.refuse]
  · rw [hwrite ho, State.serveWrite_of hb hc, if_pos h0, State.writeChecked_locked hw, State.refuse]
  · rw [hwrite ho, State.serveWrite_of hb hc, if_pos h0, State.writeChecked_done hw hv ha he hcur]

/-! ## Writes with effects of their own -/

theorem State.armTrap_one (s : State) (n : PartId) :
    objGet (s.armTrap n 1) (some n) 0x6020 1 = 1 ∧ ∀ i, 2 ≤ i → i ≤ 8 → objGet (s.armTrap n 1) (some n) 0x6020 i = 0 := by
  have hne : ∀ i j : Nat, i < 256 → j < 256 → i ≠ j → objKey (some n) 0x6020 i ≠ objKey (some n) 0x6020 j := fun i j hi hj h e =>
    h (objKey_inj hi hj e).2
  have hfold : ∀ (l : List Nat) (t : State) (i : Nat), i < 256 → (∀ j ∈ l, j < 256) →
      objGet (l.foldl (fun (s : State) (j : Nat) => objSet s (some n) 0x6020 j 0) t) (some n) 0x6020 i
        = if i ∈ l then 0 else objGet t (some n) 0x6020 i := by
    intro l
    induction l with
    | nil => simp
    | cons j l ih =>
      intro t i hi hl
      rw [List.foldl_cons, ih _ i hi fun k hk => hl k (List.mem_cons_of_mem _ hk)]
      by_cases hij : i = j
      · subst hij
        simp
      · rw [objGet_objSet_other _ _ (hne i j hi (hl j List.mem_cons_self) hij)]
        simp [hij]
  have harm : s.armTrap n 1 = [2, 3, 4, 5, 6, 7, 8].foldl (fun (s : State) (j : Nat) => objSet s (some n) 0x6020 j 0)
    (objSet s (some n) 0x6020 1 1) :=
    rfl
  rw [harm]
  refine ⟨?_, fun i h2 h8 => ?_⟩
  · rw [hfold _ _ 1 (by omega) (by simp)]
    simp
  · rw [hfold _ _ i (by omega) (by simp), if_pos]
    simp
    omega

theorem State.emberWrite_refused {s : State} (h : s.emberRefusal ≠ 0) :
    s.emberWrite 1 = (0xD, objSet s none 0x2000 3 s.emberRefusal) := by
  rw [State.emberWrite, if_pos (beq_self_eq_true 1)]
  generalize s.emberRefusal = k at h ⊢
  cases k with
  | zero => contradiction
  | succ k => rfl

theorem State.bivouacWrite_running {s : State} (h : s.inBivouac = false) (v : Nat) :
    s.bivouacWrite v = (0xD, objSet s none 0x3000 0xC 1) := by
  rw [State.bivouacWrite, if_pos (by simp [h])]

/-- Ember is accepted while no Patrol tests run: the entry begins. -/
theorem State.emberWrite_accepted {s : State} (h : s.emberRefusal = 0) (hd : s.devState ≠ 1) (hb : s.patrol.banks = []) (hc : s.patrol.cores = []) :
    ∃ t : State, s.emberWrite 1 = (0, t) ∧ t.power.entering = .ember ∧ objGet t none 0x2000 1 = 1 ∧ t.mem = s.mem := by
  have hstop : (objSet (objSet s none 0x2000 3 0) none 0x2000 1 1).patrolStop = objSet (objSet s none 0x2000 3 0) none 0x2000 1 1 := by
    simp [State.patrolStop, State.patrolYieldTo, hb, hc]
  have hdev : (objSet (objSet s none 0x2000 3 0) none 0x2000 1 1).devState ≠ 1 := by
    rw [State.devState, objGet_objSet_other _ _ (by decide), objGet_objSet_other _ _ (by decide)]
    exact hd
  refine ⟨{ objSet (objSet s none 0x2000 3 0) none 0x2000 1 1 with
    power := { (objSet (objSet s none 0x2000 3 0) none 0x2000 1 1).power with entering := .ember } }, ?_, rfl, ?_, rfl⟩
  · rw [State.emberWrite, if_pos (beq_self_eq_true 1), h]
    dsimp only
    rw [hstop, if_neg (by simpa using hdev)]
    rfl
  · exact objGet_objSet_same _ _ _ _ _

section
variable {s : State} {r : Request} {q : Option PartId} {row : ObjRow} {bs host : List Byte} {n : PartId}

theorem State.formationWrite_form (s : State) (n : PartId) :
    (s.formCode n = 0 → s.formationWrite 0xD n = (0, s.form n))
      ∧ (s.formCode n ≠ 0 → s.formationWrite 0xD n = (0xD, objSet s none 0x4100 0x10 (s.formCode n))) := by
  rw [State.formationWrite, if_pos (beq_self_eq_true 0xD)]
  generalize s.formCode n = k
  cases k with
  | zero => exact ⟨fun _ => rfl, fun h => absurd rfl h⟩
  | succ k => exact ⟨fun h => absurd h (Nat.succ_ne_zero k), fun _ => rfl⟩

theorem State.formationWrite_unformed {sub : Nat} (h : (sub == 0xD) = false) (hs : s.partState n = 0) :
    s.formationWrite sub n = (0xD, objSet s none 0x4100 0x10 9) := by
  rw [State.formationWrite, if_neg (by simp [h]), if_pos (by simp [hs])]

theorem State.applyWrite_formation (h : row.index = 0x4100) (hn : leNat bs = n.val) :
    (row.sub = 0xD → s.applyWrite r q row bs host = s.formationWrite 0xD n) ∧ (row.sub = 0xE → s.applyWrite r q row bs host = s.formationWrite 0xE n)
      ∧ (row.sub = 0xF → s.applyWrite r q row bs host = s.formationWrite 0xF n) := by
  have hfin : Fin.ofNat 64 (leNat bs) = n := by rw [hn]; exact Fin.ofNat_val_eq_self n
  refine ⟨fun hs => ?_, fun hs => ?_, fun hs => ?_⟩ <;>
  · unfold State.applyWrite
    rw [h, hs]
    exact congrArg (s.formationWrite _) hfin

end

/-- The writes of partitions. -/
theorem partition_writes (s : State) (r : Request) (q : Option PartId) (row : ObjRow) (bs host : List Byte) (n : PartId) :
    (row.index = 0x4100 ∧ row.sub = 0xD → leNat bs = n.val → (s.formCode n = 0 → s.applyWrite r q row bs host = (0, s.form n))
        ∧ (s.formCode n ≠ 0 → s.applyWrite r q row bs host = (0xD, objSet s none 0x4100 0x10 (s.formCode n))))
    ∧ (row.index = 0x4100 ∧ row.sub = 0xE → leNat bs = n.val →
        (s.partState n = 2 → s.applyWrite r q row bs host = (0, s.partitionReset n true))
        ∧ (s.partState n = 0 → s.applyWrite r q row bs host = (0xD, objSet s none 0x4100 0x10 9)))
    ∧ (row.index = 0x4100 ∧ row.sub = 0xF → leNat bs = n.val → (s.partState n ≠ 0 → s.applyWrite r q row bs host = (0, s.dissolve n))
        ∧ (s.partState n = 0 → s.applyWrite r q row bs host = (0xD, objSet s none 0x4100 0x10 9))) := by
  refine ⟨fun ⟨hi, hs⟩ hn => ?_, fun ⟨hi, hs⟩ hn => ?_, fun ⟨hi, hs⟩ hn => ?_⟩
  · rw [(State.applyWrite_formation hi hn).1 hs]
    exact State.formationWrite_form s n
  · rw [(State.applyWrite_formation hi hn).2.1 hs]
    refine ⟨fun h => ?_, State.formationWrite_unformed (by decide)⟩
    rw [State.formationWrite, if_neg (by decide), if_neg (by simp [h]), if_neg (by decide), if_pos (by simp [h])]
  · rw [(State.applyWrite_formation hi hn).2.2 hs]
    refine ⟨fun h => ?_, State.formationWrite_unformed (by decide)⟩
    rw [State.formationWrite, if_neg (by decide), if_neg (by simpa using h), if_pos (by decide)]

/-- A port is put in use by its own object. -/
theorem State.applyWrite_putInUse (s : State) (r : Request) (q : Option PartId) (row : ObjRow) (bs host : List Byte) (p : PortIx)
    (hi : row.index = 0x7010 + p.val) (hs : row.sub = 8) : s.applyWrite r q row bs host = (0, s.putInUse p) := by
  have hp := p.isLt
  unfold State.applyWrite
  rw [hi, hs]
  fin_cases p <;> rfl

/-- Settles O40. -/
theorem requestEffects : Obligations.RequestEffects := by
  unfold Obligations.RequestEffects
  refine ⟨fun s r host h hb => ?_, fun s r q row bs host n => ?_⟩
  · obtain ⟨hread, hwrite⟩ := requests_served s r host h hb
    obtain ⟨-, -, hdiscover, hecho⟩ := State.serve_here (host := host) h
    refine ⟨hread, hwrite, fun ho hv => ?_, fun ho hv => ?_, fun ho hv => ?_⟩
    · rw [hdiscover ho, if_pos hv]
    · rw [hecho ho, if_pos hv]
    · rcases ho with ho | ho
      · rw [hdiscover ho, if_neg (ne_true_of_eq_false hv), State.refuse]
      · rw [hecho ho, if_neg (ne_true_of_eq_false hv), State.refuse]
  · obtain ⟨hform, hreset, hdissolve⟩ := partition_writes s r q row bs host n
    refine ⟨hform, hreset, hdissolve, fun ⟨hi, hs⟩ hl => ?_, fun ⟨hi, hs⟩ hq hv => ?_, fun ⟨hi, hs⟩ hl => ?_, fun ⟨hi, hs⟩ hq => ?_,
      fun ⟨hi, hs⟩ hq hc => ?_, fun ⟨hi, hs⟩ hv he => ?_, fun ⟨hi, hs⟩ hv he hd _ hb hc => ?_, fun p ⟨hi, hs⟩ => ?_, fun ⟨hi, hs⟩ hb => ?_,
      fun hi hq hl => ⟨fun ha => ?_, fun ha => ?_⟩⟩
    · unfold State.applyWrite
      rw [hi, hs]
      simp [hl]
    · refine ⟨s.armTrap n 1, ?_, State.armTrap_one s n⟩
      unfold State.applyWrite
      rw [hi, hs, hq, hv]
      rfl
    · unfold State.applyWrite
      rw [hi, hs]
      simp [hl, dutyOf]
    · unfold State.applyWrite
      rw [hi, hs, hq]
      rfl
    · unfold State.applyWrite
      rw [hi, hs, hq]
      simp [hc]
    · unfold State.applyWrite
      rw [hi, hs, hv]
      exact State.emberWrite_refused he
    · unfold State.applyWrite
      rw [hi, hs, hv]
      exact State.emberWrite_accepted he hd hb hc
    · exact State.applyWrite_putInUse s r q row bs host p hi hs
    · unfold State.applyWrite
      rw [hi, hs]
      exact State.bivouacWrite_running hb _
    · unfold State.applyWrite
      rw [hi, hq]
      simp [hl, ha]
    · unfold State.applyWrite
      rw [hi, hq]
      refine ⟨s.modPart n fun p => { p with apertures := p.apertures ++ [(row.sub, leNat bs)] }, by simp [ha], rfl, ?_⟩
      rw [State.parts_modPart_same]

end Sys2Proof.Machine

/-!
# Forming and resetting a partition (O41)
-/

namespace Sys2Proof.Machine

/-! ## What formation leaves unchanged -/

@[simp] theorem State.flushTx_banks (s : State) : (s.flushTx).banks = s.banks := by
  simp [State.flushTx, apply_ite State.banks]

@[simp] theorem State.transmit_banks (s : State) (e : OutEvent) : (s.transmit e).banks = s.banks := by
  simp [State.transmit, apply_ite State.banks]

@[simp] theorem State.hostPost_banks (s : State) (n : PartId) (addr : Nat) (bs : List Byte) (noSnoop : Bool) :
    (s.hostPost n addr bs noSnoop).banks = s.banks := by
  simp -implicitDefEqProofs [State.hostPost, foldl_same (π := State.banks), apply_ite State.banks]

@[simp] theorem State.raiseVector_banks (s : State) (n : PartId) (v : Fin 8) : (s.raiseVector n v).banks = s.banks := by
  simp [State.raiseVector, apply_ite State.banks]

@[simp] theorem State.setNoteQueue_banks (s : State) (q : Option PartId) (x : NoteQueue) :
    (s.setNoteQueue q x).banks = s.banks := by
  unfold State.setNoteQueue
  split <;> simp

@[simp] theorem State.pushNotify_banks (s : State) : (s.pushNotify).banks = s.banks := by
  unfold State.pushNotify
  split <;> simp [apply_ite State.banks]

@[simp] theorem State.noteRing_banks (s : State) (q : Option PartId) : (s.noteRing q).banks = s.banks := by
  simp [State.noteRing, apply_ite State.banks]

@[simp] theorem State.notePost_banks (s : State) (q : Option PartId) (reason item data : Nat) :
    (s.notePost q reason item data).banks = s.banks := by
  simp [State.notePost, apply_ite State.banks]

@[simp] theorem State.recomputeShares_banks (s : State) : (s.recomputeShares).banks = s.banks := by
  unfold State.recomputeShares
  exact foldl_same (π := State.banks) (fun s a => by simp) _ _

@[simp] theorem State.queueOn_banks (s : State) (p : PortIx) (dl camp : Nat) (k : Packet) :
    (s.queueOn p dl camp k).banks = s.banks := by
  simp [State.queueOn, apply_ite State.banks]

@[simp] theorem State.sendPacket_banks (s : State) (k : Packet) : (s.sendPacket k).banks = s.banks := by
  unfold State.sendPacket
  split <;> simp

@[simp] theorem State.formed_banks (s : State) (n : PartId) : (s.formed n).banks = s.banks := by
  simp [State.formed, apply_ite State.banks]

@[simp] theorem State.flushTx_objs (s : State) : (s.flushTx).objs = s.objs := by
  simp [State.flushTx, apply_ite State.objs]

@[simp] theorem State.transmit_objs (s : State) (e : OutEvent) : (s.transmit e).objs = s.objs := by
  simp [State.transmit, apply_ite State.objs]

@[simp] theorem State.hostPost_objs (s : State) (n : PartId) (addr : Nat) (bs : List Byte) (noSnoop : Bool) :
    (s.hostPost n addr bs noSnoop).objs = s.objs := by
  simp -implicitDefEqProofs [State.hostPost, foldl_same (π := State.objs), apply_ite State.objs]

@[simp] theorem State.queueOn_objs (s : State) (p : PortIx) (dl camp : Nat) (k : Packet) :
    (s.queueOn p dl camp k).objs = s.objs := by
  simp [State.queueOn, apply_ite State.objs]

@[simp] theorem State.sendPacket_objs (s : State) (k : Packet) : (s.sendPacket k).objs = s.objs := by
  unfold State.sendPacket
  split <;> simp

@[simp] theorem State.recomputeShares_cores (s : State) : (s.recomputeShares).cores = s.cores := by
  unfold State.recomputeShares
  exact foldl_same (π := State.cores) (fun s a => by simp) _ _

@[simp] theorem State.formed_cores (s : State) (n : PartId) : (s.formed n).cores = s.cores := by
  simp [State.formed, State.notePost_cores, apply_ite State.cores]

/-! ## The state of a partition -/

/-- A write of another object leaves the state of every partition. -/
theorem State.partState_objSet (s : State) (q : Option PartId) {i j : Nat} (v : Nat) (hi : i < 65536) (hj : j < 256) (h : ¬(0x4010 = i ∧ 7 = j))
    (n : PartId) : (objSet s q i j v).partState n = s.partState n :=
  objGet_objSet_other s v (objKey_ne (by decide) (by decide) hi hj h)

theorem State.partState_of_objs {s t : State} (h : t.objs = s.objs) (n : PartId) : t.partState n = s.partState n := by
  rw [State.partState, objGet, h]
  rfl

theorem State.partState_recomputeShares (s : State) (n : PartId) : s.recomputeShares.partState n = s.partState n := by
  unfold State.recomputeShares
  refine (foldl_same (π := fun s : State => s.partState n) (fun t m => ?_) _ _).trans ?_
  · exact State.partState_objSet t _ _ (by decide) (by decide) (by decide) n
  · exact State.partState_objSet s _ _ (by decide) (by decide) (by decide) n

theorem State.partState_notePost (s : State) (q : Option PartId) (reason item data : Nat) (n : PartId) :
    (s.notePost q reason item data).partState n = s.partState n := by
  obtain ⟨x, h, -⟩ := State.notePost_onlyTells s q reason item data
  refine (h.objs (some n) 0x4010 7 (by decide) (by decide) (by decide)).trans ?_
  cases q <;> rfl

theorem State.partState_formed (s : State) (n : PartId) : (s.formed n).partState n = 2 := by
  have hset : ∀ t : State, (objSet (objSet t (some n) 0x4010 7 2) none 0x4000 1 (objGet t none 0x4000 1 ||| 2 ^ n.val)).partState n = 2 := fun t =>
    (State.partState_objSet _ none _ (by decide) (by decide) (by decide) n).trans (objGet_objSet_same t (some n) 0x4010 7 2)
  have hobj : ∀ (t : State) {i j : Nat} (v : Nat), i < 65536 ∧ j < 256 → ¬(0x4010 = i ∧ 7 = j) →
    (objSet t (some n) i j v).partState n = t.partState n :=
    fun t _ _ v hlt hne => State.partState_objSet t (some n) v hlt.1 hlt.2 hne n
  have hcamp : ∀ (t : State) (v : Nat), (objSet t (some n) 0x4010 9 v).partState n = t.partState n := fun t v => hobj t v (by decide) (by decide)
  have hrank : ∀ (t : State) (v : Nat), (objSet t (some n) 0x7100 6 v).partState n = t.partState n := fun t v => hobj t v (by decide) (by decide)
  have hsize : ∀ (t : State) (v : Nat), (objSet t (some n) 0x7100 7 v).partState n = t.partState n := fun t v => hobj t v (by decide) (by decide)
  have hready : ∀ (t : State) (v : Nat), (objSet t (some n) 0x7100 8 v).partState n = t.partState n := fun t v => hobj t v (by decide) (by decide)
  have hmod : ∀ (t : State) (f : Partition → Partition), (t.modPart n f).partState n = t.partState n := fun _ _ => rfl
  have hpacket : ∀ (t : State) (k : Packet), (t.sendPacket k).partState n = t.partState n := fun t k =>
    State.partState_of_objs (State.sendPacket_objs t k) n
  unfold State.formed
  rw [State.partState_notePost]
  simp only [apply_ite (fun t : State => t.partState n), hcamp, hrank, hsize, hready, hmod, hpacket, State.partState_recomputeShares, hset, ite_self]

/-! ## A core given to a partition (12 R291; 08 R216) -/

theorem State.giveCore_cores (s : State) (n : PartId) (m : CoreMode) (c : CoreId) :
    (s.giveCore n m c).cores = (((s.clearCoreMem c).modCore c fun k => k.ofPart c n m).powerUpOp c (s.core c).power.state m).cores :=
  foldl_same (f := fun (s : State) (b : BankIx) => s.setBank c b (.clearing (.core c))) (π := State.cores) (fun _ _ => rfl) _ _

theorem State.giveCore_mem (s : State) (n : PartId) (m : CoreMode) (c : CoreId) :
    (s.giveCore n m c).mem = (s.clearCoreMem c).mem := by
  refine (foldl_same (f := fun (s : State) (b : BankIx) => s.setBank c b (.clearing (.core c))) (π := State.mem) (fun _ _ => rfl) _ _).trans ?_
  rw [State.powerUpOp]
  split <;> rfl

theorem State.giveCore_other (s : State) (n : PartId) (m : CoreMode) {c d : CoreId} (h : d ≠ c) :
    (s.giveCore n m c).core d = s.core d := by
  have hc : (s.giveCore n m c).core d
      = (((s.clearCoreMem c).modCore c fun k => k.ofPart c n m).powerUpOp c (s.core c).power.state m).core d :=
    congrArg (fun v : Vector Core 64 => v[d]) (State.giveCore_cores s n m c)
  rw [hc, State.powerUpOp]
  split
  · rw [State.core_modCore_other _ h, State.core_modCore_other _ h]
    rfl
  · rw [State.core_modCore_other _ h]
    rfl

/-- The core itself has its reset registers, its own windows and slots, but for its operating point. -/
theorem State.giveCore_core (s : State) (n : PartId) (m : CoreMode) (c : CoreId) :
    ∃ op, (s.giveCore n m c).core c = { (s.core c).ofPart c n m with power := op } := by
  have hc : (s.giveCore n m c).core c
      = (((s.clearCoreMem c).modCore c fun k => k.ofPart c n m).powerUpOp c (s.core c).power.state m).core c :=
    congrArg (fun v : Vector Core 64 => v[c]) (State.giveCore_cores s n m c)
  rw [hc, State.powerUpOp]
  split
  · rw [State.core_modCore_same, State.core_modCore_same]
    exact ⟨_, rfl⟩
  · rw [State.core_modCore_same]
    exact ⟨_, rfl⟩

theorem Core.ofPart_reset (k : Core) (c : CoreId) (n : PartId) (m : CoreMode) :
    (k.ofPart c n m).part = some n ∧ (k.ofPart c n m).mode = m ∧ (k.ofPart c n m).pc = 0 ∧ (k.ofPart c n m).sreg = .replicate 32 0
      ∧ (k.ofPart c n m).preg = pregReset ∧ (∀ b : BankIx, (k.ofPart c n m).windows[b] = some c)
      ∧ ∀ h : SlotIx, ((k.ofPart c n m).slots[h]).clearing = (m == .clearing) :=
  ⟨rfl, rfl, rfl, rfl, rfl, fun b => by simp [Core.ofPart], fun h => by simp [Core.ofPart]⟩

theorem bankKey_inj {m : CoreId} {b d : BankIx} (h : bankKey m b = bankKey m d) : b = d := by
  unfold bankKey at h
  exact Fin.ext (by omega)

/-- The banks of the core clear for it. -/
theorem State.giveCore_bank (s : State) (n : PartId) (m : CoreMode) (c : CoreId) (b : BankIx) :
    (s.giveCore n m c).bank c b = .clearing (.core c) := by
  have key : ∀ (l : List BankIx) (t : State), b ∈ l ∨ t.bank c b = .clearing (.core c) →
      (l.foldl (fun (s : State) (b : BankIx) => s.setBank c b (.clearing (.core c))) t).bank c b = .clearing (.core c) := by
    have hne : BankState.clearing (.core c) ≠ .lent := nofun
    intro l
    induction l with
    | nil => exact fun t h => h.resolve_left List.not_mem_nil
    | cons d l ih =>
      refine fun t h => ih _ ?_
      by_cases hd : b = d
      · subst hd
        exact .inr (tabGet_tabSet_value hne _)
      · refine h.imp (fun h => (List.mem_cons.1 h).resolve_left hd) fun h => ?_
        exact (tabGet_tabSet_value_other hne (fun e => hd (bankKey_inj e)) _).trans h
  exact key _ _ (.inl (List.mem_finRange b))

/-- A key that a table does not list reads the default. -/
theorem tabGet_of_not_mem {α : Type} {d : α} {x : Nat} : ∀ {t : Tab α}, (∀ e ∈ t, e.1 ≠ x) → tabGet d t x = d
  | [], _ => rfl
  | (k, v) :: t, h => by
    have hk : x ≠ k := fun e => h (k, v) List.mem_cons_self e.symm
    rw [tabGet, if_neg hk, tabGet_of_not_mem fun e he => h e (List.mem_cons_of_mem _ he), ite_self]

/-- Its bank memory reads 0: the clearing of the banks leaves no byte listed, and what is cleared after them lists none. -/
theorem State.memByte_clearCoreMem (s : State) (c : CoreId) {a : Nat} (h1 : bankBase c 0 ≤ a) (h2 : a < bankBase c 0 + 0x400000) :
    memByte (s.clearCoreMem c).mem a = 0 := by
  refine tabGet_of_not_mem fun e he ha => ?_
  have hin := List.mem_of_mem_filter (List.mem_of_mem_filter (List.mem_of_mem_filter he))
  have hout := (List.mem_filter.1 hin).2
  simp only [Bool.or_eq_true, decide_eq_true_eq] at hout
  omega

/-- Settles O41. -/
theorem formation : Obligations.Formation := by
  unfold Obligations.Formation
  refine fun s n => ⟨fun hs hc => ⟨s.formed n, ?_, State.partState_formed s n, ?_, State.formed_cores s n, State.formed_banks s n⟩, fun hs hc => ?_,
    fun hs => ?_, fun m c => ?_, ?_⟩
  · simp [exec, execFormationComplete, hs, hc]
  · rw [State.formed_mem]
  · simp [exec, execFormationComplete, hc]
  · simp [exec, execFormationComplete, hs]
  · obtain ⟨op, hk⟩ := State.giveCore_core s n m c
    obtain ⟨hpart, hmode, hpc, hsreg, hpreg, hwin, hslots⟩ := Core.ofPart_reset (s.core c) c n m
    refine ⟨?_, ?_, ?_, ?_, ?_, ?_, ?_, State.giveCore_bank s n m c, fun a h1 h2 => ?_, fun d hd => State.giveCore_other s n m hd⟩
    · rw [hk]; exact hpart
    · rw [hk]; exact hmode
    · rw [hk]; exact hpc
    · rw [hk]; exact hsreg
    · rw [hk]; exact hpreg
    · rw [hk]; exact hwin
    · rw [hk]; exact hslots
    · rw [State.giveCore_mem]
      exact State.memByte_clearCoreMem s c h1 h2
  · have hp : ∀ t : State, ∀ f : Partition → Partition, ((t.modPart n f).parts[n]) = f t.parts[n] := fun t f => State.parts_modPart_same t n f
    refine ⟨?_, ?_, ?_, ?_, ?_, objGet_objSet_same _ (some n) 0x4010 0xF 0⟩
    · rw [State.clearRings, hp]
    · rw [State.clearRings, hp]
    · rw [State.clearRings, hp]
    · rw [State.clearRings, hp]
    · exact (objGet_objSet_other _ 0 (by simp [objKey])).trans (objGet_objSet_same s (some n) 0x4010 0xE 0)

end Sys2Proof.Machine

/-!
# The PCIe rows (O42)
-/

namespace Sys2Proof.Machine

/-- The registers of a function that resets read their defaults. -/
theorem State.cfgGet_functionReset (s : State) (f : PartId) {reg : Nat} (h : reg < 16) :
    (s.functionReset f).cfgGet f reg = cfgDefault reg := by
  have hk : tabGet 0 (s.functionReset f).attach.cfg (cfgKey f reg) = 0 :=
    tabGet_tabClear_inside (by unfold cfgKey; omega) (by unfold cfgKey; omega) _
  rw [State.cfgGet, hk]

/-- A device reset leaves no memory and no bank, and a start due. -/
theorem State.deviceReset_fresh (s : State) :
    s.deviceReset.mem = [] ∧ s.deviceReset.banks = [] ∧ s.deviceReset.tick = s.tick ∧ s.deviceReset.boot.due = true
      ∧ s.deviceReset.pins = s.pins := by
  unfold State.deviceReset
  dsimp only
  split <;> exact ⟨rfl, rfl, rfl, rfl, rfl⟩

/-- Settles O42. -/
theorem pcieRows : Obligations.PcieRows := by
  unfold Obligations.PcieRows
  refine fun s f => ⟨fun hup => ⟨fun hf ht => ⟨s.flrVf f, ?_, rfl, fun reg hr => State.cfgGet_functionReset _ f hr⟩, fun hf ht => ?_,
    ⟨s.flrPf0, ?_, rfl, fun reg hr => State.cfgGet_functionReset _ 0 hr⟩, fun hv => ?_, fun ht hd => ?_, fun q => ⟨fun ht hq => ?_, fun ht hq => ?_,
      fun ht hq => ⟨?_, fun hreg => ?_⟩⟩⟩,
    fun hd hl => ?_, fun c addr hp hd hb => ⟨fun r hr => ?_, fun hr => ?_⟩, fun width rate hd hpg hperst hbiv hst => ?_⟩
  · simp [exec, execPcieFlrVf, hup, hf, ht]
  · simp [exec, execPcieFlrVf, ht]
  · simp [exec, execPcieFlrPf0, hup]
  · simp [exec, execPcieVfEnableClear, hup, hv]
  · simp [exec, execPcieD3hotToD0, hup, ht, hd]
  · simp [exec, execPcieConfigRequest, hup, ht, hq]
  · simp [exec, execPcieConfigRequest, hup, ht, hq]
  · simp [exec, execPcieConfigRequest, hup, ht, hq]
  · simp [exec, execPcieConfigRequest, hup, ht, hq, hreg, State.cfgWrite]
  · obtain ⟨hmem, hbanks, htick, hdue, hpins⟩ := s.deviceReset_fresh
    exact ⟨objBump s.deviceReset none 0xC010 3, by simp [exec, execPcieHotReset, hd, hl], hmem, hbanks, htick, hdue, hpins⟩
  · simp [exec, execPcieCompletionTimeout, hp, hd, hb, hr]
  · simp [exec, execPcieCompletionTimeout, hp, hd, hb, hr]
  · refine ⟨objSet (objSet s none 0xC010 1 rate.toNat) none 0xC010 2 width.toNat, ?_, objGet_objSet_same _ none 0xC010 2 _, ?_, rfl⟩
    · simp [exec, execPcieLinkUp, hd, hpg, hperst, hbiv, hst]
    · exact (objGet_objSet_other _ _ (by decide)).trans (objGet_objSet_same s none 0xC010 1 _)

end Sys2Proof.Machine

/-!
# The UCIe and HBM3E rows (O43)
-/

namespace Sys2Proof.Machine

/-! ## Flow control keeps what the link-up settled (11 R281, R282) -/

theorem Attach.pay_settled {a b : Attach} {e : OutEvent} (h : a.pay e = some b) : b.fenced = a.fenced ∧ b.enough = a.enough := by
  unfold Attach.pay at h
  dsimp only at h
  split at h <;> split at h <;> cases h <;> exact ⟨rfl, rfl⟩

theorem sendable_settled (l : List OutEvent) : ∀ (a : Attach) (before : List Nat),
    (sendable a before l).1.fenced = a.fenced ∧ (sendable a before l).1.enough = a.enough := by
  induction l with
  | nil => exact fun _ _ => ⟨rfl, rfl⟩
  | cons e l ih =>
    intro a before
    rw [sendable]
    split
    · rename_i b hb
      have hpay : b.fenced = a.fenced ∧ b.enough = a.enough := by
        split at hb
        · contradiction
        · exact Attach.pay_settled hb
      exact ⟨(ih b before).1.trans hpay.1, (ih b before).2.trans hpay.2⟩
    · exact ih a _

theorem State.flushTx_settled (s : State) : s.flushTx.attach.fenced = s.attach.fenced ∧ s.flushTx.attach.enough = s.attach.enough := by
  unfold State.flushTx
  split
  · exact ⟨rfl, rfl⟩
  · exact sendable_settled s.attach.txq s.attach []

theorem objGet_of_objs {s t : State} (h : t.objs = s.objs) (q : Option PartId) (i j : Nat) : objGet t q i j = objGet s q i j := by
  simp only [objGet, h]

/-- A link-up with the host's credits (11 R281). -/
theorem execUcieLinkUp_settles {s : State} (hd : s.delivery = .kv2c) (hpg : s.pins.mainPg = true) (hb : s.inBivouac = false) (width : BitVec 8)
    (rate : W16) (cr : UcieCredits) :
    ∃ t : State, exec (.ucieLinkUp width rate cr) s = .next t ∧ objGet t none 0xC010 2 = width.toNat ∧ t.attach.fenced = false
      ∧ (t.attach.enough = true ↔ 16 ≤ cr.pHdr ∧ 64 ≤ cr.pDat ∧ 16 ≤ cr.npHdr) := by
  simp only [exec, execUcieLinkUp]
  rw [if_neg (by simp [hd, hpg, hb])]
  have hset : ∀ v w, objGet (objSet (objSet s none 0xC010 1 v) none 0xC010 2 w) none 0xC010 2 = w := fun v w => objGet_objSet_same _ none 0xC010 2 w
  refine ⟨_, rfl, ?_⟩
  split
  · exact ⟨(objGet_of_objs (State.flushTx_objs _) none 0xC010 2).trans (hset _ _), (State.flushTx_settled _).1,
      by rw [(State.flushTx_settled _).2]; simp [State.emit, and_assoc]⟩
  · exact ⟨(objGet_objBump_other _ _ (by decide)).trans (hset _ _), rfl, by simp [State.ucieError, objBump, objSet, State.emit, and_assoc]⟩

/-! ## Fences (11 R283) -/

theorem execVdFence_observes {s : State} (hd : s.delivery = .kv2c) {q : W16} (hq : q ≠ 0) :
    ∃ t : State, exec (.vdFence q) s = .next t ∧ objGet t none 0xC010 6 = q.toNat ∧ t.out = s.out ++ [.fenceAck q.toNat]
      ∧ ∀ n : PartId, (s.parts[n]).fenceWait = true → fenceCovers q.toNat (bits (s.parts[n]).cmdDb.toNat 31 16) = true →
          (t.parts[n]).observed = bits (s.parts[n]).cmdDb.toNat 15 0 ∧ (t.parts[n]).fenceWait = false := by
  simp only [exec, execVdFence]
  rw [if_neg (by simp [hd]), if_neg (mt eq_of_beq hq)]
  refine ⟨_, rfl, objGet_objSet_same _ none 0xC010 6 _, rfl, fun n hw hc => ?_⟩
  simp only [Fin.getElem_fin] at hw hc
  simp [State.emit, objSet, hw, hc]

theorem execFenceTimeout_ends {s : State} {n : PartId} (hw : (s.parts[n]).fenceWait = true) :
    ∃ t : State, exec (.fenceTimeout n) s = .next t ∧ (t.parts[n]).fenceWait = false
      ∧ (t.parts[n]).fenceTmo = true ∧ (t.parts[n]).observed = (s.parts[n]).observed := by
  simp only [exec, execFenceTimeout]
  rw [if_pos hw]
  refine ⟨_, rfl, ?_⟩
  obtain ⟨x, h, -⟩ := State.notePost_onlyTells
    (objBump (s.modPart n fun p => { p with fenceWait := false, fenceTmo := true }) (some n) 0xC020 3) (some n) reasonChange (itemOf 0xC020 3)
    (objGet (objBump (s.modPart n fun p => { p with fenceWait := false, fenceTmo := true }) (some n) 0xC020 3) (some n) 0xC020 3)
  obtain ⟨v, hv⟩ := h.parts n
  have hp : (((objBump (s.modPart n fun p => { p with fenceWait := false, fenceTmo := true }) (some n) 0xC020 3).setNoteQueue (some n) x).parts)[n]
      = { s.parts[n] with fenceWait := false, fenceTmo := true, notes := x } := by
    simp [State.setNoteQueue, State.modPart, objBump, objSet]
  rw [State.noteChange, hv, hp]
  exact ⟨rfl, rfl, rfl⟩

/-! ## The rows -/

/-- Settles O43. -/
theorem ucieRows : Obligations.UcieRows := by
  unfold Obligations.UcieRows
  refine fun s => ⟨fun hup h => ⟨fun ht => ⟨?_, ?_⟩, fun n off ht => ⟨?_, fun hl => ?_⟩, fun hr => ⟨?_, ?_⟩,
      fun r hr hpart => ⟨fun hst => ?_, fun hl hne ha hw hst => ⟨fun hpo => ?_, fun hpo => ?_⟩⟩, fun r hr htag => ?_⟩,
    fun hup => ⟨fun cr => ?_, ?_⟩,
    fun hd => ⟨fun q hq => execVdFence_observes hd hq, fun width rate cr hpg hb => execUcieLinkUp_settles hd hpg hb width rate cr,
      fun hdev hboot hex hent => ?_⟩,
    fun n hw => execFenceTimeout_ends hw, fun hd found => ?_, fun u next hu => ?_⟩
  · simp [exec, execUcieHostRd, hup, ht]
  · simp [exec, execUcieHostWr, hup, ht]
  · simp [exec, execUcieHostRd, hup, ht]
  · simp [exec, execUcieHostWr, hup, ht, hl]
  · simp [exec, execUcieCpld, hup, hr]
  · simp [exec, execUcieCpl, hup, hr]
  · simp [exec, execUcieCpl, hup, hr, hpart, hst]
  · simp [exec, execUcieCpld, hup, hr, hpart, hl, hne, ha, hw, hst, hpo]
  · simp [exec, execUcieCpld, HostRead.whole, hup, hr, hpart, hl, hne, ha, hw, hst, hpo]
  · simp [exec, execUcieCompletionTimeout, hup, Nat.mod_eq_of_lt htag, hr]
  · simp [exec, execUcieCrd, hup]
  · obtain ⟨hmem, -, htick, hdue, -⟩ := s.deviceReset_fresh
    exact ⟨objBump s.deviceReset none 0xC010 3, by simp [exec, execUcieLinkLoss, hup], hmem, htick, hdue⟩
  · simp [exec, execUcieL2ExitRequest, State.wake, hd, hdev, hboot, hex, hent]
  · simp only [exec, execHbmScrub]
    rw [if_neg (by simp [hd])]
    exact ⟨_, rfl, rfl, rfl⟩
  · simp only [exec, execHbmUnitClearDone, hu]
    exact ⟨_, rfl, fun e he => by simpa using (List.mem_filter.1 he).2, rfl, rfl⟩

end Sys2Proof.Machine

/-!
# The queue and the state after reset (O1, O2, O3)
-/

namespace Sys2Proof.Machine

/-- Settles O1. -/
theorem stepRunsFront : Obligations.StepRunsFront := fun _ _ _ => rfl

/-! ## A tick edge (16 R372; log 1) -/

/-- A duty of the device switches by objects and a notification alone. -/
theorem State.dutySwitch_device (s : State) (k : Nat) : ∃ t : State, s.dutySwitch none k
    = { s with notes := t.notes, parts := t.parts, objs := t.objs, attach := t.attach, warden := t.warden, out := t.out } := by
  unfold State.dutySwitch
  extract_lets ix a b
  split
  · exact ⟨s, rfl⟩
  · obtain ⟨x, h, -⟩ := State.notePost_onlyTells (objSet b none ix 7 (b.tick % 2 ^ 32)) none reasonChange (itemOf ix 2)
      (objGet (objSet b none ix 7 (b.tick % 2 ^ 32)) none ix 2)
    exact ⟨{ (objSet b none ix 7 (b.tick % 2 ^ 32)).noteChange none ix 2 with notes := x }, h.rest⟩

/-- Settles O2. -/
theorem emptyQueueTick : Obligations.EmptyQueueTick := by
  unfold Obligations.EmptyQueueTick
  intro s hp
  refine ⟨s.emberTick, by simp [step, hp], ?_⟩
  unfold State.emberTick State.powerEdge
  split
  · exact ⟨rfl, rfl, rfl, rfl, rfl, rfl, rfl, rfl, rfl, rfl, rfl, rfl, rfl⟩
  · obtain ⟨t, ht⟩ := State.dutySwitch_device { s with tick := (s.tick + 1) % 2 ^ 64, faults := { s.faults with now := [] } } 6
    rw [ht]
    exact ⟨rfl, rfl, rfl, rfl, rfl, rfl, rfl, rfl, rfl, rfl, rfl, rfl, rfl⟩

/-! ## What power-on reset leaves (06 R140, 17 R380) -/

theorem State.reset_core (c : CoreId) : State.reset.core c = Core.gated := Vector.getElem_replicate ..

theorem pregReset_other {i : Fin 8} (h : i ≠ 0) : pregReset[i] = false := by
  revert h
  revert i
  decide

theorem Core.gated_reg {r : Nat} (hr : r < 60) (h48 : r ≠ 48) : Core.gated.reg r = 0 := by
  unfold Core.reg
  split_ifs with h1 h2 h3 hp
  · exact Vector.getElem_replicate ..
  · exact Vector.getElem_replicate ..
  · have hne : Fin.ofNat 8 (r - 48) ≠ 0 := fun h => by
      have := congrArg Fin.val h
      simp only [Fin.ofNat_eq_cast, Fin.val_natCast, Fin.val_zero] at this
      omega
    exact absurd hp (ne_true_of_eq_false (pregReset_other hne))
  · rfl
  · exact congrArg (BitVec.zeroExtend 64) (Vector.getElem_replicate ..)

theorem State.reset_objs_other {k : Nat} (h : k ≠ 0x200002) : tabGet 0 State.reset.objs k = 0 :=
  tabGet_of_not_mem (by simpa [State.reset] using h.symm)

theorem objGet_of_unset {s : State} {q : Option PartId} {i j : Nat} (h : tabGet 0 s.objs (objKey q i j) = 0) :
    objGet s q i j = objDefault i j := by
  unfold objGet
  rw [h]

theorem State.reset_safe : State.reset.Safe := ⟨by decide, by
  rw [State.p0Reads1, List.all_eq_true]
  intro k hk
  rw [List.eq_of_mem_replicate (hk : k ∈ List.replicate 64 Core.gated)]
  rfl⟩

theorem State.reset_partState (n : PartId) : State.reset.partState n = 0 := by
  have hk : objKey (some n) 0x4010 7 ≠ 0x200002 := objKey_ne (r := none) (i' := 0x2000) (j' := 2) (by decide) (by decide) (by decide)
    (by decide) (by decide)
  exact (objGet_of_unset (State.reset_objs_other hk)).trans (by decide)

/-- Settles O3. -/
theorem resetState : Obligations.ResetState := by
  unfold Obligations.ResetState
  refine ⟨fun c => ?_, fun a => rfl, State.reset_partState, by decide, rfl, rfl, rfl, rfl, rfl, State.reset_safe⟩
  rw [State.reset_core]
  exact ⟨rfl, rfl, rfl, rfl, fun r hr h => Core.gated_reg hr h, by decide, rfl⟩

end Sys2Proof.Machine

/-!
# Resets, the start, the test access port (O47)
-/

namespace Sys2Proof.Machine

/-! ## What a device reset leaves (17 R380, R381) -/

theorem State.deviceReset_keeps (s : State) :
    s.deviceReset.boot.fuses = s.boot.fuses ∧ s.deviceReset.faults.fatal = s.faults.fatal ∧ s.deviceReset.warden.served = s.warden.served
      ∧ s.deviceReset.boot.running = false ∧ s.deviceReset.cores = State.reset.cores := by
  unfold State.deviceReset
  dsimp only
  split <;> exact ⟨rfl, rfl, rfl, rfl, rfl⟩

theorem State.deviceReset_core_off (s : State) (c : CoreId) : (s.deviceReset.core c).mode = .off := by
  have h : s.deviceReset.core c = Core.gated := (congrArg (fun v : Vector Core 64 => v[c]) s.deviceReset_keeps.2.2.2.2).trans (State.reset_core c)
  rw [h]
  rfl

/-- A failed start asks for the next one (17 R382). -/
theorem State.startFails_restarts (s : State) (cause detail : Nat) :
    (s.startFails cause detail).boot.due = true ∧ (s.startFails cause detail).mem = [] ∧ (s.startFails cause detail).boot.running = false := by
  obtain ⟨hmem, -, -, hdue, -⟩ := (objBump (s.bootRecord cause detail false) none 0x3000 0xA).deviceReset_fresh
  obtain ⟨-, -, -, hrun, -⟩ := (objBump (s.bootRecord cause detail false) none 0x3000 0xA).deviceReset_keeps
  exact ⟨hdue, hmem, hrun⟩

/-! ## A notification only tells (13 R319) -/

theorem State.notePost_boot (s : State) (q : Option PartId) (reason item data : Nat) :
    (s.notePost q reason item data).boot = s.boot := by
  obtain ⟨x, h, -⟩ := State.notePost_onlyTells s q reason item data
  rw [h.rest]
  cases q <;> rfl

theorem State.notePost_objGet (s : State) (q r : Option PartId) (reason item data : Nat) {i j : Nat} (hi : i < 65536) (hj : j < 256)
    (hc : countsTelling i j = false) : objGet (s.notePost q reason item data) r i j = objGet s r i j := by
  obtain ⟨x, h, -⟩ := State.notePost_onlyTells s q reason item data
  refine (h.objs r i j hi hj hc).trans ?_
  cases q <;> rfl

/-! ## The end of a start (17 R397) -/

theorem State.reportFatal_boot (s : State) : s.reportFatal.boot = s.boot := by
  unfold State.reportFatal
  split
  · split
    · rfl
    · exact State.notePost_boot s none _ _ _
  · rfl

theorem State.reportFatal_cores (s : State) : s.reportFatal.cores = s.cores := by
  unfold State.reportFatal
  split
  · split
    · rfl
    · exact State.notePost_cores s none _ _ _
  · rfl

theorem State.reportFatal_objGet (s : State) {i j : Nat} (hi : i < 65536) (hj : j < 256) (hc : countsTelling i j = false)
    (hne : ¬(0xA000 = i ∧ 7 = j)) : objGet s.reportFatal none i j = objGet s none i j := by
  unfold State.reportFatal
  split
  · split
    · rfl
    · exact (objGet_objSet_other _ _ (objKey_ne hi hj (by decide) (by decide) fun h => hne ⟨h.1.symm, h.2.symm⟩)).trans
        (State.notePost_objGet s none none _ _ _ hi hj hc)
  · rfl

theorem State.bootRecord_cores (s : State) (cause detail : Nat) (bivouac : Bool) :
    (s.bootRecord cause detail bivouac).cores = s.cores :=
  foldl_same (f := fun (s : State) (i : Nat) => objSet s none 0x3020 i (objGet s none 0x3020 (i - 1))) (π := State.cores) (fun _ _ => rfl) _ s

/-- A start that completes (17 R397). -/
theorem execBootComplete_boots {s : State} (hr : s.boot.running = true) (hs : s.stage = 7) :
    ∃ t : State, exec .bootComplete s = .next t ∧ t.boot.running = false ∧ objGet t none 0x3000 1 = 0 ∧ t.devState = 4 ∧ t.cores = s.cores := by
  simp only [exec, execBootComplete]
  rw [if_neg (by simp [hr, hs])]
  have hcores := s.bootRecord_cores 0 0 false
  generalize s.bootRecord 0 0 false = u at hcores ⊢
  refine ⟨_, rfl, ?_, ?_, ?_, ?_⟩
  · rw [State.reportFatal_boot, State.noteChange, State.notePost_boot]
    rfl
  · rw [State.reportFatal_objGet _ (by decide) (by decide) (by decide) (by decide), State.noteChange,
      State.notePost_objGet _ none none _ _ _ (by decide) (by decide) (by decide)]
    refine (objGet_objSet_other _ _ (by decide)).trans ?_
    refine (objGet_objSet_other _ _ (by decide)).trans ?_
    refine (objGet_objSet_other _ _ (by decide)).trans ?_
    refine (objGet_objSet_other _ _ (by decide)).trans ?_
    exact objGet_objSet_same _ none 0x3000 1 0
  · rw [State.devState, State.reportFatal_objGet _ (by decide) (by decide) (by decide) (by decide), State.noteChange,
      State.notePost_objGet _ none none _ _ _ (by decide) (by decide) (by decide)]
    exact objGet_objSet_same _ none 0x2000 2 4
  · rw [State.reportFatal_cores, State.noteChange, State.notePost_cores]
    exact hcores

/-! ## The start (17 R382) -/

theorem execDeviceStart_starts {s : State} (hd : s.boot.due = true) (hpg : s.pins.mainPg = true) (hf : s.inFundamentalReset = false)
    (ht : s.power.tripped = false) :
    ∃ t : State, exec .deviceStart s = .next t ∧ t.stage = 2 ∧ t.devState = 4 ∧ t.boot.running = true ∧ t.boot.due = false
      ∧ t.boot.bivouac = decide (3 ≤ objGet s none 0x3000 1)
      ∧ objGet t none 0x3000 1 = (if 3 ≤ objGet s none 0x3000 1 then objGet s none 0x3000 1 else objGet s none 0x3000 1 + 1) := by
  simp only [exec, execDeviceStart]
  rw [if_neg (by simp [hd, hpg, hf, ht])]
  refine ⟨_, rfl, ?_, ?_, rfl, rfl, rfl, ?_⟩
  · exact (objGet_objSet_other _ _ (by decide)).trans (objGet_objSet_same _ none 0x3000 2 2)
  · exact objGet_objSet_same _ none 0x2000 2 4
  · refine (objGet_objSet_other _ _ (by decide)).trans ?_
    refine (objGet_objSet_other _ _ (by decide)).trans ?_
    split
    · rfl
    · exact objGet_objSet_same s none 0x3000 1 _

theorem execPowerOnReset_resets (s : State) (m : BitVec 3) :
    ∃ t : State, exec (.powerOnReset m) s = .next t ∧ t.mem = [] ∧ t.tick = 0 ∧ t.delivery = s.delivery
      ∧ objGet t none 0xD010 1 = 1 + m.toNat ∧ objGet t none 0xD020 3 = 0x30 + m.toNat :=
  ⟨_, rfl, rfl, rfl, rfl, objGet_objSet_same _ none 0xD010 1 _,
    (objGet_objSet_other _ _ (by decide)).trans (objGet_objSet_same _ none 0xD020 3 _)⟩

/-- A lost reference clock is a device-fatal event (22 R500). -/
theorem execRefclkLost_fatal {s : State} (hpg : s.pins.mainPg = true) (hd : s.devState = 4) (hb : s.booted = true) :
    ∃ t : State, exec .refclkLost s = .next t ∧ t.mem = [] ∧ t.faults.fatal.head?.map (fun (e : EventRec) => e.code) = some 0x41 := by
  have hfatal : postEvent s 0x41 none none 0 = s.fatal 0x41 none none 0 := if_pos (by decide)
  refine ⟨s.fatal 0x41 none none 0, ?_, (fatal_frame s 0x41 none none 0).2.1, ?_⟩
  · simp [exec, execRefclkLost, hpg, hd, hb, hfatal]
  · have h := congrArg (Option.map Prod.fst) (fatal_head s none none 0 (by decide : eventClass 0x41 = 4))
    simpa [Option.map_map] using h

/-- Fuses programmed and verified (17 R391). -/
theorem execFuseProgrammingDone_verified {s : State} {kind value : Nat} {r : Request} (hp : s.boot.programming = some (kind, value))
    (hr : s.warden.current = some r) :
    ∃ t : State, exec (.fuseProgrammingDone true) s = .next (t.sendAnswer r 0 []) ∧ t.boot.programming = none ∧ objGet t none 0x3030 2 = 0
      ∧ t.warden.current = none ∧ t.boot.array = tabSet 0 s.boot.array (if kind = 1 then 5 else 4)
        (tabGet 0 s.boot.array (if kind = 1 then 5 else 4) ||| (if kind = 1 then 2 ^ value - 1 else 2 ^ value)) := by
  simp only [exec, execFuseProgrammingDone, hp, if_true]
  split
  · rename_i q hq
    obtain rfl : r = q := Option.some.inj (hr.symm.trans hq)
    refine ⟨_, rfl, rfl, objGet_objSet_same _ none 0x3030 2 0, rfl, ?_⟩
    simp [State.modWarden, objSet, State.modBoot]
  · rename_i hq
    exact absurd (hr.symm.trans hq) nofun

/-! ## The rows -/

/-- Settles O47. -/
theorem startAndTapRows : Obligations.StartAndTapRows := by
  unfold Obligations.StartAndTapRows
  refine ⟨fun s => ⟨execPowerOnReset_resets s, ?_, fun hs hc ht => ?_, fun hx => ?_, fun hpg he => ?_, fun hd hp => ?_, fun hd hp => ?_,
    execRefclkLost_fatal, fun b => ?_, execDeviceStart_starts, fun hr w => ⟨fun hs hf => ?_, fun hs hf => ?_, fun hs hf => ?_, fun hs hf => ?_,
      fun hs hd => ?_, fun hs hd ht => ?_, fun rate hs hd ht => ?_⟩,
    fun hr hs hw img hi => ⟨fun hc => ?_, fun hc h0 => ?_⟩, fun hr hs => ?_, fun hr hs hw => ?_, s.startFails_restarts,
    execBootComplete_boots, fun hr => ?_, fun kind value r hp hw => execFuseProgrammingDone_verified hp hw⟩,
    fun s => ⟨rfl, rfl, rfl, ?_, ?_, fun i hi => ?_⟩⟩
  · obtain ⟨hmem, hbanks, htick, hdue, hpins⟩ := s.deviceReset_fresh
    obtain ⟨hfuses, hfatal, hserved, -, -⟩ := s.deviceReset_keeps
    exact ⟨s.deviceReset, rfl, hmem, hbanks, htick, hpins, hdue, hfuses, hfatal, hserved, s.deviceReset_core_off⟩
  · simp [exec, execEmberClockFallback, hs, hc, ht]
  · simp [exec, execMainPgRise, hx]
  · obtain ⟨hmem, -, -, hdue, hpins⟩ := (objBump { s with pins := { s.pins with mainPg := false } } none 0x2040 1).deviceReset_fresh
    exact ⟨_, by simp [exec, execMainPgFall, hpg, he], congrArg Pins.mainPg hpins, hmem, hdue⟩
  · obtain ⟨hmem, -, -, -, hpins⟩ := ({ s with pins := { s.pins with perst := true } } : State).deviceReset_fresh
    exact ⟨_, by simp [exec, execPerstAssert, hd, hp], congrArg Pins.perst hpins, hmem⟩
  · exact ⟨{ s with pins := { s.pins with perst := false }, boot := { s.boot with due := true } }, by simp [exec, execPerstDeassert, hd, hp],
      rfl, rfl, rfl⟩
  · cases b <;> rfl
  · exact ⟨s.setStage 3, by simp [exec, execStartStageAdvance, hr, hs, hf], objGet_objSet_same s none 0x3000 2 3, rfl⟩
  · simp [exec, execStartStageAdvance, hr, hs, hf]
  · exact ⟨s.setStage 6, by simp [exec, execStartStageAdvance, hr, hs, hf], objGet_objSet_same s none 0x3000 2 6, rfl⟩
  · simp [exec, execStartStageAdvance, hr, hs, hf]
  · exact ⟨s.setStage 7, by simp [exec, execStartStageAdvance, hr, hs, hd], objGet_objSet_same s none 0x3000 2 7, rfl⟩
  · simp [exec, execStartStageAdvance, hr, hs, hd, ht]
  · simp [exec, execStartStageAdvance, hr, hs, hd, ht]
  · refine ⟨s.acceptImage img.bytes, ?_, objGet_objSet_same _ none 0x3000 2 5, rfl⟩
    simp [exec, execFlashImageLoaded, hr, hs, hw, hi, hc]
  · refine ⟨s.slotRejected (s.imageCause img.bytes) (flashSilent img.bytes), ?_, ?_⟩
    · simp [exec, execFlashImageLoaded, hr, hs, hw, hi]
    · simp [State.slotRejected, h0, State.modBoot]
  · obtain hs | hs | hs | hs := hs <;> simp [exec, execStageTimeout, hr, hs]
  · simp [exec, execImageWaitTimeout, hr, hs, hw]
  · simp [exec, execWardenWatchdogExpiry, hr]
  · simp [exec, execExtest, State.tapLocked, State.tapSelect, State.scanLocked]
  · simp [exec, execDbgAccess, State.tapLocked, State.tapSelect, State.debugLocked]
  · simp only [List.mem_cons, List.not_mem_nil, or_false] at hi
    have hkeep : s.delivery = .kv2c ∨ objGet s none 0x3000 0xB = 1 → s.drivesLanes = s := fun h =>
      if_pos (by rcases h with h | h <;> simp [State.scanLocked, h])
    obtain rfl | rfl := hi <;> refine ⟨fun hl => ?_, fun hl hd => ?_⟩
    · simp [exec, execExtestPulse, hkeep (.inr hl), State.tapLocked, State.tapSelect, State.scanLocked, hl]
    · simp [exec, execExtestPulse, hkeep (.inl hd), State.tapLocked, State.tapSelect, State.scanLocked, hl]
    · simp [exec, execExtestTrain, hkeep (.inr hl), State.tapLocked, State.tapSelect, State.scanLocked, hl]
    · simp [exec, execExtestTrain, hkeep (.inl hd), State.tapLocked, State.tapSelect, State.scanLocked, hl]

end Sys2Proof.Machine

/-!
# Ridgeline ports (O48)
-/

namespace Sys2Proof.Machine

/-! ## What an event leaves of links and objects (13 R322) -/

theorem State.notePost_links (s : State) (q : Option PartId) (reason item data : Nat) :
    (s.notePost q reason item data).links = s.links := by
  obtain ⟨x, h, -⟩ := State.notePost_onlyTells s q reason item data
  rw [h.rest]
  cases q <;> rfl

theorem State.recordEvent_links (s : State) (code : Nat) (part : Option PartId) (core : Option CoreId) (detail : Nat) :
    (s.recordEvent code part core detail).links = s.links := by
  unfold State.recordEvent
  dsimp only
  split
  · rfl
  · cases part <;> simp [apply_ite State.links, State.notePost_links]

theorem eventClass_le (code : Nat) : eventClass code ≤ 4 := by
  unfold eventClass
  split_ifs <;> decide

theorem State.recordEvent_objGet (s : State) (code : Nat) (part : Option PartId) (core : Option CoreId) (detail : Nat) (q : Option PartId) {i j : Nat}
    (hi : i < 65536) (hj : j < 256) (hc : countsTelling i j = false) (hne : 0xA000 ≠ i) :
    objGet (s.recordEvent code part core detail) q i j = objGet s q i j := by
  have hbump : ∀ (t : State) (sub : Nat), sub < 256 → objGet (objBump t none 0xA000 sub) q i j = objGet t q i j := fun t sub h =>
    objGet_objBump_other t 1 (objKey_ne hi hj (by decide) h fun e => hne e.1.symm)
  have hnote : ∀ (t : State) (r : Option PartId) (reason item data : Nat), objGet (t.notePost r reason item data) q i j = objGet t q i j :=
    fun t r reason item data => State.notePost_objGet t r q reason item data hi hj hc
  have hcls : eventClass code < 256 := Nat.lt_of_le_of_lt (eventClass_le code) (by decide)
  unfold State.recordEvent
  extract_lets cls k e counted faults logged noted told
  have hcounted : objGet counted q i j = objGet s q i j := by
    unfold counted
    split
    · exact hbump s 5 (by decide)
    · rfl
  have htold : objGet told q i j = objGet s q i j := by
    refine (hbump noted cls hcls).trans (Eq.trans ?_ hcounted)
    unfold noted
    cases part <;> rfl
  clear_value told
  split
  · exact hbump s 6 (by decide)
  · split_ifs
    · exact (hnote told _ _ _ _).trans htold
    · exact (hnote told _ _ _ _).trans htold
    · exact htold

/-! ## Ports -/

theorem portIndex_lt (p : PortIx) : portIndex p < 65536 := by
  unfold portIndex
  omega

/-- Subindices of one port's object are told apart. -/
theorem objGet_port_other (s : State) (p : PortIx) {j j' : Nat} (v : Nat) (hj : j < 256) (hj' : j' < 256) (h : j' ≠ j) :
    objGet (objSet s none (portIndex p) j v) none (portIndex p) j' = objGet s none (portIndex p) j' :=
  objGet_objSet_other s v fun e => h (objKey_inj hj' hj e).2

@[simp] theorem State.sendSequenced_link (s : State) (p : PortIx) (f : Flit) :
    (s.sendSequenced p f).link p = { s.link p with
      fseq := ((s.link p).fseq + 1) % 4096, unacked := (s.link p).unacked ++ [(s.link p).stamp { f with fseq := (s.link p).fseq }] } :=
  State.link_modLink_same s p fun l => { l with
    fseq := (l.fseq + 1) % 4096, unacked := l.unacked ++ [(s.link p).stamp { f with fseq := (s.link p).fseq }] }

/-- A training that finds what R404 asks for. -/
theorem State.trainPort_up {s : State} {p : PortIx} {t : PortTraining} (h : s.trainCause p t = 0) :
    (s.trainPort p t).portState p = (if (s.link p).wasUp then 2 else 3)
      ∧ objGet (s.trainPort p t) none (portIndex p) 2 = t.rate ∧ objGet (s.trainPort p t) none (portIndex p) 7 = t.seat
      ∧ ((s.trainPort p t).link p).credits = fullBuffers ∧ ((s.trainPort p t).link p).wasUp = true ∧ ((s.trainPort p t).link p).fseq = 1
      ∧ ((s.trainPort p t).link p).expected = 1 ∧ (s.trainPort p t).mem = s.mem := by
  unfold State.trainPort
  split
  · refine ⟨objGet_objSet_same _ none (portIndex p) 1 _, ?_, ?_, ?_, ?_, ?_, ?_, rfl⟩
    · exact (objGet_port_other _ p _ (by decide) (by decide) (by decide)).trans
        ((objGet_port_other _ p _ (by decide) (by decide) (by decide)).trans (objGet_objSet_same s none (portIndex p) 2 _))
    · exact (objGet_port_other _ p _ (by decide) (by decide) (by decide)).trans (objGet_objSet_same _ none (portIndex p) 7 _)
    all_goals simp [Link.reset]
  · contradiction

/-- What going down leaves of a port that was not UP (18 R416). -/
theorem State.linkDown_leaves {s : State} {p : PortIx} (h : s.portState p ≠ 3) (cause : Nat) :
    objGet (s.linkDown p cause) none (portIndex p) 1 = 0 ∧ objGet (s.linkDown p cause) none (portIndex p) 9 = cause
      ∧ (s.linkDown p cause).link p = { Link.reset with wasUp := (s.link p).wasUp } ∧ (s.linkDown p cause).mem = s.mem := by
  have hup : ¬((s.portState p == 3) = true) := mt eq_of_beq h
  have hne : 0xA000 ≠ portIndex p := by unfold portIndex; omega
  have hnot : ∀ j, countsTelling (portIndex p) j = false := fun j => by
    have h1 : portIndex p ≠ 0x1120 := by unfold portIndex; omega
    have h2 : portIndex p ≠ 0x1121 := by unfold portIndex; omega
    have h3 : portIndex p ≠ 0xC020 := by unfold portIndex; omega
    simp [countsTelling, h1, h2, h3]
  unfold State.linkDown
  dsimp only
  rw [if_neg hup, postEvent_recorded (by decide)]
  refine ⟨?_, ?_, ?_, ?_⟩
  · rw [State.recordEvent_objGet _ _ _ _ _ none (portIndex_lt p) (by decide) (hnot 1) hne]
    refine (objGet_port_other _ p _ (by decide) (by decide) (by decide)).trans ?_
    refine (objGet_port_other _ p _ (by decide) (by decide) (by decide)).trans ?_
    refine (objGet_port_other _ p _ (by decide) (by decide) (by decide)).trans ?_
    exact objGet_objSet_same s none (portIndex p) 1 0
  · rw [State.recordEvent_objGet _ _ _ _ _ none (portIndex_lt p) (by decide) (hnot 9) hne]
    exact (objGet_port_other _ p _ (by decide) (by decide) (by decide)).trans (objGet_objSet_same _ none (portIndex p) 9 cause)
  · rw [State.link, State.recordEvent_links]
    exact State.link_modLink_same _ p _
  · rw [State.recordEvent_mem]
    rfl

/-! ## Codewords (18 R405) -/

/-- A block of which lane j has brought no codeword is not complete. -/
theorem block_waits {l : List (Nat × Nat × List Flit)} {q : Nat} (j : Fin 4) (h : ∀ e ∈ l, ¬(e.1 = q ∧ e.2.1 = j.val)) :
    ((([0, 1, 2, 3] : List Nat).map fun i => ((l.filter fun (e : Nat × Nat × List Flit) => e.1 == q).find? fun (e : Nat × Nat × List Flit) =>
      e.2.1 == i).map fun (e : Nat × Nat × List Flit) => e.2.2).all Option.isSome) = false := by
  have hfind : ((l.filter fun (e : Nat × Nat × List Flit) => e.1 == q).find? fun (e : Nat × Nat × List Flit) => e.2.1 == j.val) = none := by
    simp only [List.find?_eq_none, List.mem_filter, beq_iff_eq]
    exact fun e he hej => h e he.1 ⟨he.2, hej⟩
  have hmem : ∀ i : Fin 4, i.val ∈ ([0, 1, 2, 3] : List Nat) := by decide
  refine Bool.eq_false_iff.2 fun hall => ?_
  have := List.all_eq_true.1 hall _ (List.mem_map_of_mem (hmem j))
  rw [hfind] at this
  contradiction

/-- A codeword of a block of which another lane has not arrived. -/
theorem execCodewordReceive_waits {s : State} {p : PortIx} {lane : Fin 4} {w : Codeword} (hp : s.portState p ≠ 0) {j : Fin 4} (hj : j ≠ lane)
    (hnone : ∀ e ∈ (s.link p).deskew, ¬(e.1 = w.cwseq % 64 ∧ e.2.1 = j.val)) :
    ∃ u : State, exec (.codewordReceive p lane w) s = .next u ∧ u.mem = s.mem
      ∧ (u.link p).lanes = (s.link p).lanes.set lane (((s.link p).lanes[lane]).next (w.decodes && w.sync))
      ∧ u.objs = (if w.decodes then objBump s none (portIndex p) 3 w.corrected else objBump (objBump s none (portIndex p) 3 0) none (portIndex p) 4).objs
      := by
  simp only [exec, execCodewordReceive]
  rw [if_neg (by simpa using hp), if_neg ?_]
  · refine ⟨_, rfl, ?_, ?_, ?_⟩
    · cases w.decodes <;> rfl
    · rw [State.link_modLink_same]
      cases w.decodes <;> rfl
    · cases w.decodes <;> rfl
  · refine ne_true_of_eq_false (block_waits j fun e he => ?_)
    rw [State.link_modLink_same] at he
    have hlink : ∀ t : State, (if w.decodes then t else objBump t none (portIndex p) 4).link p = t.link p := fun t => by split <;> rfl
    rw [hlink] at he
    simp only [List.mem_append, List.mem_filter, List.mem_ite_nil_right, List.mem_singleton] at he
    obtain ⟨he, -⟩ | ⟨-, rfl⟩ := he
    · refine hnone e (Eq.mp ?_ he)
      split <;> rfl
    · exact fun h => hj (Fin.ext h.2.symm)

/-! ## The rows -/

/-- Settles O48. -/
theorem portRows : Obligations.PortRows := by
  unfold Obligations.PortRows
  refine fun s p => ⟨fun t hd hb hs => ?_, fun h => ⟨?_, ?_, ?_⟩, fun h => ?_, fun h hq => ?_, fun h => ⟨?_, fun cause => ?_⟩,
    fun lane w => ⟨fun h => ?_, fun h hblock => ?_⟩, fun l => ⟨fun h => ?_, fun h => ?_, fun h => ?_, fun h => ?_⟩⟩
  · have htrain : exec (.portRetrain p t) s = .next (s.trainPort p t) := by simp [exec, execPortRetrain, hd, hb, hs]
    have hcause : ∀ c, c ≠ 0 → s.trainCause p t = c → exec (.portRetrain p t) s = .next (objSet s none (portIndex p) 9 c) := fun c hc h => by
      rw [htrain]
      unfold State.trainPort
      split
      · exact absurd (h.symm.trans ‹_›) hc
      · rw [h]
    refine ⟨fun hseat hl hr ht hcr => ⟨_, htrain, State.trainPort_up ?_⟩, fun h => hcause 5 (by decide) ?_, fun h hl => hcause 4 (by decide) ?_,
      fun h hl hr ht => hcause 5 (by decide) ?_⟩
    · simpa [State.trainCause, hseat, hl, ht, hcr] using or_iff_not_imp_left.1 hr
    · simp [State.trainCause, h]
    · simp [State.trainCause, h, hl]
    · simpa [State.trainCause, h, hl, ht] using or_iff_not_imp_left.1 hr
  · simp [exec, execLockLost, h]
  · simp [exec, execFlitResendTimeout, h]
  · simp [exec, execFlitSlotSend, h]
  · exact if_neg (by omega)
  · simp only [exec, execLinkStall]
    refine if_pos (Bool.and_eq_true_iff.2 ⟨beq_iff_eq.2 h, List.any_eq_true.2 ?_⟩)
    obtain ⟨e, he, hc⟩ := hq
    exact ⟨e, he, beq_iff_eq.2 hc⟩
  · simp [exec, execLinkStall, h]
  · obtain ⟨hstate, hcause, hlink, hmem⟩ := State.linkDown_leaves h cause
    rw [hlink]
    exact ⟨hstate, hcause, rfl, rfl, rfl, hmem⟩
  · simp [exec, execCodewordReceive, h]
  · obtain ⟨j, hj, hnone⟩ := hblock
    obtain ⟨u, hexec, hmem, hlanes, hobjs⟩ := execCodewordReceive_waits (w := w) h hj hnone
    refine ⟨u, hexec, hmem, ?_, fun l hl => ?_, fun hw => ?_, fun hw => ?_⟩
    · rw [hlanes]
      exact Vector.getElem_set_self ..
    · rw [hlanes]
      exact Vector.getElem_set_ne _ _ fun e => hl (Fin.ext e.symm)
    · rw [objGet_of_objs hobjs, if_neg (ne_true_of_eq_false hw), objGet_objBump_same]
      exact congrArg (fun n => min (n + 1) _) (objGet_port_other s p _ (by decide) (by decide) (by decide))
    · rw [objGet_of_objs hobjs, if_pos hw, objGet_objBump_same]
  · simp [Lane.next, h]
  · simp [Lane.next, h]
  · simp [Lane.next]; omega
  · simp [Lane.next]; omega

end Sys2Proof.Machine

/-!
# Flits on a port (O49)
-/

namespace Sys2Proof.Machine

/-! ## An accepted LCTL (18 R409) -/

theorem Fin.ofNat_val16 (k : Fin 16) : Fin.ofNat 16 k.val = k := Fin.ext (Nat.mod_eq_of_lt k.isLt)

/-- Credits that come back reach the classes listed and leave all else of the link but what is held. -/
theorem Link.foldl_gain (ret : Nat → Nat) (cs : List Nat) (hcs : ∀ c ∈ cs, c < 16) (hnodup : cs.Nodup) (l : Link) :
    let t := cs.foldl (fun (l : Link) (i : Nat) => l.gain i (ret i)) l
    t.expected = l.expected ∧ t.nak = l.nak ∧ t.queue = l.queue
      ∧ ∀ i : Fin 16, t.credits[i] = if i.val ∈ cs then l.credits[i] + ret i.val else l.credits[i] := by
  induction cs generalizing l with
  | nil => exact ⟨rfl, rfl, rfl, fun i => rfl⟩
  | cons c cs ih =>
    obtain ⟨hc, hnodup⟩ := List.nodup_cons.1 hnodup
    have hlt : c < 16 := hcs c List.mem_cons_self
    obtain ⟨he, hn, hq, hcr⟩ := ih (fun d hd => hcs d (List.mem_cons_of_mem c hd)) hnodup (l.gain c (ret c))
    refine ⟨he, hn, hq, fun i => (hcr i).trans ?_⟩
    have hix : Fin.ofNat 16 c = (⟨c, hlt⟩ : Fin 16) := Fin.ext (Nat.mod_eq_of_lt hlt)
    have hgain : ∀ i : Fin 16, (l.gain c (ret c)).credits[i] = if i.val = c then l.credits[i] + ret i.val else l.credits[i] := fun i => by
      simp only [Link.gain, hix]
      by_cases h : i.val = c
      · obtain rfl : i = ⟨c, hlt⟩ := Fin.ext h
        simp
      · rw [if_neg h]
        exact Vector.getElem_set_ne _ _ (Ne.symm h)
    rw [hgain]
    by_cases h : i.val = c
    · rw [if_pos h, if_neg (h ▸ hc), if_pos (h ▸ List.mem_cons_self)]
    · simp [h]

theorem Link.lctl_gives (l : Link) (payload : List Byte) :
    (l.lctl payload).expected = l.expected ∧ (l.lctl payload).nak = l.nak ∧ (l.lctl payload).queue = l.queue
      ∧ ∀ i : Fin 16, (l.lctl payload).credits[i] = if bitOf (payload.getD 32 0).toNat 0 then leNat ((payload.drop (2 * i.val)).take 2)
          else l.credits[i] + leNat ((payload.drop (2 * i.val)).take 2) := by
  unfold Link.lctl
  split
  · exact ⟨rfl, rfl, rfl, fun i => Vector.getElem_ofFn ..⟩
  · obtain ⟨he, hn, hq, hc⟩ := Link.foldl_gain (fun i => leNat ((payload.drop (2 * i)).take 2)) (List.range 16) (fun c hc => List.mem_range.1 hc)
      List.nodup_range l
    exact ⟨he, hn, hq, fun i => (hc i).trans (if_pos (List.mem_range.2 i.isLt))⟩

/-! ## A flit in its turn (18 R407) -/

/-- A sequenced flit whose CRC passes and that acknowledges nothing, in its turn, on a port that takes its type. -/
theorem flitIn_turn {s : State} {p : PortIx} {f : Flit} (hp : 2 ≤ s.portState p) (hc : f.crcOk = true) (ha : f.ackV = false)
    (hf : f.fseq = (s.link p).expected) (ht : f.typ = 2 ∨ f.typ = 1 ∧ s.portState p = 3) :
    flitIn p f s = if f.typ == 2 then
        .next ((s.modLink p fun l => { l with expected := (l.expected + 1) % 4096, nak := false }).modLink p fun l => l.lctl f.payload)
      else receiveData p f (s.modLink p fun l => { l with expected := (l.expected + 1) % 4096, nak := false }) := by
  have hack : s.takeAck p f = s := if_pos (by simp [ha])
  have hlow : ¬s.portState p < 2 := by omega
  unfold flitIn
  simp only [hc, if_true, hack]
  rw [if_neg hlow, if_neg, if_neg]
  · obtain ht | ⟨ht, h3⟩ := ht <;> simp [*]
  · obtain ht | ⟨ht, -⟩ := ht <;> simp [ht] <;> omega

/-- The first flit of a packet where its class holds none (18 R410, R415). -/
theorem receiveData_first {s : State} {p : PortIx} {f : Flit} (hsop : f.sop = true)
    (hnone : (s.link p).asm.find? (fun (e : Nat × List Byte × Nat) => e.1 == flitClass f) = none) :
    receiveData p f s = if f.eop then receivePacket f.payload p f.dl.val
        ((s.modLink p fun l => { l with asm := l.asm.filter fun e => e.1 != flitClass f }).modLink p fun l => l.owe (flitClass f) 1)
      else .next ((s.modLink p fun l => { l with asm := l.asm.filter fun e => e.1 != flitClass f }).modLink p fun l =>
        { l with asm := l.asm ++ [(flitClass f, f.payload, 1)] }) := by
  unfold receiveData
  simp [hnone, hsop]

/-! ## What a slot may send (18 R409, R411) -/

/-- What is ready depends on the queue, the credits and what is held. -/
theorem State.readyClass_modLink (s : State) (p : PortIx) {f : Link → Link} (hq : ∀ l, (f l).queue = l.queue)
    (hc : ∀ l, (f l).credits = l.credits)
    (hh : ∀ l, (f l).held = l.held) (vc : Nat) : (s.modLink p f).readyClass p vc = s.readyClass p vc := by
  have hspend : ∀ cls camp, (s.modLink p f).maySpend p cls camp = s.maySpend p cls camp := fun cls camp => by
    simp only [State.maySpend, State.link_modLink_same, hc, hh]
    rfl
  have hpacket : ∀ cls, (s.modLink p f).readyPacket p cls = s.readyPacket p cls := fun cls => by
    simp only [State.readyPacket, State.link_modLink_same, hq, hspend]
  simp only [State.readyClass, hpacket]

/-! ## What a slot sends -/

theorem State.sendSequenced_out (s : State) (p : PortIx) (f : Flit) :
    (s.sendSequenced p f).out = s.out ++ [.flit p ((s.link p).stamp { f with fseq := (s.link p).fseq })] := rfl

theorem execFlitSlotSend_of {s : State} {p : PortIx} (hp : 2 ≤ s.portState p) (waits : Bool) (hw : (s.readyClass p 5).isSome = waits) :
    let l := s.link p
    let idle := (s.modLink p fun l => l.passOver waits).emit (.flit p (l.stamp ⟨0, 0, 0, false, false, 0, [], 0, false, false, true⟩))
    (∀ g gs, l.resend = g :: gs → exec (.flitSlotSend p) s =
        .next ((s.modLink p fun l => { l.passOver waits with resend := gs }).emit (.flit p (l.stamp g))))
      ∧ (l.resend = [] → l.unacked.length < 1024 →
        (l.lctlDue = true → exec (.flitSlotSend p) s = .next
          ((s.modLink p fun l => { l.passOver waits with owed := .replicate 16 0, lctlDue := false }).sendSequenced p (lctlFlit l.owed false)))
        ∧ (l.lctlDue = false → s.portState p = 3 →
          (s.pickVc p = none → exec (.flitSlotSend p) s = .next idle)
          ∧ (∀ vc round cls k, s.pickVc p = some (vc, round) → s.readyClass p vc = some (cls, k) → exec (.flitSlotSend p) s = .next
              ((s.modLink p fun l => { l.passOver (vc != 5 && waits) with round := round }).sendData p cls k)))) := by
  have hlow : ¬s.portState p < 2 := by omega
  subst hw
  refine ⟨fun g gs hr => ?_, fun hr hu => ⟨fun hd => ?_, fun hd h3 => ⟨fun hv => ?_, fun vc round cls k hv hk => ?_⟩⟩⟩
  · simp only [exec, execFlitSlotSend, hr]
    exact if_neg hlow
  · have hfull : ¬1024 ≤ (s.link p).unacked.length := by omega
    simp only [exec, execFlitSlotSend, hr, hd, if_true]
    rw [if_neg hlow, if_neg hfull]
  · have hfull : ¬1024 ≤ (s.link p).unacked.length := by omega
    simp [exec, execFlitSlotSend, hr, hd, hfull, h3, hv]
  · have hfull : ¬1024 ≤ (s.link p).unacked.length := by omega
    have hready : (s.modLink p fun l => { l.passOver (vc != 5 && (s.readyClass p 5).isSome) with round := round }).readyClass p vc = some (cls, k) :=
      by rw [s.readyClass_modLink p (by exact fun _ => rfl) (by exact fun _ => rfl) (by exact fun _ => rfl), hk]
    simp [exec, execFlitSlotSend, hr, hd, hfull, h3, hv, hready]

/-- A DATA flit spends a credit of its class and waits for its acknowledgement. -/
theorem State.sendData_spends {u : State} {p : PortIx} (c : Nat) (g : Flit) (rest : List (Nat × Flit)) (k : Fin 16) :
    let t := u.sendData p k.val ((c, g) :: rest)
    (t.link p).credits = (u.link p).credits.set k ((u.link p).credits[k] - 1)
      ∧ t.out = u.out ++ [.flit p ((u.link p).stamp { g with fseq := (u.link p).fseq })] ∧ (t.link p).fseq = ((u.link p).fseq + 1) % 4096
      ∧ (t.link p).unacked = (u.link p).unacked ++ [(u.link p).stamp { g with fseq := (u.link p).fseq }] := by
  simp only [State.sendData, State.sendSequenced_link, State.sendSequenced_out, State.link_modLink_same, Fin.ofNat_val16]
  exact ⟨trivial, rfl, trivial, rfl⟩

/-! ## The rows -/

/-- Settles O49. -/
theorem flitRows : Obligations.FlitRows := by
  unfold Obligations.FlitRows
  refine fun s p f hp => ?_
  have hlow : ¬s.portState p < 2 := by omega
  obtain ⟨hresend, hslot⟩ := execFlitSlotSend_of hp _ rfl
  refine ⟨fun ht hc => ?_, fun ht hc ha hf => ?_, fun ht hc ha => ?_, fun ht => ?_, fun ht => ?_, fun ht hc ha hf => ?_,
    fun ht hc ha hf h3 hsop hnone => ⟨fun he => ?_, fun he => ?_⟩, fun hu => ?_, fun hu hr => ?_, fun hu hr => ?_, fun ho => ?_, fun ho => ?_,
    fun g gs hr => ?_, fun hr hu hd => ?_, fun hr hu hd h3 hv => ?_, fun vc round cls k hr hu hd h3 hv hk => ?_, fun c g rest k u hl hcr => ?_⟩
  · obtain ht | ht := ht <;> simp [exec, execFlitReceive, flitIn, hc, ht, hlow]
  · have hack : s.takeAck p f = s := if_pos (by simp [ha])
    obtain ht | ht := ht <;> simp [exec, execFlitReceive, flitIn, hc, ht, hlow, hack, hf]
  · have hack : s.takeAck p f = s := if_pos (by simp [ha])
    simp [exec, execFlitReceive, flitIn, hc, ht, hlow, hack]
  · simp [exec, execLctl, execFlitReceive, ht]
  · simp [exec, execLctl, ht]
  · obtain ⟨he, hn, hq, hcr⟩ := Link.lctl_gives { s.link p with expected := ((s.link p).expected + 1) % 4096, nak := false } f.payload
    refine ⟨_, (if_pos (beq_iff_eq.2 ht)).trans ((flitIn_turn hp hc ha hf (.inl ht)).trans (if_pos (beq_iff_eq.2 ht))), rfl, rfl, ?_⟩
    rw [State.link_modLink_same, State.link_modLink_same]
    exact ⟨he, hn, hq, hcr⟩
  · have hturn := (flitIn_turn hp hc ha hf (.inr ⟨ht, h3⟩)).trans (if_neg (by simp [ht]))
    rw [receiveData_first hsop (by rw [State.link_modLink_same]; exact hnone), if_neg (ne_true_of_eq_false he)] at hturn
    refine ⟨_, hturn, rfl, rfl, ?_, ?_⟩ <;> simp
  · have hturn := (flitIn_turn hp hc ha hf (.inr ⟨ht, h3⟩)).trans (if_neg (by simp [ht]))
    rw [receiveData_first hsop (by rw [State.link_modLink_same]; exact hnone), if_pos he] at hturn
    refine ⟨_, hturn, rfl, rfl, ?_⟩
    simp [Link.owe]
  · simp [exec, execFlitResendTimeout, hlow, State.resendAll, hu]
  · have hfew : ¬16 ≤ (s.link p).resends := by omega
    refine ⟨(objBump s none (portIndex p) 5).modLink p fun l => { l with resend := l.unacked, resends := l.resends + 1 }, ?_, ?_, ?_, rfl⟩
    · simp [exec, execFlitResendTimeout, hlow, State.resendAll, hu, hfew]
    · rw [State.link_modLink_same]
      rfl
    · rw [State.link_modLink_same]
      rfl
  · simp [exec, execFlitResendTimeout, hlow, State.resendAll, hu, hr]
  · obtain ⟨n, hn, h0⟩ := ho
    exact if_pos (List.any_eq_true.2 ⟨n, hn, by simpa using h0⟩)
  · refine if_neg (ne_true_of_eq_false (List.any_eq_false.2 fun n hn => ?_))
    simp [ho n hn]
  · refine ⟨_, hresend g gs hr, rfl, ?_⟩
    simp [State.emit, State.link, State.modLink, Link.passOver]
  · refine ⟨_, (hslot hr hu).1 hd, (State.sendSequenced_out _ p _).trans ?_, ?_⟩
    · rw [State.link_modLink_same]
      rfl
    · rw [State.sendSequenced_link, State.link_modLink_same]
      exact ⟨rfl, rfl, rfl, rfl⟩
  · refine ⟨_, _, ((hslot hr hu).2 hd h3).1 hv, rfl, rfl, ?_⟩
    have hlink : ∀ e, ((s.modLink p fun l => l.passOver (s.readyClass p 5).isSome).emit e).link p = (s.link p).passOver (s.readyClass p 5).isSome :=
      fun _ => s.link_modLink_same p fun l => l.passOver (s.readyClass p 5).isSome
    rw [hlink]
    exact ⟨rfl, rfl, rfl, rfl, rfl⟩
  · refine ⟨_, ((hslot hr hu).2 hd h3).2 vc round cls k hv hk, ?_⟩
    rw [State.link_modLink_same]
    exact ⟨rfl, rfl, rfl, rfl, rfl⟩
  · obtain ⟨hc, ho, hf, hun⟩ := u.sendData_spends (p := p) c g rest k
    rw [hl] at hc ho hf hun
    refine ⟨?_, fun j hj => ?_, ho, hf, hun⟩
    · rw [hc]
      exact Vector.getElem_set_self ..
    · rw [hc]
      exact Vector.getElem_set_ne _ _ fun e => hj (Fin.ext e.symm)

end Sys2Proof.Machine

/-!
# Reductions and their CREDs (O51)
-/

namespace Sys2Proof.Machine

/-! ## A write of a CRED's register (18 R421; 19 R444) -/

/-- A CRED's write is a register write; of the rest it may touch the snapshot of the open epoch. -/
theorem Core.credWrite_eq (k : Core) (w : CredWait) (d : Nat) (v : W64) : ∃ e : Epoch, k.credWrite w d v = { k.setReg d v with epoch := e } := by
  unfold Core.credWrite
  dsimp only
  split
  · exact ⟨_, rfl⟩
  · exact ⟨_, rfl⟩

@[simp] theorem Core.reg_credWrite (k : Core) (w : CredWait) (d r : Nat) (v : W64) : (k.credWrite w d v).reg r = (k.setReg d v).reg r := by
  obtain ⟨e, h⟩ := k.credWrite_eq w d v
  rw [h]
  rfl

@[simp] theorem Core.credWrite_slots (k : Core) (w : CredWait) (d : Nat) (v : W64) : (k.credWrite w d v).slots = k.slots := by
  obtain ⟨e, h⟩ := k.credWrite_eq w d v
  rw [h]
  exact k.setReg_slots d v

theorem Core.setReg_amx (k : Core) (d : Nat) (v : W64) : (k.setReg d v).amx = k.amx := by
  unfold Core.setReg
  split_ifs <;> rfl

@[simp] theorem Core.credWrite_amx (k : Core) (w : CredWait) (d : Nat) (v : W64) : (k.credWrite w d v).amx = k.amx := by
  obtain ⟨e, h⟩ := k.credWrite_eq w d v
  rw [h]
  exact k.setReg_amx d v

theorem Core.setReg_preg_low (k : Core) {d : Nat} (hd : d < 48) (v : W64) : (k.setReg d v).preg = k.preg := by
  unfold Core.setReg
  split_ifs
  · rfl
  · rfl

theorem Core.credWrite_preg_low (k : Core) (w : CredWait) {d : Nat} (hd : d < 48) (v : W64) : (k.credWrite w d v).preg = k.preg := by
  obtain ⟨e, h⟩ := k.credWrite_eq w d v
  rw [h]
  exact k.setReg_preg_low hd v

theorem Core.reg_setReg_low (k : Core) {d : Nat} (hd : d < 48) (v : W64) : (k.setReg d v).reg d = v := by
  by_cases h : d < 32
  · exact Core.reg_setReg_sreg v h
  · exact Core.reg_setReg_areg v (by omega) hd

/-- Predicates 1 to 7 take a vote (18 R421). -/
theorem Core.credWrite_vote (k : Core) (w : CredWait) {n : Nat} (h0 : 0 < n) (h8 : n < 8) (b : Bool) :
    (k.credWrite w (48 + n % 8) (if b then 1 else 0)).preg[(Fin.ofNat 8 n : Fin 8)] = b := by
  obtain ⟨e, h⟩ := k.credWrite_eq w (48 + n % 8) (if b then 1 else 0)
  rw [h, Nat.mod_eq_of_lt h8]
  unfold Core.setReg
  rw [if_neg (by omega), if_neg (by omega), if_neg (by simp; omega), if_pos (by omega)]
  have hn : 48 + n - 48 = n := by omega
  simp only [hn]
  refine (Vector.getElem_set_self ..).trans ?_
  cases b <;> rfl

/-! ## A delivered tile (18 R421; 03 R72, R73) -/

theorem deliverElem_fits {e : Int × Nat} (h : e.2 < 2) : (deliverElem e).Fits := by
  unfold deliverElem HElem.Fits clampInt maxV
  rw [if_pos h]
  dsimp only
  split_ifs <;> refine ⟨?_, ?_, ?_⟩ <;> omega

/-- Elements written in turn, the first at index n. -/
theorem hearthGet_foldl_deliver {c : CoreId} {slot : Nat} (vals : List (Int × Nat)) :
    ∀ (n : Nat) (m : Memory), tabWf 0 m = true → (∀ e ∈ vals, e.2 < 2) →
    ∀ i, hearthGet (((vals.zipIdx n).map fun (e : (Int × Nat) × Nat) => (e.2, deliverElem e.1)).foldl
        (fun (m : Memory) (e : Nat × HElem) => hearthSet m c slot e.1 e.2) m) c slot i
      = if n ≤ i ∧ i < n + vals.length then deliverElem (vals.getD (i - n) (0, 0)) else hearthGet m c slot i := by
  induction vals with
  | nil => exact fun n m _ _ i => (if_neg (by simp)).symm
  | cons e vals ih =>
    intro n m hm hv i
    have he := deliverElem_fits (hv e List.mem_cons_self)
    rw [List.zipIdx_cons, List.map_cons, List.foldl_cons, ih (n + 1) _ (hearthSet_wf hm) (fun x hx => hv x (List.mem_cons_of_mem e hx))]
    by_cases hi : i = n
    · subst hi
      rw [if_neg (by omega), if_pos (by simp), hearthGet_hearthSet_same hm he, Nat.sub_self]
      rfl
    · rw [hearthGet_hearthSet_other hm hi]
      by_cases hin : n + 1 ≤ i ∧ i < n + 1 + vals.length
      · have hs : i - n = (i - (n + 1)) + 1 := by omega
        rw [if_pos hin, if_pos (by simp only [List.length_cons]; omega), hs]
        rfl
      · rw [if_neg hin, if_neg (by simp only [List.length_cons]; omega)]

/-! ## A CRED ends (18 R421, R423) -/

/-- DONE: the register of the outcome takes 0 and the CRED is gone. -/
def Core.credSettled (k : Core) (w : CredWait) : Core := { k.credWrite w w.oreg 0 with creds := k.creds.filter fun q => q != w }

theorem Core.reg_credSettled_oreg (k : Core) {w : CredWait} (h : w.oreg < 48) : (k.credSettled w).reg w.oreg = 0 :=
  (k.reg_credWrite w w.oreg w.oreg 0).trans (k.reg_setReg_low h 0)

theorem Core.reg_credSettled_other (k : Core) {w : CredWait} {r : Nat} (h : w.oreg < 48) (hr : r < 60) (hne : r ≠ w.oreg) :
    (k.credSettled w).reg r = k.reg r :=
  (k.reg_credWrite w w.oreg r 0).trans (Core.reg_setReg_other 0 (by omega) hr hne)

theorem Core.credSettled_amx (k : Core) (w : CredWait) : (k.credSettled w).amx = k.amx := k.credWrite_amx w w.oreg 0

theorem Core.credSettled_slots (k : Core) (w : CredWait) : (k.credSettled w).slots = k.slots := k.credWrite_slots w w.oreg 0

theorem Core.credSettled_preg (k : Core) {w : CredWait} (h : w.oreg < 48) : (k.credSettled w).preg = k.preg := k.credWrite_preg_low w h 0

theorem State.credDone_word (s : State) (c : CoreId) (w : CredWait) (anchor : Int) (x : Nat) : s.credDone c w anchor (.word x)
    = (s.modCore c fun k => if w.mode == 1 then k.credAmx w x else k.credWrite w w.sreg (BitVec.ofNat 64 x)).modCore c fun k => k.credSettled w := rfl

theorem State.credDone_vote (s : State) (c : CoreId) (w : CredWait) (anchor : Int) (b : Bool) : s.credDone c w anchor (.vote b)
    = (s.modCore c fun k => k.credWrite w (48 + w.sreg % 8) (if b then 1 else 0)).modCore c fun k => k.credSettled w := rfl

theorem State.credDone_nothing (s : State) (c : CoreId) (w : CredWait) (anchor : Int) :
    s.credDone c w anchor .nothing = s.modCore c fun k => k.credSettled w := rfl

/-- A tile without a NaN raises nothing (18 R421). -/
theorem State.credDone_tile (s : State) (c : CoreId) (w : CredWait) (anchor : Int) {vals : List (Int × Nat)} (h : ∀ e ∈ vals, e.2 < 2) :
    s.credDone c w anchor (.tile vals) = (s.deliverTile c (Fin.ofNat 64 w.dest) anchor vals).modCore c fun k => k.credSettled w := by
  have hnone : (vals.findIdx? fun e => e.2 == 3) = none := List.findIdx?_eq_none_iff.2 fun e he => by
    have := h e he
    rw [beq_eq_false_iff_ne]
    omega
  simp only [State.credDone, hnone]
  rfl

theorem Core.credAmx_amx (k : Core) (w : CredWait) (x : Nat) : (k.credAmx w x).amx[(Fin.ofNat 8 w.axn : Fin 8)]
    = { k.amx[(Fin.ofNat 8 w.axn : Fin 8)] with amax := x } := by
  have h : (k.credAmx w x).amx = k.amx.set (Fin.ofNat 8 w.axn : Fin 8) { k.amx[(Fin.ofNat 8 w.axn : Fin 8)] with amax := x } := by
    unfold Core.credAmx
    dsimp only
    split <;> rfl
  rw [h]
  exact Vector.getElem_set_self ..

/-- Outcomes written one after another to one register. -/
theorem Core.foldl_credWrite_reg {w : CredWait} (hw : w.oreg < 48) (v : W64) (l : List CredWait) (hl : ∀ q ∈ l, q = w) (k : Core)
    (hk : l = [] → k.reg w.oreg = v) : (l.foldl (fun (q : Core) (w : CredWait) => q.credWrite w w.oreg v) k).reg w.oreg = v := by
  induction l generalizing k with
  | nil => exact hk rfl
  | cons x l ih =>
    obtain rfl : x = w := hl x List.mem_cons_self
    exact ih (fun q hq => hl q (List.mem_cons_of_mem x hq)) _ fun _ => (k.reg_credWrite x x.oreg x.oreg v).trans (k.reg_setReg_low hw v)

/-- Every CRED that waits ends with one outcome. -/
theorem Core.credsEnd_all {k : Core} {w : CredWait} (hw : w.oreg < 48) (hmem : w ∈ k.creds) (hall : ∀ q ∈ k.creds, q = w) (code : Nat) :
    (k.credsEnd (fun q => q == w) code).reg w.oreg = BitVec.ofNat 64 code ∧ (k.credsEnd (fun q => q == w) code).creds = [] := by
  refine ⟨?_, ?_⟩
  · refine Core.foldl_credWrite_reg hw _ _ (fun q hq => hall q (List.mem_filter.1 hq).1) k fun h => ?_
    exact absurd h (List.ne_nil_of_mem (List.mem_filter.2 ⟨hmem, beq_self_eq_true w⟩))
  · refine List.filter_eq_nil_iff.2 fun q hq => ?_
    simp [hall q hq]

/-- What is delivered that is no tile: the outcome's register takes 0 and memory stays. -/
theorem State.credDone_register (s : State) (c : CoreId) {w : CredWait} (anchor : Int) {v : CVal} (ho : w.oreg < 48)
    (hv : ∀ vals, v ≠ .tile vals) :
    ((s.credDone c w anchor v).core c).reg w.oreg = 0 ∧ (s.credDone c w anchor v).mem = s.mem := by
  cases v with
  | tile vals => exact absurd rfl (hv vals)
  | word x =>
    rw [State.credDone_word, State.core_modCore_same]
    exact ⟨Core.reg_credSettled_oreg _ ho, rfl⟩
  | vote b =>
    rw [State.credDone_vote, State.core_modCore_same]
    exact ⟨Core.reg_credSettled_oreg _ ho, rfl⟩
  | nothing =>
    rw [State.credDone_nothing, State.core_modCore_same]
    exact ⟨Core.reg_credSettled_oreg _ ho, rfl⟩

/-! ## A child's node joins a reduction (18 R419, R420) -/

theorem Reduction.child_joins {r : Reduction} {b : CanopyBody} (rank : Nat) (hf : r.fail = none) (hm : r.mode = b.mode) (hn : r.nchunk = b.nchunk)
    (hq : r.q = b.q) (ha : r.mode = 0 → r.anchor = b.anchor) :
    (r.child b rank).nodes = r.nodes ++ [(b.level, b.node, b.value)] ∧ (r.child b rank).fail = none ∧ rank ∈ (r.child b rank).children := by
  have hanchor : ¬(r.mode == 0 && r.anchor != b.anchor) = true := by simpa using ha
  have hfits : ¬(r.mode != b.mode || r.nchunk != b.nchunk || r.q != b.q) = true := by simp [hm, hn, hq]
  have hlive : ¬r.fail.isSome = true := by simp [hf]
  unfold Reduction.child
  dsimp only
  rw [if_neg hlive, if_neg hfits, if_neg hanchor]
  refine ⟨rfl, hf, ?_⟩
  dsimp only
  split
  · rename_i h
    exact List.contains_iff_mem.1 h
  · exact List.mem_append_right _ (List.mem_singleton_self rank)

theorem Reduction.child_mismatch {r : Reduction} {b : CanopyBody} (rank : Nat) (hf : r.fail = none)
    (h : r.mode ≠ b.mode ∨ r.nchunk ≠ b.nchunk ∨ r.q ≠ b.q) : (r.child b rank).fail = some 2 := by
  have hfits : (r.mode != b.mode || r.nchunk != b.nchunk || r.q != b.q) = true := by simpa [or_assoc] using h
  have hlive : ¬r.fail.isSome = true := by simp [hf]
  unfold Reduction.child
  dsimp only
  rw [if_neg hlive, if_pos hfits]

/-! ## Packets of a camp for this die (18 R402, R414) -/

theorem campPacket_here {s : State} {k : Packet} {kind : Nat} {n : PartId} (hd : s.delivery = .kv2p) (hk : k.kind = kind)
    (hseat : s.seatOf k.dst = s.mySeat) (hpart : s.campPart k.camp = some n) {f : PartId → State} : campPacket kind k s f = .next (f n) := by
  simp [campPacket, hd, hk, hseat, hpart]

/-! ## The rows -/

/-- Settles O51. -/
theorem reductions : Obligations.Reductions := by
  unfold Obligations.Reductions
  refine ⟨fun s k n i r hd hseat hpart hctx => ⟨fun hk hset hl hr => ⟨?_, fun hf hm hn hq ha => ?_, fun hf hne => ?_⟩, fun hk hl hv hr m j => ?_⟩,
    fun s n ctx ho => ⟨fun r rs code hr hf hv => ?_, fun r rs v hr hf hroot hw => ?_, fun r hr => ?_, fun hr => ⟨?_, ?_⟩⟩,
    fun s c w anchor v ho hmem => ⟨fun x hv hm hs hne => ?_, fun x hv hm hx => ?_, fun b hv h0 h8 => ?_, fun vals hv hlen hst => ?_, fun hv => ?_,
      fun code ran hc hw hall => ?_⟩⟩
  · have hge : ¬fullRseq s.canopy[i].settled (canopyBody k.body).rseq < s.canopy[i].settled := by omega
    have hlev : ¬0x80 ≤ (canopyBody k.body).level := by omega
    refine (campPacket_here hd hk hseat hpart).trans ?_
    simp only [hctx]
    rw [if_neg hge, if_neg hlev, hr]
  · exact Reduction.child_joins _ hf hm hn hq ha
  · exact Reduction.child_mismatch _ hf hne
  · have hlev : ¬0x80 ≤ (canopyBody k.body).level := by omega
    refine (campPacket_here hd hk hseat hpart).trans ?_
    simp only [hctx, hr, hv]
    rw [if_neg (by simp), if_neg hlev]
  · simp only [Fin.getElem_fin] at ho hr
    simp [exec, execCanopyDown, ho, hr, hf, hv]
  · simp only [Fin.getElem_fin] at ho hr
    simp [exec, execCanopyDown, ho, hr, hf, hroot, hw]
  · simp only [Fin.getElem_fin] at ho hr
    simp [exec, execReductionTimeout, ho, hr]
  · simp only [Fin.getElem_fin] at ho hr
    simp [exec, execReductionTimeout, ho, hr]
  · simp only [Fin.getElem_fin] at ho hr
    simp [exec, execCanopyDown, ho, hr]
  · subst hv
    rw [State.credDone_word, State.core_modCore_same, State.core_modCore_same, if_neg (by simpa using hm),
      Core.reg_credSettled_other _ ho (by omega) hne, Core.reg_credWrite]
    exact Core.reg_setReg_low _ hs _
  · subst hv
    rw [State.credDone_word, State.core_modCore_same, State.core_modCore_same, if_pos (by simpa using hm), Core.credSettled_amx]
    exact Core.credAmx_amx _ w x
  · subst hv
    rw [State.credDone_vote, State.core_modCore_same, State.core_modCore_same, Core.credSettled_preg _ ho]
    exact Core.credWrite_vote _ w h0 h8 b
  · subst hv
    rw [State.credDone_tile s c w anchor hst]
    refine ⟨fun i hi => ?_, ?_⟩
    · exact (hearthGet_foldl_deliver vals 0 s.mem hmem hst i).trans (if_pos (by omega))
    · rw [State.core_modCore_same, Core.credSettled_slots, State.deliverTile, State.core_modCore_same]
      exact congrArg HSlot.anchor (Vector.getElem_set_self ..)
  · exact s.credDone_register c anchor ho hv
  · have hcred : s.credEnds c w code ran = s.modCore c fun k => k.credsEnd (fun q => q == w) code := if_neg (by simpa using hc)
    obtain ⟨hreg, hcreds⟩ := Core.credsEnd_all ho hw hall code
    rw [hcred, State.core_modCore_same]
    exact ⟨hreg, hcreds, rfl⟩

end Sys2Proof.Machine

/-!
# Late calls and Patrol slices (O54)
-/

namespace Sys2Proof.Machine

/-! ## A call that is late (15 R350) -/

theorem State.lateCall_ends (s : State) (q : Option PartId) (d : Nat) : (s.lateCall q d).callOut q d = false := by
  have h : objGet (s.lateCall q d) q (dutyIndex d) 8 = 0 :=
    (objGet_objBump_other _ _ fun e => absurd (objKey_inj (by decide) (by decide) e).2 (by decide)).trans (objGet_objSet_same s q (dutyIndex d) 8 0)
  simp [State.callOut, h]

theorem State.lateCall_counts (s : State) (q : Option PartId) (d : Nat) :
    objGet (s.lateCall q d) q (dutyIndex d) 5 = min (objGet s q (dutyIndex d) 5 + 1) (objMax (dutyIndex d) 5) := by
  rw [State.lateCall, objGet_objBump_same]
  exact congrArg (fun n => min (n + 1) _) (objGet_objSet_other s 0 fun e => absurd (objKey_inj (by decide) (by decide) e).2 (by decide))

theorem State.powerCallOver_keeps (s : State) :
    s.powerCallOver.power.late = s.power.late ∧ s.powerCallOver.power.answer = s.power.answer ∧ s.powerCallOver.mem = s.mem := by
  unfold State.powerCallOver
  split
  · obtain ⟨t, ht⟩ := State.dutySwitch_device { s with power := { s.power with edgeHeld := false } } 6
    rw [ht]
    exact ⟨rfl, rfl, rfl⟩
  · exact ⟨rfl, rfl, rfl⟩

/-! ## Memory between two addresses lists nothing -/

/-- No byte of the range is listed, so each reads 0 (log 3). -/
def Unlisted (m : Memory) (lo hi : Nat) : Prop := ∀ e ∈ m, ¬(lo ≤ e.1 ∧ e.1 < hi)

theorem Unlisted.reads_zero {m : Memory} {lo hi a : Nat} (h : Unlisted m lo hi) (h1 : lo ≤ a) (h2 : a < hi) : memByte m a = 0 :=
  tabGet_of_not_mem fun e he hea => h e he ⟨hea ▸ h1, hea ▸ h2⟩

theorem Unlisted.mono {m m' : Memory} {lo hi : Nat} (h : Unlisted m lo hi) (hm : m' ⊆ m) : Unlisted m' lo hi := fun e he => h e (hm he)

theorem State.clearMem_subset (s : State) (lo hi : Nat) : (s.clearMem lo hi).mem ⊆ s.mem := List.filter_subset_self _

theorem State.clearMem_unlisted (s : State) (lo hi : Nat) : Unlisted (s.clearMem lo hi).mem lo hi := fun e he => by
  have := (List.mem_filter.1 he).2
  simp only [Bool.or_eq_true, decide_eq_true_eq] at this
  omega

theorem State.freeCore_subset (s : State) (c : CoreId) : (s.freeCore c).mem ⊆ s.mem := by
  have h : (s.freeCore c).mem = (s.clearCoreMem c).mem :=
    foldl_same (f := fun (s : State) (b : BankIx) => s.setBank c b (.clearing .lent)) (π := State.mem) (fun _ _ => rfl) _ _
  rw [h]
  exact List.Subset.trans (State.clearMem_subset _ _ _) <| List.Subset.trans (State.clearMem_subset _ _ _) <|
    List.Subset.trans (State.clearMem_subset _ _ _) (State.clearMem_subset s _ _)

theorem foldl_mem_subset {α : Type} {f : State → α → State} (hf : ∀ s x, (f s x).mem ⊆ s.mem) (l : List α) (s : State) :
    (l.foldl f s).mem ⊆ s.mem := by
  induction l generalizing s with
  | nil => exact fun _ h => h
  | cons x l ih => exact List.Subset.trans (ih (f s x)) (hf s x)

/-- The banks a slice tested go back cleared (22 R506). -/
theorem foldl_clearBank_unlisted (l : List (CoreId × BankIx × Bool)) (s : State) {e : CoreId × BankIx × Bool} (he : e ∈ l) :
    Unlisted (l.foldl (fun (s : State) (e : CoreId × BankIx × Bool) => s.clearBank e.1 e.2.1 (if e.2.2 then .lent else .pool)) s).mem
      (bankBase e.1 e.2.1) (bankBase e.1 e.2.1 + 0x20000) := by
  induction l generalizing s with
  | nil => contradiction
  | cons x l ih =>
    obtain rfl | he := List.mem_cons.1 he
    · exact Unlisted.mono (State.clearMem_unlisted s _ _) (foldl_mem_subset
        (f := fun (s : State) (e : CoreId × BankIx × Bool) => s.clearBank e.1 e.2.1 (if e.2.2 then .lent else .pool))
        (fun s x => State.clearMem_subset s _ _) l _)
    · exact ih _ he

theorem State.sweepDone_keeps (s : State) : s.sweepDone.patrol.running = s.patrol.running ∧ s.sweepDone.patrol.banks = s.patrol.banks
    ∧ s.sweepDone.patrol.cores = s.patrol.cores ∧ s.sweepDone.mem = s.mem := by
  unfold State.sweepDone
  split <;> exact ⟨rfl, rfl, rfl, rfl⟩

/-- A slice that found nothing (22 R506). -/
theorem execPatrolSliceEnd_clears {s : State} (hr : s.patrol.running = true) :
    ∃ t : State, exec (.patrolSliceEnd []) s = .next t ∧ t.patrol.running = false ∧ t.patrol.banks = [] ∧ t.patrol.cores = []
      ∧ ∀ e ∈ s.patrol.banks, ∀ a, bankBase e.1 e.2.1 ≤ a → a < bankBase e.1 e.2.1 + 0x20000 → memByte t.mem a = 0 := by
  simp only [exec, execPatrolSliceEnd]
  rw [if_neg (by simp [hr])]
  refine ⟨_, rfl, ?_⟩
  dsimp only [List.foldl_nil]
  generalize hcleared : s.patrol.banks.foldl (fun (s : State) (e : CoreId × BankIx × Bool) =>
    s.clearBank e.1 e.2.1 (if e.2.2 then .lent else .pool))
      (objBump (objBump s none 0xB010 2 s.patrol.banks.length) none 0xB010 3 s.patrol.cores.length)
    = cleared
  generalize hfreed : s.patrol.cores.foldl (fun (s : State) (c : CoreId) => s.freeCore c) cleared = freed
  obtain ⟨hrun, hbanks, hcores, hmem⟩ :=
    ({ freed with patrol := { freed.patrol with running := false, banks := [], cores := [] } } : State).sweepDone_keeps
  obtain ⟨t, ht⟩ := State.dutySwitch_device
    ({ freed with patrol := { freed.patrol with running := false, banks := [], cores := [] } } : State).sweepDone 5
  rw [ht]
  refine ⟨hrun, hbanks, hcores, fun e he a h1 h2 => ?_⟩
  have hun : Unlisted cleared.mem (bankBase e.1 e.2.1) (bankBase e.1 e.2.1 + 0x20000) := hcleared ▸ foldl_clearBank_unlisted s.patrol.banks _ he
  have hsub : freed.mem ⊆ cleared.mem := hfreed ▸ foldl_mem_subset State.freeCore_subset s.patrol.cores cleared
  exact (hun.mono fun x hx => hsub (hmem.subst (motive := (x ∈ ·)) hx)).reads_zero h1 h2

/-! ## The rows -/

/-- Settles O54. -/
theorem lateCallsAndPatrol : Obligations.LateCallsAndPatrol := by
  unfold Obligations.LateCallsAndPatrol
  refine fun s n => ⟨fun i q d hi => ⟨fun ho => ?_, fun ho => ⟨s.lateCall_ends q d, s.lateCall_counts q d⟩⟩, fun h => ?_, fun h => ?_,
    fun h hr coord seat rest hp => ?_, fun h => ?_, fun h => ?_, fun h => ?_,
    fun h1 hb hd hr sound u hu => ⟨fun hs => ?_, fun hs hm => ?_, fun hs hm hc hz => ?_⟩,
    fun hr found => ?_, execPatrolSliceEnd_clears⟩
  · simp only [List.mem_cons, List.not_mem_nil, or_false, Prod.mk.injEq] at hi
    obtain ⟨rfl, rfl, rfl⟩ | ⟨rfl, rfl, rfl⟩ | ⟨rfl, rfl, rfl⟩ | ⟨rfl, rfl, rfl⟩ | ⟨rfl, rfl, rfl⟩ := hi
    · simp [exec, execStepCallTimeout, ho]
    · simp [exec, execStashCallTimeout, ho]
    · simp [exec, execRemapCallTimeout, ho]
    · simp [exec, execPatrolCallTimeout, ho]
    · simp [exec, execPowerCallTimeout, ho]
  · simp [exec, execStepCallTimeout, h]
  · simp [exec, execStashCallTimeout, h]
  · simp only [Fin.getElem_fin] at hp
    simp [exec, execRemapCallTimeout, h, hr, hp]
  · simp [exec, execPatrolCallTimeout, h]
  · obtain ⟨hl, ha, hm⟩ := State.powerCallOver_keeps
      { s.lateCall none 6 with power := { (s.lateCall none 6).power with late := true, answer := none } }
    exact ⟨_, by simp [exec, execPowerCallTimeout, h], hl, ha, hm⟩
  · refine if_pos ?_
    obtain h | h | h | h := h <;> simp [h]
  · simp [exec, execPatrolSliceStart, h1, hb, hd, hr, hu, hs]
  · simp [exec, execPatrolSliceStart, h1, hb, hd, hr, hu, hs, hm]
  · simp [exec, execPatrolSliceStart, h1, hb, hd, hr, hu, hs, hm, hc, hz]
  · simp [exec, execPatrolSliceEnd, hr]

end Sys2Proof.Machine

/-!
# I3C common command codes and transfers to one address (O44)
-/

namespace Sys2Proof.Machine

theorem State.i3cGet_addressed {s : State} (h : s.i3cAddress ≠ 0) (bs : List Byte) : s.i3cGet bs = s.emit (.i3c bs) := by
  simp [State.i3cGet, h]

theorem State.i3cGet_unaddressed {s : State} (h : s.i3cAddress = 0) (bs : List Byte) : s.i3cGet bs = s.emit .i3cNack := by
  simp [State.i3cGet, h]

/-- Settles O44. -/
theorem i3cRows : Obligations.I3cRows := by
  unfold Obligations.I3cRows
  refine fun s => ⟨⟨_, rfl, objGet_objSet_same s none 0xD020 1 0, rfl⟩,
    fun a ha has => ⟨⟨(objSet s none 0xD020 1 a.toNat).emit (.i3c (beBytes 6 s.i3cPid ++ leBytes 1 6 ++ leBytes 1 0)), ?_,
        objGet_objSet_same s none 0xD020 1 _, rfl⟩,
      fun st hst => ⟨objSet s none 0xD020 1 a.toNat, ?_, objGet_objSet_same s none 0xD020 1 _, rfl⟩⟩,
    fun a st ha => ⟨?_, ?_⟩, fun e => ⟨⟨_, rfl, rfl, rfl⟩, ⟨_, rfl, rfl, rfl⟩⟩,
    fun n => ⟨fun hn => ⟨?_, ?_⟩, fun hn => ⟨⟨_, if_neg ?_, rfl⟩, ⟨_, if_neg ?_, rfl⟩⟩⟩,
    fun i bs hi => ⟨fun ha => ?_, fun ha => ?_⟩, fun ha => ?_, fun a rest hr ha => ?_, fun hr => ?_,
    fun x hok ha hx h16 hle => ⟨fun hc => ?_, fun hc => ?_⟩, rfl⟩
  · simp [exec, execEntdaa, ha, has]
  · simp [exec, execSetdasa, hst, ha, has]
  · simp [exec, execEntdaa, ha]
  · simp [exec, execSetdasa, ha]
  · simp [exec, execSetmwl, hn]
  · simp [exec, execSetmrl, hn]
  · omega
  · omega
  · simp only [List.mem_cons, List.not_mem_nil, or_false, Prod.mk.injEq] at hi
    obtain ⟨rfl, rfl⟩ | ⟨rfl, rfl⟩ | ⟨rfl, rfl⟩ | ⟨rfl, rfl⟩ | ⟨rfl, rfl⟩ := hi <;>
      exact congrArg Host.Outcome.next (State.i3cGet_addressed ha _)
  · simp only [List.mem_cons, List.not_mem_nil, or_false, Prod.mk.injEq] at hi
    obtain ⟨rfl, rfl⟩ | ⟨rfl, rfl⟩ | ⟨rfl, rfl⟩ | ⟨rfl, rfl⟩ | ⟨rfl, rfl⟩ := hi <;>
      exact congrArg Host.Outcome.next (State.i3cGet_unaddressed ha _)
  · refine ⟨_, beBytes 2 (Config.i3cStatus s.drawFree.1).toNat, rfl, ?_, ?_, rfl⟩
    · have ha' : s.drawFree.2.i3cAddress ≠ 0 := ha
      exact congrArg State.out (State.i3cGet_addressed ha' _)
    · simp [beBytes]
  · refine ⟨(s.modWarden fun w => { w with i3cAnswers := rest }).emit (.i3c (pduBytes a)), ?_, rfl, rfl⟩
    simp [exec, execI3cPrivateRead, hr, ha]
  · simp [exec, execI3cPrivateRead, hr]
  · simp [exec, execI3cPrivateWrite, hok, ha, hx, hc, Nat.not_lt.2 h16, Nat.not_lt.2 hle]
  · simp [exec, execI3cPrivateWrite, hok, ha, hx, hc, Nat.not_lt.2 h16, Nat.not_lt.2 hle]

end Sys2Proof.Machine

/-!
# The other carriers of Guyline (O45)
-/

namespace Sys2Proof.Machine

/-! ## The Warden's queue -/


@[simp] theorem objSet_queue (s : State) (part : Option PartId) (index sub v : Nat) :
    (objSet s part index sub v).warden.queue = s.warden.queue := rfl

@[simp] theorem objBump_queue (s : State) (part : Option PartId) (index sub : Nat) (by_ : Nat) :
    (objBump s part index sub by_).warden.queue = s.warden.queue := rfl

@[simp] theorem State.modPart_queue (s : State) (n : PartId) (f : Partition → Partition) :
    (s.modPart n f).warden.queue = s.warden.queue := rfl

@[simp] theorem State.emit_queue (s : State) (e : OutEvent) : (s.emit e).warden.queue = s.warden.queue := rfl

@[simp] theorem State.flushTx_queue (s : State) : (s.flushTx).warden.queue = s.warden.queue := by
  simp [State.flushTx, apply_ite State.warden]

@[simp] theorem State.transmit_queue (s : State) (e : OutEvent) : (s.transmit e).warden.queue = s.warden.queue := by
  simp [State.transmit, apply_ite State.warden, apply_ite Warden.queue]

@[simp] theorem State.hostPost_queue (s : State) (n : PartId) (addr : Nat) (bs : List Byte) (noSnoop : Bool) :
    (s.hostPost n addr bs noSnoop).warden.queue = s.warden.queue := by
  simp -implicitDefEqProofs [State.hostPost, foldl_same (π := fun s : State => s.warden.queue), apply_ite State.warden, apply_ite Warden.queue]

@[simp] theorem State.raiseVector_queue (s : State) (n : PartId) (v : Fin 8) :
    (s.raiseVector n v).warden.queue = s.warden.queue := by
  simp [State.raiseVector, apply_ite State.warden, apply_ite Warden.queue]

@[simp] theorem State.pushNotify_queue (s : State) : (s.pushNotify).warden.queue = s.warden.queue := by
  unfold State.pushNotify
  split <;> simp [apply_ite State.warden, apply_ite Warden.queue]

@[simp] theorem State.modLink_queue (s : State) (p : PortIx) (f : Link → Link) :
    (s.modLink p f).warden.queue = s.warden.queue := rfl

@[simp] theorem State.queueOn_queue (s : State) (p : PortIx) (dl camp : Nat) (k : Packet) :
    (s.queueOn p dl camp k).warden.queue = s.warden.queue := by
  simp [State.queueOn, apply_ite State.warden]

@[simp] theorem State.sendPacket_queue (s : State) (k : Packet) : (s.sendPacket k).warden.queue = s.warden.queue := by
  unfold State.sendPacket
  split <;> simp

theorem State.transmitAnswer_queue (s : State) (r : Request) (a : Pdu) :
    (s.transmitAnswer r a).warden.queue = s.warden.queue := by
  unfold State.transmitAnswer
  split
  · rfl
  · dsimp only
    split <;> rfl
  · exact State.raiseVector_queue _ 0 2
  · exact State.sendPacket_queue _ _

theorem State.sendAnswer_queue (s : State) (r : Request) (status : Nat) (data : List Byte) :
    (s.sendAnswer r status data).warden.queue = s.warden.queue := State.transmitAnswer_queue _ _ _

/-- The Warden starts anew; what is queued stays (14 R346). -/
theorem State.wardenReset_leaves (s : State) :
    s.wardenReset.warden.restarting = true ∧ s.wardenReset.warden.current = none ∧ s.wardenReset.warden.blocks = [] ∧ s.wardenReset.notes = .reset
      ∧ s.wardenReset.warden.queue = s.warden.queue ∧ s.wardenReset.mem = s.mem := by
  unfold State.wardenReset
  dsimp only
  refine ⟨rfl, rfl, rfl, rfl, ?_, ?_⟩
  · cases s.warden.current with
    | none => rfl
    | some r => exact s.sendAnswer_queue r 0x1B []
  · cases s.warden.current with
    | none => rfl
    | some r => exact s.sendAnswer_mem r 0x1B []

theorem State.pushNotify_restarting (s : State) : s.pushNotify.warden.restarting = s.warden.restarting := by
  unfold State.pushNotify
  dsimp only
  split
  · rfl
  · split <;> rfl

/-! ## The request buffer of the mailbox (14 R344) -/

theorem foldl_tabSet_zipIdx (bs : List Byte) : ∀ (t : Tab Byte) (a n b : Nat), a + n = b →
    (bs.zipIdx n).foldl (fun (t : Tab Byte) (e : Byte × Nat) => tabSet 0 t (a + e.2) e.1) t = memWrite t b bs := by
  induction bs with
  | nil => exact fun _ _ _ _ _ => rfl
  | cons x bs ih =>
    rintro t a n b rfl
    exact ih (tabSet 0 t (a + n) x) a (n + 1) (a + n + 1) rfl

theorem leNat_map_range (m : Tab Byte) (o : Nat) : leNat ((List.range 4).map fun i => tabGet 0 m (o + i)) = memNat m o 4 := rfl

theorem State.mbBufferWrite_buffer {s : State} {off : Nat} (h1 : 0x2100 ≤ off) (h2 : off < 0x2510) (hreq : s.warden.mbReq = false) (v : Nat) :
    (s.mbBufferWrite off v).warden.mbRequest = memWrite s.warden.mbRequest (off - 0x2100) (leBytes 4 v) := by
  have hin : ¬(decide (off < 0x2100) || decide (0x2510 ≤ off)) = true := by simp [h1, h2]
  unfold State.mbBufferWrite
  rw [if_neg hin, if_neg (ne_true_of_eq_false hreq)]
  exact foldl_tabSet_zipIdx (leBytes 4 v) s.warden.mbRequest (off - 0x2100) 0 _ (Nat.add_zero _)

theorem State.mailboxWord_buffer (s : State) {off : Nat} (h1 : 0x2100 ≤ off) (h2 : off < 0x2510) :
    s.mailboxWord off = memNat s.warden.mbRequest (off - 0x2100) 4 := by
  have hctl : ¬(off == 0x2000) = true := by simp; omega
  have hstat : ¬(off == 0x2004) = true := by simp; omega
  have hin : (decide (0x2100 ≤ off) && decide (off < 0x2510)) = true := by simp [h1, h2]
  unfold State.mailboxWord
  rw [if_neg hctl, if_neg hstat, if_pos hin]
  exact leNat_map_range _ _

/-- A word written to the buffer reads back. -/
theorem State.mbBufferWrite_reads {s : State} {off : Nat} (h1 : 0x2100 ≤ off) (h2 : off < 0x2510) (hreq : s.warden.mbReq = false)
    (hwf : tabWf 0 s.warden.mbRequest = true) {v : Nat} (hv : v < 256 ^ 4) :
    (s.mbBufferWrite off v).mailboxWord off = v ∧ tabWf 0 (s.mbBufferWrite off v).warden.mbRequest = true := by
  rw [State.mailboxWord_buffer _ h1 h2, State.mbBufferWrite_buffer h1 h2 hreq]
  exact ⟨memNat_memWrite hwf hv, memWrite_wf hwf⟩

/-! ## A frame notes that one was seen (obj D010.06) -/

theorem State.frameSeen_mac (s : State) (v : Nat) : (objSet s none 0xD010 6 v).mac = s.mac := by
  have h : ∀ j, j ≠ 6 → j < 256 → objGet (objSet s none 0xD010 6 v) none 0xD010 j = objGet s none 0xD010 j := fun j hj h =>
    objGet_objSet_other s v fun e => hj (objKey_inj h (by decide) e).2
  simp only [State.mac, State.macOf, h 1 (by decide) (by decide), h 3 (by decide) (by decide)]

theorem State.frameSeen_etherType (s : State) (v : Nat) : objGet (objSet s none 0xD010 6 v) none 0xD010 4 = objGet s none 0xD010 4 :=
  objGet_objSet_other s v (by decide)

/-! ## The rows -/

/-- Settles O45. -/
theorem carrierRows : Obligations.CarrierRows := by
  unfold Obligations.CarrierRows
  refine fun s => ⟨fun f => ⟨fun hf => ?_, fun hf h46 hle hdst het hop => ⟨fun hc hm => ?_, fun hc => ?_⟩⟩,
    fun a ha => ⟨fun h0 h1 => ⟨fun hr => ?_, fun hr hp => ?_⟩, fun h1 h0 => ?_, fun off h4 h1 h2 hr => ?_, fun off h4 h1 h2 hr hwf => ?_, ?_,
      fun n => ?_⟩,
    fun n off => ⟨fun h4 => ?_, ?_⟩, fun r hop hc => ?_, fun r hop hc => ⟨fun hfl hp => ?_, fun hfl => ?_⟩,
    fun k q x hn hx hp => ⟨fun hnode => ?_, fun hnode => ?_⟩, fun k => ⟨fun hk => ?_, fun hk => ?_⟩, fun tag e he => ?_, fun p src => ?_,
    ⟨s.wardenReset, rfl, s.wardenReset_leaves⟩, fun hr => ?_⟩
  · simp [exec, execT1sFrameReceive, hf]
  · have hmc : f.dst ≠ broadcastMac := hdst ▸ hm
    simp [exec, execT1sFrameReceive, hf, Nat.not_lt.2 h46, Nat.not_lt.2 hle, State.frameSeen_mac, State.frameSeen_etherType, hdst, het, hc, hm, hop]
  · simp [exec, execT1sFrameReceive, hf, Nat.not_lt.2 h46, Nat.not_lt.2 hle, State.frameSeen_mac, State.frameSeen_etherType, hdst, het, hc]
  · simp [exec, execMbReq, State.mailboxSized, ha, h0, State.mbCtlWrite, h1, hr]
  · simp [exec, execMbReq, State.mailboxSized, ha, h0, State.mbCtlWrite, h1, hr, hp]
  · simp [exec, execMbRspRelease, State.mailboxSized, ha, h0, State.mbCtlWrite, h1]
  · simp [exec, execMailboxBufferWrite, State.mailboxSized, ha, h4, State.mbBufferWrite, hr, Nat.not_lt.2 h1, Nat.not_le.2 h2]
  · obtain ⟨hread, hw⟩ := State.mbBufferWrite_reads h1 h2 hr hwf a.value.isLt
    exact ⟨s.mbBufferWrite off a.value.toNat, by simp [exec, execMailboxBufferWrite, State.mailboxSized, ha, h4], hread, hw⟩
  · exact ⟨s.mbStatWrite a.value.toNat, by simp [exec, execRegisterWrite, State.sized, ha], rfl, rfl⟩
  · refine ⟨s.ringRegWrite n 0x10 a.value, by simp [exec, execRegisterWrite, State.sized, ha], ?_⟩
    simp only [State.ringRegWrite, beq_self_eq_true, if_true]
    rw [State.parts_modPart_same]
    exact ⟨rfl, rfl, rfl⟩
  · simp [exec, execRegisterWrite, State.sized, h4]
  · simp [exec, execRegisterWrite, State.sized]
  · simp [exec, execNotify, hop, hc]
  · simp [exec, execNotify, hop, hc, hfl, hp]
  · simp [exec, execNotify, hop, hc, hfl]
  · simp [exec, execNotifyRetryTimeout, hn, hx, hp, hnode]
  · simp [exec, execNotifyRetryTimeout, hn, hx, hp, hnode]
  · simp [exec, execMgmtReq, hk]
  · simp [exec, execMgmtAns, hk]
  · exact ⟨s.modWarden fun w => { w with relays := w.relays.filter fun x => x.tag != tag.toNat }, by simp [exec, execRelayTimeout, he], rfl, rfl⟩
  · refine ⟨_, rfl, fun b hb hp hsrc => ?_, ?_⟩
    · obtain ⟨c, -, rfl⟩ := List.mem_map.1 hb
      by_cases hopen : (c.port == p && c.source == src && !c.closed) = true
      · rw [if_pos hopen]
      · rw [if_neg hopen] at hp hsrc ⊢
        simpa [hp, hsrc] using hopen
    · simp [State.modWarden]
  · refine ⟨(s.modWarden fun w => { w with restarting := false }).pushNotify, by simp [exec, execWardenRestart, hr], ?_, State.pushNotify_queue _⟩
    rw [State.pushNotify_restarting]
    rfl

end Sys2Proof.Machine

/-!
# The power rows (O46)
-/

namespace Sys2Proof.Machine

/-! ## A unit of banks is gated (16 R363) -/

theorem bitOf_add_two_pow {n u : Nat} (h : bitOf n u = false) : bitOf (n + 2 ^ u) u = true := by
  have hp : 0 < 2 ^ u := Nat.two_pow_pos u
  simp only [bitOf, beq_eq_false_iff_ne, beq_iff_eq, Nat.add_div_right _ hp] at h ⊢
  omega

/-! ## Where no port is UP no link goes down (16 R368) -/

theorem State.linksDown_none {s : State} (h : ∀ p : PortIx, s.portState p ≠ 3) : s.linksDown = s := by
  unfold State.linksDown
  generalize List.finRange 6 = l
  induction l with
  | nil => rfl
  | cons p l ih => rw [List.foldl_cons, if_neg (mt eq_of_beq (h p)), ih]

/-! ## A Patrol slice that does not run leaves nothing to stop (22 R505) -/

theorem State.patrolStop_idle {s : State} (hb : s.patrol.banks = []) (hc : s.patrol.cores = []) : s.patrolStop = s := by
  simp [State.patrolStop, State.patrolYieldTo, hb, hc]

/-! ## Entries (16 R368) -/

/-- Every core that is powered naps once the entry to Nap is committed. -/
def Core.napping (k : Core) : Core := if k.power.state == 0 && k.mode != CoreMode.off then k.modPower fun p => { p with state := 2 } else k

theorem execNapEntryCommit_of {s : State} (h : s.power.entering = .nap) : exec .napEntryCommit s
    = .next (({ s with power := { s.power with entering := .nothing }, cores := s.cores.map Core.napping } : State).linksDown.setDevState 2) := by
  simp only [exec, execNapEntryCommit, h]
  rfl

theorem execEmberEntryCommit_of {s : State} (h : s.power.entering = .ember) : exec .emberEntryCommit s = .next ((objSet (objSet { s.linksDown with
    power := { s.linksDown.power with entering := .nothing }
    cores := s.linksDown.cores.map fun (k : Core) => { Core.gated with part := k.part }
    ctxs := [], traffic := [], claims := [], handovers := [], attach := { Attach.reset with cfg := s.linksDown.attach.cfg } }
    none 0xC010 1 0) none 0xC010 2 0).setDevState 1) := by
  simp only [exec, execEmberEntryCommit, h]
  rfl

/-- No doorbell was held (16 R368). -/
theorem State.backInRun_empty {s : State} (h : s.power.doorbells = []) {w : Nat} :
    (s.countWake w).backInRun = ({ s.countWake w with power := { s.power with doorbells := [] } } : State).setDevState 4 := by
  have h' : (s.countWake w).power.doorbells = [] := h
  unfold State.backInRun
  rw [h']
  rfl

/-! ## The cap at 0 lifts (16 R372) -/

theorem State.powerEdge_idle {s : State} (h : objGet s none 0x5600 3 = 0) : s.powerEdge = s := by
  simp [State.powerEdge, State.dutySwitch, dutyIndex, h]

/-- With no cap a decision lifts it (16 R372). -/
theorem execPowerCapDecision_uncapped {s : State} (hcap : objGet s none 0x2010 1 = 0) (hduty : objGet s none 0x5600 3 = 0) (reading : Int) :
    ∃ t : State, exec (.powerCapDecision reading) s = .next t.liftCap := by
  simp only [exec, execPowerCapDecision, State.powerEdge_idle hduty]
  refine ⟨_, if_pos ?_⟩
  rw [beq_iff_eq]
  split
  · exact (objGet_objBump_other _ _ (by decide)).trans hcap
  · exact (objGet_objSet_other _ _ (by decide)).trans hcap

theorem State.liftCap_lifts (s : State) (c : CoreId) :
    (s.liftCap.core c).power.capCeiling = 7 ∧ (s.liftCap.core c).power.held = false ∧ s.liftCap.power.answer = none := by
  simp [State.liftCap, State.setCeilings, State.setHeld, State.core, Core.modPower]

/-! ## Temperatures (16 R371, R375) -/

theorem State.warnSensor_power (s : State) (i : Fin 16) : (s.warnSensor i).power = s.power := by
  unfold State.warnSensor
  extract_lets q t warn
  split
  · rfl
  · refine foldl_same (π := State.power) ?_ _ s
    exact fun _ _ => rfl

/-- A sample that brings no reading leaves the sensors of a device that tripped. -/
theorem execThermalSample_tripped {s : State} (h : s.power.tripped = true) :
    ∃ t : State, exec (.thermalSample []) s = .next t ∧ t.power.sensors = s.power.sensors := by
  have hread : (List.finRange 16).foldl (fun (s : State) (i : Fin 16) => match ([] : List Int)[i.val]? with
      | some t => s.readSensor i t
      | none => s) s = s := foldl_same (π := id) (fun _ _ => rfl) _ s
  have hkeeps : ∀ t : State, t.power.tripped = true → t.power.sensors = s.power.sensors → ∃ u : State,
      (match t.tripping with
        | some (i, x) => Host.Outcome.next (if t.power.tripped then t else t.thermalTrip i x)
        | none => .next t : Host.Outcome State Fault Refusal) = .next u ∧ u.power.sensors = s.power.sensors := fun t ht hs => by
    cases t.tripping with
    | none => exact ⟨t, rfl, hs⟩
    | some e => exact ⟨t, congrArg Host.Outcome.next (if_pos ht), hs⟩
  have hwarn : ∀ t : State, ((List.finRange 16).foldl (fun (s : State) (i : Fin 16) => s.warnSensor i) t).power = t.power := fun t =>
    foldl_same (π := State.power) State.warnSensor_power _ t
  show ∃ t : State, execThermalSample [] s = .next t ∧ t.power.sensors = s.power.sensors
  unfold execThermalSample
  extract_lets read readPower timed ts highest warned hot counted countedPower settled
  have hwarned : warned.power = timed.power := by
    have hhighest : highest.power = timed.power := by
      unfold highest
      generalize ts = l
      cases l <;> rfl
    refine Eq.trans ?_ hhighest
    unfold warned
    split
    · exact hwarn highest
    · rfl
  have hcounted : counted.power = timed.power := by
    refine Eq.trans ?_ hwarned
    unfold counted State.countLimiter
    split_ifs <;> rfl
  have htimed : timed.power = { s.power with edges := s.power.edges + 1 } :=
    congrArg (fun t : State => { t.power with edges := t.power.edges + 1 }) hread
  have hsettled : settled.power = { s.power with edges := s.power.edges + 1, thermalLimiter := hot } :=
    congrArg (fun q : Power => { q with thermalLimiter := hot }) (hcounted.trans htimed)
  exact hkeeps settled (hsettled ▸ h) (hsettled ▸ rfl)

/-! ## Cores, bank units and the device -/

theorem execOpChange_steps {s : State} {c : CoreId} (hl : (s.core c).level ≠ 3) (hp : (s.core c).part.isSome = true) :
    exec (.opChange c) s = .next (s.modCore c fun k => k.modPower fun p =>
      { p with op := if p.op < s.targetOp c then p.op + 1 else if s.targetOp c < p.op then p.op - 1 else p.op }) := by
  have hpart : (s.partOf c).isNone = false := by
    rw [← Option.not_isSome, Bool.not_eq_false']
    exact hp
  simp [exec, execOpChange, hl, hpart]

theorem execBankUnitGate_free {s : State} {c : CoreId} {u : Fin 8} (hb : ∀ i, i < 4 → s.bank c (Fin.ofNat 32 (4 * u.val + i)) = .free)
    (hg : bitOf (s.core c).power.gated u.val = false) :
    exec (.bankUnitGate c u) s = .next (s.modCore c fun k => k.modPower fun p => { p with gated := p.gated + 2 ^ u.val }) := by
  have hfree : ([0, 1, 2, 3].all fun i => match s.bank c (Fin.ofNat 32 (4 * u.val + i)) with
      | .free | .lent => true
      | _ => false) = true := List.all_eq_true.2 fun i hi => by
    have hi4 : i < 4 := by
      simp only [List.mem_cons, List.not_mem_nil, or_false] at hi
      omega
    rw [hb i hi4]
  exact congrArg Host.Outcome.next (if_pos (Bool.and_eq_true_iff.2 ⟨hfree, (Bool.not_eq_true' _).mpr hg⟩))

/-- No core runs or waits to run (16 R368). -/
theorem all_cores_quiet {s : State} (h : ∀ d : CoreId, 1 ≤ (s.core d).level ∨ (s.core d).part = none) :
    (s.cores.toList.all fun (k : Core) => decide (1 ≤ k.level) || k.part.isNone) = true := by
  refine List.all_eq_true.2 fun k hk => ?_
  obtain ⟨i, hi, rfl⟩ := List.mem_iff_getElem.1 hk
  rw [Bool.or_eq_true, decide_eq_true_eq, Option.isNone_iff_eq_none]
  exact h ⟨i, by simpa using hi⟩

theorem State.core_napping (s : State) (c : CoreId) : (s.cores.map Core.napping)[c] = (s.core c).napping := by simp [State.core]

theorem Vector.getElem_map_gated (v : Vector Core 64) (c : CoreId) :
    (v.map fun (k : Core) => { Core.gated with part := k.part })[c] = { Core.gated with part := v[c].part } := by simp

theorem State.linkUp_cleared (s : State) : ((objSet s none 0xC010 2 0).setDevState 1).linkUp = false := by
  have h0 : objGet ((objSet s none 0xC010 2 0).setDevState 1) none 0xC010 2 = 0 :=
    (objGet_objSet_other _ _ (by decide)).trans (objGet_objSet_same s none 0xC010 2 0)
  simp [State.linkUp, h0]

theorem validCelsius_eq_false {v : Int} (h : v < -40 ∨ 150 < v) : validCelsius v = false := by
  rw [validCelsius, Bool.and_eq_false_iff, decide_eq_false_iff_not, decide_eq_false_iff_not]
  omega

/-! ## The rows -/

/-- Settles O46. -/
theorem powerRows : Obligations.PowerRows := by
  unfold Obligations.PowerRows
  refine fun s c => ⟨fun hl hp => ⟨_, execOpChange_steps hl hp, rfl, rfl, ?_⟩, fun hm hs => ?_, fun hm => ?_, fun hs => ?_, fun hs => ?_,
    fun u hb hg => ⟨_, execBankUnitGate_free hb hg, ?_, rfl, rfl⟩,
    fun hb hk he hr hbs hcs => ⟨fun hd hidle hch hcmd ht hc hh => ?_, fun hd hcamp => ?_, fun hd hdb => ?_⟩, fun he => ?_, fun he => ?_,
    fun reading hcap hduty => ?_, ⟨_, rfl, rfl, ?_⟩, ⟨_, rfl, rfl, rfl, rfl⟩, ?_, fun q v => ⟨fun hv => ?_, fun hv => ?_⟩⟩
  · rw [State.core_modCore_same]
    rfl
  · simp [exec, execCoreEnterNap, hm, hs]
    rfl
  · simp [exec, execCoreEnterNap, hm]
  · simp [exec, execCoreWake, State.naps, State.wakeCore, hs]
  · simp [exec, execCoreWake, State.naps, hs]
  · rw [State.core_modCore_same]
    exact bitOf_add_two_pow hg
  · refine ⟨s.setDevState 3, ?_, objGet_objSet_same s none 0x2000 2 3, rfl⟩
    simp [exec, execDeviceEnterDoze, hb, hk, hd, he, all_cores_quiet hidle, hch, hcmd, ht, hc, hh, State.patrolStop_idle hbs hcs]
  · refine ⟨{ s with power := { s.power with entering := .nap } }, ?_, rfl, rfl⟩
    simp [exec, execDeviceEnterNap, hb, hk, hd, he, hcamp, State.patrolStop_idle hbs hcs]
  · refine ⟨(s.countWake 1).backInRun, ?_, ?_, ?_, ?_⟩
    · simp [exec, execDeviceWake, wakesFrom, State.wake, hd, he]
    all_goals rw [State.backInRun_empty hdb]
    · exact objGet_objSet_same _ none 0x2000 2 4
    · exact (objGet_objSet_other _ _ (by decide)).trans (objGet_objSet_same _ none 0x2000 8 1)
    · rfl
  · refine ⟨_, execNapEntryCommit_of he, objGet_objSet_same _ none 0x2000 2 2, fun hp => ?_⟩
    rw [State.linksDown_none (by exact hp)]
    refine ⟨rfl, rfl, rfl, fun hs hm => (s.core_napping c).trans (if_pos (by simp [hs, hm])), fun h => (s.core_napping c).trans (if_neg ?_)⟩
    obtain h | h := h <;> simp [h]
  · refine ⟨_, execEmberEntryCommit_of he, objGet_objSet_same _ none 0x2000 2 1, rfl, rfl, rfl, ?_, ?_, State.linkUp_cleared _, fun hp => ?_⟩
    · exact congrArg Core.mode (Vector.getElem_map_gated _ c)
    · exact congrArg (fun k : Core => k.power.state) (Vector.getElem_map_gated _ c)
    · rw [State.linksDown_none hp]
      have hpart := congrArg Core.part (Vector.getElem_map_gated s.cores c)
      exact ⟨hpart, rfl⟩
  · obtain ⟨t, ht⟩ := execPowerCapDecision_uncapped hcap hduty reading
    exact ⟨t.liftCap, ht, t.liftCap_lifts c⟩
  · unfold State.countLimiter
    split <;> rfl
  · by_cases ht : s.power.tripped = true
    · obtain ⟨t, hx, hq⟩ := execThermalSample_tripped ht
      exact ⟨t, hx, fun _ => hq⟩
    · obtain ⟨t, hx⟩ := execThermalSample_isNext [] s
      exact ⟨t, hx, fun h => absurd h ht⟩
  · have hvalid : validCelsius v = true := by simpa [validCelsius] using hv
    simp [Sensor.take, hvalid]
  · simp [Sensor.take, validCelsius_eq_false hv]

end Sys2Proof.Machine

/-!
# Packets and notices of the fabric (O50)
-/

namespace Sys2Proof.Machine

/-! ## Packets of a camp (18 R402, R414, R415) -/

theorem campPacket_none {s : State} {k : Packet} {kind : Nat} (h : s.delivery = .kv2c ∨ k.kind ≠ kind) (f : PartId → State) :
    campPacket kind k s f = .next s := by
  obtain h | h := h <;> simp [campPacket, h]

theorem campPacket_transit {s : State} {k : Packet} {kind : Nat} (hd : s.delivery = .kv2p) (hk : k.kind = kind) (hseat : s.seatOf k.dst ≠ s.mySeat)
    (f : PartId → State) : campPacket kind k s f = .next (s.sendPacket k) := by
  simp [campPacket, hd, hk, hseat]

theorem campPacket_unknown {s : State} {k : Packet} {kind : Nat} (hd : s.delivery = .kv2p) (hk : k.kind = kind) (hseat : s.seatOf k.dst = s.mySeat)
    (hpart : s.campPart k.camp = none) (f : PartId → State) : campPacket kind k s f = .next (objBump s none 0x7000 9) := by
  simp [campPacket, hd, hk, hseat, hpart]

/-! ## Notices (18 R417, R424) -/

theorem noticeArrives_again {s : State} {k : Packet} (h : (s.fabric.seen.any fun (e : Nat × Nat × Nat) => e.1 == k.src && e.2.2 == k.arg) = true)
    (kind : Nat) (p : Option PortIx) (f : State → State) : noticeArrives kind k p s f = .next s := by
  unfold noticeArrives
  rw [h, if_pos rfl, ite_self]

theorem noticeArrives_first {s : State} {k : Packet} {kind : Nat} (hd : s.delivery = .kv2p) (hk : k.kind = kind)
    (h : (s.fabric.seen.any fun (e : Nat × Nat × Nat) => e.1 == k.src && e.2.2 == k.arg) = false) (p : Option PortIx) (f : State → State) :
    noticeArrives kind k p s f
      = .next (f (({ s with fabric := { s.fabric with seen := (k.src, kind, k.arg) :: s.fabric.seen } } : State).forwardNotice k p)) := by
  unfold noticeArrives
  rw [if_neg (by simp [hd, hk]), if_neg (ne_true_of_eq_false h)]

/-! ## A remap entry resolves its coordinate (18 R414) -/

theorem State.installRemap_fabric (s : State) (camp coord seat : Nat) : (s.installRemap camp coord seat).fabric
    = { s.fabric with remap := ((s.fabric.remap.filter fun (e : Nat × Nat) => e.1 != coord) ++ [(coord, seat)]).take 256 } := by
  unfold State.installRemap
  extract_lets table old t u mine v
  have hv : v.fabric = u.fabric := by
    unfold v
    split <;> rfl
  refine Eq.trans ?_ hv
  split
  · rfl
  · split <;> rfl

theorem State.installRemap_seatOf {s : State} (camp coord seat : Nat) (h : s.fabric.remap.length < 256) :
    (s.installRemap camp coord seat).seatOf coord = seat := by
  have hlen : ((s.fabric.remap.filter fun (e : Nat × Nat) => e.1 != coord) ++ [(coord, seat)]).length ≤ 256 := by
    have := List.length_filter_le (fun (e : Nat × Nat) => e.1 != coord) s.fabric.remap
    simp only [List.length_append, List.length_singleton]
    omega
  have hnone : (s.fabric.remap.filter fun (e : Nat × Nat) => e.1 != coord).find? (fun (e : Nat × Nat) => e.1 == coord) = none := by
    simp only [List.find?_eq_none, List.mem_filter]
    rintro e ⟨-, he⟩
    simpa using he
  unfold State.seatOf
  rw [State.installRemap_fabric]
  dsimp only
  rw [List.take_of_length_le hlen, List.find?_append, hnone]
  simp

theorem State.installRemap_myCoord (s : State) (camp coord seat : Nat) :
    (s.installRemap camp coord seat).myCoord = if seat == s.mySeat && s.myCoord == 0x8000 then coord else s.myCoord := by
  unfold State.installRemap
  extract_lets table old t u mine v
  have hother : ∀ (w : State) (q : Option PartId) {i j : Nat} (x : Nat), i < 65536 ∧ j < 256 → ¬(0x7000 = i ∧ 2 = j) →
      (objSet w q i j x).myCoord = w.myCoord := fun w q i j x h hne =>
    objGet_objSet_other w x (objKey_ne (by decide) (by decide) h.1 h.2 hne)
  have hu : u.myCoord = s.myCoord := hother t none _ (by decide) (by decide)
  have hseat : u.mySeat = s.mySeat := objGet_objSet_other t _ (by decide)
  have hv : v.myCoord = if seat == s.mySeat && s.myCoord == 0x8000 then coord else s.myCoord := by
    have hmine : mine = (seat == s.mySeat && s.myCoord == 0x8000) := by
      unfold mine
      rw [hu, hseat]
    unfold v
    rw [hmine]
    split
    · exact objGet_objSet_same u none 0x7000 2 coord
    · exact hu
  refine Eq.trans ?_ hv
  split
  · rfl
  · split
    · exact hother _ _ _ (by decide) (by decide)
    · rfl

/-! ## The rows -/

/-- Settles O50. -/
theorem packetRows : Obligations.PacketRows := by
  unfold Obligations.PacketRows
  refine ⟨fun s k i kind hi => ?_, fun s k hd => ⟨fun n key x hseat hpart hctx hrem => ⟨fun hk hside hst hep => ?_, fun hk hside => ?_,
      fun hk hside hst => ?_, fun hk hst => ?_, fun hk hst => ?_⟩, ⟨fun hseen i hi => ?_, fun hk hs => ?_, fun hk hs => ?_, fun hk hs => ?_⟩,
    fun camp coord seat h => ⟨State.installRemap_seatOf camp coord seat h, fun hne => ?_, fun hc hs => ?_⟩⟩⟩
  · have hcamp : ∃ f : PartId → State, exec i s = campPacket kind k s f := by
      simp only [List.mem_cons, List.not_mem_nil, or_false, Prod.mk.injEq] at hi
      rcases hi with h | h | h | h | h | h | h | h | h | h | h | h | h | h | h | h <;> obtain ⟨rfl, rfl⟩ := h <;> exact ⟨_, rfl⟩
    obtain ⟨f, hf⟩ := hcamp
    rw [hf]
    exact ⟨fun h => campPacket_none h f, fun hd hk hseat => campPacket_transit hd hk hseat f,
      fun hd hk hseat hpart => campPacket_unknown hd hk hseat hpart f,
      fun hd hk hseat n hpart => ⟨f n, campPacket_here hd hk hseat hpart⟩⟩
  · refine (campPacket_here hd hk hseat hpart).trans (congrArg Host.Outcome.next ?_)
    have hopen : (x.state == 1 || x.state == 2) = true := by simpa using hst
    simp [State.remoteMessage, hctx, hrem, hside, hopen, hep]
  · refine (campPacket_here hd hk hseat hpart).trans (congrArg Host.Outcome.next ?_)
    simp [State.remoteMessage, hctx, hrem, hside]
  · refine (campPacket_here hd hk hseat hpart).trans (congrArg Host.Outcome.next ?_)
    simp [State.remoteCredit, hctx, hrem, hside, hst]
  · refine (campPacket_here hd hk hseat hpart).trans (congrArg Host.Outcome.next ?_)
    obtain h | h | h := hst <;> simp [State.closeArrives, hctx, hrem, h]
  · refine (campPacket_here hd hk hseat hpart).trans (congrArg Host.Outcome.next ?_)
    simp [State.closeArrives, hctx, hrem, hst]
  · simp only [List.mem_cons, List.not_mem_nil, or_false] at hi
    obtain rfl | rfl | rfl := hi
    · exact noticeArrives_again hseen 0x1A none fun s => s.faultNotice k
    · exact noticeArrives_again hseen 0x1B none fun s => s.linkGone (bodyField k 0 2) (bodyField k 2 1 % 6)
    · exact noticeArrives_again hseen 0x1C none fun s => s.installRemap k.camp (bodyField k 0 2) (bodyField k 2 2)
  · exact noticeArrives_first hd hk hs none fun s => s.faultNotice k
  · exact noticeArrives_first hd hk hs none fun s => s.linkGone (bodyField k 0 2) (bodyField k 2 1 % 6)
  · exact noticeArrives_first hd hk hs none fun s => s.installRemap k.camp (bodyField k 0 2) (bodyField k 2 2)
  · rw [State.installRemap_myCoord, if_neg]
    simpa [or_comm, imp_iff_not_or] using hne
  · rw [State.installRemap_myCoord, if_pos (by simp [hc, hs])]

end Sys2Proof.Machine

/-!
# The buddy stash (O52)
-/

namespace Sys2Proof.Machine

theorem State.hbmWrite_parts (s : State) (n : PartId) (off : Nat) (bs : List Byte) : (s.hbmWrite n off bs).parts = s.parts := by
  unfold State.hbmWrite
  dsimp only
  split <;> exact State.hbmBytes_parts n bs s off

theorem State.camp_modCamp (s : State) (n : PartId) (f : Camp → Camp) : ((s.modCamp n f).parts[n]).camp = f (s.parts[n]).camp := by
  rw [State.modCamp, State.parts_modPart_same]

theorem State.showWard_parts (s : State) (n : PartId) : (s.showWard n).parts = s.parts := rfl

/-- The newest sealed step is in the low half of obj 8200.0A (20 R462). -/
theorem State.showWard_newest {s : State} {n : PartId} {slot step : Nat} {l : List (Nat × Nat)}
    (h : (s.parts[n]).camp.wardSealed = (slot, step) :: l) :
    objGet (s.showWard n) (some n) 0x8200 0xA % 2 ^ 32 = step % 2 ^ 32 := by
  unfold State.showWard
  rw [h]
  refine (congrArg (· % 2 ^ 32) (objGet_objSet_same s (some n) 0x8200 0xA _)).trans ?_
  exact Nat.add_mul_mod_self_right ..

/-! ## The ward's packets at the buddy (20 R461) -/

section
variable {s : State} {k : Packet} {n : PartId} (hd : s.delivery = .kv2p) (hseat : s.seatOf k.dst = s.mySeat) (hpart : s.campPart k.camp = some n)
include hd hseat hpart

theorem execStashOpen_fits (hk : k.kind = 0x20) (hst : s.openStatus n (leNat (k.body.take 8)) (leNat ((k.body.drop 8).take 48)) = 0) :
    ∃ t : State, exec (.stashOpen k) s = .next (t.sendAck k 0)
      ∧ (t.parts[n]).camp.wardFill = some ((s.parts[n]).camp.freeSlot, k.arg, leNat (k.body.take 8))
      ∧ (∀ e ∈ (t.parts[n]).camp.wardSealed, e.1 ≠ (s.parts[n]).camp.freeSlot)
      ∧ t.mem = (s.hbmWrite n (s.slotBase n (s.parts[n]).camp.freeSlot)
          (stashHeader k.arg k.camp k.src 1 (leNat (k.body.take 8)) 0 (leNat ((k.body.drop 8).take 48)))).mem := by
  have h : exec (.stashOpen k) s = _ := campPacket_here hd hk hseat hpart
  simp only [hst] at h
  generalize stashHeader k.arg k.camp k.src 1 (leNat (k.body.take 8)) 0 (leNat ((k.body.drop 8).take 48)) = header at h ⊢
  refine ⟨_, h, ?_⟩
  rw [State.showWard_parts, State.camp_modCamp, State.hbmWrite_parts]
  exact ⟨rfl, fun e he => by simpa using (List.mem_filter.1 he).2, rfl⟩

theorem execStashSeal_fits {slot step size : Nat} (hk : k.kind = 0x22) (hfill : (s.parts[n]).camp.wardFill = some (slot, step, size))
    (hs : step = k.arg)
    (hcrc : crc32 (s.hbmRead n (s.slotBase n slot + 256) size) = leNat (k.body.take 4)) :
    ∃ t : State, exec (.stashSeal k) s = .next (t.sendAck k 0) ∧ (t.parts[n]).camp.wardSealed = (slot, step) :: (s.parts[n]).camp.wardSealed
      ∧ (t.parts[n]).camp.wardFill = none ∧ objGet t (some n) 0x8200 0xA % 2 ^ 32 = step % 2 ^ 32 := by
  have h : exec (.stashSeal k) s = _ := campPacket_here hd hk hseat hpart
  simp only [hfill] at h
  rw [if_neg (by simp [hs]), if_neg (by simpa using hcrc)] at h
  refine ⟨_, h, ?_, ?_, State.showWard_newest (l := (s.parts[n]).camp.wardSealed) (slot := slot) ?_⟩
  · rw [State.showWard_parts, State.camp_modCamp, State.hbmWrite_parts, State.hbmWrite_parts]
  · rw [State.showWard_parts, State.camp_modCamp]
  · rw [State.camp_modCamp, State.hbmWrite_parts, State.hbmWrite_parts]

theorem execPullData_more {step size : Nat} (hk : k.kind = 0x25) (hpull : (s.parts[n]).camp.pull = some (step, size)) (hs : step = k.arg)
    (hoff : bodyField k 0 8 = (s.parts[n]).camp.pulled.length) (hne : k.body.drop 8 ≠ [])
    (hlt : ((s.parts[n]).camp.pulled ++ k.body.drop 8).length < 256) :
    ∃ t : State, exec (.pullData k) s = .next (t.pullMore n step) ∧ (t.parts[n]).camp.pulled = (s.parts[n]).camp.pulled ++ k.body.drop 8
      ∧ t.mem = s.mem := by
  have h : exec (.pullData k) s = _ := campPacket_here hd hk hseat hpart
  simp only [hpull] at h
  rw [if_neg (by simp [hs, hoff]), if_neg (by simpa using hne), if_neg] at h
  · refine ⟨_, h, ?_, rfl⟩
    rw [State.camp_modCamp]
  · rw [State.camp_modCamp]
    simp only [Bool.and_eq_true, decide_eq_true_eq, not_and]
    omega

end

/-- Settles O52. -/
theorem stashRows : Obligations.StashRows := by
  unfold Obligations.StashRows
  refine fun s k n hd hseat hpart => ⟨fun hk => ⟨fun hst => ?_, fun hst => execStashOpen_fits hd hseat hpart hk hst⟩,
    fun slot step size hfill => ⟨fun hk hs hle => ?_, fun hk hbad => ?_, fun hk hs => ⟨fun hcrc => ?_,
      fun hcrc => execStashSeal_fits hd hseat hpart hk hfill hs hcrc⟩⟩,
    fun q b hq hb hk hh => ⟨fun hs hsrc => ⟨fun hbad => ?_, fun hok hsl => ?_, fun hok hsl => ?_⟩, fun hbad => ?_, ?_⟩, fun hq => ?_,
    fun hk => ⟨fun slot step hf => ?_, fun hf => ?_⟩, fun hk step size hpull => ⟨fun hbad => ?_, fun hs hoff hne hlt => ?_⟩⟩
  · refine (campPacket_here hd hk hseat hpart).trans (congrArg Host.Outcome.next ?_)
    dsimp only
    split
    · contradiction
    · rfl
  · refine (campPacket_here hd hk hseat hpart).trans (congrArg Host.Outcome.next ?_)
    simp only [hfill]
    exact if_neg (by simp only [List.length_drop] at hle ⊢; simp [hs, hle])
  · refine (campPacket_here hd hk hseat hpart).trans (congrArg Host.Outcome.next ?_)
    simp only [hfill]
    exact if_pos (by obtain h | h := hbad <;> simp only [List.length_drop] at h ⊢ <;> simp [h])
  · refine (campPacket_here hd hk hseat hpart).trans (congrArg Host.Outcome.next ?_)
    simp only [hfill]
    rw [if_neg (by simp [hs]), if_pos (by simpa using hcrc)]
  · refine (campPacket_here hd hk hseat hpart).trans (congrArg Host.Outcome.next ?_)
    simp only [hq, hb]
    rw [if_neg (by simp [hh, hs, hsrc]), if_pos (by simpa using hbad)]
  · refine (campPacket_here hd hk hseat hpart).trans (congrArg Host.Outcome.next ?_)
    simp only [hq, hb]
    rw [if_neg (by simp [hh, hs, hsrc]), if_neg (by simpa using hok), if_pos hsl]
  · refine (campPacket_here hd hk hseat hpart).trans (congrArg Host.Outcome.next ?_)
    simp only [hq, hb]
    rw [if_neg (by simp [hh, hs, hsrc]), if_neg (by simpa using hok), if_neg (ne_true_of_eq_false hsl)]
  · refine (campPacket_here hd hk hseat hpart).trans (congrArg Host.Outcome.next ?_)
    simp only [hq, hb]
    exact if_pos (by obtain h | h := hbad <;> simp [h])
  · simp only [exec, execStashAckTimeout, hq, hh]
    rfl
  · simp only [exec, execStashAckTimeout, hq]
  · refine (campPacket_here hd hk hseat hpart).trans (congrArg Host.Outcome.next ?_)
    simp only [hf]
  · refine (campPacket_here hd hk hseat hpart).trans (congrArg Host.Outcome.next ?_)
    simp only [hf]
  · refine (campPacket_here hd hk hseat hpart).trans (congrArg Host.Outcome.next ?_)
    simp only [hpull]
    refine if_pos (Bool.or_eq_true_iff.2 ?_)
    rwa [bne_iff_ne, bne_iff_ne]
  · exact execPullData_more hd hseat hpart hk hpull hs hoff hne hlt

end Sys2Proof.Machine

/-!
# A camp starts and recovers (O53)
-/

namespace Sys2Proof.Machine

/-! ## What a switch of a duty and a notification leave of a camp (15 R352) -/

theorem State.notePost_camp (s : State) (q : Option PartId) (reason item data : Nat) (n : PartId) :
    ((s.notePost q reason item data).parts[n]).camp = (s.parts[n]).camp := by
  obtain ⟨x, h, -⟩ := State.notePost_onlyTells s q reason item data
  obtain ⟨v, hv⟩ := h.parts n
  have hset : ((s.setNoteQueue q x).parts[n]).camp = (s.parts[n]).camp := by
    cases q with
    | none => rfl
    | some m =>
      dsimp only [State.setNoteQueue]
      by_cases hm : n = m
      · subst hm
        rw [State.parts_modPart_same]
      · rw [State.parts_modPart_other s hm]
  rw [hv]
  exact hset

theorem State.dutySwitch_camp (s : State) (q : Option PartId) (d : Nat) (n : PartId) : ((s.dutySwitch q d).parts[n]).camp = (s.parts[n]).camp := by
  unfold State.dutySwitch
  extract_lets ix a b
  split
  · rfl
  · exact State.notePost_camp _ _ _ _ _ n

theorem State.dutySwitch_objGet (s : State) (q r : Option PartId) (d : Nat) {i j : Nat} (hd : dutyIndex d < 65536) (hi : i < 65536) (hj : j < 256)
    (hc : countsTelling i j = false) (hne : dutyIndex d ≠ i) : objGet (s.dutySwitch q d) r i j = objGet s r i j := by
  have hset : ∀ (t : State) {k : Nat} (v : Nat), k < 256 → objGet (objSet t q (dutyIndex d) k v) r i j = objGet t r i j := fun t k v hk =>
    objGet_objSet_other t v (objKey_ne hi hj hd hk fun e => hne e.1.symm)
  unfold State.dutySwitch
  extract_lets ix a b
  split
  · rfl
  · refine (State.notePost_objGet _ q r _ _ _ hi hj hc).trans ?_
    exact (hset b _ (by decide)).trans ((hset _ _ (by decide)).trans ((hset _ _ (by decide)).trans (hset s _ (by decide))))

theorem State.remapOver_camp (s : State) (n : PartId) : (s.remapOver.parts[n]).camp = (s.parts[n]).camp := by
  unfold State.remapOver
  split
  · rfl
  · exact s.dutySwitch_camp none 4 n

theorem State.remapOver_recoveryState (s : State) (n : PartId) : s.remapOver.recoveryState n = s.recoveryState n := by
  unfold State.remapOver
  split
  · rfl
  · exact s.dutySwitch_objGet none (some n) 4 (by decide) (by decide) (by decide) (by decide) (by decide)

/-! ## The recovery state of a camp (20 R466) -/

theorem State.recoveryState_setRecovery (s : State) (n : PartId) (v : Nat) : (s.setRecovery n v).recoveryState n = v :=
  objGet_objSet_same s (some n) 0x8400 1 v

theorem State.recoveryNo_setRecovery (s : State) (n : PartId) (v : Nat) : (s.setRecovery n v).recoveryNo n = s.recoveryNo n :=
  objGet_objSet_other s v fun e => absurd (objKey_inj (by decide) (by decide) e).2 (by decide)

/-- A camp whose member failed settles anew (20 R466). -/
theorem State.settle_settles (s : State) (n : PartId) :
    (s.settle n).recoveryState n = 1 ∧ ((s.settle n).parts[n]).camp = (s.parts[n]).camp.fresh ∧ (s.settle n).mem = s.mem := by
  unfold State.settle
  refine ⟨?_, ?_, ?_⟩
  · rw [State.remapOver_recoveryState, State.recoveryState_setRecovery]
  · rw [State.remapOver_camp]
    exact State.camp_modCamp s n Camp.fresh
  · rw [State.remapOver_mem]
    rfl

theorem State.memberFailed_settles {s : State} {n : PartId} {coord : Nat} (hf : coord ∉ (s.parts[n]).camp.failed) (hr : coord ∈ s.rankedCoords n)
    (hcamp : s.campOf n ≠ 0) (hst : (s.parts[n]).train.stash = none) :
    (s.memberFailed n coord).recoveryState n = 1 ∧ ((s.memberFailed n coord).parts[n]).camp.failed = (s.parts[n]).camp.failed ++ [coord]
      ∧ ((s.memberFailed n coord).parts[n]).camp.coordinator = false ∧ (s.memberFailed n coord).mem = s.mem := by
  unfold State.memberFailed
  extract_lets c u v
  have hfails : ¬(c.failed.contains coord || !(s.rankedCoords n).contains coord || s.campOf n == 0) = true := by
    rw [List.contains_eq_mem, List.contains_eq_mem, decide_eq_false hf, decide_eq_true hr]
    simpa using hcamp
  rw [if_neg hfails]
  have hv : v = u := by
    have hnone : (u.parts[n]).train.stash = none := by
      unfold u
      rw [State.modCamp, State.parts_modPart_same]
      exact hst
    unfold v
    cases u.buddyRank n with
    | none => rfl
    | some b => exact if_neg (by rw [hnone]; simp)
  obtain ⟨hstate, hfresh, hmem⟩ := v.settle_settles n
  rw [hfresh, hv, State.camp_modCamp]
  exact ⟨hv ▸ hstate, rfl, rfl, (hv ▸ hmem).trans rfl⟩

/-- Without a step to resume from the recovery ends unrecoverable (20 R470). -/
theorem State.unrecoverable_ends (s : State) (n : PartId) : (s.unrecoverable n).recoveryState n = 6 ∧ (s.unrecoverable n).mem = s.mem := by
  unfold State.unrecoverable
  extract_lets u
  refine ⟨?_, ?_⟩
  · rw [State.remapOver_recoveryState]
    refine (State.notePost_objGet _ (some n) (some n) _ _ _ (by decide) (by decide) (by decide)).trans ?_
    refine (objGet_objBump_other u 1 fun e => absurd (objKey_inj (by decide) (by decide) e).2 (by decide)).trans ?_
    exact State.recoveryState_setRecovery _ n 6
  · rw [State.remapOver_mem]
    exact State.notePost_mem _ _ _ _ _

/-! ## A query, a report, a resume (20 R467–R470) -/

/-- A number that is heard touches neither the rank of a packet nor what a member reports. -/
theorem State.reportBytes_heard (s : State) (n : PartId) (number : Nat) {f : Camp → Camp} (hf : ∀ c, (f c).understudy = c.understudy) :
    ((objSet s (some n) 0x8400 3 number).modCamp n f).reportBytes n = s.reportBytes n := by
  have hobj : ∀ (q : Option PartId) {i j : Nat}, i < 65536 ∧ j < 256 → ¬(0x8400 = i ∧ 3 = j) →
      objGet ((objSet s (some n) 0x8400 3 number).modCamp n f) q i j = objGet s q i j := fun q i j h hne =>
    objGet_objSet_other s number (objKey_ne h.1 h.2 (by decide) (by decide) fun e => hne ⟨e.1.symm, e.2.symm⟩)
  have hpart : ((objSet s (some n) 0x8400 3 number).modCamp n f).parts[n] = { s.parts[n] with camp := f (s.parts[n]).camp } :=
    State.parts_modPart_same _ n _
  simp only [State.reportBytes, State.prevOk, State.block, hpart, hf, hobj (some n) (i := 0x8200) (j := 6) (by decide) (by decide),
    hobj (some n) (i := 0x8200) (j := 7) (by decide) (by decide), hobj (some n) (i := 0x8200) (j := 0xA) (by decide) (by decide),
    hobj (some n) (i := 0x8010) (j := 0xB) (by decide) (by decide)]
  rfl

/-- An ACTIVE camp (18 R426). -/
theorem State.campActive_active (s : State) (n : PartId) : objGet (s.campActive n) (some n) 0x4010 9 = 2 := by
  have hset : objGet (objSet s (some n) 0x4010 9 2) (some n) 0x4010 9 = 2 := objGet_objSet_same s (some n) 0x4010 9 2
  unfold State.campActive
  extract_lets a b
  split
  · refine (State.notePost_objGet _ _ (some n) _ _ _ (by decide) (by decide) (by decide)).trans ?_
    refine (objGet_objBump_other _ 1 fun e => absurd (objKey_inj (by decide) (by decide) e).1 (by decide)).trans ?_
    exact (objGet_objSet_other b 5 fun e => absurd (objKey_inj (by decide) (by decide) e).1 (by decide)).trans hset
  · exact hset

theorem State.packetRank_heard (s : State) (n : PartId) (number : Nat) (f : Camp → Camp) (k : Packet) :
    ((objSet s (some n) 0x8400 3 number).modCamp n f).packetRank k = s.packetRank k := by
  have h : objGet ((objSet s (some n) 0x8400 3 number).modCamp n f) none 0x7000 1 = objGet s none 0x7000 1 :=
    objGet_objSet_other s number (objKey_ne (by decide) (by decide) (by decide) (by decide) (by decide))
  simp only [State.packetRank, State.coordRank, h]

section
variable {s : State} {k : Packet} {n : PartId} (hd : s.delivery = .kv2p) (hseat : s.seatOf k.dst = s.mySeat) (hpart : s.campPart k.camp = some n)
include hd hseat hpart

theorem execPresent_of (hk : k.kind = 0x18) (hr : s.rankOf n = 0) {u : State}
    (hu : u = s.modCamp n fun c => { c with present := if c.present.contains k.src then c.present else c.present ++ [k.src] }) :
    exec (.present k) s = .next (if (u.parts[n]).camp.present.length == (u.parts[n]).camp.members && objGet s (some n) 0x4010 9 == 1
      then ((objSet u (some n) 0x7100 8 (u.parts[n]).camp.present.length).sendActive n).campActive n
      else objSet u (some n) 0x7100 8 (u.parts[n]).camp.present.length) := by
  have h : exec (.present k) s = _ := campPacket_here hd hk hseat hpart
  dsimp only at h
  have hact : objGet (objSet u (some n) 0x7100 8 (u.parts[n]).camp.present.length) (some n) 0x4010 9 = objGet s (some n) 0x4010 9 := by
    subst hu
    exact objGet_objSet_other _ _ fun e => absurd (objKey_inj (by decide) (by decide) e).1 (by decide)
  rw [if_neg (by simpa using hr), ← hu, hact] at h
  exact h

theorem execPresent_counts (hk : k.kind = 0x18) (hr : s.rankOf n = 0) (ha : objGet s (some n) 0x4010 9 ≠ 1) :
    ∃ t : State, exec (.present k) s = .next t ∧ k.src ∈ (t.parts[n]).camp.present
      ∧ objGet t (some n) 0x7100 8 = (t.parts[n]).camp.present.length ∧ t.mem = s.mem := by
  refine ⟨_, (execPresent_of hd hseat hpart hk hr rfl).trans (congrArg Host.Outcome.next (if_neg (by simp [ha]))), ?_,
    objGet_objSet_same _ (some n) 0x7100 8 _, rfl⟩
  have hcamp := s.camp_modCamp n fun c => { c with present := if c.present.contains k.src then c.present else c.present ++ [k.src] }
  refine (congrArg (fun c : Camp => k.src ∈ c.present) hcamp).mpr ?_
  dsimp only
  split
  · exact List.contains_iff_mem.1 ‹_›
  · exact List.mem_append_right _ (List.mem_singleton_self k.src)

theorem execPresent_completes (hk : k.kind = 0x18) (hr : s.rankOf n = 0) (ha : objGet s (some n) 0x4010 9 = 1)
    (hnew : k.src ∉ (s.parts[n]).camp.present) (hlast : (s.parts[n]).camp.present.length + 1 = (s.parts[n]).camp.members) :
    ∃ t : State, exec (.present k) s = .next t ∧ objGet t (some n) 0x4010 9 = 2 := by
  refine ⟨_, (execPresent_of hd hseat hpart hk hr rfl).trans (congrArg Host.Outcome.next (if_pos ?_)), State.campActive_active _ n⟩
  rw [State.camp_modCamp, ha]
  have hc : ¬(s.parts[n]).camp.present.contains k.src = true := mt List.contains_iff_mem.1 hnew
  dsimp only
  rw [if_neg hc, List.length_append, List.length_singleton, hlast]
  simp

theorem execRecoverQuery_reports (hk : k.kind = 0x26) (hno : s.recoveryNo n ≤ k.arg) (hc : (s.parts[n]).camp.coordinator = false) :
    ∃ t : State, exec (.recoverQuery k) s = .next (t.sendRank n (s.packetRank k) 0x27 k.arg (s.reportBytes n)) ∧ t.recoveryState n = 3
      ∧ t.recoveryNo n = k.arg ∧ t.mem = s.mem := by
  have h : exec (.recoverQuery k) s = _ := campPacket_here hd hk hseat hpart
  dsimp only at h
  have hears : s.hears n k.arg = some (objSet s (some n) 0x8400 3 k.arg) := if_neg (by omega)
  rw [hears] at h
  dsimp only at h
  simp only [hc, Bool.false_and, Bool.false_eq_true, if_false] at h
  rw [State.packetRank_heard, State.reportBytes_heard s n k.arg (by exact fun _ => rfl)] at h
  refine ⟨_, h, State.recoveryState_setRecovery _ n 3, ?_, rfl⟩
  rw [State.recoveryNo_setRecovery]
  exact objGet_objSet_same s (some n) 0x8400 3 k.arg

theorem execRecoverReport_kept (hk : k.kind = 0x27) (harg : k.arg = s.recoveryNo n) (hc : (s.parts[n]).camp.coordinator = true)
    (hst : s.recoveryState n = 3) (hnew : ∀ e ∈ (s.parts[n]).camp.reports, e.1 ≠ s.packetRank k)
    (hfew : (s.parts[n]).camp.reports.length + 1 < s.members n) :
    ∃ t : State, exec (.recoverReport k) s = .next t ∧ (t.parts[n]).camp.reports = (s.parts[n]).camp.reports ++ [(s.packetRank k, k.body)]
      ∧ t.mem = s.mem := by
  have h : exec (.recoverReport k) s = _ := campPacket_here hd hk hseat hpart
  have hany : (s.parts[n]).camp.reports.any (fun e => e.1 == s.packetRank k) = false := List.any_eq_false.2 fun e he => by simpa using hnew e he
  rw [if_neg (by simp [harg]), State.takeReport] at h
  dsimp only at h
  rw [if_neg (by rw [hc, hst, hany]; decide), if_neg] at h
  · refine ⟨_, h, ?_, rfl⟩
    rw [State.camp_modCamp]
  · rw [State.camp_modCamp, List.length_append, List.length_singleton]
    exact Nat.not_le.2 hfew

/-- A RESUME without remap entries. -/
theorem execResume_of (hk : k.kind = 0x28) (hno : s.recoveryNo n ≤ k.arg) (hlen : k.body.length = 4) :
    exec (.resume k) s = .next ((objSet s (some n) 0x8400 3 k.arg).resumeAt n (bodyField k 0 4)) := by
  have h : exec (.resume k) s = _ := campPacket_here hd hk hseat hpart
  have hears : s.hears n k.arg = some (objSet s (some n) 0x8400 3 k.arg) := if_neg (by omega)
  simp only [hears, hlen] at h
  exact h

theorem execResumeDone_counts (hk : k.kind = 0x29) (harg : k.arg = s.recoveryNo n) (hc : (s.parts[n]).camp.coordinator = true)
    (hst : s.recoveryState n = 4) (h0 : bodyField k 0 1 = 0) (hnew : s.packetRank k ∉ (s.parts[n]).camp.done)
    (hfew : (s.parts[n]).camp.done.length + 1 < s.members n) :
    ∃ t : State, exec (.resumeDone k) s = .next t ∧ (t.parts[n]).camp.done = (s.parts[n]).camp.done ++ [s.packetRank k] ∧ t.mem = s.mem := by
  have h : exec (.resumeDone k) s = _ := campPacket_here hd hk hseat hpart
  have hc' : ¬(s.parts[n]).camp.done.contains (s.packetRank k) = true := mt List.contains_iff_mem.1 hnew
  rw [if_neg (by simp [harg]), State.resumeAnswered] at h
  dsimp only at h
  rw [if_neg (by rw [hc, hst]; decide), if_neg (by simp [h0]), if_neg hc', if_neg] at h
  · refine ⟨_, h, ?_, rfl⟩
    rw [State.camp_modCamp]
  · rw [List.length_append, List.length_singleton]
    exact Nat.not_le.2 hfew

end

/-! ## The settle time is over (20 R466, R467) -/

/-- The coordinator takes the next recovery number. -/
def State.coordinates (s : State) (n : PartId) : State :=
  ((objSet s (some n) 0x8400 3 (s.recoveryNo n + 1)).setRecovery n 2).modCamp n fun c => { c.fresh with coordinator := true }

theorem State.coordinates_camp (s : State) (n : PartId) :
    ((s.coordinates n).parts[n]).camp = { (s.parts[n]).camp.fresh with coordinator := true } := State.camp_modCamp _ n _

theorem State.coordinates_recovery (s : State) (n : PartId) :
    (s.coordinates n).recoveryNo n = s.recoveryNo n + 1 ∧ (s.coordinates n).recoveryState n = 2 ∧ (s.coordinates n).mem = s.mem :=
  ⟨(State.recoveryNo_setRecovery _ n 2).trans (objGet_objSet_same s (some n) 0x8400 3 _), State.recoveryState_setRecovery _ n 2, rfl⟩

theorem execSettleTimeout_of {s : State} {n : PartId} (h1 : s.recoveryState n = 1) (hc : s.coordinatorRank n = some (s.rankOf n)) :
    exec (.settleTimeout n) s = match (s.coordinates n).proposals (s.parts[n]).camp.failed ((s.coordinates n).spares n) with
      | none => .next ((s.coordinates n).giveUp n)
      | some l =>
        if l == [] then .next ((s.coordinates n).seatsDecided n)
        else if (s.coordinates n).marionette none 4 then .next ((s.coordinates n).modCamp n fun c => { c with proposals := l }).postRemap
        else .next (((s.coordinates n).modCamp n fun c => { c with decided := l }).seatsDecided n) := by
  have hfailed : ((s.coordinates n).parts[n]).camp.failed = (s.parts[n]).camp.failed := by
    rw [s.coordinates_camp n]
    rfl
  simp only [exec, execSettleTimeout]
  rw [if_neg (by simp [h1, hc]), ← hfailed]
  rfl

/-! ## The rows -/

/-- Settles O53. -/
theorem recoveryRows : Obligations.RecoveryRows := by
  unfold Obligations.RecoveryRows
  refine fun s n => ⟨fun k hd hseat hpart => ⟨fun hk hr => ?_, fun hk hr ha => execPresent_counts hd hseat hpart hk hr ha,
      fun hk hr ha hnew hlast _ => execPresent_completes hd hseat hpart hk hr ha hnew hlast, fun hk h4 => ?_, fun hk hno => ?_,
      fun hk hno hc => execRecoverQuery_reports hd hseat hpart hk hno hc, fun hk hno => ?_,
      fun hk ha hc hst hnew hfew => execRecoverReport_kept hd hseat hpart hk ha hc hst hnew hfew, fun hk hno => ?_, fun hk hno hlen hstep => ?_,
      fun hk hno hlen => ?_, fun hk hno => ?_, fun hk ha hc hst => ⟨fun hbad => ?_,
        fun h0 hnew hfew => execResumeDone_counts hd hseat hpart hk ha hc hst h0 hnew hfew⟩⟩,
    fun h => ?_, fun h1 hc => ?_, fun h => ?_, fun r hc hst hmiss => ?_,
    fun coord hf hr hcamp hst hprop => State.memberFailed_settles hf hr hcamp hst⟩
  · refine (campPacket_here hd hk hseat hpart).trans (congrArg Host.Outcome.next (if_pos ?_))
    simpa using hr
  · refine ⟨_, campPacket_here hd hk hseat hpart, s.campActive_active n, ?_⟩
    simp
  · refine (campPacket_here hd hk hseat hpart).trans (congrArg Host.Outcome.next ?_)
    have hears : s.hears n k.arg = none := if_pos hno
    simp only [hears]
  · refine (campPacket_here hd hk hseat hpart).trans (congrArg Host.Outcome.next (if_pos ?_))
    simpa using hno
  · refine (campPacket_here hd hk hseat hpart).trans (congrArg Host.Outcome.next ?_)
    have hears : s.hears n k.arg = none := if_pos hno
    simp only [hears]
  · refine ⟨_, execResume_of hd hseat hpart hk hno hlen, ?_⟩
    rw [hstep]
    exact State.unrecoverable_ends _ n
  · exact ⟨_, execResume_of hd hseat hpart hk hno hlen, objGet_objSet_same s (some n) 0x8400 3 k.arg, rfl, rfl⟩
  · refine (campPacket_here hd hk hseat hpart).trans (congrArg Host.Outcome.next (if_pos ?_))
    simpa using hno
  · refine (campPacket_here hd hk hseat hpart).trans (congrArg Host.Outcome.next ?_)
    rw [if_neg (by simp [ha]), State.resumeAnswered]
    dsimp only
    rw [if_neg (by rw [hc, hst]; decide), if_pos (by simpa using hbad)]
  · refine if_pos ?_
    obtain h | h := h <;> simp [h]
  · obtain ⟨hno, hstate, hmem⟩ := s.coordinates_recovery n
    refine ⟨s.coordinates n, hno, hstate, congrArg Camp.coordinator (s.coordinates_camp n), hmem, fun hnone => ?_, fun hnil => ?_,
      fun e l hl => ⟨fun hm => ?_, fun hm => ?_⟩⟩
    · rw [execSettleTimeout_of h1 hc, hnone]
    · rw [execSettleTimeout_of h1 hc, hnil]
      rfl
    · rw [execSettleTimeout_of h1 hc, hl]
      simp [hm]
    · rw [execSettleTimeout_of h1 hc, hl]
      simp [hm]
  · refine if_pos (Bool.or_eq_true_iff.2 ?_)
    rwa [Bool.not_eq_true', bne_iff_ne]
  · have hon : ¬(!(s.parts[n]).camp.coordinator || s.recoveryState n != 3) = true := by
      rw [hc, hst]
      decide
    simp only [exec, execReportTimeout]
    rw [if_neg hon, hmiss]
    rfl

end Sys2Proof.Machine
